-- ==== Sys2Proof/Word.lean ====
section
/-! DEFINITION. Word: the word types of the EZ2016. Registers are 32 bits wide (R9); memory is addressed in bytes. -/

namespace Sys2Proof

/-- A register, instruction or lane word (R9, R155). -/
abbrev Word := BitVec 32

end Sys2Proof
end

