-- ==== Sys2Proof/Syntax.lean ====
section
/-! DEFINITION. Syntax: the commands of the EZ2016 block, one constructor of `Instr` per row of spec/opcode_table.json,
and the operand types they use. Numbers of units follow R6. -/

namespace Sys2Proof

/-- One byte. -/
abbrev Byte := BitVec 8

/-- A partition, 0 to 15 (R6). -/
abbrev PartId := Fin 16
/-- A job of a partition, 0 to 31 (R248). -/
abbrev Job := Fin 32
/-- One of the 512 in-flight slots of the device (R251). -/
abbrev Slot := Fin 512
/-- A vale, device-wide number g = 8 p + v (R6). -/
abbrev Vale := Fin 128
/-- A matrix array within a vale (R6). -/
abbrev ArrayId := Fin 4
/-- A plain (R6). -/
abbrev Plain := Fin 16
/-- A pass die (R6). -/
abbrev Pass := Fin 4
/-- A Balsor stack (R6). -/
abbrev Stack := Fin 20
/-- A link (R6). -/
abbrev Link := Fin 32
/-- An operand cache line (R166). -/
abbrev Line := Fin 1024
/-- A Switchback job slot (R366, R382). -/
abbrev TurnSlot := Fin 8

/-- A PCIe function: the physical function, or the virtual function that serves a partition (R6, R494). -/
inductive Fn where
  | pf
  | vf (n : PartId)
deriving DecidableEq, Repr

/-- Where a host register write goes (R7, R494): a function's BAR0, or its configuration space. -/
inductive Space where
  | bar (fn : Fn)
  | cfg (fn : Fn)
deriving DecidableEq, Repr

/-- A block page of the register map (R576 to R578). -/
inductive Page where
  | device
  | partcfg (n : PartId)
  | mem
  | pass (n : Pass)
  | swb (n : Pass)
  | health
  | plain (p : Plain)
  | echo (p : Plain)
  | seq (g : Vale)
  | elem (g : Vale)
  | stream (g : Vale)
  | array (g : Vale) (a : ArrayId)
  | collect (g : Vale)
  | link (k : Link)
  | floor (s : Stack)
  | fuu (s : Stack)
  | mp
  | part (n : PartId)
deriving DecidableEq, Repr

/-- A completion queue register whose write has its own row (R267, R274). -/
inductive CqReg where
  | baseLo | baseHi | size
deriving DecidableEq, Repr

/-- What the memory answers for a read (R18, R452, R453). -/
inductive MemRead where
  | clean
  | corrected
  | uncorrectable
deriving DecidableEq, Repr

/-- Whether the tile that becomes active passes its parity check (R101). -/
inductive TileParity where
  | good | bad
deriving DecidableEq, Repr

/-- The response codes of a page request group (R242). -/
inductive PrgCode where
  | success | invalidRequest | responseFailure
deriving DecidableEq, Repr

/-- The shared ports at which granules are granted (R230). -/
inductive Port where
  | stack (s : Stack)
  | d2d (p : Plain) (side : Fin 4) (outward : Bool)
  | staging (n : Pass)
  | link (k : Link)
  | pcie (toHost : Bool)
  | crossbar (g : Vale) (entering : Bool)
deriving DecidableEq, Repr

/-- The two kinds of TRAIN flit of MEASURE: a partner's flit to echo, and the echo of one of ours, with the clock
counts R308 names. -/
inductive TrainMsg where
  | probe (sent : Nat)
  | echo (sent turnaround back : Nat)
deriving DecidableEq, Repr

/-- What EXCHANGE shows of the partner (R307, R309, R310), and the partner's weights per VC, which R304 takes as known
at training. -/
structure ExchangeMsg where
  epoch : BitVec 32
  lastAck : BitVec 16
  serial : BitVec 64
  linkIndex : BitVec 5
  headwater : Bool
  weights : List Nat
deriving DecidableEq, Repr

/-- A member of a ring close: the COLLECT stage of a command, or a Switchback job slot (R335, R372). -/
inductive Member where
  | cmd (c : Slot)
  | turn (t : TurnSlot)
deriving DecidableEq, Repr

/-- How a residency LOAD ended at its source (R460, R505). -/
inductive LoadSource where
  | deviceRead (r : MemRead)
  | host (image : List Byte)
  | hostFailed
deriving DecidableEq, Repr

/-- A BAR2 access (R495). -/
inductive Bar2Op where
  | read (len : Nat)
  | write (bytes : List Byte)
deriving DecidableEq, Repr

/-- Why a region of a hold was not saved (R476): its source read, or the write of its copy, was uncorrectable. -/
inductive RegionFault where
  | source | dest
deriving DecidableEq, Repr

/-- The causes of a vale fence (R484, R485). -/
inductive ValeCause where
  | valeStore | accumulator | operandCache | array | element | selfTest
deriving DecidableEq, Repr

/-- The causes of a plain fence (R484). -/
inductive PlainCause where
  | crossbar | stackPort | d2d (side : Fin 4)
deriving DecidableEq, Repr

/-- How a host read fails (R505). -/
inductive HostFail where
  | completionTimeout | unsupportedRequest | completerAbort
deriving DecidableEq, Repr

/-- What a boot phase ends with (R514 to R519). -/
inductive BootResult where
  | rom (clockLocked : Bool)
  | flash (slotA slotB : Bool)
  | stacks (marker : List Bool) (failed : List Stack)
  | processors (badVales : List Vale) (passFailed : Bool)
  | links
deriving DecidableEq, Repr

/-- One link in a census REPORT (R521). -/
structure ReportLink where
  link : Link
  state : BitVec 4
  partnerSerial : BitVec 64
  partnerLink : BitVec 5
deriving DecidableEq, Repr

/-- A census REPORT (R521). -/
structure CensusReport where
  serial : BitVec 64
  bootStat : BitVec 32
  links : List ReportLink
deriving DecidableEq, Repr

/-- A census ASSIGN (R523); `serial` names the member it is for. -/
structure CensusAssign where
  serial : BitVec 64
  id : BitVec 13
  depth : BitVec 13
  parentLink : BitVec 5
  size : BitVec 14
deriving DecidableEq, Repr

/-- The management transports (R533). -/
inductive Transport where
  | pcie | i3c
deriving DecidableEq, Repr

/-- The offer of a PLDM UpdateComponent (R543). -/
structure Offer where
  classification : BitVec 16
  ident : BitVec 16
  stamp : BitVec 32
  version : List Byte
  imageLen : Nat
deriving DecidableEq, Repr

/-- Which die of PASS_DIE_FAILURE fails (R28). -/
inductive PassFail where
  | pass (n : Pass) | mp
deriving DecidableEq, Repr

/-- The R format of an element instruction (R191): everything but the opcode, which the mnemonic gives. -/
structure RFmt where
  pred : BitVec 3
  pneg : Bool
  d : BitVec 4
  a : BitVec 4
  b : BitVec 4
  c : BitVec 4
  mod : BitVec 6
deriving DecidableEq, Repr

/-- The I format (R191). -/
structure IFmt where
  pred : BitVec 3
  pneg : Bool
  d : BitVec 4
  h : BitVec 2
  imm : BitVec 16
deriving DecidableEq, Repr

/-- The M format (R191). -/
structure MFmt where
  pred : BitVec 3
  pneg : Bool
  reg : BitVec 4
  idx : BitVec 2
  resv : BitVec 6
  line : BitVec 10
deriving DecidableEq, Repr

/-- The L format (R191). -/
structure LFmt where
  pred : BitVec 3
  pneg : Bool
  resv : BitVec 4
  body : BitVec 6
  count : BitVec 12
deriving DecidableEq, Repr

/-- The commands of the block: one constructor per row of spec/opcode_table.json, in the table's order. -/
inductive Instr where
  /-- REGISTER_WRITE (R7): A host write to a register that has no row of its own stores its fields by their access codes; reserved values and wrong widths are discarded. -/
  | registerWrite (sp : Space) (ofs : Nat) (width : Nat) (v : BitVec 64)
  /-- RC_FIELD_READ (R7): A read of an RC field returns its value and clears it. -/
  | rcFieldRead (fn : Fn) (ofs : Nat)
  /-- LOW_WORD_READ (R10): A read of the low word of a 64-bit pair latches the upper word, or BEAT_NUM_HI and SUB_BEAT, into a per-function shadow. -/
  | lowWordRead (fn : Fn) (ofs : Nat)
  /-- CG_TEST_OUT_READ (R93): A read of CG_TEST_OUT computes the counter generator output for the current test key and counter. -/
  | cgTestOutRead
  /-- IRQ_STAT_WRITE (R500): A W1C write to an IRQ_STAT clears bits and resends the vector's MSI-X message if enabled events remain. -/
  | irqStatWrite (pg : Page) (v : BitVec 32)
  /-- IRQ_FORCE_WRITE (R583): A write to IRQ_FORCE sets the matching IRQ_STAT bits as a hardware event would, with no other effect. -/
  | irqForceWrite (pg : Page) (v : BitVec 32)
  /-- SOFT_RESET (R584): BLK_CTL.SOFT_RST starts a soft reset of a page, unless the guard conditions discard it. -/
  | softReset (pg : Page)
  /-- SOFT_RESET_END (R584): A soft reset finishes within 1,024 clocks and clears RESETTING. -/
  | softResetEnd (pg : Page)
  /-- HOST_FENCE (R586): A write of BLK_CTL.FENCE fences a vale or a plain with cause HOST. -/
  | hostFence (pg : Page)
  /-- BEAT_CROSSING (R34): A crossing on BEAT_P/N is measured, accepted or rejected according to the beat state. -/
  | beatCrossing (falling : Bool) (gap : Nat)
  /-- BEAT_EDGE (R37): An internal beat edge increments BEAT_NUM and resets SUB_BEAT in every local copy. -/
  | beatEdge (late : Bool)
  /-- BEAT_LOSS (R46): No crossing is accepted 2 clocks after the prediction, so the first flywheel edge is generated and FLYWHEEL entered. -/
  | beatLoss
  /-- FLYWHEEL_EDGE (R46): A flywheel edge is generated at each interval of P_lock while the beat is lost. -/
  | flywheelEdge
  /-- FLYWHEEL_EXPIRY (R47): At flywheel edge 1,025 the part enters EXPIRED and clears METERED_VALID. -/
  | flywheelExpiry
  /-- RELOCK (R50): BEAT_CTL.RELOCK starts a new lock measurement and enters LOCKING. -/
  | relock
  /-- REARM (R51): BEAT_CTL.REARM, accepted in LOCKED, sets METERED_VALID and rechecks undispatched metered commands. -/
  | rearm
  /-- BEAT_EN_WRITE (R54): A change of BEAT_CTL.BEAT_EN acts as a loss, ends a measurement or resumes crossing examination, depending on state. -/
  | beatEnWrite (en : Bool)
  /-- BEAT_MESSAGE_SEND (R42): Every 256 beats each link sends a BEAT flit carrying its beat number and sub-beat. -/
  | beatMessageSend (k : Link)
  /-- BEAT_MESSAGE (R524): A received BEAT flit is compared with the local count or adopted from the census parent link. -/
  | beatMessage (k : Link)
  /-- SQ_DOORBELL (R248): A write to SQ_TAIL announces new descriptors in a job's submit queue. -/
  | sqDoorbell (n : PartId) (j : Job) (tail : BitVec 32)
  /-- DESCRIPTOR_TAKE (R249): When an in-flight slot and a completion slot are free, the part reads a descriptor and its stage record and advances SQ_HEAD. -/
  | descriptorTake (n : PartId) (j : Job) (c : Slot) (host : List Byte)
  /-- SCHEDULED_DISPATCH (R43): An admitted metered command is dispatched at its scheduled beat and offset. -/
  | scheduledDispatch (c : Slot)
  /-- OPEN_DISPATCH (R252): An open command dispatches once its start beat, tokens, slice and engines allow. -/
  | openDispatch (c : Slot)
  /-- EARLY_FETCH (R225): The fetch engine starts the FETCH stage of a qualifying later command before its dispatch. -/
  | earlyFetch (c : Slot)
  /-- MATRIX_STAGE_START (R223): A MATRIX stage starts once its first tile is in the shadow cells and latches its scales. -/
  | matrixStageStart (c : Slot)
  /-- SEED_PASS_END (R139): At the end of a seed pass the floor die writes the first history entry and computes SCALE. -/
  | seedPassEnd (c : Slot) (tag : BitVec 24) (fmt : BitVec 4)
  /-- TILE_SWAP (R97): A complete shadow tile becomes active after the last row of the current tile. -/
  | tileSwap (c : Slot) (parity : TileParity)
  /-- BANK_ROW_RELEASE (R109): A bank row is released after the last tile of its group has been added. -/
  | bankRowRelease (c : Slot) (corrected : List ArrayId)
  /-- ELEMENT_STAGE_START (R157): An ELEMENT stage dispatches, clears lane state, loads program blocks and zeroes lines before its first instruction. -/
  | elementStageStart (c : Slot) (inWidth : List Nat)
  /-- ELEMENT_BLOCK_START (R164): A block whose input is available starts: p7 is set from the mask and the program runs once. -/
  | elementBlockStart (g : Vale) (issues corrected : Nat)
  /-- COLLECT_STAGE_START (R321): A COLLECT stage starts retaining its input once its first piece is in its queue. -/
  | collectStageStart (c : Slot)
  /-- LAP_START (R323): The first lap of a collective starts once the last input element has been retained. -/
  | lapStart (c : Slot)
  /-- STORE_STAGE_START (R223): A STORE stage starts once its first element is in its queue. -/
  | storeStageStart (c : Slot)
  /-- COMMAND_COMPLETE (R224): When the last stage ends, the command applies its step close, signals its tokens and writes its completion record. -/
  | commandComplete (c : Slot)
  /-- CQ_HEAD_WRITE (R270): A write to CQ_HEAD releases completion slots and ends an outstanding message. -/
  | cqHeadWrite (n : PartId) (v : BitVec 32)
  /-- CQ_CONFIG_WRITE (R267): A write to CQ_BASE or CQ_SIZE that takes effect resets CQ_TAIL, CQ_HEAD and the pass count. -/
  | cqConfigWrite (n : PartId) (r : CqReg) (v : BitVec 32)
  /-- JOB_RESUME (R271): JOB_CTL.RESUME clears a job's halt. -/
  | jobResume (n : PartId) (j : Job)
  /-- JOB_CANCEL (R272): JOB_CTL.CANCEL completes the job's undispatched commands with CANCELLED. -/
  | jobCancel (n : PartId) (j : Job)
  /-- NOP (R194): Does nothing and occupies one issue slot. -/
  | nopE (g : Vale) (i : RFmt)
  /-- FADD (R195): Adds two FP32 values with one rounding. -/
  | fadd (g : Vale) (i : RFmt)
  /-- FSUB (R195): Subtracts two FP32 values with one rounding. -/
  | fsub (g : Vale) (i : RFmt)
  /-- FMUL (R195): Multiplies two FP32 values with one rounding. -/
  | fmul (g : Vale) (i : RFmt)
  /-- FFMA (R195): Computes a × b + c with one rounding. -/
  | ffma (g : Vale) (i : RFmt)
  /-- FMIN (R196): Writes the FP32 minimum, with NaN and signed-zero rules. -/
  | fmin (g : Vale) (i : RFmt)
  /-- FMAX (R196): Writes the FP32 maximum, with NaN and signed-zero rules. -/
  | fmax (g : Vale) (i : RFmt)
  /-- FABS (R196): Clears the sign bit. -/
  | fabs (g : Vale) (i : RFmt)
  /-- FNEG (R196): Inverts the sign bit. -/
  | fneg (g : Vale) (i : RFmt)
  /-- FDIV (R197): Divides with one rounding and the special cases of R197. -/
  | fdiv (g : Vale) (i : RFmt)
  /-- FSQRT (R197): Takes the square root with one rounding. -/
  | fsqrt (g : Vale) (i : RFmt)
  /-- FRSQ (R197): Takes the reciprocal square root with one rounding. -/
  | frsq (g : Vale) (i : RFmt)
  /-- FCMP (R200): Compares FP32 values and writes a predicate. -/
  | fcmp (g : Vale) (i : RFmt)
  /-- TFN (R204): Evaluates a built-in table function. -/
  | tfn (g : Vale) (i : RFmt)
  /-- IADD (R198): Adds INT32 values with saturation. -/
  | iadd (g : Vale) (i : RFmt)
  /-- ISUB (R198): Subtracts INT32 values with saturation. -/
  | isub (g : Vale) (i : RFmt)
  /-- IMUL (R198): Multiplies INT32 values with saturation. -/
  | imul (g : Vale) (i : RFmt)
  /-- IMIN (R198): Writes the signed or unsigned integer minimum. -/
  | imin (g : Vale) (i : RFmt)
  /-- IMAX (R198): Writes the signed or unsigned integer maximum. -/
  | imax (g : Vale) (i : RFmt)
  /-- IABS (R198): Writes the saturated integer absolute value. -/
  | iabs (g : Vale) (i : RFmt)
  /-- ICMP (R200): Compares integers and writes a predicate. -/
  | icmp (g : Vale) (i : RFmt)
  /-- AND (R199): Bitwise and. -/
  | andE (g : Vale) (i : RFmt)
  /-- OR (R199): Bitwise or. -/
  | orE (g : Vale) (i : RFmt)
  /-- XOR (R199): Bitwise exclusive or. -/
  | xorE (g : Vale) (i : RFmt)
  /-- SHL (R199): Shifts left with zero fill. -/
  | shl (g : Vale) (i : RFmt)
  /-- SHR (R199): Shifts right, logical or arithmetic. -/
  | shr (g : Vale) (i : RFmt)
  /-- SEL (R199): Selects a or b by a predicate. -/
  | sel (g : Vale) (i : RFmt)
  /-- MOV (R199): Copies a register. -/
  | mov (g : Vale) (i : RFmt)
  /-- LDI (R199): Loads an immediate as H directs. -/
  | ldi (g : Vale) (i : IFmt)
  /-- CVT (R202): Converts between formats. -/
  | cvt (g : Vale) (i : RFmt)
  /-- QNT (R203): Quantises under a slot's tag, folds STEP_AMAX and counts saturations. -/
  | qnt (g : Vale) (i : RFmt)
  /-- OCL (R205): Reads an operand cache line into lanes. -/
  | ocl (g : Vale) (i : MFmt)
  /-- OCS (R205): Writes lanes to an operand cache line. -/
  | ocs (g : Vale) (i : MFmt)
  /-- OCG (R206): Gathers from per-lane operand cache addresses. -/
  | ocg (g : Vale) (i : RFmt)
  /-- OCT (R206): Scatters to per-lane operand cache addresses. -/
  | oct (g : Vale) (i : RFmt)
  /-- RED (R207): Reduces or scans over a row group. -/
  | red (g : Vale) (i : RFmt)
  /-- PACK (R210): Compresses predicated lanes and records the mapping. -/
  | pack (g : Vale) (i : RFmt)
  /-- UNPK (R210): Expands through the recorded mapping, optionally ending the compress. -/
  | unpk (g : Vale) (i : RFmt)
  /-- RNG (R211): Draws from the counter generator in a domain. -/
  | rng (g : Vale) (i : RFmt)
  /-- EPI (R213): Reads the lane's epilogue word. -/
  | epi (g : Vale) (i : RFmt)
  /-- QRD (R214): Reads an inbound queue, positional or scalar. -/
  | qrd (g : Vale) (i : RFmt)
  /-- QWR (R215): Writes to a positional outbound queue. -/
  | qwr (g : Vale) (i : RFmt)
  /-- QWC (R216): Appends to an appending outbound queue with optional indices and counts. -/
  | qwc (g : Vale) (i : RFmt)
  /-- LOOP (R209): Repeats the following body COUNT times. -/
  | loopE (g : Vale) (i : LFmt)
  /-- MOVS (R217): Writes a lane property. -/
  | movs (g : Vale) (i : RFmt)
  /-- PSET (R201): Sets a predicate from a block property. -/
  | pset (g : Vale) (i : RFmt)
  /-- PLOG (R201): Combines predicates. -/
  | plog (g : Vale) (i : RFmt)
  /-- FCLR (R218): Clears selected lane flags. -/
  | fclr (g : Vale) (i : RFmt)
  /-- SUB_BLOCK_LANDS (R240): A transfer sub-block's read returns and is delivered in cursor order. -/
  | subBlockLands (c : Slot) (x : Nat) (r : MemRead) (host : List Byte)
  /-- LINE_FILL_LANDED (R168): The last byte of a FILL lands and the line returns to READY. -/
  | lineFillLanded (g : Vale) (line : Line)
  /-- LINE_DRAIN_DONE (R168): The drain read of a line finishes and the line returns to READY. -/
  | lineDrainDone (g : Vale) (line : Line)
  /-- CIRCULAR_WAIT_SPILL (R238): After 64 beats of an empty pool and all holders in buffer wait, the detector picks a victim. -/
  | circularWaitSpill (g : Vale)
  /-- TRANSLATION_FAULT (R241): A transfer meets a translation fault and stops at its sub-block. -/
  | translationFault (c : Slot) (x : Nat)
  /-- PRG_RESPONSE (R242): A PRG response resumes the stopped transfer or ends it. -/
  | prgResponse (n : PartId) (prg : Nat) (code : PrgCode)
  /-- FAULT_RESUME (R451): A write naming a resumable record resumes its transfer. -/
  | faultResume (n : PartId) (rec : Nat)
  /-- FAULT_END (R451): A write of 0x8000_0000 plus an index ends that record's transfer as Invalid Request. -/
  | faultEnd (n : PartId) (rec : Nat)
  /-- GRANULE_GRANT (R231): A shared port grants one granule by tier, run-dry time and stream number. -/
  | granuleGrant (port : Port)
  /-- PM_FLUSH (R189): ELEM_CTL.PM_FLUSH marks every program block non-resident at the next command boundary. -/
  | pmFlush (g : Vale)
  /-- ARR_CNT_CLR (R121): ARR_CTL.CNT_CLR clears ROW_SLOTS and LOAD_WAIT. -/
  | arrCntClr (g : Vale) (a : ArrayId)
  /-- ELEM_CNT_CLR (R189): ELEM_CTL.CNT_CLR clears BLOCKS, ISSUE and WAIT. -/
  | elemCntClr (g : Vale)
  /-- STRM_CNT_CLR (R246): STRM_CTL.CNT_CLR clears SPILL_BYTES and FAULT_WAIT. -/
  | strmCntClr (g : Vale)
  /-- SEQ_CNT_CLR (R594): SEQ_CTL.CNT_CLR clears DISPATCH. -/
  | seqCntClr (g : Vale)
  /-- SAT_WATCH_TAG_WRITE (R117): A write to SAT_WATCH_TAGn clears SAT_WATCH_CNTn. -/
  | satWatchTagWrite (g : Vale) (a : ArrayId) (i : Fin 4) (v : BitVec 32)
  /-- ECHO_RECOMPUTE (R147): The echo unit recomputes a captured tile in FP32 and compares it. -/
  | echoRecompute (p : Plain)
  /-- CREATE (R279): PCFG_CMD CREATE checks and creates a partition. -/
  | create (n : PartId)
  /-- DESTROY (R282): PCFG_CMD DESTROY enters DESTROYING and cancels undispatched commands. -/
  | destroy (n : PartId)
  /-- DESTROY_DRAINED (R282): Once the dispatched commands complete, the partition's vales are zeroed and released and it enters FREE. -/
  | destroyDrained (n : PartId)
  /-- ADD_VALE (R284): PCFG_CMD ADD_VALE assigns one vale to an active partition. -/
  | addVale (n : PartId) (g : Vale)
  /-- RELEASE_VALE (R284): PCFG_CMD RELEASE_VALE zeroes and releases one owned vale. -/
  | releaseVale (n : PartId) (g : Vale)
  /-- BT_LOAD (R287): PCFG_CMD BT_LOAD reads and checks a new beat table. -/
  | btLoad (n : PartId)
  /-- PCFG_OP_END (R278): A partition operation ends: ERR is written, BUSY cleared and CMD_DONE set. -/
  | pcfgOpEnd (n : PartId)
  /-- BEAT_TABLE_ANCHOR (R286): A loaded beat table starts to govern at its ANCHOR beat. -/
  | beatTableAnchor (n : PartId)
  /-- ADMISSION_RECHECK (R290): After a fence, undispatched metered commands are rechecked under FENCE_POLICY. -/
  | admissionRecheck (n : PartId)
  /-- VALE_SCAN (R291): BG_REQ test VALE_SCAN is evaluated and placed. -/
  | valeScan (target : Fin 128)
  /-- ECHO_CHECK (R291): BG_REQ test ECHO_CHECK is evaluated and placed. -/
  | echoCheck (target : Fin 128)
  /-- ARRAY_PATTERN (R291): BG_REQ test ARRAY_PATTERN is evaluated and placed. -/
  | arrayPattern (target : Fin 128)
  /-- STORE_PATTERN (R291): BG_REQ test STORE_PATTERN is evaluated and placed. -/
  | storePattern (target : Fin 128)
  /-- LINK_MARGIN (R291): BG_REQ test LINK_MARGIN is evaluated and placed. -/
  | linkMargin (target : Fin 128)
  /-- LINK_RETRAIN (R291): BG_REQ test LINK_RETRAIN is evaluated and placed. -/
  | linkRetrain (target : Fin 128)
  /-- BG_TEST_START (R292): An accepted background test, or one of its pieces, starts at its placed beat. -/
  | bgTestStart (ticket : Fin 16)
  /-- BG_TEST_END (R294): A background test ends, updates BG_DONE and fences on failure. -/
  | bgTestEnd (ticket : Fin 16) (failed : Bool)
  /-- FLIT_RECEIVE (R300): A received flit is CRC-checked, sequence-checked and its ACK, NAK and credits taken. -/
  | flitReceive (k : Link) (flit : List Byte)
  /-- REPLAY_TIMEOUT (R301): An ACK that has not advanced for 2,048 flit times starts a replay. -/
  | replayTimeout (k : Link)
  /-- LINK_SIGNAL_DETECT (R307): Signal detected on all lanes moves the link from DETECT to EQUALISE. -/
  | linkSignalDetect (k : Link)
  /-- LINK_EQUALISED (R307): Equaliser adaptation completes and the link enters ALIGN. -/
  | linkEqualised (k : Link)
  /-- CODEWORD_LOCK (R307): 64 clean codewords declare lock and the link enters MEASURE. -/
  | codewordLock (k : Link)
  /-- TRAIN_MESSAGE (R308): A TRAIN flit is echoed or used to compute λ. -/
  | trainMessage (k : Link) (m : TrainMsg)
  /-- LINK_MEASURED (R308): MEASURE ends with λ recorded and the link enters EXCHANGE. -/
  | linkMeasured (k : Link)
  /-- LINK_EXCHANGE_DONE (R310): EXCHANGE completes; a new partner epoch fails its users, and the link enters UP and replays. -/
  | linkExchangeDone (k : Link) (m : ExchangeMsg)
  /-- LINK_TRAIN_TIMEOUT (R307): A training state misses its bound and the link returns to DETECT or fails. -/
  | linkTrainTimeout (k : Link)
  /-- LINK_EN_WRITE (R316): A write of LINK_CTL.EN takes the link DOWN or starts training. -/
  | linkEnWrite (k : Link) (en : Bool)
  /-- MGMT_MESSAGE (R298): A MGMT flit between management processors is received. -/
  | mgmtMessage (k : Link)
  /-- RING_PIECE (R331): A ring DATA message is checked against the holding stage, then accepted, held or discarded. -/
  | ringPiece (k : Link) (n : PartId) (r : MemRead)
  /-- ARRIVE (R343): When every output write of an attempt is visible, ARRIVE_TOKEN steps and the verdict is ready. -/
  | arrive (c : Slot)
  /-- CLOSE_GATHER (R336): A GATHER close message is ANDed with the local verdict and forwarded, or decided at position 0. -/
  | closeGather (k : Link)
  /-- CLOSE_OUTCOME (R337): An OUTCOME close message is acted on and forwarded. -/
  | closeOutcome (k : Link)
  /-- CLOSE_TIMEOUT (R336): No GATHER returns within CLOSE_TIMEOUT, so position 0 decides FAULT. -/
  | closeTimeout (m : Member)
  /-- OUTCOME_TIMEOUT (R338): No OUTCOME within CLOSE_TIMEOUT puts the member IN_DOUBT. -/
  | outcomeTimeout (m : Member)
  /-- LAP_TIMEOUT (R334): A lap without progress for LAP_TIMEOUT beats makes the verdict unclean. -/
  | lapTimeout (m : Member)
  /-- RETRY_START (R340): At RETRY_BEAT every member starts the next attempt from its retained input. -/
  | retryStart (m : Member)
  /-- COLL_RESOLVE_CLEAN (R344): COLL_RESOLVE CLEAN ends an IN_DOUBT stage as a clean outcome. -/
  | collResolveClean (g : Vale)
  /-- COLL_RESOLVE_ABORT (R344): COLL_RESOLVE ABORT ends an IN_DOUBT or FAILED stage without stepping CLOSE_TOKEN. -/
  | collResolveAbort (g : Vale)
  /-- VQ_DOORBELL (R357): A write to VQ_TAIL announces version operations. -/
  | vqDoorbell (n : PartId) (tail : BitVec 32)
  /-- BIND (R358): Binds a job to a version of a set. -/
  | bind (n : PartId)
  /-- UNBIND (R358): Removes a job's binding and releases its reference. -/
  | unbind (n : PartId)
  /-- PIN (R358): Pins a request id to a version. -/
  | pin (n : PartId)
  /-- UNPIN (R358): Releases a pin; a version reaching REFS 0 becomes FREE. -/
  | unpin (n : PartId)
  /-- INSTALL (R358): Makes a FREE record CURRENT with a given base and layout. -/
  | install (n : PartId)
  /-- LEDGER_APPEND (R378): Checks and appends records to the set's token ledger. -/
  | ledgerAppend (n : PartId)
  /-- TURN (R366): Starts a Switchback job for a turn. -/
  | turn (n : PartId)
  /-- VQ_RESUME (R359): VQ_CTL.RESUME clears a halted version queue. -/
  | vqResume (n : PartId)
  /-- TURN_JOB_START (R367): When a job slot is free, the turn's checks run and a LANDING version is created. -/
  | turnJobStart (n : PartId)
  /-- SWITCHBACK_BLOCK (R369): A linked block message is digest-checked and landed, forwarded or discarded. -/
  | switchbackBlock (k : Link) (n : PartId) (r : MemRead)
  /-- LOCAL_BLOCK_LANDED (R368): A block moved within the device lands at its destination. -/
  | localBlockLanded (t : TurnSlot) (tensor bi bj : Nat) (r : MemRead)
  /-- TURN_BUDGET_EXPIRY (R376): A turn not published by START + BUDGET is reported over budget. -/
  | turnBudgetExpiry (t : TurnSlot)
  /-- TURN_RESOLVE_CLEAN (R382): TURN_RESOLVE CLEAN resolves an in-doubt turn as clean. -/
  | turnResolveClean (t : TurnSlot)
  /-- TURN_RESOLVE_ABORT (R375): TURN_RESOLVE ABORT abandons the turn. -/
  | turnResolveAbort (t : TurnSlot)
  /-- UQ_DOORBELL (R391): A write to UQ_TAIL announces optimiser operations. -/
  | uqDoorbell (n : PartId) (tail : BitVec 32)
  /-- STEP (R395): An optimiser STEP clips and updates the segments in the FUUs. -/
  | fuuStep (n : PartId) (ue : List Nat)
  /-- SET_STEP (R392): Writes an optimiser step counter. -/
  | setStep (n : PartId)
  /-- STEP_END (R397): A STEP ends, writes its status and step counter and signals on OK. -/
  | stepEnd (n : PartId)
  /-- UQ_RESUME (R397): UQ_CTL.RESUME clears a halted update queue. -/
  | uqResume (n : PartId)
  /-- RQ_DOORBELL (R409): A write to RQ_TAIL announces request operations. -/
  | rqDoorbell (n : PartId) (tail : BitVec 32)
  /-- OPEN (R410): Makes a FREE request record WAITING, with adapter, pin and prefix lookup. -/
  | reqOpen (n : PartId)
  /-- GROW (R415): Reserves KV pages for further positions. -/
  | grow (n : PartId)
  /-- COMMIT (R417): Applies a batch step's entries to request records. -/
  | commit (n : PartId)
  /-- RETIRE (R430): Optionally saves a prefix, frees pages and references, and sets the record FREE. -/
  | retire (n : PartId)
  /-- PREFIX_DROP (R410): Removes an unreferenced prefix entry. -/
  | prefixDrop (n : PartId)
  /-- RECOUNT (R419): Takes a rebuilt count table into use and clears COUNT_LOST. -/
  | recount (n : PartId)
  /-- ADAPTER_COPY_LANDED (R433): An OPEN's adapter copy lands and the OPEN ends. -/
  | adapterCopyLanded (n : PartId)
  /-- PREFIX_SAVE_LANDED (R430): A RETIRE's prefix save copy lands and the RETIRE ends. -/
  | prefixSaveLanded (n : PartId)
  /-- RC_EVALUATE (R425): Every 4,096 beats the ratio controller decides whether to move a vale. -/
  | rcEvaluate (n : PartId)
  /-- RC_MOVE_APPLY (R426): A pending move applies at a BOUNDARY_TOKEN increment once the losing job has left the vale. -/
  | rcMoveApply (n : PartId)
  /-- RC_ENABLE (R424): RC_CTL.EN going to 1 sets the prefill and decode sets. -/
  | rcEnable (n : PartId)
  /-- GRANT_WRITE (R443): Makes a partition writer and reader of a run of pages. -/
  | grantWrite (n : PartId) (count : BitVec 16)
  /-- GRANT_READ (R443): Makes a partition a reader of a run of pages. -/
  | grantRead (n : PartId) (count : BitVec 16)
  /-- WITHDRAW (R443): Starts withdrawing a partition's grants on a run of pages. -/
  | withdraw (n : PartId) (count : BitVec 16)
  /-- WITHDRAW_END (R444): A withdrawal ends once translated accesses to the pages have completed. -/
  | withdrawEnd
  /-- TLB_INV (R448): TLB_INV_HI.GO starts an invalidation of cached translations. -/
  | tlbInv (n : PartId) (hi : BitVec 32)
  /-- TLB_INV_END (R448): The invalidation ends once accesses through old entries have completed. -/
  | tlbInvEnd (n : PartId)
  /-- FQ_NEXT_READ (R450): A read of FQ_NEXT returns the oldest unreturned fault record. -/
  | fqNextRead (n : PartId)
  /-- SCRUB_STEP (R454): The patrol scrub reads the next block, correcting or recording it. -/
  | scrubStep (st : Stack) (r : MemRead)
  /-- TARGETED_REFRESH (R455): A row activated more than ACT_LIMIT times gets its neighbours refreshed. -/
  | targetedRefresh (st : Stack) (activations : Nat)
  /-- LOAD (R459): RES_CMD LOAD starts loading a model shard into the residency pool. -/
  | load (n : PartId) (entry : Fin 1024) (signal : Fin 4096)
  /-- EVICT (R461): RES_CMD EVICT frees a resident shard's pages. -/
  | evict (n : PartId) (entry : Fin 1024) (signal : Fin 4096)
  /-- HOLD (R458): RES_CMD HOLD adds a reference to a resident shard. -/
  | resHold (n : PartId) (entry : Fin 1024) (signal : Fin 4096)
  /-- RELEASE (R458): RES_CMD RELEASE removes a reference from a shard. -/
  | resRelease (n : PartId) (entry : Fin 1024) (signal : Fin 4096)
  /-- LOAD_END (R460): A LOAD ends, after its digest checks, with RESIDENT set or a failure status. -/
  | loadEnd (n : PartId) (src : LoadSource)
  /-- BAR2_ACCESS (R495): A PF BAR2 access reads or writes device memory at AP_BASE plus the offset. -/
  | bar2Access (ofs : Nat) (a : Bar2Op)
  /-- HM_UPDATE (R468): Every 256 beats the health monitor updates its accumulators and the risk. -/
  | hmUpdate
  /-- HM_CLEAR (R469): HM_CTL.CLEAR resets the accumulators and prior at the next update. -/
  | hmClear
  /-- TERRACE_NOW (R471): TERRACE_CTL.NOW requests a hold at the next beat edge. -/
  | terraceNow
  /-- TERRACE_HOLD_START (R473): A hold stops issue and every engine and starts copying state into the terrace. -/
  | terraceHoldStart
  /-- TERRACE_HOLD_END (R473): Once every region is written the terrace becomes VALID and engines resume. -/
  | terraceHoldEnd (bad : List (Nat × RegionFault))
  /-- TERRACE_PUSH_END (R479): The push of REFERENCE regions to the host completes. -/
  | terracePushEnd
  /-- TERRACE_INVALIDATE (R490): TERRACE_CTL.INVALIDATE sets the terrace header EMPTY. -/
  | terraceInvalidate
  /-- RESTORE (R483): TERRACE_CTL.RESTORE starts restoring partitions from the terrace. -/
  | restore
  /-- RESTORE_END (R483): The restore ends and RESTORE_STAT is written. -/
  | restoreEnd
  /-- DIGEST_GO (R482): DG_CTL.GO requests a TD-128 digest of a region at DG_BEAT. -/
  | digestGo (n : PartId) (signal : Fin 4096)
  /-- DIGEST_START (R482): The digest engine starts at the edge of DG_BEAT. -/
  | digestStart (n : PartId)
  /-- DIGEST_END (R482): The digest result is written and its signal stepped. -/
  | digestEnd (n : PartId) (r : MemRead)
  /-- VALE_FENCE (R485): An uncorrectable vale error or failed self-test fences the vale. -/
  | valeFence (g : Vale) (cause : ValeCause)
  /-- PLAIN_FENCE (R484): A crossbar, stack port or die-to-die failure fences all vales of a plain and fails its stack. -/
  | plainFence (p : Plain) (cause : PlainCause)
  /-- COMMAND_REISSUE (R486): Within 64 beats of a fence, the fenced vale's commands are reissued or ABANDONED. -/
  | commandReissue (c : Slot)
  /-- VF_FLR (R497): An FLR of a VF destroys its partition and ends its host transfers. -/
  | vfFlr (n : PartId)
  /-- PF_FLR (R498): An FLR of the PF resets the host interface. -/
  | pfFlr
  /-- HOT_RESET (R498): A Hot Reset resets the host interface. -/
  | hotReset
  /-- PCIE_LINK_DOWN (R498): A host link-down event resets the host interface. -/
  | pcieLinkDown
  /-- PERST (R512): PERST_N acts on the endpoint as a link-down event. -/
  | perst
  /-- ATS_INVALIDATION (R503): An ATS Invalidation Request stops use of matching entries and is later completed. -/
  | atsInvalidation (fn : Fn) (pasid : Nat) (page : Nat) (pages : Nat)
  /-- MSIX_UNMASK (R500): Unmasking a vector with its PBA bit set sends the pending message. -/
  | msixUnmask (fn : Fn) (vector : Nat)
  /-- HOST_READ_FAILURE (R505): A host read failing with Completion Timeout, UR or CA delivers zeros and ends its transfer. -/
  | hostReadFailure (c : Slot) (x : Nat) (why : HostFail)
  /-- RESET_ASSERT (R510): RESET_N going low for 1 µs or longer stops every block. -/
  | resetAssert (ns : Nat)
  /-- RESET_RELEASE (R511): The release of RESET_N samples the straps and starts local boot. -/
  | resetRelease (headwater : Bool)
  /-- BOOT_PHASE_DONE (R514): A boot phase completes and the next begins. -/
  | bootPhaseDone (r : BootResult)
  /-- CENSUS_AUTO_START (R521): The headwater starts a census 3,500 ms after release or at READY. -/
  | censusAutoStart
  /-- CENSUS_START (R527): CENSUS_CTL.START at the headwater starts a new census. -/
  | censusStart
  /-- CENSUS_CALL (R521): A CALL message sets the gather link and is forwarded. -/
  | censusCall (k : Link) (num : BitVec 32) (head : BitVec 64)
  /-- CENSUS_REPORT (R521): A REPORT message is forwarded toward or accepted by the headwater. -/
  | censusReport (k : Link) (num : BitVec 32) (r : CensusReport)
  /-- GATHER_CLOSE (R522): The gather closes at the expected count or window expiry. -/
  | gatherClose
  /-- CENSUS_ASSIGN (R523): An ASSIGN message sets a member's ID, depth and parent link. -/
  | censusAssign (k : Link) (num : BitVec 32) (a : CensusAssign)
  /-- CENSUS_LEFT_OUT (R529): A LEFT_OUT message marks a device as left out. -/
  | censusLeftOut (k : Link) (num : BitVec 32)
  /-- CENSUS_READY (R521): A READY message is gathered at or distributed from the headwater. -/
  | censusReady (k : Link) (num : BitVec 32) (down : Bool) (serial : BitVec 64)
  /-- POWER_LOSS (R566): The input leaves its operating range; behaviour is unspecified and any hold under way is lost. -/
  | powerLoss
  /-- THERMAL_TRIP (R572): A trip comparator fires and the part stops, powers down and latches the trip. -/
  | thermalTrip (die : Fin 20) (reading : Nat)
  /-- SENSOR_SAMPLE (R536): Every millisecond the MP samples all sensors. -/
  | sensorSample (readings : List (BitVec 24))
  /-- PLDM_EVENT_WINDOW (R537): The 100 ms event window ends and a PlatformEventMessage reports the sensor's state. -/
  | pldmEventWindow (sensor : Nat)
  /-- SET_ENDPOINT_ID (R534): The bus owner assigns the endpoint's EID. -/
  | setEndpointId (t : Transport) (eid : Byte)
  /-- MCTP_CONTROL (R534): Another MCTP control message is answered. -/
  | mctpControl (t : Transport) (code : Byte)
  /-- GET_PDR (R537): PLDM GetPDR returns a PDR. -/
  | getPdr (t : Transport) (handle : Nat)
  /-- GET_PDR_REPOSITORY_INFO (R537): PLDM GetPDRRepositoryInfo returns repository information. -/
  | getPdrRepositoryInfo (t : Transport)
  /-- GET_SENSOR_READING (R537): PLDM GetSensorReading returns a reading. -/
  | getSensorReading (t : Transport) (sensor : Nat)
  /-- GET_SENSOR_THRESHOLDS (R537): PLDM GetSensorThresholds returns thresholds. -/
  | getSensorThresholds (t : Transport) (sensor : Nat)
  /-- SET_SENSOR_THRESHOLDS (R537): PLDM SetSensorThresholds stores thresholds as settings. -/
  | setSensorThresholds (t : Transport) (sensor : Nat) (warn crit : BitVec 32)
  /-- SET_EVENT_RECEIVER (R537): PLDM SetEventReceiver names the event receiver. -/
  | setEventReceiver (t : Transport) (eid : Byte)
  /-- GET_TID (R537): PLDM GetTID returns the terminus id. -/
  | getTid (t : Transport)
  /-- REQUEST_UPDATE (R542): PLDM RequestUpdate enters update mode or is refused. -/
  | requestUpdate (t : Transport) (agent : Byte) (maxTransfer : Nat)
  /-- PASS_COMPONENT_TABLE (R542): PLDM PassComponentTable describes the component. -/
  | passComponentTable (t : Transport) (agent : Byte) (classification ident : Nat)
  /-- UPDATE_COMPONENT (R543): PLDM UpdateComponent resumes or freshly starts staging into the other slot. -/
  | updateComponent (t : Transport) (agent : Byte) (offer : Offer)
  /-- FIRMWARE_DATA (R544): A response to RequestFirmwareData is programmed and its chunk staged when complete. -/
  | firmwareData (t : Transport) (data : List Byte)
  /-- SLOT_VERIFY_END (R546): Verification of the staged slot ends, setting VERIFIED or erasing the header. -/
  | slotVerifyEnd (ok : Bool)
  /-- ACTIVATE_FIRMWARE (R547): PLDM ActivateFirmware programs an activation log entry in the target slot. -/
  | activateFirmware (t : Transport) (agent : Byte) (torn : Bool)
  /-- GET_STATUS (R542): PLDM GetStatus returns the update status. -/
  | getStatus (t : Transport)
  /-- CANCEL_UPDATE_COMPONENT (R545): PLDM CancelUpdateComponent ends update mode and keeps staged chunks. -/
  | cancelUpdateComponent (t : Transport) (agent : Byte)
  /-- CANCEL_UPDATE (R545): PLDM CancelUpdate ends update mode and keeps staged chunks. -/
  | cancelUpdate (t : Transport) (agent : Byte)
  /-- QUERY_DEVICE_IDENTIFIERS (R542): PLDM QueryDeviceIdentifiers returns the identifiers. -/
  | queryDeviceIdentifiers (t : Transport)
  /-- GET_FIRMWARE_PARAMETERS (R542): PLDM GetFirmwareParameters returns the component parameters. -/
  | getFirmwareParameters (t : Transport)
  /-- UPDATE_TIMEOUT (R545): 120 s without an update agent message ends update mode. -/
  | updateTimeout
  /-- GET_VERSION (R549): SPDM GET_VERSION is answered. -/
  | getVersion (t : Transport)
  /-- GET_CAPABILITIES (R549): SPDM GET_CAPABILITIES is answered. -/
  | getCapabilities (t : Transport)
  /-- NEGOTIATE_ALGORITHMS (R549): SPDM NEGOTIATE_ALGORITHMS is answered. -/
  | negotiateAlgorithms (t : Transport)
  /-- GET_DIGESTS (R549): SPDM GET_DIGESTS returns certificate chain digests. -/
  | getDigests (t : Transport)
  /-- GET_CERTIFICATE (R549): SPDM GET_CERTIFICATE returns the certificate chain. -/
  | getCertificate (t : Transport) (slot ofs len : Nat)
  /-- CHALLENGE (R549): SPDM CHALLENGE is answered with a signature. -/
  | challenge (t : Transport) (slot : Nat) (nonce : List Byte)
  /-- GET_MEASUREMENTS (R549): SPDM GET_MEASUREMENTS returns the measurement blocks. -/
  | getMeasurements (t : Transport) (index : Nat) (signed : Bool) (nonce : List Byte)
  /-- CENSUS_READ (R552): A mailbox command that returns one census table entry. -/
  | censusRead
  /-- ACTIVATE_SLOT (R548): A mailbox command that activates an already VERIFIED slot. -/
  | activateSlot (torn : Bool)
  /-- FF_CLEAR (R555): A mailbox command that erases the first-fault region when FF_COUNT matches. -/
  | ffClear
  /-- SETTING_READ (R552): A mailbox command that returns a setting. -/
  | settingRead
  /-- SETTING_WRITE (R550): A mailbox command that writes a setting to the other settings copy. -/
  | settingWrite
  /-- MOR_IDX_WRITE (R558): A write to MOR_IDX latches a Moraine record into MOR_DATA. -/
  | morIdxWrite (v : BitVec 32)
  /-- MORAINE_WRITE (R556): The MP writes the next queued record to the journal and first-fault region. -/
  | moraineWrite
  /-- MORAINE_INTERVAL_END (R556): At the end of each 256-beat interval, SUPPRESSED records are queued for rate-limited pairs. -/
  | moraineIntervalEnd
  /-- ECHO_UNIT_FAILURE (R150): A plain's echo unit fails, stops sampling and is reported, with nothing removed from service. -/
  | echoUnitFailure (p : Plain)
  /-- PASS_DIE_FAILURE (R28): A pass die or the management processor fails in service, taking the whole device out and reporting an Uncorrectable Internal Error on the PF. -/
  | passDieFailure (d : PassFail)
deriving DecidableEq, Repr

end Sys2Proof
end

