-- ==== Sys2Proof/Decode.lean ====
section
/-! DEFINITION. Decode: spec/opcode_table.json gives no row a pattern of bits, so no word spells a command. -/

namespace Sys2Proof

/-- The command that a word of nbits bits spells by the table's bits: none, for no row of the table has any. -/
def decodeTableWord (_nbits _w : Nat) : Option Instr := none

end Sys2Proof
end

