-- ==== Sys2Proof/Machine/Bits.lean ====
section
/-! DEFINITION. Bits: bit fields (R2), little-endian bytes (R3) and signed reading, the helpers every family uses. -/

namespace Sys2Proof.Machine

/-- Bits [hi:lo] of a number (R2). -/
def bitsOf (x hi lo : Nat) : Nat := (x >>> lo) % 2 ^ (hi + 1 - lo)

/-- Bit i of a number. -/
def bitOf (x i : Nat) : Bool := (x >>> i) % 2 == 1

/-- The number x with bits [hi:lo] replaced by v. -/
def putBits (x hi lo v : Nat) : Nat :=
  x - (bitsOf x hi lo) * 2 ^ lo + (v % 2 ^ (hi + 1 - lo)) * 2 ^ lo

/-- Bits [hi:lo] of a register (R2). -/
def fieldOf (w : Word) (hi lo : Nat) : Nat := bitsOf w.toNat hi lo

/-- The register w with bits [hi:lo] replaced by v. -/
def setField (w : Word) (hi lo v : Nat) : Word := BitVec.ofNat 32 (putBits w.toNat hi lo v)

/-- 1 for true, 0 for false. -/
def boolBit (b : Bool) : Nat := if b then 1 else 0

/-- Two's complement reading of the low w bits of x. -/
def signedOf (w x : Nat) : Int :=
  let y := x % 2 ^ w
  if y < 2 ^ (w - 1) then (y : Int) else (y : Int) - (2 ^ w : Nat)

/-- The low w bits of an integer in two's complement. -/
def unsignedOf (w : Nat) (x : Int) : Nat := (x % ((2 ^ w : Nat) : Int)).toNat

/-- The little-endian value of a byte string (R3). -/
def leNat : List Byte → Nat
  | [] => 0
  | b :: bs => b.toNat + 256 * leNat bs

/-- n bytes holding x little-endian (R3). -/
def leBytes : Nat → Nat → List Byte
  | 0, _ => []
  | n + 1, x => BitVec.ofNat 8 x :: leBytes n (x / 256)

/-- The little-endian value of the n bytes at offset o of a byte string; bytes beyond its end count as zero. -/
def leAt (bs : List Byte) (o n : Nat) : Nat := leNat ((bs.drop o).take n)

/-- The 32-bit word at byte offset o (R3). -/
def w32At (bs : List Byte) (o : Nat) : Nat := leAt bs o 4

/-- The 64-bit word at byte offset o (R3). -/
def w64At (bs : List Byte) (o : Nat) : Nat := leAt bs o 8

/-- bs with its bytes from offset o on replaced by new (bs is long enough). -/
def spliceBytes (bs : List Byte) (o : Nat) (new : List Byte) : List Byte :=
  bs.take o ++ new ++ bs.drop (o + new.length)

/-- x rounded up to a multiple of m. -/
def roundUp (x m : Nat) : Nat := (x + m - 1) / m * m

/-- ceil(a / b). -/
def ceilDiv (a b : Nat) : Nat := (a + b - 1) / b

/-- A saturating counter step: the count stops at its largest value. -/
def satInc (w : Word) (by_ : Nat) : Word := BitVec.ofNat 32 (min (w.toNat + by_) 0xFFFFFFFF)

/-- The indices of the set bits of a mask, ascending, below n. -/
def setBits (mask n : Nat) : List Nat := (List.range n).filter (bitOf mask)

end Sys2Proof.Machine
end

