-- ==== Sys2Proof/Machine/Digest.lean ====
section
/-! DEFINITION. Digest: the TD-128 digest (R480), the CRC-32 of the Moraine, slot headers and settings (R553), and the
CRC-32C of flits (R299). -/

namespace Sys2Proof.Machine

/-- The TD-128 state: words a, b, c, d. -/
structure Td where
  a : Word
  b : Word
  c : Word
  d : Word
deriving DecidableEq, Repr

/-- The TD-128 state before the first chunk (R480). -/
def Td.init : Td := ⟨0x6a09e667#32, 0xbb67ae85#32, 0x3c6ef372#32, 0xa54ff53a#32⟩

/-- The little-endian word at byte offset o of a byte string, zero-padded. -/
def wordAt (bs : List Byte) (o : Nat) : Word := BitVec.ofNat 32 (w32At bs o)

/-- Chunk j taken in (R480). -/
def Td.chunk (t : Td) (j : Nat) (bs : List Byte) : Td :=
  let a := (t.a ^^^ wordAt bs 0).rotateLeft 5 + t.b
  let b := (t.b ^^^ wordAt bs 4).rotateLeft 11 + t.c
  let c := (t.c ^^^ wordAt bs 8).rotateLeft 17 + t.d
  let d := (t.d ^^^ wordAt bs 12).rotateLeft 23 + a + BitVec.ofNat 32 j
  ⟨a, b, c, d⟩

/-- The chunks from number j on; fuel bounds them. -/
def Td.chunks : Nat → Td → Nat → List Byte → Td
  | 0, t, _, _ => t
  | f + 1, t, j, bs => Td.chunks f (t.chunk j bs) (j + 1) (bs.drop 16)

/-- One closing round (R480). -/
def Td.round (t : Td) : Td :=
  let a := t.a + t.b
  let d := (t.d ^^^ a).rotateLeft 16
  let c := t.c + d
  let b := (t.b ^^^ c).rotateLeft 12
  ⟨a, b, c, d⟩

/-- The digest's four words (R480). -/
def td128 (bs : List Byte) : List Word :=
  let n := bs.length
  let t := Td.chunks ((n + 15) / 16) Td.init 0 bs
  let t : Td := { t with a := t.a ^^^ BitVec.ofNat 32 n, b := t.b ^^^ BitVec.ofNat 32 (n / 2 ^ 32) }
  let t := t.round.round
  [t.a, t.b, t.c, t.d]

/-- Words as little-endian bytes (R3). -/
def wordBytes (ws : List Word) : List Byte := (ws.map fun w => leBytes 4 w.toNat).flatten

/-- The digest as 16 bytes (R480). -/
def td128Bytes (bs : List Byte) : List Byte := wordBytes (td128 bs)

/-- One bit of a reflected CRC with the given reflected polynomial. -/
def crcBit (poly crc : Nat) : Nat := if crc % 2 = 1 then crc / 2 ^^^ poly else crc / 2

/-- One byte of a reflected CRC. -/
def crcByte (poly crc : Nat) (b : Byte) : Nat :=
  let c := crc ^^^ b.toNat
  crcBit poly (crcBit poly (crcBit poly (crcBit poly (crcBit poly (crcBit poly (crcBit poly (crcBit poly c)))))))

/-- A reflected CRC-32 with initial value and final exclusive or of all ones. -/
def crcOf (poly : Nat) (bs : List Byte) : Nat := bs.foldl (crcByte poly) 0xFFFFFFFF ^^^ 0xFFFFFFFF

/-- The CRC-32 of R553: polynomial 0x04C1_1DB7, reflected. -/
def crc32 (bs : List Byte) : Nat := crcOf 0xEDB88320 bs

/-- The CRC-32C of R299: polynomial 0x1EDC_6F41, reflected. -/
def crc32c (bs : List Byte) : Nat := crcOf 0x82F63B78 bs

end Sys2Proof.Machine
end

