-- ==== Sys2Proof/Machine/Gen.lean ====
section
/-! DEFINITION. Gen: the counter generator CG, a pure function of a key and a counter (R83 to R90). -/

namespace Sys2Proof.Machine

/-- The key of a draw: four words (R83). -/
structure CgKey where
  k0 : Word
  k1 : Word
  k2 : Word
  k3 : Word
deriving DecidableEq, Repr

/-- The key from a 64-bit partition key and a 64-bit second key (R83). -/
def cgKey (part second : Nat) : CgKey :=
  ⟨BitVec.ofNat 32 part, BitVec.ofNat 32 (part / 2 ^ 32), BitVec.ofNat 32 second, BitVec.ofNat 32 (second / 2 ^ 32)⟩

/-- The counter of a draw: four words (R84). -/
structure CgCounter where
  c0 : Word
  c1 : Word
  c2 : Word
  c3 : Word
deriving DecidableEq, Repr

/-- The counter from its fields (R84). -/
def cgCounter (domain tag step sub index : Nat) : CgCounter :=
  ⟨BitVec.ofNat 32 index, BitVec.ofNat 32 (sub % 2 ^ 16 * 2 ^ 16 + index / 2 ^ 32 % 2 ^ 16), BitVec.ofNat 32 step,
   BitVec.ofNat 32 (domain % 2 ^ 8 * 2 ^ 24 + tag % 2 ^ 24)⟩

/-- One round of mix (R87). -/
def cgRound (xy : Word × Word) (rc : Word) (rot : Nat) : Word × Word :=
  let x := xy.1 + xy.2 + rc
  (x, xy.2.rotateLeft rot ^^^ x)

/-- The four rounds of mix (R87). -/
def cgMix (xy : Word × Word) : Word × Word :=
  cgRound (cgRound (cgRound (cgRound xy 0x9E3779B9#32 12) 0x3C6EF372#32 28) 0xDAA66D2B#32 20) 0x78DDE6E4#32 8

/-- The generator's output u (R87). -/
def cg (k : CgKey) (c : CgCounter) : Word :=
  let a := cgMix (k.k0 ^^^ c.c0, k.k1 ^^^ c.c1)
  let b := cgMix (a.1 ^^^ k.k2 ^^^ c.c2, a.2 ^^^ k.k3 ^^^ c.c3)
  b.1 + b.2

/-- The DOMAIN codes (R85). -/
def domRaw : Nat := 0
/-- DROPOUT (R85). -/
def domDropout : Nat := 1
/-- ROUND (R85). -/
def domRound : Nat := 2
/-- SAMPLE (R85). -/
def domSample : Nat := 3
/-- ECHO (R85). -/
def domEcho : Nat := 4
/-- SPEC (R85). -/
def domSpec : Nat := 5

end Sys2Proof.Machine
end

