-- ==== Sys2Proof/Config.lean ====
section
/-! DEFINITION. Config: what an implementation fixes or the spec leaves open. Every constant here is opaque: nothing
can evaluate it, so a claim holds whatever it is. A free value applies one of them to the counter `free` of the state
(or to the operands it depends on). notes/assumptions names each. -/

namespace Sys2Proof

/-- A value the spec leaves open, 32 bits wide (the counter picks a fresh one). -/
opaque Config.freeWord : Nat → BitVec 32
/-- A value the spec leaves open, one byte (the counter picks a fresh one). -/
opaque Config.freeByte : Nat → BitVec 8
/-- A choice the spec leaves open between two things the machine may do. -/
opaque Config.freeBool : Nat → Bool
/-- R56: BOUND_REV, fixed by the firmware. -/
opaque Config.boundRev : BitVec 32
/-- R59: the bound tables of the firmware: the bound C in core clocks for a descriptor and its stage record. -/
opaque Config.boundClocks : List (BitVec 8) → List (BitVec 8) → Nat
/-- R554: the CODE of a Moraine record within its class, by the model's number of the event. -/
opaque Config.morCode : Nat → BitVec 8
/-- R426, R554: the CLASS of the Moraine record of an applied move, which the table of classes does not list. -/
opaque Config.rcMoveClass : BitVec 8
/-- R553: the severity of a Moraine record, by the model's number of the event. -/
opaque Config.morSev : Nat → BitVec 2
/-- R466: REPAIR_STAT.SPARE_LEFT of a stack at reset, from the firmware. -/
opaque Config.spareRows : Nat → BitVec 16
/-- R456: the row of a stack that a 64-byte block lies in, fixed by the floor die. -/
opaque Config.rowOf : Nat → Nat
/-- R509: the rate that the host link has after its n-th training: RATE is this plus 1. -/
opaque Config.hostRate : Nat → Fin 6
/-- R509: the width that the host link has after its n-th training: WIDTH is 2 to this power. -/
opaque Config.hostWidth : Nat → Fin 4
/-- R550: how "none" is written in a setting. -/
opaque Config.settingNone : BitVec 32
/-- R549: SHA-512 of a sequence of bytes; the spec names the algorithm and does not give it. -/
opaque Config.sha512 : List (BitVec 8) → List (BitVec 8)
/-- R549: the bytes that measurements 1, 3 and 4 measure, by index: the on-die ROM, the built-in tables, the bound tables. -/
opaque Config.measuredImage : Nat → List (BitVec 8)
/-- R549: the certificate chain of slot 0. -/
opaque Config.certChain : List (BitVec 8)
/-- R549: the device's signature over a message. -/
opaque Config.signature : List (BitVec 8) → List (BitVec 8)
/-- R537: the PDR with a record handle; none where the repository has no such record. -/
opaque Config.pdr : Nat → Option (List (BitVec 8))
/-- R537, R542, R549: answers whose contents the spec leaves to the DMTF specifications and the factory: 0 the PDR repository
information, 1 the terminus ID, 2 the device identifiers, 3 the SPDM version, 4 its capabilities, 5 its algorithms. -/
opaque Config.fixedAnswer : Nat → List (BitVec 8)
/-- R550: the bytes of a settings copy in flash, by its format, write count and values. -/
opaque Config.settingsImage : Nat → Nat → List (Nat × Nat) → List (BitVec 8)
/-- R560: the module serial number, from the factory. -/
opaque Config.serial : BitVec 64

end Sys2Proof
end

