-- ==== Sys2Proof/Machine/RegTable.lean ====
section
/-! DEFINITION. RegTable: the block-specific registers of every page as the chapters' register tables give them: offset,
bits, access code (R7), reset value and the legal values of each field (R12). Fields that no row lists are reserved
(R11). A reset value that the spec does not give as a number (firmware, strap, boot, slot, sensor) stands as 0 here; the
register then reads as Machine/Registers.lean says. -/

namespace Sys2Proof.Machine

/-- Register access codes (R7). -/
inductive Access where
  | rw | ro | wo | w1c | w1s | rc | rw1
deriving DecidableEq, Repr

/-- Which values of a field are legal (R12). -/
inductive Legal where
  | any
  | range (lo hi : Nat)
deriving DecidableEq, Repr

/-- Whether a value is legal for its field (R12). -/
def Legal.ok : Legal → Nat → Bool
  | .any, _ => true
  | .range lo hi, v => decide (lo ≤ v) && decide (v ≤ hi)

/-- One field of a register, or of an evenly spaced run of registers. -/
structure RegRow where
  ofs : Nat
  stride : Nat
  count : Nat
  hi : Nat
  lo : Nat
  acc : Access
  reset : Nat
  legal : Legal
deriving DecidableEq, Repr

/-- Whether a row describes the register at offset o of its page. -/
def RegRow.covers (r : RegRow) (o : Nat) : Bool :=
  if r.count ≤ 1 then o == r.ofs
  else decide (r.ofs ≤ o) && (o - r.ofs) % r.stride == 0 && decide ((o - r.ofs) / r.stride < r.count)

/-- Fields of DEVICE (R589) (part 1). -/
def deviceRows0 : List RegRow := [  ⟨0x40, 0, 1, 3, 3, .wo, 0, .any⟩ /- BEAT_CTL.REARM -/,
  ⟨0x40, 0, 1, 2, 2, .wo, 0, .any⟩ /- BEAT_CTL.RELOCK -/,
  ⟨0x40, 0, 1, 1, 1, .rw, 0, .any⟩ /- BEAT_CTL.EDGE_POL -/,
  ⟨0x40, 0, 1, 0, 0, .rw, 1, .any⟩ /- BEAT_CTL.BEAT_EN -/,
  ⟨0x44, 0, 1, 5, 5, .ro, 0, .any⟩ /- BEAT_STAT.PHASE_FAULT -/,
  ⟨0x44, 0, 1, 4, 4, .ro, 0, .any⟩ /- BEAT_STAT.METERED_VALID -/,
  ⟨0x44, 0, 1, 3, 3, .ro, 0, .any⟩ /- BEAT_STAT.ORIGIN -/,
  ⟨0x44, 0, 1, 2, 0, .ro, 0, .any⟩ /- BEAT_STAT.STATE -/,
  ⟨0x48, 0, 1, 31, 0, .ro, 0, .any⟩ /- BEAT_NUM_LO.NUM -/,
  ⟨0x4C, 0, 1, 31, 0, .ro, 0, .any⟩ /- BEAT_NUM_HI.NUM -/,
  ⟨0x50, 0, 1, 13, 0, .ro, 0, .any⟩ /- SUB_BEAT.COUNT -/,
  ⟨0x54, 0, 1, 21, 8, .ro, 0, .any⟩ /- BEAT_PERIOD.INT -/,
  ⟨0x54, 0, 1, 7, 0, .ro, 0, .any⟩ /- BEAT_PERIOD.FRAC -/,
  ⟨0x58, 0, 1, 10, 0, .ro, 0, .any⟩ /- FLYWHEEL_CNT.COUNT -/,
  ⟨0x5C, 0, 1, 15, 0, .ro, 0, .any⟩ /- PHASE_ERR.ERR -/,
  ⟨0x68, 0, 1, 31, 0, .rc, 0, .any⟩ /- EDGE_REJECT_CNT.COUNT -/,
  ⟨0x6C, 0, 1, 31, 16, .ro, 0, .any⟩ /- BOUND_REV.MAJOR -/,
  ⟨0x6C, 0, 1, 15, 0, .ro, 0, .any⟩ /- BOUND_REV.MINOR -/,
  ⟨0x70, 0, 1, 31, 0, .rc, 0, .any⟩ /- ADMIT_REFUSE_CNT.COUNT -/,
  ⟨0x74, 0, 1, 31, 0, .rc, 0, .any⟩ /- VOID_CNT.COUNT -/,
  ⟨0x60, 0, 1, 8, 8, .w1c, 0, .any⟩ /- BEAT_EVT.VOID -/,
  ⟨0x60, 0, 1, 7, 7, .w1c, 0, .any⟩ /- BEAT_EVT.ADMIT_REFUSED -/,
  ⟨0x60, 0, 1, 6, 6, .w1c, 0, .any⟩ /- BEAT_EVT.REJECT -/,
  ⟨0x60, 0, 1, 5, 5, .w1c, 0, .any⟩ /- BEAT_EVT.LINK_MISMATCH -/,
  ⟨0x60, 0, 1, 4, 4, .w1c, 0, .any⟩ /- BEAT_EVT.PHASE_FAULT -/,
  ⟨0x60, 0, 1, 3, 3, .w1c, 0, .any⟩ /- BEAT_EVT.RETURN -/,
  ⟨0x60, 0, 1, 2, 2, .w1c, 0, .any⟩ /- BEAT_EVT.EXPIRY -/,
  ⟨0x60, 0, 1, 1, 1, .w1c, 0, .any⟩ /- BEAT_EVT.LOSS -/,
  ⟨0x60, 0, 1, 0, 0, .w1c, 0, .any⟩ /- BEAT_EVT.LOCK_ACQ -/,
  ⟨0x80, 4, 4, 31, 0, .rw, 0, .any⟩ /- CG_TEST_KEYn.KEY -/]

/-- Fields of DEVICE (R589) (part 2). -/
def deviceRows1 : List RegRow := [  ⟨0x90, 4, 4, 31, 0, .rw, 0, .any⟩ /- CG_TEST_CTRn.CTR -/,
  ⟨0xA0, 0, 1, 31, 0, .ro, 555129708, .any⟩ /- CG_TEST_OUT.U -/,
  ⟨0xA4, 0, 1, 15, 0, .ro, 1, .any⟩ /- CG_REV.REV -/,
  ⟨0xC0, 0, 1, 27, 24, .wo, 0, .any⟩ /- BG_REQ.TEST -/,
  ⟨0xC0, 0, 1, 22, 16, .wo, 0, .any⟩ /- BG_REQ.TARGET -/,
  ⟨0xC4, 0, 1, 31, 31, .ro, 0, .any⟩ /- BG_RESP.PENDING -/,
  ⟨0xC4, 0, 1, 11, 8, .ro, 0, .any⟩ /- BG_RESP.RESULT -/,
  ⟨0xC4, 0, 1, 3, 0, .ro, 0, .any⟩ /- BG_RESP.TICKET -/,
  ⟨0xC8, 0, 1, 31, 0, .ro, 0, .any⟩ /- BG_START_LO.BEAT -/,
  ⟨0xCC, 0, 1, 31, 0, .ro, 0, .any⟩ /- BG_START_HI.BEAT -/,
  ⟨0xD0, 0, 1, 31, 31, .ro, 0, .any⟩ /- BG_DONE.VALID -/,
  ⟨0xD0, 0, 1, 27, 24, .ro, 0, .any⟩ /- BG_DONE.TEST -/,
  ⟨0xD0, 0, 1, 8, 8, .ro, 0, .any⟩ /- BG_DONE.FAIL -/,
  ⟨0xD0, 0, 1, 3, 0, .ro, 0, .any⟩ /- BG_DONE.TICKET -/,
  ⟨0x100, 0, 1, 31, 21, .rw, 0, .any⟩ /- AP_BASE_LO.BASE -/,
  ⟨0x104, 0, 1, 9, 0, .rw, 0, .any⟩ /- AP_BASE_HI.BASE -/,
  ⟨0x108, 0, 1, 11, 8, .ro, 0, .any⟩ /- HIF_STAT.WIDTH -/,
  ⟨0x108, 0, 1, 3, 0, .ro, 0, .any⟩ /- HIF_STAT.RATE -/,
  ⟨0x10C, 0, 1, 2, 2, .w1c, 0, .any⟩ /- HIF_EVT.PF_RESET -/,
  ⟨0x10C, 0, 1, 1, 1, .w1c, 0, .any⟩ /- HIF_EVT.LINK_DOWN -/,
  ⟨0x10C, 0, 1, 0, 0, .w1c, 0, .any⟩ /- HIF_EVT.VF_FLR -/,
  ⟨0x110, 0, 1, 20, 20, .rw, 0, .any⟩ /- HOST_PASID.EN -/,
  ⟨0x110, 0, 1, 19, 0, .rw, 0, .any⟩ /- HOST_PASID.PASID -/,
  ⟨0x140, 0, 1, 15, 12, .ro, 0, .any⟩ /- BOOT_STAT.FAIL_CAUSE -/,
  ⟨0x140, 0, 1, 10, 10, .ro, 0, .any⟩ /- BOOT_STAT.WARM -/,
  ⟨0x140, 0, 1, 9, 9, .ro, 0, .any⟩ /- BOOT_STAT.FALLBACK -/,
  ⟨0x140, 0, 1, 8, 8, .ro, 0, .any⟩ /- BOOT_STAT.SLOT -/,
  ⟨0x140, 0, 1, 3, 0, .ro, 1, .any⟩ /- BOOT_STAT.PHASE -/,
  ⟨0x144, 0, 1, 0, 0, .ro, 0, .any⟩ /- STRAP_STAT.HEADWATER -/,
  ⟨0x148, 0, 1, 31, 31, .ro, 0, .any⟩ /- FABRIC_ID.VALID -/]

/-- Fields of DEVICE (R589) (part 3). -/
def deviceRows2 : List RegRow := [  ⟨0x148, 0, 1, 12, 0, .ro, 0, .any⟩ /- FABRIC_ID.ID -/,
  ⟨0x14C, 0, 1, 28, 16, .ro, 0, .any⟩ /- FABRIC_STAT.DEPTH -/,
  ⟨0x14C, 0, 1, 12, 8, .ro, 0, .any⟩ /- FABRIC_STAT.PARENT_LINK -/,
  ⟨0x14C, 0, 1, 4, 4, .ro, 0, .any⟩ /- FABRIC_STAT.BEAT_PENDING -/,
  ⟨0x14C, 0, 1, 3, 0, .ro, 0, .any⟩ /- FABRIC_STAT.STATE -/,
  ⟨0x150, 0, 1, 13, 0, .ro, 0, .any⟩ /- FABRIC_SIZE.MEMBERS -/,
  ⟨0x154, 0, 1, 31, 0, .ro, 0, .any⟩ /- CENSUS_NUM.NUM -/,
  ⟨0x158, 0, 1, 0, 0, .wo, 0, .any⟩ /- CENSUS_CTL.START -/,
  ⟨0x15C, 0, 1, 13, 0, .rw, 0, .any⟩ /- CENSUS_EXPECT.COUNT -/,
  ⟨0x160, 0, 1, 15, 0, .rw, 8000, .range 100 65535⟩ /- CENSUS_WINDOW.MS -/,
  ⟨0x180, 0, 1, 16, 16, .rw, 1, .any⟩ /- THERM_CTL.EN -/,
  ⟨0x180, 0, 1, 15, 8, .rw, 5, .range 1 20⟩ /- THERM_CTL.HYST -/,
  ⟨0x180, 0, 1, 7, 0, .rw, 95, .range 60 104⟩ /- THERM_CTL.WARN -/,
  ⟨0x184, 0, 1, 31, 31, .ro, 0, .any⟩ /- THERM_STAT.WARN -/,
  ⟨0x184, 0, 1, 30, 30, .ro, 0, .any⟩ /- THERM_STAT.AFTER_TRIP -/,
  ⟨0x184, 0, 1, 23, 16, .ro, 0, .any⟩ /- THERM_STAT.HOTTEST -/,
  ⟨0x184, 0, 1, 4, 0, .ro, 0, .any⟩ /- THERM_STAT.HOT_UNIT -/,
  ⟨0x10, 0, 1, 5, 5, .ro, 0, .any⟩ /- IRQ_STAT.PASS -/,
  ⟨0x10, 0, 1, 4, 4, .w1c, 0, .any⟩ /- IRQ_STAT.THERM -/,
  ⟨0x10, 0, 1, 3, 3, .w1c, 0, .any⟩ /- IRQ_STAT.FABRIC -/,
  ⟨0x10, 0, 1, 2, 2, .ro, 0, .any⟩ /- IRQ_STAT.HIF -/,
  ⟨0x10, 0, 1, 1, 1, .w1c, 0, .any⟩ /- IRQ_STAT.BG -/,
  ⟨0x10, 0, 1, 0, 0, .ro, 0, .any⟩ /- IRQ_STAT.BEAT -/,
  ⟨0x1C0, 0, 1, 31, 16, .ro, 8214, .any⟩ /- PART_ID.PART -/,
  ⟨0x1C0, 0, 1, 15, 8, .ro, 1, .any⟩ /- PART_ID.STEP -/,
  ⟨0x64, 0, 1, 8, 0, .rw, 0, .any⟩ /- BEAT_EVT_EN.EN -/]

/-- All fields of DEVICE (R589). -/
def deviceRows : List RegRow := deviceRows0 ++ deviceRows1 ++ deviceRows2

/-- Fields of PARTCFGn (R275) (part 1). -/
def partcfgRows0 : List RegRow := [  ⟨0x10, 0, 1, 1, 1, .w1c, 0, .any⟩ /- IRQ_STAT.DEGRADED -/,
  ⟨0x10, 0, 1, 0, 0, .w1c, 0, .any⟩ /- IRQ_STAT.CMD_DONE -/,
  ⟨0x40, 0, 1, 22, 16, .wo, 0, .any⟩ /- PCFG_CMD.VALE -/,
  ⟨0x40, 0, 1, 3, 0, .wo, 0, .any⟩ /- PCFG_CMD.OP -/,
  ⟨0x44, 0, 1, 25, 16, .ro, 0, .any⟩ /- PCFG_STAT.BT_ENTRY -/,
  ⟨0x44, 0, 1, 11, 8, .ro, 0, .any⟩ /- PCFG_STAT.ERR -/,
  ⟨0x44, 0, 1, 4, 4, .ro, 0, .any⟩ /- PCFG_STAT.DEGRADED -/,
  ⟨0x44, 0, 1, 3, 3, .ro, 0, .any⟩ /- PCFG_STAT.BUSY -/,
  ⟨0x44, 0, 1, 1, 0, .ro, 0, .any⟩ /- PCFG_STAT.STATE -/,
  ⟨0x48, 0, 1, 9, 8, .rw, 0, .range 0 1⟩ /- PCFG_MODE.FENCE_POLICY -/,
  ⟨0x48, 0, 1, 0, 0, .rw, 0, .any⟩ /- PCFG_MODE.METERED -/,
  ⟨0x4C, 0, 1, 9, 0, .rw, 0, .any⟩ /- SLOT_FLOOR.SLOTS -/,
  ⟨0x50, 4, 4, 31, 0, .rw, 0, .any⟩ /- VALE_MASKk.VALES -/,
  ⟨0x60, 4, 4, 31, 0, .ro, 0, .any⟩ /- VALE_FENCEDk.FENCED -/,
  ⟨0x70, 0, 1, 31, 0, .rw, 0, .any⟩ /- PART_KEY_LO.KEY -/,
  ⟨0x74, 0, 1, 31, 0, .rw, 0, .any⟩ /- PART_KEY_HI.KEY -/,
  ⟨0x78, 0, 1, 28, 16, .rw, 0, .any⟩ /- POOL.BASE -/,
  ⟨0x78, 0, 1, 13, 0, .rw, 0, .any⟩ /- POOL.SIZE -/,
  ⟨0x7C, 0, 1, 16, 0, .rw, 0, .any⟩ /- SCALE_TBL_N.COUNT -/,
  ⟨0x80, 0, 1, 31, 0, .rw, 0, .any⟩ /- SCALE_TBL_LO.ADDR -/,
  ⟨0x84, 0, 1, 31, 0, .rw, 0, .any⟩ /- SCALE_TBL_HI.ADDR -/,
  ⟨0x88, 0, 1, 31, 0, .rw, 0, .any⟩ /- BT_ADDR_LO.ADDR -/,
  ⟨0x8C, 0, 1, 31, 0, .rw, 0, .any⟩ /- BT_ADDR_HI.ADDR -/,
  ⟨0x90, 4, 5, 31, 0, .rw, 0, .any⟩ /- FLOOR_STACKk.FLOOR -/,
  ⟨0xA4, 0, 1, 31, 24, .rw, 0, .any⟩ /- FLOOR_PORTS.D2D -/,
  ⟨0xA4, 0, 1, 23, 16, .rw, 0, .any⟩ /- FLOOR_PORTS.STAGING -/,
  ⟨0xA4, 0, 1, 15, 8, .rw, 0, .any⟩ /- FLOOR_PORTS.LINK -/,
  ⟨0xA4, 0, 1, 7, 0, .rw, 0, .any⟩ /- FLOOR_PORTS.PCIE -/,
  ⟨0xA8, 4, 4, 31, 0, .rw, 0, .any⟩ /- LINK_WEIGHTk.WEIGHT -/,
  ⟨0x100, 8, 32, 31, 0, .rw, 0, .any⟩ /- JOB_KEYj_LO.KEY -/]

/-- Fields of PARTCFGn (R275) (part 2). -/
def partcfgRows1 : List RegRow := [  ⟨0x104, 8, 32, 31, 0, .rw, 0, .any⟩ /- JOB_KEYj_HI.KEY -/,
  ⟨0xC8, 0, 1, 9, 8, .rw, 0, .range 0 2⟩ /- REISSUE.MODE -/,
  ⟨0xC8, 0, 1, 6, 0, .rw, 0, .any⟩ /- REISSUE.VALE -/,
  ⟨0xD0, 0, 1, 31, 0, .rw, 0, .any⟩ /- TLIST_ADDR_LO.ADDR -/,
  ⟨0xD4, 0, 1, 31, 0, .rw, 0, .any⟩ /- TLIST_ADDR_HI.ADDR -/,
  ⟨0xD8, 0, 1, 8, 0, .rw, 0, .any⟩ /- TLIST_N.COUNT -/,
  ⟨0xE0, 0, 1, 20, 20, .rw, 0, .any⟩ /- HOST_PASID.EN -/,
  ⟨0xE0, 0, 1, 19, 0, .rw, 0, .any⟩ /- HOST_PASID.PASID -/,
  ⟨0xC0, 0, 1, 31, 18, .rw, 0, .any⟩ /- TT_ROOT_LO.ROOT -/,
  ⟨0xC4, 0, 1, 9, 0, .rw, 0, .any⟩ /- TT_ROOT_HI.ROOT -/]

/-- All fields of PARTCFGn (R275). -/
def partcfgRows : List RegRow := partcfgRows0 ++ partcfgRows1

/-- Fields of MEM (R463). -/
def memRows : List RegRow := [  ⟨0x10, 0, 1, 0, 0, .w1c, 0, .any⟩ /- IRQ_STAT.GRANT_DONE -/,
  ⟨0x40, 0, 1, 20, 0, .rw, 0, .any⟩ /- GRANT_PAGE.PAGE -/,
  ⟨0x44, 0, 1, 31, 16, .wo, 0, .any⟩ /- GRANT_CMD.COUNT -/,
  ⟨0x44, 0, 1, 11, 8, .wo, 0, .any⟩ /- GRANT_CMD.PART -/,
  ⟨0x44, 0, 1, 3, 0, .wo, 0, .any⟩ /- GRANT_CMD.OP -/,
  ⟨0x48, 0, 1, 31, 31, .ro, 0, .any⟩ /- GRANT_STAT.BUSY -/,
  ⟨0x48, 0, 1, 3, 0, .ro, 0, .any⟩ /- GRANT_STAT.ERR -/,
  ⟨0x4C, 0, 1, 20, 0, .rw, 0, .any⟩ /- GRANT_READ_PAGE.PAGE -/,
  ⟨0x50, 0, 1, 20, 20, .ro, 0, .any⟩ /- GRANT_ENTRY.WRITER_VALID -/,
  ⟨0x50, 0, 1, 19, 16, .ro, 0, .any⟩ /- GRANT_ENTRY.WRITER -/,
  ⟨0x50, 0, 1, 15, 0, .ro, 0, .any⟩ /- GRANT_ENTRY.READERS -/]

/-- Fields of PASSn (R591). -/
def passRows : List RegRow := [  ⟨0x10, 0, 1, 1, 1, .w1c, 0, .any⟩ /- IRQ_STAT.D2D_FAIL -/,
  ⟨0x10, 0, 1, 0, 0, .w1c, 0, .any⟩ /- IRQ_STAT.STG_UE -/,
  ⟨0x40, 0, 1, 8, 8, .ro, 0, .any⟩ /- PASS_STAT.HOST_PASS -/,
  ⟨0x40, 0, 1, 1, 1, .ro, 0, .any⟩ /- PASS_STAT.MP_RUNNING -/,
  ⟨0x40, 0, 1, 0, 0, .ro, 0, .any⟩ /- PASS_STAT.STG_READY -/,
  ⟨0x44, 0, 1, 31, 0, .rc, 0, .any⟩ /- STG_CE_CNT.COUNT -/,
  ⟨0x48, 0, 1, 31, 0, .rc, 0, .any⟩ /- STG_UE_CNT.COUNT -/,
  ⟨0x4C, 0, 1, 25, 3, .ro, 0, .any⟩ /- STG_UE_LAST.OFFSET -/,
  ⟨0x50, 0, 1, 3, 0, .ro, 0, .any⟩ /- D2D_STAT.FAILED -/]

/-- Fields of PASSn.SWB (R381). -/
def swbRows : List RegRow := [  ⟨0x10, 0, 1, 3, 3, .w1c, 0, .any⟩ /- IRQ_STAT.IN_DOUBT -/,
  ⟨0x10, 0, 1, 2, 2, .w1c, 0, .any⟩ /- IRQ_STAT.FAILED -/,
  ⟨0x10, 0, 1, 1, 1, .w1c, 0, .any⟩ /- IRQ_STAT.DIGEST -/,
  ⟨0x10, 0, 1, 0, 0, .w1c, 0, .any⟩ /- IRQ_STAT.OVER_BUDGET -/,
  ⟨0x40, 0, 1, 7, 0, .ro, 0, .any⟩ /- SWB_STAT.ACTIVE -/,
  ⟨0x44, 0, 1, 31, 0, .rc, 0, .any⟩ /- BLOCKS_TX_CNT.COUNT -/,
  ⟨0x48, 0, 1, 31, 0, .rc, 0, .any⟩ /- BLOCKS_RX_CNT.COUNT -/,
  ⟨0x4C, 0, 1, 31, 0, .rc, 0, .any⟩ /- FWD_CNT.COUNT -/,
  ⟨0x50, 0, 1, 31, 0, .rc, 0, .any⟩ /- DIGEST_ERR_CNT.COUNT -/,
  ⟨0x54, 0, 1, 31, 0, .rc, 0, .any⟩ /- BUDGET_OVER_CNT.COUNT -/,
  ⟨0x58, 0, 1, 6, 4, .wo, 0, .any⟩ /- TURN_RESOLVE.SLOT -/,
  ⟨0x58, 0, 1, 1, 0, .wo, 0, .any⟩ /- TURN_RESOLVE.ACTION -/,
  ⟨0x60, 4, 8, 31, 16, .ro, 0, .any⟩ /- TURN_STATk.LANDED -/,
  ⟨0x60, 4, 8, 15, 12, .ro, 0, .any⟩ /- TURN_STATk.PART -/,
  ⟨0x60, 4, 8, 11, 8, .ro, 0, .any⟩ /- TURN_STATk.SET -/,
  ⟨0x60, 4, 8, 7, 6, .ro, 0, .any⟩ /- TURN_STATk.ATTEMPT -/,
  ⟨0x60, 4, 8, 2, 0, .ro, 0, .any⟩ /- TURN_STATk.STATE -/]

/-- Fields of PASS0.HEALTH (R489) (part 1). -/
def healthRows0 : List RegRow := [  ⟨0x10, 0, 1, 5, 5, .w1c, 0, .any⟩ /- IRQ_STAT.RESTORE_DONE -/,
  ⟨0x10, 0, 1, 4, 4, .w1c, 0, .any⟩ /- IRQ_STAT.PUSH_DONE -/,
  ⟨0x10, 0, 1, 3, 3, .w1c, 0, .any⟩ /- IRQ_STAT.HOLD_END -/,
  ⟨0x10, 0, 1, 2, 2, .w1c, 0, .any⟩ /- IRQ_STAT.HOLD_START -/,
  ⟨0x10, 0, 1, 1, 1, .w1c, 0, .any⟩ /- IRQ_STAT.ALERT -/,
  ⟨0x10, 0, 1, 0, 0, .w1c, 0, .any⟩ /- IRQ_STAT.FENCE -/,
  ⟨0x40, 0, 1, 2, 2, .rw, 1, .any⟩ /- HM_CTL.TERRACE_EN -/,
  ⟨0x40, 0, 1, 1, 1, .rw, 1, .any⟩ /- HM_CTL.ALERT_EN -/,
  ⟨0x40, 0, 1, 0, 0, .wo, 0, .any⟩ /- HM_CTL.CLEAR -/,
  ⟨0x44, 0, 1, 16, 16, .ro, 1, .any⟩ /- RISK.ARMED -/,
  ⟨0x44, 0, 1, 15, 0, .ro, 4096, .any⟩ /- RISK.RISK -/,
  ⟨0x48, 0, 1, 19, 16, .rw, 12, .range 1 15⟩ /- RISK_PRIOR.PRIOR_DECAY -/,
  ⟨0x48, 0, 1, 15, 0, .rw, 4096, .any⟩ /- RISK_PRIOR.PRIOR -/,
  ⟨0x4C, 0, 1, 15, 0, .rw, 16384, .any⟩ /- ALERT_AT.LEVEL -/,
  ⟨0x50, 0, 1, 15, 0, .rw, 32768, .any⟩ /- TERRACE_AT.LEVEL -/,
  ⟨0x54, 0, 1, 15, 0, .rw, 24576, .any⟩ /- TERRACE_REARM.LEVEL -/,
  ⟨0x58, 0, 1, 31, 16, .rw, 500, .any⟩ /- HM_REF.RIPPLE_REF -/,
  ⟨0x58, 0, 1, 7, 0, .rw, 20, .any⟩ /- HM_REF.THERM_REF -/,
  ⟨0x60, 0, 1, 27, 24, .rw, 8, .range 1 15⟩ /- SRC_CFGk.DECAY 0 -/,
  ⟨0x64, 0, 1, 27, 24, .rw, 8, .range 1 15⟩ /- SRC_CFGk.DECAY 1 -/,
  ⟨0x68, 0, 1, 27, 24, .rw, 8, .range 1 15⟩ /- SRC_CFGk.DECAY 2 -/,
  ⟨0x6C, 0, 1, 27, 24, .rw, 8, .range 1 15⟩ /- SRC_CFGk.DECAY 3 -/,
  ⟨0x70, 0, 1, 27, 24, .rw, 8, .range 1 15⟩ /- SRC_CFGk.DECAY 4 -/,
  ⟨0x74, 0, 1, 27, 24, .rw, 8, .range 1 15⟩ /- SRC_CFGk.DECAY 5 -/,
  ⟨0x78, 0, 1, 27, 24, .rw, 8, .range 1 15⟩ /- SRC_CFGk.DECAY 6 -/,
  ⟨0x7C, 0, 1, 27, 24, .rw, 10, .range 1 15⟩ /- SRC_CFGk.DECAY 7 -/,
  ⟨0x60, 0, 1, 23, 0, .rw, 64, .any⟩ /- SRC_CFGk.WEIGHT 0 -/,
  ⟨0x64, 0, 1, 23, 0, .rw, 256, .any⟩ /- SRC_CFGk.WEIGHT 1 -/,
  ⟨0x68, 0, 1, 23, 0, .rw, 32, .any⟩ /- SRC_CFGk.WEIGHT 2 -/,
  ⟨0x6C, 0, 1, 23, 0, .rw, 1024, .any⟩ /- SRC_CFGk.WEIGHT 3 -/]

/-- Fields of PASS0.HEALTH (R489) (part 2). -/
def healthRows1 : List RegRow := [  ⟨0x70, 0, 1, 23, 0, .rw, 128, .any⟩ /- SRC_CFGk.WEIGHT 4 -/,
  ⟨0x74, 0, 1, 23, 0, .rw, 512, .any⟩ /- SRC_CFGk.WEIGHT 5 -/,
  ⟨0x78, 0, 1, 23, 0, .rw, 16, .any⟩ /- SRC_CFGk.WEIGHT 6 -/,
  ⟨0x7C, 0, 1, 23, 0, .rw, 4194304, .any⟩ /- SRC_CFGk.WEIGHT 7 -/,
  ⟨0x80, 4, 8, 31, 0, .ro, 0, .any⟩ /- SRC_ACCk.A -/,
  ⟨0xA0, 4, 8, 31, 24, .ro, 0, .any⟩ /- SRC_LASTk.UNIT -/,
  ⟨0xA0, 4, 8, 15, 0, .ro, 0, .any⟩ /- SRC_LASTk.E -/,
  ⟨0xC0, 0, 1, 2, 2, .wo, 0, .any⟩ /- TERRACE_CTL.RESTORE -/,
  ⟨0xC0, 0, 1, 1, 1, .wo, 0, .any⟩ /- TERRACE_CTL.INVALIDATE -/,
  ⟨0xC0, 0, 1, 0, 0, .wo, 0, .any⟩ /- TERRACE_CTL.NOW -/,
  ⟨0xC4, 0, 1, 27, 24, .ro, 0, .any⟩ /- TERRACE_STAT.STATE -/,
  ⟨0xC4, 0, 1, 15, 8, .ro, 0, .any⟩ /- TERRACE_STAT.BAD -/,
  ⟨0xC4, 0, 1, 2, 2, .ro, 0, .any⟩ /- TERRACE_STAT.PUSHING -/,
  ⟨0xC4, 0, 1, 1, 1, .ro, 0, .any⟩ /- TERRACE_STAT.RESTORING -/,
  ⟨0xC4, 0, 1, 0, 0, .ro, 0, .any⟩ /- TERRACE_STAT.HOLDING -/,
  ⟨0xC8, 0, 1, 31, 0, .ro, 0, .any⟩ /- TERRACE_BEAT_LO.BEAT -/,
  ⟨0xCC, 0, 1, 31, 0, .ro, 0, .any⟩ /- TERRACE_BEAT_HI.BEAT -/,
  ⟨0xD0, 0, 1, 31, 0, .ro, 0, .any⟩ /- HOLD_CLOCKS.CLOCKS -/,
  ⟨0xD4, 0, 1, 31, 0, .rw, 0, .any⟩ /- TERRACE_HOST_LO.ADDR -/,
  ⟨0xD8, 0, 1, 31, 0, .rw, 0, .any⟩ /- TERRACE_HOST_HI.ADDR -/,
  ⟨0xDC, 0, 1, 31, 0, .rw, 0, .any⟩ /- TERRACE_HOST_SIZE.MIB -/,
  ⟨0xE0, 0, 1, 31, 6, .rw, 0, .any⟩ /- TERRACE_WIN_OFS.OFS -/,
  ⟨0xE4, 0, 1, 27, 24, .ro, 0, .any⟩ /- RESTORE_STAT.RESULT -/,
  ⟨0xE4, 0, 1, 15, 0, .ro, 0, .any⟩ /- RESTORE_STAT.PARTS -/,
  ⟨0xF0, 4, 4, 31, 0, .ro, 0, .any⟩ /- FENCEDk.FENCED -/,
  ⟨0x100, 4, 16, 31, 0, .ro, 0, .any⟩ /- TERRACE_WINn.DATA -/]

/-- All fields of PASS0.HEALTH (R489). -/
def healthRows : List RegRow := healthRows0 ++ healthRows1

/-- Fields of PLAINp (R593). -/
def plainRows : List RegRow := [  ⟨0x40, 0, 1, 15, 12, .ro, 0, .any⟩ /- PLAIN_STAT.D2D_FAILED -/,
  ⟨0x40, 0, 1, 8, 8, .ro, 0, .any⟩ /- PLAIN_STAT.STACK_FAILED -/,
  ⟨0x40, 0, 1, 7, 0, .ro, 0, .any⟩ /- PLAIN_STAT.VALES_FENCED -/]

/-- Fields of PLAINp.ECHO (R152). -/
def echoRows : List RegRow := [  ⟨0x10, 0, 1, 1, 1, .w1c, 0, .any⟩ /- IRQ_STAT.DROP -/,
  ⟨0x10, 0, 1, 0, 0, .w1c, 0, .any⟩ /- IRQ_STAT.DISAGREE -/,
  ⟨0x40, 0, 1, 0, 0, .rw, 1, .any⟩ /- ECHO_CTL.EN -/,
  ⟨0x44, 0, 1, 16, 16, .ro, 0, .any⟩ /- ECHO_STAT.BUSY -/,
  ⟨0x44, 0, 1, 9, 0, .ro, 512, .any⟩ /- ECHO_STAT.FREE_KIB -/,
  ⟨0x48, 0, 1, 31, 0, .rc, 0, .any⟩ /- ECHO_SAMPLED_CNT.COUNT -/,
  ⟨0x4C, 0, 1, 31, 0, .rc, 0, .any⟩ /- ECHO_DISAGREE_CNT.COUNT -/,
  ⟨0x50, 0, 1, 31, 0, .rc, 0, .any⟩ /- ECHO_DROP_CNT.COUNT -/,
  ⟨0x54, 0, 1, 31, 31, .ro, 0, .any⟩ /- ECHO_LAST_TAG.VALID -/,
  ⟨0x54, 0, 1, 27, 24, .ro, 0, .any⟩ /- ECHO_LAST_TAG.PART -/,
  ⟨0x54, 0, 1, 23, 0, .ro, 0, .any⟩ /- ECHO_LAST_TAG.TAG -/,
  ⟨0x58, 0, 1, 31, 0, .ro, 0, .any⟩ /- ECHO_LAST_IDX_LO.INDEX -/,
  ⟨0x5C, 0, 1, 22, 16, .ro, 0, .any⟩ /- ECHO_LAST_IDX_HI.VALE -/,
  ⟨0x5C, 0, 1, 15, 0, .ro, 0, .any⟩ /- ECHO_LAST_IDX_HI.INDEX -/,
  ⟨0x60, 0, 1, 31, 0, .ro, 0, .any⟩ /- ECHO_LAST_DIFF.D -/]

/-- Fields of SEQ (R594). -/
def seqRows : List RegRow := [  ⟨0x40, 0, 1, 0, 0, .wo, 0, .any⟩ /- SEQ_CTL.CNT_CLR -/,
  ⟨0x44, 0, 1, 27, 24, .ro, 0, .any⟩ /- SEQ_STAT.PART -/,
  ⟨0x44, 0, 1, 23, 23, .ro, 0, .any⟩ /- SEQ_STAT.OWNED -/,
  ⟨0x44, 0, 1, 22, 22, .ro, 0, .any⟩ /- SEQ_STAT.TEST -/,
  ⟨0x44, 0, 1, 21, 20, .ro, 0, .any⟩ /- SEQ_STAT.SET -/,
  ⟨0x44, 0, 1, 9, 0, .ro, 0, .any⟩ /- SEQ_STAT.INFLIGHT -/,
  ⟨0x48, 0, 1, 31, 0, .ro, 0, .any⟩ /- DISPATCH_LO.COUNT -/,
  ⟨0x4C, 0, 1, 31, 0, .ro, 0, .any⟩ /- DISPATCH_HI.COUNT -/,
  ⟨0x50, 0, 1, 31, 0, .rc, 0, .any⟩ /- REISSUE_CNT.COUNT -/]

/-- Fields of ELEM (R188). -/
def elemRows : List RegRow := [  ⟨0x40, 0, 1, 1, 1, .wo, 0, .any⟩ /- ELEM_CTL.CNT_CLR -/,
  ⟨0x40, 0, 1, 0, 0, .wo, 0, .any⟩ /- ELEM_CTL.PM_FLUSH -/,
  ⟨0x44, 0, 1, 23, 16, .ro, 0, .any⟩ /- ELEM_STAT.PROG_BLOCK -/,
  ⟨0x44, 0, 1, 7, 4, .ro, 0, .any⟩ /- ELEM_STAT.WAIT_CAUSE -/,
  ⟨0x44, 0, 1, 1, 1, .ro, 0, .any⟩ /- ELEM_STAT.LOADING -/,
  ⟨0x44, 0, 1, 0, 0, .ro, 0, .any⟩ /- ELEM_STAT.RUNNING -/,
  ⟨0x48, 0, 1, 15, 0, .ro, 1, .any⟩ /- TABLE_REV.REV -/,
  ⟨0x4C, 0, 1, 15, 0, .ro, 0, .any⟩ /- PM_RESIDENT.VALID -/,
  ⟨0x50, 0, 1, 31, 0, .ro, 0, .any⟩ /- BLOCKS_LO.COUNT -/,
  ⟨0x54, 0, 1, 31, 0, .ro, 0, .any⟩ /- BLOCKS_HI.COUNT -/,
  ⟨0x58, 0, 1, 31, 0, .ro, 0, .any⟩ /- ISSUE_LO.COUNT -/,
  ⟨0x5C, 0, 1, 31, 0, .ro, 0, .any⟩ /- ISSUE_HI.COUNT -/,
  ⟨0x60, 0, 1, 31, 0, .ro, 0, .any⟩ /- WAIT_LO.COUNT -/,
  ⟨0x64, 0, 1, 31, 0, .ro, 0, .any⟩ /- WAIT_HI.COUNT -/,
  ⟨0x68, 0, 1, 31, 0, .rc, 0, .any⟩ /- OC_CE_CNT.COUNT -/]

/-- Fields of STREAM (R245). -/
def streamRows : List RegRow := [  ⟨0x10, 0, 1, 1, 1, .w1c, 0, .any⟩ /- IRQ_STAT.SPILL -/,
  ⟨0x10, 0, 1, 0, 0, .w1c, 0, .any⟩ /- IRQ_STAT.FAULT -/,
  ⟨0x40, 0, 1, 2, 2, .wo, 0, .any⟩ /- STRM_CTL.CNT_CLR -/,
  ⟨0x40, 0, 1, 1, 0, .rw, 1, .any⟩ /- STRM_CTL.LOOKAHEAD -/,
  ⟨0x44, 0, 1, 29, 16, .ro, 0, .any⟩ /- STRM_STAT.POOL_FREE -/,
  ⟨0x44, 0, 1, 8, 4, .ro, 0, .any⟩ /- STRM_STAT.STOPPED -/,
  ⟨0x44, 0, 1, 1, 1, .ro, 0, .any⟩ /- STRM_STAT.SPILLING -/,
  ⟨0x44, 0, 1, 0, 0, .ro, 0, .any⟩ /- STRM_STAT.EARLY -/,
  ⟨0x48, 0, 1, 31, 0, .rc, 0, .any⟩ /- SPILL_CNT.COUNT -/,
  ⟨0x4C, 0, 1, 31, 0, .ro, 0, .any⟩ /- SPILL_BYTES_LO.COUNT -/,
  ⟨0x50, 0, 1, 31, 0, .ro, 0, .any⟩ /- SPILL_BYTES_HI.COUNT -/,
  ⟨0x54, 0, 1, 31, 0, .rc, 0, .any⟩ /- FAULT_CNT.COUNT -/,
  ⟨0x58, 0, 1, 31, 0, .ro, 0, .any⟩ /- FAULT_WAIT_LO.COUNT -/,
  ⟨0x5C, 0, 1, 31, 0, .ro, 0, .any⟩ /- FAULT_WAIT_HI.COUNT -/]

/-- Fields of ARRAYa (R120). -/
def arrayRows : List RegRow := [  ⟨0x40, 0, 1, 1, 1, .wo, 0, .any⟩ /- ARR_CTL.CNT_CLR -/,
  ⟨0x40, 0, 1, 0, 0, .rw, 1, .any⟩ /- ARR_CTL.WATCH_EN -/,
  ⟨0x44, 0, 1, 11, 8, .ro, 0, .any⟩ /- ARR_STAT.WFMT -/,
  ⟨0x44, 0, 1, 7, 4, .ro, 0, .any⟩ /- ARR_STAT.AFMT -/,
  ⟨0x44, 0, 1, 3, 3, .ro, 0, .any⟩ /- ARR_STAT.SHADOW_VALID -/,
  ⟨0x44, 0, 1, 2, 2, .ro, 0, .any⟩ /- ARR_STAT.TILE_VALID -/,
  ⟨0x44, 0, 1, 1, 1, .ro, 0, .any⟩ /- ARR_STAT.STREAMING -/,
  ⟨0x44, 0, 1, 0, 0, .ro, 0, .any⟩ /- ARR_STAT.WAITING -/,
  ⟨0x48, 0, 1, 23, 0, .ro, 0, .any⟩ /- TILE_TAG.TAG -/,
  ⟨0x50, 4, 4, 31, 31, .rw, 0, .any⟩ /- SAT_WATCH_TAGn.VALID -/,
  ⟨0x50, 4, 4, 23, 0, .rw, 0, .any⟩ /- SAT_WATCH_TAGn.TAG -/,
  ⟨0x60, 4, 4, 31, 0, .rc, 0, .any⟩ /- SAT_WATCH_CNTn.COUNT -/,
  ⟨0x70, 0, 1, 31, 0, .ro, 0, .any⟩ /- ROW_SLOTS_LO.COUNT -/,
  ⟨0x74, 0, 1, 31, 0, .ro, 0, .any⟩ /- ROW_SLOTS_HI.COUNT -/,
  ⟨0x78, 0, 1, 31, 0, .ro, 0, .any⟩ /- LOAD_WAIT_LO.COUNT -/,
  ⟨0x7C, 0, 1, 31, 0, .ro, 0, .any⟩ /- LOAD_WAIT_HI.COUNT -/,
  ⟨0x80, 0, 1, 31, 0, .rc, 0, .any⟩ /- ACC_CE_CNT.COUNT -/]

/-- Fields of COLLECT (R346). -/
def collectRows : List RegRow := [  ⟨0x10, 0, 1, 2, 2, .w1c, 0, .any⟩ /- IRQ_STAT.FAILED -/,
  ⟨0x10, 0, 1, 1, 1, .w1c, 0, .any⟩ /- IRQ_STAT.IN_DOUBT -/,
  ⟨0x10, 0, 1, 0, 0, .w1c, 0, .any⟩ /- IRQ_STAT.FAULT -/,
  ⟨0x40, 0, 1, 5, 4, .ro, 0, .any⟩ /- COLL_STAT.ATTEMPT -/,
  ⟨0x40, 0, 1, 3, 0, .ro, 0, .any⟩ /- COLL_STAT.STATE -/,
  ⟨0x44, 0, 1, 31, 0, .ro, 0, .any⟩ /- COLL_SEQ_CUR.SEQ -/,
  ⟨0x48, 0, 1, 1, 0, .wo, 0, .any⟩ /- COLL_RESOLVE.ACTION -/,
  ⟨0x4C, 0, 1, 31, 0, .rc, 0, .any⟩ /- ATTEMPT_FAULT_CNT.COUNT -/,
  ⟨0x50, 0, 1, 31, 0, .rc, 0, .any⟩ /- STALE_CNT.COUNT -/,
  ⟨0x54, 0, 1, 31, 0, .rc, 0, .any⟩ /- MSG_ERR_CNT.COUNT -/,
  ⟨0x58, 0, 1, 31, 31, .ro, 0, .any⟩ /- LAST_OUTCOME.VALID -/,
  ⟨0x58, 0, 1, 30, 30, .ro, 0, .any⟩ /- LAST_OUTCOME.RESULT -/,
  ⟨0x58, 0, 1, 29, 29, .ro, 0, .any⟩ /- LAST_OUTCOME.FINAL -/,
  ⟨0x58, 0, 1, 28, 27, .ro, 0, .any⟩ /- LAST_OUTCOME.ATTEMPT -/,
  ⟨0x58, 0, 1, 11, 0, .ro, 0, .any⟩ /- LAST_OUTCOME.SEQ -/]

/-- Fields of LINKk (R315). -/
def linkRows : List RegRow := [  ⟨0x10, 0, 1, 3, 3, .w1c, 0, .any⟩ /- IRQ_STAT.UP -/,
  ⟨0x10, 0, 1, 2, 2, .w1c, 0, .any⟩ /- IRQ_STAT.FAILED -/,
  ⟨0x10, 0, 1, 1, 1, .w1c, 0, .any⟩ /- IRQ_STAT.RECOVERY -/,
  ⟨0x10, 0, 1, 0, 0, .w1c, 0, .any⟩ /- IRQ_STAT.DOWN -/,
  ⟨0x40, 0, 1, 7, 4, .rw, 4, .range 1 15⟩ /- LINK_CTL.REPLAY_LIMIT -/,
  ⟨0x40, 0, 1, 0, 0, .rw, 1, .any⟩ /- LINK_CTL.EN -/,
  ⟨0x44, 0, 1, 14, 14, .ro, 0, .any⟩ /- LINK_STAT.PARTNER_VALID -/,
  ⟨0x44, 0, 1, 13, 13, .ro, 0, .any⟩ /- LINK_STAT.PARTNER_HW -/,
  ⟨0x44, 0, 1, 12, 8, .ro, 0, .any⟩ /- LINK_STAT.PARTNER_LINK -/,
  ⟨0x44, 0, 1, 3, 0, .ro, 0, .any⟩ /- LINK_STAT.STATE -/,
  ⟨0x48, 0, 1, 15, 0, .ro, 0, .any⟩ /- LATENCY.LAMBDA -/,
  ⟨0x4C, 0, 1, 31, 0, .rc, 0, .any⟩ /- RETRY_CNT.COUNT -/,
  ⟨0x50, 0, 1, 31, 0, .rc, 0, .any⟩ /- CRC_ERR_CNT.COUNT -/,
  ⟨0x54, 0, 1, 31, 0, .rc, 0, .any⟩ /- FEC_CORR_CNT.COUNT -/,
  ⟨0x58, 0, 1, 31, 0, .rc, 0, .any⟩ /- FEC_UNCORR_CNT.COUNT -/,
  ⟨0x5C, 0, 1, 31, 0, .rc, 0, .any⟩ /- RECOVERY_CNT.COUNT -/,
  ⟨0x60, 0, 1, 31, 0, .rc, 0, .any⟩ /- PROTO_ERR_CNT.COUNT -/,
  ⟨0x64, 0, 1, 31, 0, .ro, 0, .any⟩ /- FLITS_TX_LO.COUNT -/,
  ⟨0x68, 0, 1, 31, 0, .ro, 0, .any⟩ /- FLITS_TX_HI.COUNT -/,
  ⟨0x6C, 0, 1, 31, 0, .ro, 0, .any⟩ /- FLITS_RX_LO.COUNT -/,
  ⟨0x70, 0, 1, 31, 0, .ro, 0, .any⟩ /- FLITS_RX_HI.COUNT -/]

/-- Fields of FLOORs (R466). -/
def floorRows : List RegRow := [  ⟨0x10, 0, 1, 1, 1, .w1c, 0, .any⟩ /- IRQ_STAT.REPAIR -/,
  ⟨0x10, 0, 1, 0, 0, .w1c, 0, .any⟩ /- IRQ_STAT.UE -/,
  ⟨0x40, 0, 1, 8, 8, .rw, 1, .any⟩ /- SCRUB_RATE.EN -/,
  ⟨0x40, 0, 1, 7, 0, .rw, 24, .range 1 255⟩ /- SCRUB_RATE.PASS_HOURS -/,
  ⟨0x44, 0, 1, 29, 0, .ro, 0, .any⟩ /- SCRUB_POS.BLOCK -/,
  ⟨0x48, 0, 1, 31, 0, .ro, 0, .any⟩ /- SCRUB_PASSES.COUNT -/,
  ⟨0x4C, 0, 1, 31, 0, .rc, 0, .any⟩ /- CE_CNT.COUNT -/,
  ⟨0x50, 0, 1, 31, 0, .rc, 0, .any⟩ /- UE_CNT.COUNT -/,
  ⟨0x54, 0, 1, 31, 6, .ro, 0, .any⟩ /- UE_LAST_LO.ADDR -/,
  ⟨0x58, 0, 1, 31, 31, .ro, 0, .any⟩ /- UE_LAST_HI.SCRUB -/,
  ⟨0x58, 0, 1, 9, 0, .ro, 0, .any⟩ /- UE_LAST_HI.ADDR -/,
  ⟨0x5C, 0, 1, 31, 16, .ro, 0, .any⟩ /- REPAIR_STAT.SPARE_LEFT -/,
  ⟨0x5C, 0, 1, 15, 0, .ro, 0, .any⟩ /- REPAIR_STAT.PENDING -/,
  ⟨0x60, 0, 1, 23, 0, .rw, 16384, .any⟩ /- ACT_LIMIT.LIMIT -/,
  ⟨0x64, 0, 1, 7, 0, .rw, 4, .range 1 255⟩ /- ACT_REPAIR_AT.BLOCKS -/,
  ⟨0x68, 0, 1, 31, 0, .rc, 0, .any⟩ /- TREF_CNT.COUNT -/]

/-- Fields of FLOORs.FUU (R405). -/
def fuuRows : List RegRow := [  ⟨0x10, 0, 1, 0, 0, .w1c, 0, .any⟩ /- IRQ_STAT.UE -/,
  ⟨0x40, 0, 1, 7, 4, .ro, 0, .any⟩ /- FUU_STAT.PART -/,
  ⟨0x40, 0, 1, 1, 1, .ro, 0, .any⟩ /- FUU_STAT.PAUSED -/,
  ⟨0x40, 0, 1, 0, 0, .ro, 0, .any⟩ /- FUU_STAT.BUSY -/,
  ⟨0x44, 0, 1, 15, 0, .ro, 1, .any⟩ /- FUU_REV.REV -/,
  ⟨0x48, 0, 1, 31, 0, .ro, 0, .any⟩ /- FUU_BLOCKS_LO.COUNT -/,
  ⟨0x4C, 0, 1, 31, 0, .ro, 0, .any⟩ /- FUU_BLOCKS_HI.COUNT -/,
  ⟨0x50, 0, 1, 31, 0, .rc, 0, .any⟩ /- FUU_UE_CNT.COUNT -/,
  ⟨0x54, 0, 1, 31, 0, .ro, 0, .any⟩ /- FUU_LAST_UE_LO.ADDR -/,
  ⟨0x58, 0, 1, 31, 0, .ro, 0, .any⟩ /- FUU_LAST_UE_HI.ADDR -/]

/-- Fields of MP mailbox (R559). -/
def mpRows : List RegRow := [  ⟨0x10, 0, 1, 3, 3, .w1c, 0, .any⟩ /- IRQ_STAT.SETTINGS_RESET -/,
  ⟨0x10, 0, 1, 2, 2, .w1c, 0, .any⟩ /- IRQ_STAT.STAGED -/,
  ⟨0x10, 0, 1, 1, 1, .w1c, 0, .any⟩ /- IRQ_STAT.FIRST_FAULT -/,
  ⟨0x10, 0, 1, 0, 0, .w1c, 0, .any⟩ /- IRQ_STAT.MB_DONE -/,
  ⟨0x40, 0, 1, 7, 0, .wo, 0, .any⟩ /- MB_CMD.OP -/,
  ⟨0x44, 4, 2, 31, 0, .rw, 0, .any⟩ /- MB_ARGn.ARG -/,
  ⟨0x4C, 0, 1, 31, 31, .ro, 0, .any⟩ /- MB_STAT.BUSY -/,
  ⟨0x4C, 0, 1, 3, 0, .ro, 0, .any⟩ /- MB_STAT.RESULT -/,
  ⟨0x50, 0, 1, 31, 0, .ro, 0, .any⟩ /- SERIAL_LO.SERIAL -/,
  ⟨0x54, 0, 1, 31, 0, .ro, 0, .any⟩ /- SERIAL_HI.SERIAL -/,
  ⟨0x58, 0, 1, 31, 16, .ro, 0, .any⟩ /- FW_STAT.FW_REV -/,
  ⟨0x58, 0, 1, 5, 4, .ro, 0, .any⟩ /- FW_STAT.OTHER_STATE -/,
  ⟨0x58, 0, 1, 3, 3, .ro, 0, .any⟩ /- FW_STAT.ACT_PENDING -/,
  ⟨0x58, 0, 1, 2, 2, .ro, 0, .any⟩ /- FW_STAT.UPDATING -/,
  ⟨0x58, 0, 1, 0, 0, .ro, 0, .any⟩ /- FW_STAT.SLOT -/,
  ⟨0x5C, 0, 1, 12, 0, .ro, 0, .any⟩ /- STAGE_CHUNKS.COUNT -/,
  ⟨0x80, 0, 1, 17, 0, .rw, 0, .any⟩ /- MOR_IDX.INDEX -/,
  ⟨0x84, 0, 1, 17, 0, .ro, 0, .any⟩ /- MOR_HEAD.INDEX -/,
  ⟨0x88, 0, 1, 8, 0, .ro, 0, .any⟩ /- MOR_STAT.FF_COUNT -/,
  ⟨0x8C, 0, 1, 31, 0, .rc, 0, .any⟩ /- MOR_DROPPED.COUNT -/,
  ⟨0xC0, 4, 16, 31, 0, .ro, 0, .any⟩ /- MOR_DATAn.DATA -/,
  ⟨0x100, 4, 16, 31, 0, .ro, 0, .any⟩ /- MB_DATAn.DATA -/,
  ⟨0x204, 4, 48, 31, 31, .ro, 0, .any⟩ /- SENSID.VALID -/,
  ⟨0x204, 4, 48, 23, 0, .ro, 0, .any⟩ /- SENSID.VALUE -/]

/-- Fields of the partition page (R273) (part 1). -/
def partRows0 : List RegRow := [  ⟨0x40, 0, 1, 16, 16, .ro, 0, .any⟩ /- PART_STAT.METERED -/,
  ⟨0x40, 0, 1, 9, 0, .ro, 0, .any⟩ /- PART_STAT.INFLIGHT -/,
  ⟨0x1000, 64, 32, 31, 12, .rw, 0, .any⟩ /- SQ_BASE_LO.BASE -/,
  ⟨0x2000, 0, 1, 31, 12, .rw, 0, .any⟩ /- CQ_BASE_LO.BASE -/,
  ⟨0x1004, 64, 32, 31, 31, .rw, 0, .any⟩ /- SQ_BASE_HI.HOST -/,
  ⟨0x2004, 0, 1, 31, 31, .rw, 0, .any⟩ /- CQ_BASE_HI.HOST -/,
  ⟨0x1004, 64, 32, 30, 0, .rw, 0, .any⟩ /- SQ_BASE_HI.BASE -/,
  ⟨0x2004, 0, 1, 30, 0, .rw, 0, .any⟩ /- CQ_BASE_HI.BASE -/,
  ⟨0x1008, 64, 32, 3, 0, .rw, 4, .range 4 15⟩ /- SQ_SIZE.LOG2 -/,
  ⟨0x2008, 0, 1, 3, 0, .rw, 4, .range 4 15⟩ /- CQ_SIZE.LOG2 -/,
  ⟨0x100C, 64, 32, 14, 0, .rw, 0, .any⟩ /- SQ_TAIL.TAIL -/,
  ⟨0x1010, 64, 32, 14, 0, .ro, 0, .any⟩ /- SQ_HEAD.HEAD -/,
  ⟨0x1014, 64, 32, 1, 1, .wo, 0, .any⟩ /- JOB_CTL.CANCEL -/,
  ⟨0x1014, 64, 32, 0, 0, .wo, 0, .any⟩ /- JOB_CTL.RESUME -/,
  ⟨0x1018, 64, 32, 31, 16, .ro, 0, .any⟩ /- JOB_STAT.PENDING -/,
  ⟨0x1018, 64, 32, 11, 8, .ro, 0, .any⟩ /- JOB_STAT.HALT_DETAIL -/,
  ⟨0x1018, 64, 32, 7, 4, .ro, 0, .any⟩ /- JOB_STAT.HALT_STATUS -/,
  ⟨0x1018, 64, 32, 0, 0, .ro, 0, .any⟩ /- JOB_STAT.HALTED -/,
  ⟨0x200C, 0, 1, 14, 0, .ro, 0, .any⟩ /- CQ_TAIL.TAIL -/,
  ⟨0x2010, 0, 1, 14, 0, .rw, 0, .any⟩ /- CQ_HEAD.HEAD -/,
  ⟨0x2014, 0, 1, 15, 8, .rw, 0, .range 0 111⟩ /- CQ_CTL.VECTOR -/,
  ⟨0x2014, 0, 1, 0, 0, .rw, 0, .any⟩ /- CQ_CTL.IRQ_EN -/,
  ⟨0x2018, 0, 1, 31, 0, .wo, 0, .any⟩ /- FAULT_RESUME.RECORD -/,
  ⟨0x8004, 4, 4095, 19, 0, .rw, 0, .any⟩ /- TOKENt.COUNT -/,
  ⟨0x3000, 0, 1, 31, 12, .rw, 0, .any⟩ /- VQ_BASE_LO.BASE -/,
  ⟨0x3004, 0, 1, 30, 0, .rw, 0, .any⟩ /- VQ_BASE_HI.BASE -/,
  ⟨0x3008, 0, 1, 3, 0, .rw, 4, .range 4 12⟩ /- VQ_SIZE.LOG2 -/,
  ⟨0x300C, 0, 1, 11, 0, .rw, 0, .any⟩ /- VQ_TAIL.TAIL -/,
  ⟨0x3010, 0, 1, 11, 0, .ro, 0, .any⟩ /- VQ_HEAD.HEAD -/,
  ⟨0x3014, 0, 1, 0, 0, .wo, 0, .any⟩ /- VQ_CTL.RESUME -/]

/-- Fields of the partition page (R273) (part 2). -/
def partRows1 : List RegRow := [  ⟨0x3018, 0, 1, 28, 16, .ro, 0, .any⟩ /- VQ_STAT.PINS -/,
  ⟨0x3018, 0, 1, 7, 4, .ro, 0, .any⟩ /- VQ_STAT.HALT_STATUS -/,
  ⟨0x3018, 0, 1, 0, 0, .ro, 0, .any⟩ /- VQ_STAT.HALTED -/,
  ⟨0x3020, 0, 1, 31, 12, .rw, 0, .any⟩ /- VT_ADDR_LO.ADDR -/,
  ⟨0x3024, 0, 1, 31, 0, .rw, 0, .any⟩ /- VT_ADDR_HI.ADDR -/,
  ⟨0x4000, 0, 1, 31, 12, .rw, 0, .any⟩ /- UQ_BASE_LO.BASE -/,
  ⟨0x4004, 0, 1, 30, 0, .rw, 0, .any⟩ /- UQ_BASE_HI.BASE -/,
  ⟨0x4008, 0, 1, 3, 0, .rw, 4, .range 4 12⟩ /- UQ_SIZE.LOG2 -/,
  ⟨0x400C, 0, 1, 11, 0, .rw, 0, .any⟩ /- UQ_TAIL.TAIL -/,
  ⟨0x4010, 0, 1, 11, 0, .ro, 0, .any⟩ /- UQ_HEAD.HEAD -/,
  ⟨0x4014, 0, 1, 0, 0, .wo, 0, .any⟩ /- UQ_CTL.RESUME -/,
  ⟨0x4018, 0, 1, 7, 4, .ro, 0, .any⟩ /- UQ_STAT.HALT_STATUS -/,
  ⟨0x4018, 0, 1, 1, 1, .ro, 0, .any⟩ /- UQ_STAT.BUSY -/,
  ⟨0x4018, 0, 1, 0, 0, .ro, 0, .any⟩ /- UQ_STAT.HALTED -/,
  ⟨0x4040, 4, 16, 31, 0, .ro, 0, .any⟩ /- UQ_STEPk.STEP -/,
  ⟨0x5000, 0, 1, 31, 12, .rw, 0, .any⟩ /- RQ_BASE_LO.BASE -/,
  ⟨0x5004, 0, 1, 30, 0, .rw, 0, .any⟩ /- RQ_BASE_HI.BASE -/,
  ⟨0x5008, 0, 1, 3, 0, .rw, 4, .range 4 12⟩ /- RQ_SIZE.LOG2 -/,
  ⟨0x500C, 0, 1, 11, 0, .rw, 0, .any⟩ /- RQ_TAIL.TAIL -/,
  ⟨0x5010, 0, 1, 11, 0, .ro, 0, .any⟩ /- RQ_HEAD.HEAD -/,
  ⟨0x5014, 0, 1, 30, 16, .ro, 0, .any⟩ /- RQ_STAT.WAITING -/,
  ⟨0x5014, 0, 1, 14, 0, .ro, 0, .any⟩ /- RQ_STAT.DECODE -/,
  ⟨0x5018, 0, 1, 31, 0, .rw, 0, .any⟩ /- RT_ADDR_LO.ADDR -/,
  ⟨0x501C, 0, 1, 31, 0, .rw, 0, .any⟩ /- RT_ADDR_HI.ADDR -/,
  ⟨0x5020, 0, 1, 14, 0, .rw, 1, .any⟩ /- RT_COUNT.COUNT -/,
  ⟨0x5024, 0, 1, 20, 0, .rw, 0, .any⟩ /- KV_PAGE_BYTES.BYTES -/,
  ⟨0x5028, 0, 1, 15, 0, .rw, 0, .any⟩ /- KV_LAYERS.LAYERS -/,
  ⟨0x502C, 0, 1, 28, 16, .rw, 0, .any⟩ /- KV_HOT.BASE -/,
  ⟨0x502C, 0, 1, 12, 0, .rw, 0, .any⟩ /- KV_HOT.PAGES -/,
  ⟨0x5030, 0, 1, 31, 0, .rw, 0, .any⟩ /- KV_COLD_LO.ADDR -/]

/-- Fields of the partition page (R273) (part 3). -/
def partRows2 : List RegRow := [  ⟨0x5034, 0, 1, 31, 0, .rw, 0, .any⟩ /- KV_COLD_HI.ADDR -/,
  ⟨0x5038, 0, 1, 30, 0, .rw, 0, .any⟩ /- KV_COLD_PAGES.PAGES -/,
  ⟨0x5040, 0, 1, 31, 0, .rw, 0, .any⟩ /- AT_ADDR_LO.ADDR -/,
  ⟨0x5044, 0, 1, 31, 0, .rw, 0, .any⟩ /- AT_ADDR_HI.ADDR -/,
  ⟨0x5048, 0, 1, 10, 0, .rw, 0, .any⟩ /- AT_COUNT.COUNT -/,
  ⟨0x504C, 0, 1, 31, 0, .rw, 0, .any⟩ /- AP_BASE_LO.ADDR -/,
  ⟨0x5050, 0, 1, 31, 0, .rw, 0, .any⟩ /- AP_BASE_HI.ADDR -/,
  ⟨0x5054, 0, 1, 8, 0, .rw, 0, .any⟩ /- AP_SLOTS.SLOTS -/,
  ⟨0x5058, 0, 1, 31, 0, .rw, 0, .any⟩ /- AP_SLOT_BYTES.BYTES -/,
  ⟨0x5060, 0, 1, 31, 0, .rw, 0, .any⟩ /- PT_ADDR_LO.ADDR -/,
  ⟨0x5064, 0, 1, 31, 0, .rw, 0, .any⟩ /- PT_ADDR_HI.ADDR -/,
  ⟨0x5068, 0, 1, 12, 0, .rw, 0, .any⟩ /- PT_COUNT.COUNT -/,
  ⟨0x506C, 0, 1, 31, 0, .rw, 0, .any⟩ /- PP_BASE_LO.ADDR -/,
  ⟨0x5070, 0, 1, 31, 0, .rw, 0, .any⟩ /- PP_BASE_HI.ADDR -/,
  ⟨0x5074, 0, 1, 30, 0, .rw, 0, .any⟩ /- PP_PAGES.PAGES -/,
  ⟨0x5080, 0, 1, 31, 20, .rw, 0, .any⟩ /- RC_CTL.BOUNDARY_TOKEN -/,
  ⟨0x5080, 0, 1, 16, 12, .rw, 0, .any⟩ /- RC_CTL.DECODE_JOB -/,
  ⟨0x5080, 0, 1, 8, 4, .rw, 0, .any⟩ /- RC_CTL.PREFILL_JOB -/,
  ⟨0x5080, 0, 1, 0, 0, .rw, 0, .any⟩ /- RC_CTL.EN -/,
  ⟨0x5084, 0, 1, 27, 20, .rw, 0, .any⟩ /- RC_LIMITS.P_INIT -/,
  ⟨0x5084, 0, 1, 19, 16, .rw, 0, .any⟩ /- RC_LIMITS.HOLD -/,
  ⟨0x5084, 0, 1, 14, 8, .rw, 1, .any⟩ /- RC_LIMITS.MIN_DEC -/,
  ⟨0x5084, 0, 1, 6, 0, .rw, 1, .any⟩ /- RC_LIMITS.MIN_PRE -/,
  ⟨0x5088, 0, 1, 30, 16, .rw, 0, .any⟩ /- RC_QUEUE.Q_HI -/,
  ⟨0x5088, 0, 1, 14, 0, .rw, 0, .any⟩ /- RC_QUEUE.Q_LO -/,
  ⟨0x508C, 0, 1, 31, 16, .rw, 0, .any⟩ /- RC_SLACK.SLACK_HI -/,
  ⟨0x508C, 0, 1, 15, 0, .rw, 0, .any⟩ /- RC_SLACK.SLACK_LO -/,
  ⟨0x5090, 0, 1, 23, 20, .ro, 0, .any⟩ /- RC_STAT.HOLD_LEFT -/,
  ⟨0x5090, 0, 1, 17, 16, .ro, 0, .any⟩ /- RC_STAT.PENDING -/,
  ⟨0x5090, 0, 1, 15, 8, .ro, 0, .any⟩ /- RC_STAT.D -/]

/-- Fields of the partition page (R273) (part 4). -/
def partRows3 : List RegRow := [  ⟨0x5090, 0, 1, 7, 0, .ro, 0, .any⟩ /- RC_STAT.P -/,
  ⟨0x5094, 0, 1, 31, 0, .rc, 0, .any⟩ /- RC_MOVES.COUNT -/,
  ⟨0x6000, 0, 1, 31, 31, .rc, 0, .any⟩ /- FQ_NEXT.VALID -/,
  ⟨0x6000, 0, 1, 10, 0, .rc, 0, .any⟩ /- FQ_NEXT.INDEX -/,
  ⟨0x6004, 0, 1, 15, 8, .rw, 0, .range 0 111⟩ /- FQ_CTL.VECTOR -/,
  ⟨0x6004, 0, 1, 0, 0, .rw, 0, .any⟩ /- FQ_CTL.IRQ_EN -/,
  ⟨0x6008, 0, 1, 31, 0, .rc, 0, .any⟩ /- FQ_STAT.LOST -/,
  ⟨0x6010, 0, 1, 31, 21, .wo, 0, .any⟩ /- TLB_INV_LO.PAGE -/,
  ⟨0x6014, 0, 1, 31, 31, .wo, 0, .any⟩ /- TLB_INV_HI.GO -/,
  ⟨0x6014, 0, 1, 30, 30, .wo, 0, .any⟩ /- TLB_INV_HI.ALL -/,
  ⟨0x6014, 0, 1, 15, 0, .wo, 0, .any⟩ /- TLB_INV_HI.PAGE -/,
  ⟨0x6018, 0, 1, 0, 0, .ro, 0, .any⟩ /- TLB_STAT.BUSY -/,
  ⟨0x6020, 0, 1, 31, 0, .rw, 0, .any⟩ /- RS_ADDR_LO.ADDR -/,
  ⟨0x6024, 0, 1, 31, 0, .rw, 0, .any⟩ /- RS_ADDR_HI.ADDR -/,
  ⟨0x6028, 0, 1, 10, 0, .rw, 0, .any⟩ /- RS_COUNT.COUNT -/,
  ⟨0x602C, 0, 1, 31, 0, .rw, 0, .any⟩ /- RP_BASE_LO.ADDR -/,
  ⟨0x6030, 0, 1, 31, 0, .rw, 0, .any⟩ /- RP_BASE_HI.ADDR -/,
  ⟨0x6034, 0, 1, 26, 0, .rw, 0, .any⟩ /- RP_PAGES.PAGES -/,
  ⟨0x6038, 0, 1, 27, 16, .wo, 0, .any⟩ /- RES_CMD.SIGNAL -/,
  ⟨0x6038, 0, 1, 15, 12, .wo, 0, .any⟩ /- RES_CMD.OP -/,
  ⟨0x6038, 0, 1, 9, 0, .wo, 0, .any⟩ /- RES_CMD.ENTRY -/,
  ⟨0x603C, 0, 1, 31, 31, .ro, 0, .any⟩ /- RES_STAT.BUSY -/,
  ⟨0x603C, 0, 1, 3, 0, .ro, 0, .any⟩ /- RES_STAT.STATUS -/,
  ⟨0x7000, 0, 1, 31, 0, .rw, 0, .any⟩ /- DG_ADDR_LO.ADDR -/,
  ⟨0x7004, 0, 1, 31, 0, .rw, 0, .any⟩ /- DG_ADDR_HI.ADDR -/,
  ⟨0x7008, 0, 1, 31, 0, .rw, 0, .any⟩ /- DG_LEN_LO.LEN -/,
  ⟨0x700C, 0, 1, 31, 0, .rw, 0, .any⟩ /- DG_LEN_HI.LEN -/,
  ⟨0x7010, 0, 1, 31, 0, .rw, 0, .any⟩ /- DG_BEAT_LO.BEAT -/,
  ⟨0x7014, 0, 1, 31, 0, .rw, 0, .any⟩ /- DG_BEAT_HI.BEAT -/,
  ⟨0x7018, 0, 1, 27, 16, .wo, 0, .any⟩ /- DG_CTL.SIGNAL -/]

/-- Fields of the partition page (R273) (part 5). -/
def partRows4 : List RegRow := [  ⟨0x7018, 0, 1, 0, 0, .wo, 0, .any⟩ /- DG_CTL.GO -/,
  ⟨0x701C, 0, 1, 31, 31, .ro, 0, .any⟩ /- DG_STAT.BUSY -/,
  ⟨0x701C, 0, 1, 4, 4, .ro, 0, .any⟩ /- DG_STAT.LATE_START -/,
  ⟨0x701C, 0, 1, 3, 0, .ro, 0, .any⟩ /- DG_STAT.STATUS -/,
  ⟨0x7020, 4, 4, 31, 0, .ro, 0, .any⟩ /- DG_RESULT0–3.WORD -/]

/-- All fields of the partition page (R273). -/
def partRows : List RegRow := partRows0 ++ partRows1 ++ partRows2 ++ partRows3 ++ partRows4

end Sys2Proof.Machine
end

