-- ==== Sys2Proof/Machine/Pages.lean ====
section
/-! DEFINITION. Pages: where every block page lies, its header behaviour, its rows, and the reset value of every
register (R576 to R587). A register is named by one address: its offset in PF BAR0, and for the partition page of
partition n its VF BAR0 offset above 0x1000_0000 + n × 0x10_0000. -/

namespace Sys2Proof.Machine

/-- The number of a function: 0 for the PF, n + 1 for the VF of partition n (R6). -/
def fnNum : Fn → Nat
  | .pf => 0
  | .vf n => n.val + 1

/-- The base of the partition page of partition n. -/
def partBase (n : Nat) : Nat := 0x10000000 + 0x100000 * n

/-- The address of a function's BAR0 offset; none outside the BAR (R494). -/
def flatAddr (fn : Fn) (ofs : Nat) : Option Nat :=
  match fn with
  | .pf => if ofs < 0x4000000 then some ofs else none
  | .vf n => if ofs < 0x100000 then some (partBase n.val + ofs) else none

/-- The base of the vale region of g (R577). -/
def valeBase (g : Nat) : Nat := 0x1000000 + 0x100000 * (g / 8) + 0x10000 * (g % 8 + 1)

/-- The base address of a page (R576 to R578). -/
def pageBase : Page → Nat
  | .device => 0
  | .partcfg n => 0x1000 + 0x1000 * n.val
  | .mem => 0x11000
  | .pass n => 0x100000 + 0x40000 * n.val
  | .swb n => 0x102000 + 0x40000 * n.val
  | .health => 0x103000
  | .plain p => 0x1000000 + 0x100000 * p.val
  | .echo p => 0x1003000 + 0x100000 * p.val
  | .seq g => valeBase g.val
  | .elem g => valeBase g.val + 0x2000
  | .stream g => valeBase g.val + 0x3000
  | .array g a => valeBase g.val + 0x1000 * (4 + a.val)
  | .collect g => valeBase g.val + 0x8000
  | .link k => 0x2000000 + 0x1000 * k.val
  | .floor s => 0x3000000 + 0x10000 * s.val
  | .fuu s => 0x3001000 + 0x10000 * s.val
  | .mp => 0x3F00000
  | .part n => partBase n.val

/-- The page of a vale at an offset of its region (R577). -/
def valePageAt (g q : Nat) : Option Page :=
  match q with
  | 0 => some (.seq (Fin.ofNat 128 g))
  | 2 => some (.elem (Fin.ofNat 128 g))
  | 3 => some (.stream (Fin.ofNat 128 g))
  | 4 => some (.array (Fin.ofNat 128 g) 0)
  | 5 => some (.array (Fin.ofNat 128 g) 1)
  | 6 => some (.array (Fin.ofNat 128 g) 2)
  | 7 => some (.array (Fin.ofNat 128 g) 3)
  | 8 => some (.collect (Fin.ofNat 128 g))
  | _ => none

/-- The page of a pass die region at an offset of it (R577). -/
def passPageAt (n q : Nat) : Option Page :=
  match q with
  | 0 => some (.pass (Fin.ofNat 4 n))
  | 2 => some (.swb (Fin.ofNat 4 n))
  | 3 => if n = 0 then some .health else none
  | _ => none

/-- The page of a plain region at an offset of it (R577). -/
def plainPageAt (p o : Nat) : Option Page :=
  if o < 0x10000 then
    if o / 0x1000 = 0 then some (.plain (Fin.ofNat 16 p))
    else if o / 0x1000 = 3 then some (.echo (Fin.ofNat 16 p)) else none
  else if o < 0x90000 then valePageAt (8 * p + (o / 0x10000 - 1)) (o % 0x10000 / 0x1000)
  else none

/-- The page an address lies in; none where no page lies (R576, R11). -/
def pageAt (a : Nat) : Option Page :=
  if a < 0x1000 then some .device
  else if a < 0x11000 then some (.partcfg (Fin.ofNat 16 (a / 0x1000 - 1)))
  else if a < 0x12000 then some .mem
  else if 0x100000 ≤ a ∧ a < 0x200000 then passPageAt ((a - 0x100000) / 0x40000) (a % 0x40000 / 0x1000)
  else if 0x1000000 ≤ a ∧ a < 0x2000000 then plainPageAt ((a - 0x1000000) / 0x100000) (a % 0x100000)
  else if 0x2000000 ≤ a ∧ a < 0x2020000 then some (.link (Fin.ofNat 32 ((a - 0x2000000) / 0x1000)))
  else if 0x3000000 ≤ a ∧ a < 0x3140000 then
    if a % 0x10000 / 0x1000 = 0 then some (.floor (Fin.ofNat 20 ((a - 0x3000000) / 0x10000)))
    else if a % 0x10000 / 0x1000 = 1 then some (.fuu (Fin.ofNat 20 ((a - 0x3000000) / 0x10000))) else none
  else if 0x3F00000 ≤ a ∧ a < 0x3F01000 then some .mp
  else if 0x10000000 ≤ a ∧ a < 0x11000000 then some (.part (Fin.ofNat 16 ((a - 0x10000000) / 0x100000)))
  else none

/-- BLK_ID.TYPE of a page (R587). -/
def pageType : Page → Nat
  | .device => 0x0001 | .partcfg _ => 0x0041 | .mem => 0x0042 | .pass _ => 0x0050 | .swb _ => 0x0052
  | .health => 0x0053 | .plain _ => 0x0020 | .echo _ => 0x0024 | .seq _ => 0x0030 | .elem _ => 0x0032
  | .stream _ => 0x0033 | .array _ _ => 0x0031 | .collect _ => 0x0034 | .link _ => 0x0051 | .floor _ => 0x0060
  | .fuu _ => 0x0061 | .mp => 0x0070 | .part _ => 0x0040

/-- BLK_ID.INSTANCE of a page (R587). -/
def pageInstance : Page → Nat
  | .device => 0 | .partcfg n => n.val | .mem => 0 | .pass n => n.val | .swb n => n.val | .health => 0
  | .plain p => p.val | .echo p => p.val | .seq g => g.val | .elem g => g.val | .stream g => g.val
  | .array g a => 4 * g.val + a.val | .collect g => g.val | .link k => k.val | .floor s => s.val | .fuu s => s.val
  | .mp => 0 | .part n => n.val

/-- BLK_ID of a page (R580): SOURCE of its Moraine records. -/
def blkId (pg : Page) : Word := BitVec.ofNat 32 (0x10000 * pageType pg + pageInstance pg)

/-- Whether the header's FLAGS and SAT_COUNT are present (R587). -/
def pageHasFlags : Page → Bool
  | .echo _ | .array _ _ | .elem _ | .fuu _ => true
  | _ => false

/-- Whether BLK_CTL.FENCE is present (R587). -/
def pageHasFence : Page → Bool
  | .plain _ | .seq _ => true
  | _ => false

/-- The soft reset of a page (R584, R587). -/
inductive SoftReset where
  | none | regs | guarded
deriving DecidableEq, Repr

/-- Which soft reset a page has (R587). -/
def pageSoftReset : Page → SoftReset
  | .plain _ | .seq _ | .array _ _ | .elem _ | .stream _ | .collect _ | .link _ => .guarded
  | .echo _ | .pass _ | .swb _ | .floor _ | .fuu _ => .regs
  | _ => .none

/-- Whether BLK_CTL.EN freezes the page's counters (R585, R587). -/
def pageFreezes : Page → Bool
  | .plain _ | .echo _ | .seq _ | .array _ _ | .elem _ | .stream _ | .collect _ | .pass _ | .link _ | .swb _
  | .floor _ | .fuu _ => true
  | _ => false

/-- The PF vector of a page (R499, R587); the PASSn pages reach vector 0 through DEVICE. -/
def pageVector : Page → Option Nat
  | .device | .pass _ => some 0
  | .health => some 1
  | .mem => some 2
  | .mp => some 3
  | .swb n => some (4 + n.val)
  | .link k => some (8 + k.val)
  | .floor s => some (40 + s.val)
  | .fuu s => some (60 + s.val)
  | .echo p => some (80 + p.val)
  | .partcfg n => some (96 + n.val)
  | .stream g | .collect g => some (128 + g.val)
  | .plain _ | .seq _ | .elem _ | .array _ _ | .part _ => none

/-- The block-specific rows of a page, IRQ_STAT's among them. -/
def pageRows : Page → List RegRow
  | .device => deviceRows | .partcfg _ => partcfgRows | .mem => memRows | .pass _ => passRows | .swb _ => swbRows
  | .health => healthRows | .plain _ => plainRows | .echo _ => echoRows | .seq _ => seqRows | .elem _ => elemRows
  | .stream _ => streamRows | .array _ _ => arrayRows | .collect _ => collectRows | .link _ => linkRows
  | .floor _ => floorRows | .fuu _ => fuuRows | .mp => mpRows | .part _ => partRows

/-- A row that stands alone. -/
def row1 (ofs hi lo : Nat) (acc : Access) (reset : Nat) : RegRow := ⟨ofs, 0, 1, hi, lo, acc, reset, .any⟩

/-- The common header of a page but for IRQ_STAT, IRQ_EN and IRQ_FORCE (R579 to R582). -/
def headerRows (pg : Page) : List RegRow :=
  [row1 0x00 31 0 .ro (blkId pg).toNat, row1 0x04 31 0 .ro 0x00010000, row1 0x0C 2 0 .ro 0,
   row1 0x08 0 0 (if pageFreezes pg then .rw else .ro) 1] ++
  (if pageHasFence pg then [row1 0x08 2 2 .w1s 0] else []) ++
  (if pageSoftReset pg = .none then [] else [row1 0x08 1 1 .wo 0]) ++
  (if pageHasFlags pg then [row1 0x1C 3 0 .w1c 0, row1 0x20 31 0 .rc 0] else [])

/-- The rows of the register at offset o of a page (R579, R583): IRQ_EN has the layout of IRQ_STAT, and IRQ_FORCE
that of its event bits. -/
def rowsAt (pg : Page) (o : Nat) : List RegRow :=
  if o = 0x14 then ((pageRows pg).filter (·.covers 0x10)).map fun r => row1 0x14 r.hi r.lo .rw 0
  else if o = 0x18 then
    (((pageRows pg).filter (·.covers 0x10)).filter (·.acc == .w1c)).map fun r => row1 0x18 r.hi r.lo .wo 0
  else if o < 0x40 ∧ o ≠ 0x10 then (headerRows pg).filter (·.covers o)
  else (pageRows pg).filter (·.covers o)

/-- A register put together from the reset values of its rows. -/
def rowsReset (rs : List RegRow) : Word := rs.foldl (fun w r => setField w r.hi r.lo r.reset) 0#32

/-- Where an address lies: its page and the offset in it. -/
def locate (a : Nat) : Option (Page × Nat) := (pageAt a).map fun pg => (pg, a - pageBase pg)

/-- The rows of the register at an address (R11: none). -/
def rowsOf (a : Nat) : List RegRow :=
  match locate a with
  | none => []
  | some (pg, o) => rowsAt pg o

/-- REPAIR_STAT (R466), whose SPARE_LEFT comes from the firmware. -/
def isRepairStat (a : Nat) : Bool := decide (0x3000000 ≤ a) && decide (a < 0x3140000) && a % 0x10000 == 0x5C

/-- What a register reads at reset (R13, R466). -/
def regDefault (a : Nat) : Word :=
  if isRepairStat a then
    BitVec.ofNat 32 ((Config.spareRows ((a - 0x3000000) / 0x10000)).toNat * 0x10000)
  else rowsReset (rowsOf a)

/-- The 64-bit registers, by the offset of their low word in the page (R10): those a read of the low word latches. -/
def pairLow (pg : Page) (o : Nat) : Bool :=
  match pg with
  | .device => [0x48, 0xC8, 0x100].contains o
  | .partcfg _ => [0x70, 0x80, 0x88, 0xC0, 0xD0].contains o || (decide (0x100 ≤ o) && decide (o < 0x200) && o % 8 == 0)
  | .health => [0xC8, 0xD4].contains o
  | .echo _ => o == 0x58
  | .seq _ => o == 0x48
  | .elem _ => [0x50, 0x58, 0x60].contains o
  | .stream _ => [0x4C, 0x58].contains o
  | .array _ _ => [0x70, 0x78].contains o
  | .link _ => [0x64, 0x6C].contains o
  | .floor _ => o == 0x54
  | .fuu _ => [0x48, 0x54].contains o
  | .mp => o == 0x50
  | .part _ =>
    [0x2000, 0x3000, 0x3020, 0x4000, 0x5000, 0x5018, 0x5030, 0x5040, 0x504C, 0x5060, 0x506C, 0x6020, 0x602C,
     0x7000, 0x7008, 0x7010].contains o || (decide (0x1000 ≤ o) && decide (o < 0x1800) && o % 0x40 == 0)
  | .mem | .pass _ | .swb _ | .plain _ | .collect _ => false

end Sys2Proof.Machine
end

