-- ==== Sys2Proof/Machine/Flags.lean ====
section
/-! DEFINITION. Flags: the four arithmetic flags (R77, R78) and a rounded result with its flags. -/

namespace Sys2Proof.Machine

/-- Arithmetic flags in the layout of R78: [3] INVALID, [2] OVERFLOW, [1] UNDERFLOW, [0] INEXACT. -/
abbrev Flags := BitVec 4

/-- INEXACT (R77). -/
def Flags.inexact : Flags := 1#4
/-- UNDERFLOW (R77). -/
def Flags.underflow : Flags := 2#4
/-- OVERFLOW (R77). -/
def Flags.overflow : Flags := 4#4
/-- INVALID (R77). -/
def Flags.invalid : Flags := 8#4
/-- OVERFLOW and INEXACT, the flags of a saturation (R72, R73, R74). -/
def Flags.saturated : Flags := 5#4

/-- A flag raised on a condition. -/
def Flags.when (c : Bool) (f : Flags) : Flags := if c then f else 0#4

/-- A result code of some format, and the flags it raises. -/
structure Rounded where
  code : Nat
  flags : Flags
deriving DecidableEq, Repr

/-- A saturation event is a result that a rule replaced by a format limit (R80): those results set OVERFLOW. -/
def Rounded.saturates (r : Rounded) : Bool := r.flags.getLsbD 2

end Sys2Proof.Machine
end

