-- ==== Sys2Proof/Machine/Numbers.lean ====
section
/-! DEFINITION. Numbers: the floating-point, integer and codebook formats (R66 to R70), exact values, the one
rounding of R72 with the special values of R73, conversions (R74, R75) and codebook quantisation (R76). -/

namespace Sys2Proof.Machine

/-- A floating-point format (R66): mantissa bits, exponent bits, bias, the code of the largest finite magnitude, the
code of infinity where there is one, and the canonical NaN. -/
structure FpFmt where
  man : Nat
  exp : Nat
  bias : Nat
  maxCode : Nat
  infCode : Option Nat
  nanCode : Nat
deriving DecidableEq, Repr

/-- FP32 (R66). -/
def fp32 : FpFmt := ⟨23, 8, 127, 0x7F7FFFFF, some 0x7F800000, 0x7FC00000⟩
/-- BF16 (R66). -/
def bf16 : FpFmt := ⟨7, 8, 127, 0x7F7F, some 0x7F80, 0x7FC0⟩
/-- FP16 (R66). -/
def fp16 : FpFmt := ⟨10, 5, 15, 0x7BFF, some 0x7C00, 0x7E00⟩
/-- FP8 E5M2 (R66). -/
def e5m2 : FpFmt := ⟨2, 5, 15, 0x7B, some 0x7C, 0x7E⟩
/-- FP8 E4M3 (R66). -/
def e4m3 : FpFmt := ⟨3, 4, 7, 0x7E, none, 0x7F⟩

/-- The width of a format's codes. -/
def FpFmt.width (f : FpFmt) : Nat := f.man + f.exp + 1

/-- The value a code stands for. `fin neg m e` is (-1)^neg times m times 2^e. -/
inductive Val where
  | nan
  | inf (neg : Bool)
  | fin (neg : Bool) (m : Nat) (e : Int)
deriving DecidableEq, Repr

/-- The value of a floating-point code (R67). -/
def FpFmt.decode (f : FpFmt) (code : Nat) : Val :=
  let neg := bitOf code (f.width - 1)
  let ex := bitsOf code (f.man + f.exp - 1) f.man
  let m := code % 2 ^ f.man
  if ex = 2 ^ f.exp - 1 ∧ f.infCode.isSome then
    (if m ≠ 0 then .nan else .inf neg)
  else if ex = 2 ^ f.exp - 1 ∧ m = 2 ^ f.man - 1 then .nan
  else if ex = 0 then .fin neg m (1 - (f.bias : Int) - f.man)
  else .fin neg (2 ^ f.man + m) ((ex : Int) - f.bias - f.man)

/-- The exact outcome of an operation, before its one rounding (R71, R73). In `fin neg m e more`, the magnitude is
m * 2^e when `more` is false, and lies strictly between m * 2^e and (m + 1) * 2^e when it is true. -/
inductive Exact where
  | nan
  | invalid
  | inf (neg : Bool)
  | fin (neg : Bool) (m : Nat) (e : Int) (more : Bool)
deriving DecidableEq, Repr

/-- A value as an exact outcome. -/
def Val.exact : Val → Exact
  | .nan => .nan
  | .inf n => .inf n
  | .fin n m e => .fin n m e false

/-- m * 2^(-s) rounded to an integer, ties to even, with `more` set when the exact value lies above m; and whether the
result differs from the exact value. A non-positive s shifts left. -/
def roundShift (m : Nat) (s : Int) (more : Bool) : Nat × Bool :=
  if s ≤ 0 then (m * 2 ^ (-s).toNat, more)
  else if s.toNat > Nat.log2 m + 1 then (0, m != 0 || more)   -- below half of the last place
  else
    let q := m / 2 ^ s.toNat
    let r := m % 2 ^ s.toNat
    let half := 2 ^ (s.toNat - 1)
    let up := decide (r > half) || (r == half && (more || q % 2 == 1))
    (if up then q + 1 else q, r != 0 || more)

/-- The one rounding of a finite non-zero magnitude (R72): saturating, ties to even. -/
def FpFmt.roundFin (f : FpFmt) (neg : Bool) (m : Nat) (e : Int) (more : Bool) : Rounded :=
  let sign := boolBit neg * 2 ^ (f.width - 1)
  let emin : Int := 1 - f.bias
  let ex := max ((Nat.log2 m : Int) + e) emin
  let n := roundShift m (ex - f.man - e) more
  let code := (ex + f.bias - 1).toNat * 2 ^ f.man + n.1
  if code > f.maxCode then ⟨sign + f.maxCode, Flags.saturated⟩
  else ⟨sign + code,
    Flags.when n.2 Flags.inexact ||| Flags.when (n.2 && decide (code < 2 ^ f.man)) Flags.underflow⟩

/-- The rounding of an exact outcome to a format, with the special values of R73. -/
def FpFmt.round (f : FpFmt) : Exact → Rounded
  | .nan => ⟨f.nanCode, 0#4⟩
  | .invalid => ⟨f.nanCode, Flags.invalid⟩
  | .inf neg =>
    let sign := boolBit neg * 2 ^ (f.width - 1)
    match f.infCode with
    | some c => ⟨sign + c, 0#4⟩
    | none => ⟨sign + f.maxCode, Flags.saturated⟩
  | .fin neg m e more =>
    if m = 0 then
      (if more then f.roundFin neg 1 (e - 1) true else ⟨boolBit neg * 2 ^ (f.width - 1), 0#4⟩)
    else f.roundFin neg m e more

/-- The magnitude with its sign, at the exponent e0 not above its own. -/
def scaledInt (neg : Bool) (m : Nat) (e e0 : Int) : Int :=
  let x : Int := (m * 2 ^ (e - e0).toNat : Nat)
  if neg then -x else x

/-- The product of two values (R73). -/
def Val.mul : Val → Val → Exact
  | .nan, _ => .nan
  | _, .nan => .nan
  | .inf a, .inf b => .inf (a != b)
  | .inf a, .fin b m _ => if m = 0 then .invalid else .inf (a != b)
  | .fin a m _, .inf b => if m = 0 then .invalid else .inf (a != b)
  | .fin a m e, .fin b n g => .fin (a != b) (m * n) (e + g) false

/-- The sum of exact outcomes (R73): a NaN term gives NaN whatever the others are; an invalid term, or infinities of
opposite sign, is invalid; an exact zero is negative only when every term is a negative zero. -/
def Exact.sum (ts : List Exact) : Exact :=
  if ts.any (fun t => t == .nan) then .nan
  else if ts.any (fun t => t == .invalid) then .invalid
  else
    let pos := ts.any (fun t => t == .inf false)
    let neg := ts.any (fun t => t == .inf true)
    if pos && neg then .invalid
    else if pos then .inf false
    else if neg then .inf true
    else
      let e0 := ts.foldl (fun a t => match t with | .fin _ _ e _ => min a e | _ => a) (0 : Int)
      let total := ts.foldl (fun a t => match t with | .fin n m e _ => a + scaledInt n m e e0 | _ => a) (0 : Int)
      if total = 0 then
        .fin (!ts.isEmpty && ts.all (fun t => match t with | .fin n _ _ _ => n | _ => false)) 0 0 false
      else .fin (decide (total < 0)) total.natAbs e0 false

/-- The sum of values (R73). -/
def Val.sum (vs : List Val) : Exact := Exact.sum (vs.map Val.exact)

/-- The opposite value. -/
def Val.neg : Val → Val
  | .nan => .nan
  | .inf n => .inf (!n)
  | .fin n m e => .fin (!n) m e

/-- Whether a value is a zero. -/
def Val.isZero : Val → Bool
  | .fin _ m _ => m == 0
  | _ => false

/-- The quotient of two values (R73, R197): x / 0 with x finite and non-zero, and the infinities, are as R197 says. -/
def Val.div : Val → Val → Exact
  | .nan, _ => .nan
  | _, .nan => .nan
  | .inf _, .inf _ => .invalid
  | .inf a, .fin b _ _ => .inf (a != b)
  | .fin a _ _, .inf b => .fin (a != b) 0 0 false
  | .fin a m e, .fin b n g =>
    if n = 0 then (if m = 0 then .invalid else .inf (a != b))
    else .fin (a != b) (m * 2 ^ 64 / n) (e - g - 64) (m * 2 ^ 64 % n != 0)

/-- The integer square root by bits: the largest r below 2^k with r * r ≤ n, from a partial root. -/
def sqrtBits : Nat → Nat → Nat → Nat
  | 0, _, r => r
  | k + 1, n, r =>
    let t := r + 2 ^ k
    sqrtBits k n (if t * t ≤ n then t else r)

/-- The integer square root of n. -/
def natSqrt (n : Nat) : Nat := sqrtBits (Nat.log2 n / 2 + 1) n 0

/-- The square root of a value (R73, R197). -/
def Val.sqrt : Val → Exact
  | .nan => .nan
  | .inf false => .inf false
  | .inf true => .invalid
  | .fin neg m e =>
    if m = 0 then .fin neg 0 0 false
    else if neg then .invalid
    else
      let n := if e % 2 = 0 then m * 2 ^ 64 else m * 2 ^ 65
      let r := natSqrt n
      .fin false r ((if e % 2 = 0 then e - 64 else e - 65) / 2) (r * r != n)

/-- The reciprocal square root of a value (R197). -/
def Val.rsqrt : Val → Exact
  | .nan => .nan
  | .inf false => .fin false 0 0 false
  | .inf true => .invalid
  | .fin neg m e =>
    if m = 0 then .inf neg
    else if neg then .invalid
    else
      -- 1 / sqrt(m 2^e) = sqrt(2^(2k) / m) 2^(-k) 2^(-e/2), with e even
      let m' := if e % 2 = 0 then m else 2 * m
      let e' := if e % 2 = 0 then e else e - 1
      let k := Nat.log2 m' + 64
      let q := 2 ^ (2 * k) / m'
      let r := natSqrt q
      .fin false r (-(k : Int) - e' / 2) (r * r * m' != 2 ^ (2 * k))

/-- The order of two values neither of which is NaN: whether a < b. Zeros of either sign are equal. -/
def Val.lt : Val → Val → Bool
  | .nan, _ => false
  | _, .nan => false
  | .inf a, .inf b => a && !b
  | .inf a, .fin _ _ _ => a
  | .fin _ _ _, .inf b => !b
  | .fin a m e, .fin b n g =>
    let e0 := min e g
    decide (scaledInt a m e e0 < scaledInt b n g e0)

/-- Equality as numbers: false for NaN, zeros of either sign equal. -/
def Val.eqv (a b : Val) : Bool :=
  a != .nan && b != .nan && !(Val.lt a b) && !(Val.lt b a)

/-- An integer as a value. -/
def Val.ofInt (x : Int) : Val := .fin (decide (x < 0)) x.natAbs 0

/-- The FP32 value of a word. -/
def fval (w : Word) : Val := fp32.decode w.toNat

/-- An FP32 result: its word and flags. -/
def fres (x : Exact) : Word × Flags :=
  let r := fp32.round x
  (BitVec.ofNat 32 r.code, r.flags)

/-- Conversion to an integer format with limits lo and hi (R74): nearest, ties to even, saturating; the integer. -/
def Val.toInt (lo hi : Int) : Val → Int × Flags
  | .nan => (0, Flags.invalid)
  | .inf neg => (if neg then lo else hi, Flags.saturated)
  | .fin neg m e =>
    let n := roundShift m (-e) false
    let x : Int := if neg then -(n.1 : Int) else n.1
    if x > hi then (hi, Flags.saturated)
    else if x < lo then (lo, Flags.saturated)
    else (x, Flags.when n.2 Flags.inexact)

/-- The exact distance of two finite values, at the exponent `min` of theirs: magnitude and exponent. -/
def Val.dist : Val → Val → Nat × Int
  | .fin a m e, .fin b n g =>
    let e0 := min e g
    ((scaledInt a m e e0 - scaledInt b n g e0).natAbs, e0)
  | _, _ => (0, 0)

/-- Whether distance a is below distance b. -/
def distLt (a b : Nat × Int) : Bool :=
  let e0 := min a.2 b.2
  decide (a.1 * 2 ^ (a.2 - e0).toNat < b.1 * 2 ^ (b.2 - e0).toNat)

/-- The order of R76 on finite values for an infinite operand: by value, with -0 below +0. -/
def Val.below (a b : Val) : Bool :=
  Val.lt a b || (a.isZero && b.isZero && (match a, b with | .fin na _ _, .fin nb _ _ => na && !nb | _, _ => false))

/-- The better code so far, over the entries of a table in ascending code: ties keep the lower code. -/
def pickCode (better : Val → Val → Bool) : List Val → Nat → Option (Nat × Val) → Option (Nat × Val)
  | [], _, best => best
  | v :: vs, i, best =>
    if v = .nan then pickCode better vs (i + 1) best
    else
      match best with
      | none => pickCode better vs (i + 1) (some (i, v))
      | some (j, w) => pickCode better vs (i + 1) (if better v w then some (i, v) else some (j, w))

/-- Quantisation to a codebook whose entries have the given values (R76). -/
def quantCodebook (entries : List Val) (x : Val) : Rounded :=
  if entries.all (fun v => v == .nan) then ⟨0, Flags.invalid⟩
  else
    match x with
    | .nan => ⟨0, Flags.invalid⟩
    | .inf false =>
      match pickCode (fun v w => Val.below w v) entries 0 none with
      | some (c, _) => ⟨c, Flags.inexact⟩
      | none => ⟨0, Flags.invalid⟩
    | .inf true =>
      match pickCode (fun v w => Val.below v w) entries 0 none with
      | some (c, _) => ⟨c, Flags.inexact⟩
      | none => ⟨0, Flags.invalid⟩
    | .fin n m e =>
      match pickCode (fun v w => distLt (Val.dist (.fin n m e) v) (Val.dist (.fin n m e) w)) entries 0 none with
      | some (c, v) => ⟨c, Flags.when (!(Val.eqv v (.fin n m e))) Flags.inexact⟩
      | none => ⟨0, Flags.invalid⟩

/-- Stochastic rounding of an FP32 weight update to BF16 by the draw u (R82). -/
def stochRound (v u : Word) : Rounded :=
  if fval v = .nan then ⟨0x7FC0, Flags.invalid⟩
  else
    let hi := fieldOf v 31 16
    let lo := fieldOf v 15 0
    let h := if fieldOf u 31 16 < lo then (hi + 1) % 2 ^ 16 else hi
    let isInf := match fval v with | .inf _ => true | _ => false
    let past := bitsOf h 14 7 == 0xFF && !isInf
    let r := if past then fieldOf v 31 31 * 2 ^ 15 + 0x7F7F else h
    ⟨r, Flags.when past Flags.overflow ||| Flags.when (lo != 0) Flags.inexact⟩

end Sys2Proof.Machine
end

