-- ==== Sys2Proof/Machine/Units.lean ====
section
/-! DEFINITION. Units: the plain-data records of the part's units, each with its value at reset. -/

namespace Sys2Proof.Machine

/-- A pin the part drives (R563 to R571). -/
inductive Pin where
  | alert | fault | therm
deriving DecidableEq, Repr

/-- An AER error the part reports (R508). -/
inductive AerError where
  | correctedInternal | uncorrectableInternal | completionTimeout
deriving DecidableEq, Repr

/-- A census message (R521). -/
inductive CensusMsg where
  | call (num : BitVec 32) (head : BitVec 64)
  | report (num : BitVec 32) (r : CensusReport)
  | assign (num : BitVec 32) (a : CensusAssign)
  | leftOut (num : BitVec 32)
  | ready (num : BitVec 32) (down : Bool) (serial : BitVec 64)
deriving DecidableEq, Repr

/-- What the MP answers or sends (R533 to R549), by what it says; `sensorEvent` to `applyComplete` are messages of its own. -/
inductive Reply where
  | ok | error | alreadyInUpdateMode | notReady
  | sensorEvent | requestData | transferComplete | verifyComplete | applyComplete
deriving DecidableEq, Repr

/-- What the outside world sees the part do: the model's record of its outputs. -/
inductive Emit where
  | read (fn : Fn) (ofs : Nat) (v : BitVec 64)
  | bar2Data (bytes : List Byte) (ep : Bool)
  | unsupported (fn : Fn)
  | msix (fn : Fn) (vector : Nat)
  | hostWrite (fn : Fn) (pasid : Option Nat) (relaxed : Bool) (addr : Nat) (bytes : List Byte)
  | pageRequest (n : PartId) (pasid : Option Nat) (prg addr : Nat) (write : Bool)
  | invalidationDone (fn : Fn) (pasid page : Nat)
  | aer (fn : Fn) (e : AerError)
  | flit (k : Link) (bytes : List Byte)
  | trainEcho (k : Link) (sent turnaround : Nat)
  | pin (p : Pin) (asserted : Bool)
  | census (k : Link) (m : CensusMsg)
  | response (t : Transport) (r : Reply) (payload : List Byte)
deriving DecidableEq, Repr

/-- BEAT_STAT.STATE (R55). -/
inductive BeatState where
  | noBeat | locking | locked | flywheel | expired | slewing
deriving DecidableEq, Repr

/-- The STATE code (R55). -/
def beatCode : BeatState → Nat
  | .noBeat => 0 | .locking => 1 | .locked => 2 | .flywheel => 3 | .expired => 4 | .slewing => 5

/-- The beat unit (R32 to R57). Times are core clocks; `pLock` and `predicted`, the next predicted or flywheel crossing,
count 1/256 clock (R34). `edgesDue` holds the crossings whose internal edge has not come yet (R36); `counted`: an edge has
been counted since module reset (R38); `periods` and `accepted` are the periods measured in LOCKING and accepted in LOCKED
(R34, R35); `slewEdge`: the next internal edge is one that slewing moved (R48); `returning` counts the good periods of a returning beat (R48); `takeNumber`: a relock waits for its beat number
(R50); `expiredVoid` and `phaseVoid`: the void causes FLYWHEEL and BEAT_PHASE stand (R47, R50). -/
structure Beat where
  state : BeatState
  num : BitVec 64
  edgeClock : Nat
  edgesDue : List Nat
  counted : Bool
  pLock : Nat
  everLocked : Bool
  lastCross : Option Nat
  periods : List Nat
  accepted : List Nat
  predicted : Nat
  meteredValid : Bool
  expiredVoid : Bool
  phaseVoid : Bool
  origin : Bool
  phaseFault : Bool
  flyCount : Nat
  phaseErr : Int
  slewEdge : Bool
  returning : Option Nat
  fallingPol : Bool
  takeNumber : Bool
deriving DecidableEq, Repr

/-- The beat unit at module reset (R55). -/
def Beat.reset : Beat :=
  { state := .noBeat, num := 0#64, edgeClock := 0, edgesDue := [], counted := false, pLock := 0, everLocked := false,
    lastCross := none, periods := [], accepted := [], predicted := 0, meteredValid := false, expiredVoid := false,
    phaseVoid := false, origin := false, phaseFault := false, flyCount := 0, phaseErr := 0,
    slewEdge := false, returning := none, fallingPol := false, takeNumber := false }

/-- An entry of the page grant table (R442): the writer partition, and the readers as a mask. -/
structure Grant where
  writer : Option PartId
  readers : Nat
deriving DecidableEq, Repr

/-- The grant operation in progress (R443, R444): whether it withdraws, its run, its partition. -/
structure GrantOp where
  withdraw : Bool
  first : Nat
  count : Nat
  part : PartId
deriving DecidableEq, Repr

/-- A cached translation (R448): a valid level-2 entry of a virtual page: its physical page and WRITE. -/
structure Trans where
  page : Nat
  dpa : Nat
  write : Bool
deriving DecidableEq, Repr

/-- An MSI-X table entry of a function (R494, R499). -/
structure MsixEntry where
  addr : BitVec 64
  data : BitVec 32
  masked : Bool
  pending : Bool
deriving DecidableEq, Repr

/-- The state of one PCIe function: the configuration-space controls that the spec's rules read (R493, R500 to R506). -/
structure FnState where
  msixOn : Bool
  fnMask : Bool
  ats : Bool
  pri : Bool
  pasidOn : Bool
  relaxed : Bool
  allocation : Nat
  responseFailure : Bool
  d3 : Bool
  atsCache : List (Nat × Nat)
deriving DecidableEq, Repr

/-- A PCIe function after reset (R497); Enable Relaxed Ordering is set, as the PCI Express specification has it. PRESUMED. -/
def FnState.reset : FnState :=
  { msixOn := false, fnMask := false, ats := false, pri := false, pasidOn := false, relaxed := true, allocation := 0,
    responseFailure := false, d3 := false, atsCache := [] }

/-- The events the MP journals, one name per rule that writes a Moraine record (R554). -/
inductive MorEvent where
  | bootStart | bootFailed
  | linkMismatch | beatLoss | beatExpiry | beatPhaseFault
  | voidCompletion | lateCommit
  | pcfgDone | degraded | testEnd
  | rcMove
  | uncorrectable | repair
  | linkFailed
  | closeDecided | inDoubt | attemptFault | collFailed | turnFailed | overBudget
  | alert | holdEnded | restoreDone | fenced | tripped | echoFailed
  | stagingChoice | verifyEnd | updateTimeout | settingsReset
  | censusConflict | leftOut
  | suppressed | dropped
deriving DecidableEq, Repr

/-- The CLASS of an event (R554); the table names none for the record of R426. -/
def morClass : MorEvent → Nat
  | .bootStart | .bootFailed => 0x01
  | .linkMismatch | .beatLoss | .beatExpiry | .beatPhaseFault => 0x02
  | .voidCompletion | .lateCommit => 0x03
  | .pcfgDone | .degraded | .testEnd => 0x04
  | .rcMove => Config.rcMoveClass.toNat
  | .uncorrectable | .repair => 0x05
  | .linkFailed => 0x06
  | .closeDecided | .inDoubt | .attemptFault | .collFailed | .turnFailed | .overBudget => 0x07
  | .alert | .holdEnded | .restoreDone | .fenced | .tripped | .echoFailed => 0x08
  | .stagingChoice | .verifyEnd | .updateTimeout | .settingsReset => 0x09
  | .censusConflict | .leftOut => 0x0A
  | .suppressed | .dropped => 0x0F

/-- The model's number of an event, the key of its CODE and severity in Config. -/
def morNumber : MorEvent → Nat
  | .bootStart => 0 | .bootFailed => 1 | .linkMismatch => 3 | .beatLoss => 4 | .beatExpiry => 5
  | .beatPhaseFault => 6 | .voidCompletion => 7 | .lateCommit => 8 | .pcfgDone => 9 | .degraded => 10 | .testEnd => 11
  | .uncorrectable => 12 | .repair => 13 | .linkFailed => 14 | .closeDecided => 15 | .inDoubt => 16
  | .attemptFault => 17 | .collFailed => 18 | .turnFailed => 19 | .overBudget => 20 | .alert => 21 | .holdEnded => 22
  | .restoreDone => 23 | .fenced => 24 | .tripped => 25 | .echoFailed => 26 | .stagingChoice => 27 | .verifyEnd => 28
  | .updateTimeout => 29 | .settingsReset => 30 | .censusConflict => 31 | .leftOut => 32 | .suppressed => 33
  | .dropped => 34 | .rcMove => 35

/-- A record waiting for the journal (R553, R556), with what it holds of the moment of its event. -/
structure MorEntry where
  event : MorEvent
  source : BitVec 32
  beat : BitVec 64
  ms : BitVec 32
  payload : List (BitVec 32)
deriving DecidableEq, Repr

/-- One lane of an element engine (R154): e0 to e15, p0 to p7 as a mask (p0 reads 1 whatever the bit), the flags. -/
structure Lane where
  e : Vector Word 16
  p : BitVec 8
  flags : Flags
deriving DecidableEq, Repr

/-- A lane at the dispatch of an ELEMENT stage (R155). -/
def Lane.reset : Lane := { e := Vector.replicate 16 0#32, p := 0#8, flags := 0#4 }

/-- The loop under way in a program (R209). -/
structure LoopSt where
  first : Nat
  last : Nat
  iter : Nat
  count : Nat
deriving DecidableEq, Repr

/-- The compress outstanding in a block (R210): its predicate, its lanes in ascending order. -/
structure CompressSt where
  pred : BitVec 3
  pneg : Bool
  lanes : List Nat
deriving DecidableEq, Repr

/-- The block an element engine is working on (R160 to R164): the command's slot, its first program block, the index of
the next instruction, the positions the block takes and whether it is the stage's last, the loop, the live lanes as a
mask, the compress, the epilogue words once read, the positions that each queue's QWRs have written. -/
structure Blk where
  slot : Nat
  base : Nat
  pc : Nat
  count : Nat
  final : Bool
  loop : Option LoopSt
  live : Nat
  compress : Option CompressSt
  packCount : Nat
  epi : Option (List Word)
  written : List (Nat × Nat)
deriving DecidableEq, Repr

/-- The wait causes of an element engine (R187). -/
inductive WaitCause where
  | none | epilogue | line | queueEmpty | queueFull | progLoad | ocZero
deriving DecidableEq, Repr

/-- The WAIT_CAUSE code (R187). -/
def waitCode : WaitCause → Nat
  | .none => 0 | .epilogue => 1 | .line => 2 | .queueEmpty => 3 | .queueFull => 4 | .progLoad => 5 | .ocZero => 6

/-- The state of an operand cache line (R168): FILLs issued and not landed, DRAINs issued and not read out. -/
structure LineSt where
  fills : Nat
  drains : Nat
deriving DecidableEq, Repr

/-- The element engine of a vale (R154, R157, R168): lanes, the residency tag of each program block (partition and
source address), line states, the block under way, the wait cause, whether PM_FLUSH is due. -/
structure ElemSt where
  lanes : List (Nat × Lane)
  resident : List (Nat × Option (PartId × Nat))
  lines : List (Nat × LineSt)
  blk : Option Blk
  wait : WaitCause
  loading : Bool
  stage : Option Nat
  flushDue : Bool
deriving DecidableEq, Repr

/-- An element engine at reset (R159). -/
def ElemSt.reset : ElemSt :=
  { lanes := [], resident := [], lines := [], blk := none, wait := .none, loading := false, stage := none,
    flushDue := false }

/-- A tile in the cells of an array (R97 to R100): its bytes, its codebook table, its formats and valid sizes, the
command it belongs to, its column sums. -/
structure Tile where
  slot : Nat
  index : Nat
  bytes : List Byte
  table : List Byte
  wfmt : Nat
  kValid : Nat
  nValid : Nat
  tag : Nat
  sums : List Int
deriving DecidableEq, Repr

/-- A matrix array (R97, R100, R122): active and shadow cells, the column-sum rows by the first bank row of their
region, and the status of R122. The bank words lie in memory. -/
structure ArraySt where
  active : Option Tile
  shadow : Option Tile
  colSums : List (Nat × List Int)
  stat : Word
  tileTag : Word
  waiting : Bool
deriving DecidableEq, Repr

/-- An array at reset (R111). -/
def ArraySt.reset : ArraySt :=
  { active := none, shadow := none, colSums := [], stat := 0#32, tileTag := 0#32, waiting := false }

/-- A vale (R14, R485): its owner, its fence, its test hold, its ratio-controller set and the set a fence took it from, its
engines. -/
structure ValeSt where
  owner : Option PartId
  fenced : Bool
  test : Bool
  set : Nat
  lastSet : Nat
  elem : ElemSt
  arrays : List (Nat × ArraySt)
  stallBeats : Nat
deriving DecidableEq, Repr

/-- A vale at reset. -/
def ValeSt.reset : ValeSt :=
  { owner := none, fenced := false, test := false, set := 0, lastSet := 0, elem := ElemSt.reset, arrays := [], stallBeats := 0 }

/-- A queue of a command (R220, R221, R237, R263). `head` and `tail` count nibbles read and written since the stage
began; `tile` and `slot` are the bytes of a tile and of its slot in a tile queue, 0 in another; `holes` are the positions no QWR wrote; `spill` is the stretch that lies in the spill area (R239). -/
structure Queue where
  mode : Nat
  pooled : Bool
  addr : Nat
  size : Nat
  tile : Nat
  slot : Nat
  floorG : Nat
  head : Nat
  tail : Nat
  eos : Bool
  width : Nat
  skipped : Nat
  holes : List (Nat × Nat)
  spill : Option (Nat × Nat)
deriving DecidableEq, Repr

/-- A queue that is not in use. -/
def Queue.unused : Queue :=
  { mode := 0, pooled := false, addr := 0, size := 0, tile := 0, slot := 0, floorG := 0, head := 0, tail := 0, eos := false, width := 0,
    skipped := 0, holes := [], spill := none }

/-- Why a transfer is stopped (R241, R242, R504): waiting to send its request, waiting for a PRG response, or waiting
for a fault record to be resumed. -/
inductive StopKind where
  | unsent
  | prg (index : Nat)
  | record (index : Nat)
deriving DecidableEq, Repr

/-- The progress of one transfer entry (R240 to R243): its cursor as a count of bytes, whether it started and ended, its
stop, whether it delivers zeros (or discards) from its cursor on, and the operand cache lines it is done with (R168). -/
structure Xfer where
  pos : Nat
  started : Bool
  done : Bool
  stop : Option StopKind
  zeros : Bool
  lines : List Nat
deriving DecidableEq, Repr

/-- A transfer that has not started. -/
def Xfer.fresh : Xfer := { pos := 0, started := false, done := false, stop := none, zeros := false, lines := [] }

/-- The MATRIX stage of a command: whether it started, the latched scales (R114), the tiles made active, the rows
streamed through the active one (R97), the rows released (R109), and, where its OUT_TAG was eligible for echo sampling
at its start, the record's STEP and ECHO_RATE (R144, R145). -/
structure MatrixSt where
  started : Bool
  sw : Word
  sa : Word
  tile : Nat
  row : Nat
  released : Nat
  echo : Option (Nat × Nat)
deriving DecidableEq, Repr

/-- A MATRIX stage that has not started. -/
def MatrixSt.fresh : MatrixSt :=
  { started := false, sw := 0#32, sa := 0#32, tile := 0, row := 0, released := 0, echo := none }

/-- A quantisation slot as latched at the dispatch of an ELEMENT stage (R129, R203). -/
structure QuantSlot where
  tag : Nat
  scale : Word
  fmt : Nat
deriving DecidableEq, Repr

/-- The ELEMENT stage of a command: the next block, whether it has ended, the latched slots, the widths of the inbound
queues in nibbles, the values appended per queue in the row under way (R178), pieces read. -/
structure ElemStage where
  block : Nat
  ended : Bool
  noIssue : Bool
  slots : List (Option QuantSlot)
  inWidth : List Nat
  rowCounts : List (Nat × Nat)
  pieces : Nat
deriving DecidableEq, Repr

/-- A seed pass under way (R137 to R139): its tag. -/
structure SeedSt where
  tag : Nat
deriving DecidableEq, Repr

/-- Link states (R307); RECOVERY is the state of a link whose training is of kind `recovery`. -/
inductive LinkState where
  | down | detect | equalise | align | measure | exchange | up | failed
deriving DecidableEq, Repr

/-- Which bounds a training runs under (R307): initial training, RECOVERY or a retrain. -/
inductive TrainKind where
  | initial | recovery | retrain
deriving DecidableEq, Repr

/-- A flit waiting at a link's egress (R306): its TYPE, VC, stream number and partition, MSG, LAST, receive buffer and
payload. -/
structure OutFlit where
  type : Nat
  vc : Nat
  part : Nat
  stream : Nat
  msg : Nat
  last : Bool
  rxBuf : Nat
  payload : List Byte
deriving DecidableEq, Repr

/-- A sequenced flit kept for replay (R300), with its sequence number. -/
structure TxFlit where
  seq : Nat
  flit : OutFlit
deriving DecidableEq, Repr

/-- A flit in a receive buffer (R303), with the number of the link's losses of UP when it was accepted (R313) and the clock
of its acceptance. -/
structure RxFlit where
  type : Nat
  vc : Nat
  rxBuf : Nat
  msg : Nat
  last : Bool
  payload : List Byte
  era : Nat
  at_ : Nat
deriving DecidableEq, Repr

/-- A Switchback block that is arriving (R369): the VC and the MSG word of its message, its first flit's number of losses of
UP, its bytes so far, whether those numbers differed, whether it belongs to a turn that is over. -/
structure BlockIn where
  vc : Nat
  msg : Nat
  era : Nat
  bytes : List Byte
  broken : Bool
  drop : Bool
deriving DecidableEq, Repr

/-- A link (R300 to R311): its state and the clock it entered it; the transmitter's next number, its replay buffer, the
numbers still to be sent again, the clock of the last ACK, the last replay (its first number, its clock), the run of replays
from one number; the receiver's expected number and pending NAK; per VC the flits sent, CR_TOTAL of the partner, the credit
limit, the slots freed; the VC reported next; its epoch and what EXCHANGE showed of the partner; the echoes of MEASURE and
λ; how often it left UP; its receive buffer; the Switchback blocks that are arriving; what waits at its egress: BEAT flits, SYSTEM flits, DATA flits; what the
partner's last BEAT flit showed, and the beat of the last comparison sent (R42). -/
structure LinkSt where
  state : LinkState
  kind : TrainKind
  since : Nat
  txSeq : Nat
  replay : List TxFlit
  resend : List Nat
  ackClock : Nat
  lastReplay : Option (Nat × Nat)
  replayRun : Nat × Nat
  expected : Nat
  nakPending : Bool
  sent : List (Nat × Nat)
  credited : List (Nat × Nat)
  limits : List (Nat × Nat)
  freed : List (Nat × Nat)
  nextVc : Nat
  epoch : BitVec 32
  partnerEpoch : Option (BitVec 32)
  partnerSerial : BitVec 64
  partnerLink : BitVec 5
  partnerHw : Bool
  partnerValid : Bool
  probes : Nat
  lambda : Nat
  era : Nat
  rx : List RxFlit
  blocks : List BlockIn
  beats : Nat
  system : List OutFlit
  data : List OutFlit
  partnerOrigin : Bool
  mismatch : Bool
  lastBeat : Option Nat
deriving DecidableEq, Repr

/-- A link at module reset (R303, R307). -/
def LinkSt.reset : LinkSt :=
  { state := .down, kind := .initial, since := 0, txSeq := 0, replay := [], resend := [], ackClock := 0, lastReplay := none,
    replayRun := (0, 0), expected := 0, nakPending := false, sent := [], credited := [], limits := [], freed := [],
    nextVc := 0, epoch := 0#32, partnerEpoch := none, partnerSerial := 0#64, partnerLink := 0#5, partnerHw := false,
    partnerValid := false, probes := 0, lambda := 0, era := 0, rx := [], blocks := [], beats := 0, system := [], data := [],
    partnerOrigin := false, mismatch := false, lastBeat := none }

/-- LINK_STAT.STATE (R307). -/
def linkCode (l : LinkSt) : Nat :=
  match l.state with
  | .down => 0 | .up => 6 | .failed => 8 | .detect => 1 | .equalise => 2
  | .align => if l.kind = .recovery then 7 else 3
  | .measure => if l.kind = .recovery then 7 else 4
  | .exchange => if l.kind = .recovery then 7 else 5

end Sys2Proof.Machine
end

