-- ==== Sys2Proof/Machine/Blocks.lean ====
section
/-! DEFINITION. Blocks: the plain-data records of the part's device-wide units (Switchback, learning, serving, health,
terrace, boot, census, management), each with its value at reset. -/

namespace Sys2Proof.Machine

/-! ### Ring closes, turns, learning and serving -/

/-- An OUTCOME of a close (R335, R337). -/
inductive Outcome3 where
  | clean | fault | finalFault
deriving DecidableEq, Repr

/-- The close of an attempt at one member (R334 to R340): the verdict once ready with the beat it became so, a
GATHER that came before it, the beat in which this member sent its GATHER on, and the beat of the retry. -/
structure CloseSt where
  verdict : Option Bool
  readyBeat : Nat
  held : Option Bool
  sent : Option Nat
  retryBeat : Nat
deriving DecidableEq, Repr

/-- A close that has not begun. -/
def CloseSt.fresh : CloseSt := { verdict := none, readyBeat := 0, held := none, sent := none, retryBeat := 0 }

/-- TURN_STATk.STATE (R382). -/
inductive TurnState where
  | moving | closing | retryWait | inDoubt | failed
deriving DecidableEq, Repr

/-- The STATE code (R382). -/
def turnCode : TurnState → Nat
  | .moving => 1 | .closing => 2 | .retryWait => 3 | .inDoubt => 4 | .failed => 5

/-- A running Switchback job (R365 to R376): its operation's slot address, its descriptor, both layout descriptors as
read at the start, the route table, the ring record of its close, the blocks that have landed, the layers counted, the
blocks put to links in this attempt and those forwarded, the beat of the last progress, whether it has been reported over budget. -/
structure TurnJob where
  part : PartId
  set : Nat
  opAddr : Nat
  signal : Nat
  desc : List Byte
  src : List Byte
  dst : List Byte
  routes : List Byte
  ring : List Byte
  epoch : Nat
  record : Nat
  start : Nat
  state : TurnState
  attempt : Nat
  unclean : Bool
  landed : List (Nat × Nat × Nat)
  layers : Nat
  sent : Nat
  forwards : Nat
  progress : Nat
  reported : Bool
  close : CloseSt
deriving DecidableEq, Repr

/-- A STEP that is executing (R391 to R398): its slot, its status so far, the counts it reports. -/
structure StepOp where
  addr : Nat
  slot : List Byte
  status : Nat
  used : Nat
  flags : Flags
  ueBlocks : Nat
deriving DecidableEq, Repr

/-- A request queue operation that waits for its copy (R412): its slot address, its status and result, its copy. -/
structure RqCopy where
  addr : Nat
  save : Bool
  status : Nat
  result : Nat
  signal : Nat
  src : List Nat
  dst : List Nat
  bytes : Nat
deriving DecidableEq, Repr

/-- A pending move of the ratio controller (R425, R426): to the prefill set or to the decode set, the vale it names. -/
structure RcMove where
  toPrefill : Bool
  vale : Nat
deriving DecidableEq, Repr

/-- The ratio controller (R424 to R428); the sets are the `set` of each vale; `due`: the pending move applies now; `last`:
the beat of the last evaluation. -/
structure Rc where
  pending : Option RcMove
  hold : Nat
  due : Bool
  last : Option Nat
deriving DecidableEq, Repr

/-- A ratio controller that has decided nothing. -/
def Rc.reset : Rc := { pending := none, hold := 0, due := false, last := none }

/-- A residency operation under way (R458, R459): its entry, its signal. -/
structure ResOp where
  entry : Nat
  signal : Nat
deriving DecidableEq, Repr

/-- A digest under way (R482): whether it has started, its signal, its region. -/
structure DigestOp where
  started : Bool
  signal : Nat
  beat : Nat
deriving DecidableEq, Repr

/-! ### Health and terrace -/

/-- The health monitor (R467 to R471): the accumulators A and B, the events of the interval by class and unit, the
hottest reading and the largest ripple of the interval's samples (of the last sample where the interval has none; a reading far
below any before the first), whether the interval has a sample, a
CLEAR and a NOW that wait (NOW with the beat of its write), the beat of the last update, whether it found RISK at or
above ALERT_AT. RISK and ARMED are in its register. -/
structure Health where
  a : List Nat
  b : Nat
  events : List (Nat × Nat)
  hottest : Int
  ripple : Nat
  sampled : Bool
  clearDue : Bool
  nowDue : Option Nat
  last : Option Nat
  alert : Bool
deriving DecidableEq, Repr

/-- The health monitor at module reset with the default prior (R469). -/
def Health.reset : Health :=
  { a := List.replicate 8 0, b := 4096 * 256, events := [], hottest := -1000, ripple := 0,
    sampled := false, clearDue := false,
    nowDue := none, last := none, alert := false }

/-- The kinds of a terrace region (R478). -/
inductive RegionKind where
  | valeStore | operandCache | accBanks | program | valeState | partState | scaleTable | copy | reference
deriving DecidableEq, Repr

/-- The KIND code (R478). -/
def regionCode : RegionKind → Nat
  | .valeStore => 1 | .operandCache => 2 | .accBanks => 3 | .program => 4 | .valeState => 5 | .partState => 6
  | .scaleTable => 7 | .copy => 8 | .reference => 9

/-- The STATUS of a region (R478). -/
inductive RegionStatus where
  | saved | ueSource | ueDest | fenced | truncated | pushed | pushFailed
deriving DecidableEq, Repr

/-- The STATUS code (R478). -/
def regionStatusCode : RegionStatus → Nat
  | .saved => 0 | .ueSource => 1 | .ueDest => 2 | .fenced => 3 | .truncated => 4 | .pushed => 5 | .pushFailed => 6

/-- A terrace region (R478): its entry, and what it holds: memory cells by offset, registers by address, a vale's state or a
partition's ratio controller. `digest` is the TD-128 recorded for it; where none is, it is that of its bytes. `owned`: a
partition owned the vale. -/
structure Region where
  kind : RegionKind
  status : RegionStatus
  part : Nat
  owned : Bool
  unit : Nat
  length : Nat
  src : Nat
  dst : Nat
  cells : List (Nat × Byte)
  regs : List (Nat × Word)
  vale : Option ValeSt
  rc : Option Rc
  digest : List Word
deriving DecidableEq, Repr

/-- The terrace header's STATE (R477). -/
inductive TerraceState where
  | empty | writing | valid
deriving DecidableEq, Repr

/-- The STATE code (R477). -/
def terraceCode : TerraceState → Nat
  | .empty => 0 | .writing => 1 | .valid => 2

/-- A response, a FAULT_RESUME write or a residency operation that came during a hold and takes effect after it (R475). -/
inductive Deferred where
  | prg (n : PartId) (index : Nat) (code : PrgCode)
  | resume (n : PartId) (idx : Nat)
  | finish (n : PartId) (idx : Nat)
  | residency (n : PartId) (op entry signal : Nat)
deriving DecidableEq, Repr

/-- The terrace (R472 to R483): its header fields, its region index, its command entries, a hold that the risk has made due, the hold under
way with its first clock, the push and the restore under way, fences and page responses that fall due at the end of the hold. -/
structure Terrace where
  state : TerraceState
  cause : Nat
  seq : BitVec 32
  beatStart : BitVec 64
  beatEnd : BitVec 64
  risk : Nat
  revs : List Nat
  parts : Nat
  regions : List Region
  commands : List (List Byte)
  riskDue : Bool
  hold : Option Nat
  pushing : Bool
  restoring : Bool
  fencesDue : List (Nat × Nat)
  deferred : List Deferred
deriving DecidableEq, Repr

/-- The terrace after a cold start (R513). -/
def Terrace.reset : Terrace :=
  { state := .empty, cause := 0, seq := 0#32, beatStart := 0#64, beatEnd := 0#64, risk := 0, revs := [], parts := 0,
    regions := [], commands := [], riskDue := false, hold := none, pushing := false, restoring := false, fencesDue := [],
    deferred := [] }

/-! ### Boot and fabric -/

/-- Power, reset and local boot (R510 to R518, R566, R572). `marker` is the boot count
that the retention markers of the stacks hold; none when the stacks have lost their contents. `dead`: a pass die or the MP failed. `startRecorded`: BOOT_START has been queued; `slotTried` and `verify` are what it will report. `hostTrained` numbers the host link's trainings, the key of what HIF_STAT then shows. -/
structure Boot where
  powered : Bool
  resetLow : Bool
  tripped : Bool
  tripCleared : Bool
  phase : Nat
  releaseClock : Nat
  headwater : Bool
  count : Nat
  startRecorded : Bool
  slotTried : Nat
  verify : Nat
  marker : Option Nat
  dead : Bool
  hostTrained : Nat
deriving DecidableEq, Repr

/-- The part right after the release of RESET_N (R514). -/
def Boot.reset : Boot :=
  { powered := true, resetLow := false, tripped := false, tripCleared := false, phase := 1, releaseClock := 0,
    headwater := false, count := 0, startRecorded := false, slotTried := 0, verify := 3, marker := none, dead := false,
    hostTrained := 0 }

/-- An entry of the headwater's census table (R523). -/
structure CensusEntry where
  serial : BitVec 64
  reported : Bool
  member : Bool
  depth : Nat
  id : Nat
deriving DecidableEq, Repr

/-- The census as this device takes part in it (R521 to R529): the census under way, the numbers and headwaters of the
CALLs that came, the gather link, the reports the headwater holds, the gather's close, the members that sent READY,
the links that lead to census children, the link that the REPORT of each serial came on, whether READY has been sent. -/
structure Census where
  running : Bool
  calls : List (BitVec 32 × BitVec 64)
  gatherLink : Option Nat
  gathering : Bool
  startClock : Nat
  expect : Nat
  window : Nat
  reports : List CensusReport
  table : List CensusEntry
  ready : List (BitVec 64)
  children : List Nat
  conflict : Bool
  routes : List (BitVec 64 × Nat)
  readySent : Bool
deriving DecidableEq, Repr

/-- No census has run. -/
def Census.reset : Census :=
  { running := false, calls := [], gatherLink := none, gathering := false, startClock := 0, expect := 0, window := 0,
    reports := [], table := [], ready := [], children := [], conflict := false, routes := [],
    readySent := false }

/-! ### Management -/

/-- PLDM update mode (R542 to R546): the agent, the piece size, whether it has described the component, the offer, the target slot's next image offset, the
clock of the agent's last message, the verification under way. -/
structure UpdateSt where
  transport : Transport
  agent : Byte
  maxTransfer : Nat
  learned : Bool
  offer : Option Offer
  next : Nat
  lastClock : Nat
  verifying : Bool
  passed : Bool
deriving DecidableEq, Repr

/-- A settings copy (R550): its format, its write count, its values by key. -/
structure SettingsCopy where
  format : Nat
  writes : Nat
  values : List (Nat × Nat)
deriving DecidableEq, Repr

/-- The event state of a PLDM sensor (R537): the level of its last sample, whether it has changed since its last event, and
the clock of that event while its 100 ms run. -/
structure SensorEvent where
  level : Nat
  changed : Bool
  window : Option Nat
deriving DecidableEq, Repr

/-- The management processor (R533 to R558): the flash by byte (erased: 0xFF), the settings copies of slots A and B (none
where the copy is not valid), the settings as applied at boot,
the Moraine records by index, its queue, the journal's next SEQ, the records queued per event in the interval, the
excess and the dropped counts, PLDM and MCTP state, how far each SPDM connection has been negotiated. -/
structure Mp where
  flash : List (Nat × Byte)
  settingsA : Option SettingsCopy
  settingsB : Option SettingsCopy
  records : List (Nat × List Byte)
  queue : List MorEntry
  seq : Nat
  queued : List (MorEvent × Nat)
  dropped : Nat
  events : List (Nat × SensorEvent)
  update : Option UpdateSt
  eidPcie : Byte
  eidI3c : Byte
  spdmPcie : Nat
  spdmI3c : Nat
  bootSettings : SettingsCopy
deriving DecidableEq, Repr

/-- A settings copy with the defaults (R550): nothing listed. -/
def SettingsCopy.fresh : SettingsCopy := { format := 0, writes := 0, values := [] }

/-- The management processor of a module whose flash is erased (no slot holds an image). -/
def Mp.reset : Mp :=
  { flash := [], settingsA := none, settingsB := none, records := [], queue := [],
    seq := 0, queued := [], dropped := 0, events := [], update := none, eidPcie := 0#8, eidI3c := 0#8, spdmPcie := 0,
    spdmI3c := 0,
    bootSettings := SettingsCopy.fresh }

end Sys2Proof.Machine
end

