-- ==== Sys2Proof/Machine/Cmds.lean ====
section
/-! DEFINITION. Cmds: the plain-data records of commands in flight, of collectives, of partitions, of background tests,
of floor dies and of echo units, each with its value at reset. -/

namespace Sys2Proof.Machine

/-- COLL_STAT.STATE (R347). -/
inductive CollState where
  | linkWait | retain | laps | closing | retryWait | inDoubt | failed
deriving DecidableEq, Repr

/-- The STATE code (R347). -/
def collCode : CollState → Nat
  | .linkWait => 1 | .retain => 2 | .laps => 3 | .closing => 4 | .retryWait => 5 | .inDoubt => 6 | .failed => 7

/-- The laps of one rail at one member (R323 to R325): whether the all-gather lap runs, whether this member has begun to
send, the messages received in the lap, the bytes received of the message under way with its first flit's number of losses
of UP, whether the rail's last lap has ended. -/
structure RailSt where
  gather : Bool
  sent : Bool
  step : Nat
  got : Nat
  era : Nat
  done : Bool
deriving DecidableEq, Repr

/-- A rail before its first lap. -/
def RailSt.fresh : RailSt := { gather := false, sent := false, step := 0, got := 0, era := 0, done := false }

/-- The COLLECT stage of a command (R317 to R345): its state and attempt, whether this member has started the attempt, the
elements retained, its rails, the pieces landed in the output, what SHIFT received for LINK_BUF transfers per rail, what the
attempt has found unclean, whether its ARRIVE has stepped, the output elements handed to OUT_Q, the beat of the last
progress, its close, whether the stage has ended. -/
structure CollSt where
  state : CollState
  attempt : Nat
  started : Bool
  retained : Nat
  rails : List RailSt
  landed : List (Nat × Nat)
  linkBuf : List (Nat × List Byte)
  unclean : Bool
  arrived : Bool
  outSent : Nat
  progress : Nat
  close : CloseSt
  ended : Bool
deriving DecidableEq, Repr

/-- A command in flight (R249 to R272): whose it is, its descriptor, stage record and ring record as read at the take,
its vale, its submission number, the beat of its take, its admission with its window in beats, its dispatch, whether its
wait tokens have been satisfied (`bound`: it has latched its bindings), whether its queues are in place (`ready`), the bytes
it moves at each shared port, the keys and bindings it latched, its void causes, what its record will report, its transfers, its queues (0 to 7 inbound, 8 to
15 outbound, 16 to 19 tile), the progress of its stages, its seed passes, the
replays of the links it uses (R61). -/
structure Cmd where
  part : PartId
  job : Nat
  desc : List Byte
  srec : List Byte
  ring : List Byte
  vale : Nat
  seqNo : Nat
  takenBeat : Nat
  admitted : Bool
  window : Option (Nat × Nat)
  dispatched : Option (Nat × Nat)
  early : Bool
  bound : Bool
  ready : Bool
  loads : List (Port × Nat)
  partKey : Nat
  jobKey : Nat
  bindings : List (Nat × Nat)
  voids : List Nat
  status : Nat
  detail : Nat
  progAddr : Nat
  xfer : Nat
  flags : Flags
  sat : Nat
  spilled : Bool
  reissued : Bool
  fetch : List Xfer
  store : List Xfer
  queues : List Queue
  matrix : MatrixSt
  elem : ElemStage
  coll : Option CollSt
  seeds : List SeedSt
  replays : List (Nat × Nat)
deriving DecidableEq, Repr

/-- The modes of a partition (R276 to R282). -/
inductive PartMode where
  | free | active | destroying
deriving DecidableEq, Repr

/-- The STATE code (R276). -/
def partCode : PartMode → Nat
  | .free => 0 | .active => 1 | .destroying => 2

/-- A fault record (R449), with whether FQ_NEXT has returned it (R450). -/
structure FaultRec where
  index : Nat
  addr : Nat
  resumable : Bool
  write : Bool
  level : Bool
  vale : Nat
  slot : Nat
  xfer : Nat
  beat : Nat
  cmdId : Nat
  returned : Bool
deriving DecidableEq, Repr

/-- A page request group that waits for its response (R504): its PRG index, the slot and transfer it stopped. -/
structure PrgWait where
  prg : Nat
  slot : Nat
  xfer : Nat
deriving DecidableEq, Repr

/-- A beat table as the part copied it (R285): its bytes. -/
structure BeatTable where
  bytes : List Byte
deriving DecidableEq, Repr

/-- A PCFG_CMD operation in progress (R278): its OP, its vale, the result it will report, the beat table entry it names. -/
structure PcfgOp where
  code : Nat
  vale : Nat
  err : Nat
  entry : Nat
deriving DecidableEq, Repr

/-- A partition (R273 to R290, R348 to R376, R391, R409, R424, R446 to R451, R458, R482). -/
structure Part where
  mode : PartMode
  op : Option PcfgOp
  err : Nat
  btEntry : Nat
  table : Option BeatTable
  next : Option BeatTable
  bindings : List (Nat × Nat)
  pins : List (Nat × Nat)
  turnWait : Option Nat
  step : Option StepOp
  rqCopy : Option RqCopy
  rc : Rc
  res : Option ResOp
  digest : Option DigestOp
  tlb : List Trans
  tlbInv : Option (Option Nat)
  faults : List FaultRec
  prgs : List PrgWait
  fqMessage : Bool
  cqMessage : Bool
  cqPass : Nat
  cqHeld : Nat
  nextSeq : Nat
  loadSeq : Nat
  lostVales : List Nat
  recheck : List Nat
  resident : Nat
  since : Nat
deriving DecidableEq, Repr

/-- A partition after reset (R519): FREE. -/
def Part.reset : Part :=
  { mode := .free, op := none, err := 0, btEntry := 0, table := none, next := none, bindings := [], pins := [],
    turnWait := none, step := none, rqCopy := none, rc := Rc.reset, res := none, digest := none,
    tlb := [], tlbInv := none, faults := [], prgs := [], fqMessage := false, cqMessage := false, cqPass := 0,
    cqHeld := 0, nextSeq := 0, loadSeq := 0, lostVales := [], recheck := [], resident := 0, since := 0 }

/-- A background test accepted and not ended (R291 to R294): its code, its target, the beats at which its pieces not yet
begun start, the beat at which the piece under way is over; none before its first piece. -/
structure BgTest where
  code : Nat
  target : Nat
  starts : List Nat
  until_ : Option Nat
deriving DecidableEq, Repr

/-- A floor die (R452 to R456, R488): whether its stack is treated as failed, the rows corrected in this scrub pass with
their blocks, the repair candidates, the rows moved to spare rows. -/
structure FloorSt where
  failed : Bool
  spared : List Nat
  corrected : List (Nat × List Nat)
  candidates : List Nat
deriving DecidableEq, Repr

/-- A floor die at reset. -/
def FloorSt.reset : FloorSt := { failed := false, spared := [], corrected := [], candidates := [] }

/-- A tile captured for echo recomputation (R145 to R147): the command that feeds it (none once its group ended), whose
it is, its INDEX, its formats, its array, its first row and column there, its valid rows and columns, the 8 × 8 bank words
at the start, the activation codes by row and the decoded weight codes by column, in K order, the bank words at the group's end, the
bytes it takes of the buffer. -/
structure EchoTile where
  slot : Option Nat
  part : Nat
  vale : Nat
  tag : Nat
  index : Nat
  wfmt : Nat
  afmt : Nat
  array : Nat
  row : Nat
  col : Nat
  rows : Nat
  cols : Nat
  b0 : List Word
  acts : List (List Nat)
  wts : List (List Nat)
  got : List Word
  bytes : Nat
deriving DecidableEq, Repr

/-- The echo unit of a plain (R144 to R151). -/
structure EchoSt where
  failed : Bool
  tiles : List EchoTile
deriving DecidableEq, Repr

/-- An echo unit at reset. -/
def EchoSt.reset : EchoSt := { failed := false, tiles := [] }

end Sys2Proof.Machine
end

