-- ==== Sys2Proof/Machine/Sparse.lean ====
section
/-! DEFINITION. Sparse: sparse data by key, as a list of (key, value) pairs in ONE canonical form: keys strictly
rising, and no entry equal to what an unlisted key reads as. Memory, registers and the numbered units are held so. -/

namespace Sys2Proof.Machine

/-- What key k reads as: its entry, or the default d k where no entry is listed. -/
def Sparse.get {α : Type} (d : Nat → α) : List (Nat × α) → Nat → α
  | [], k => d k
  | (i, v) :: m, k => if i = k then v else Sparse.get d m k

/-- The pair (k, v) put in its place in a rising list that does not list k. -/
def Sparse.insert {α : Type} (k : Nat) (v : α) : List (Nat × α) → List (Nat × α)
  | [] => [(k, v)]
  | (i, w) :: m => if k < i then (k, v) :: (i, w) :: m else (i, w) :: Sparse.insert k v m

/-- The list without key k. -/
def Sparse.erase {α : Type} (k : Nat) : List (Nat × α) → List (Nat × α)
  | [] => []
  | (i, w) :: m => if i = k then Sparse.erase k m else (i, w) :: Sparse.erase k m

/-- Key k set to v, in canonical form: writing what an unlisted key reads as removes the entry. -/
def Sparse.set {α : Type} [DecidableEq α] (d : Nat → α) (m : List (Nat × α)) (k : Nat) (v : α) : List (Nat × α) :=
  if v = d k then Sparse.erase k m else Sparse.insert k v (Sparse.erase k m)

/-- The keys rise strictly, from above `lo` on. -/
def Sparse.rising {α : Type} : Option Nat → List (Nat × α) → Bool
  | _, [] => true
  | none, (i, _) :: m => Sparse.rising (some i) m
  | some lo, (i, _) :: m => decide (lo < i) && Sparse.rising (some i) m

/-- The canonical form: keys strictly rising, no entry equal to the default of its key. -/
def Sparse.wf {α : Type} [DecidableEq α] (d : Nat → α) (m : List (Nat × α)) : Bool :=
  Sparse.rising none m && m.all fun e => decide (e.2 ≠ d e.1)

end Sys2Proof.Machine
end

