-- ==== Sys2Proof/Machine/State.lean ====
section
/-! DEFINITION. State: the whole state of the part as plain data, and its value at reset. -/

namespace Sys2Proof.Machine

/-- How a step can stop with a fault. No command of this block does: every access the spec refuses, and every command
that comes when its conditions do not hold, has its outcome in a next state. -/
inductive Fault where
deriving DecidableEq, Repr

/-- How a step can refuse. -/
inductive Refusal where
  /-- Raised by an arm of exec whose command has no meaning yet; safe. No arm is left so. -/
  | notModelled (mnemonic : String)
deriving DecidableEq, Repr

/-- The state of the part. Numbered units are held sparsely by number, each absent one in its reset state. Memory holds
the device's DRAM and staging SRAM by DPA, and above it the on-chip stores (Machine/Ops.lean). `free` counts the free
values used; `out` is the model's record of what the part has driven outward, oldest first. -/
structure State where
  pending : List Instr
  clock : Nat
  free : Nat
  out : List Emit
  regs : List (Nat × Word)
  shadows : List (Nat × Word)
  mem : List Host.Cell
  bad : List (Nat × Bool)
  beat : Beat
  beatBefore : Beat
  fns : List (Nat × FnState)
  msix : List (Nat × MsixEntry)
  grants : List (Nat × Grant)
  grantOp : Option GrantOp
  vales : List (Nat × ValeSt)
  parts : List (Nat × Part)
  slots : List (Nat × Option Cmd)
  links : List (Nat × LinkSt)
  turns : List (Nat × Option TurnJob)
  floors : List (Nat × FloorSt)
  echo : List (Nat × EchoSt)
  tests : List (Nat × Option BgTest)
  credits : List (Nat × (Nat × Nat))
  granted : List (Nat × (Nat × Nat))
  resets : List Nat
  health : Health
  terrace : Terrace
  boot : Boot
  census : Census
  mp : Mp
  pins : List Pin
deriving DecidableEq, Repr

/-- The part right after the release of RESET_N with its supply just applied (R514, R519). -/
def State.reset : State :=
  { pending := [], clock := 0, free := 0, out := [], regs := [], shadows := [], mem := [], bad := [],
    beat := Beat.reset, beatBefore := Beat.reset, fns := [], msix := [], grants := [], grantOp := none, vales := [], parts := [], slots := [],
    links := [], turns := [], floors := [], echo := [], tests := [], credits := [], granted := [],
    resets := [], health := Health.reset, terrace := Terrace.reset, boot := Boot.reset,
    census := Census.reset, mp := Mp.reset, pins := [] }

end Sys2Proof.Machine
end

