-- ==== Sys2Proof/Machine/Access.lean ====
section
/-! DEFINITION. Access: the state's accessors. Every unit and every register is read and written through one of these;
each absent entry reads as its reset value. -/

namespace Sys2Proof.Machine

/-! ### Units -/

/-- Partition n. -/
def State.part (s : State) (n : Nat) : Part := Sparse.get (fun _ => Part.reset) s.parts n
/-- Partition n replaced. -/
def State.setPart (s : State) (n : Nat) (p : Part) : State :=
  { s with parts := Sparse.set (fun _ => Part.reset) s.parts n p }
/-- Partition n changed. -/
def State.modPart (s : State) (n : Nat) (f : Part → Part) : State := s.setPart n (f (s.part n))

/-- Vale g. -/
def State.vale (s : State) (g : Nat) : ValeSt := Sparse.get (fun _ => ValeSt.reset) s.vales g
/-- Vale g replaced. -/
def State.setVale (s : State) (g : Nat) (v : ValeSt) : State :=
  { s with vales := Sparse.set (fun _ => ValeSt.reset) s.vales g v }
/-- Vale g changed. -/
def State.modVale (s : State) (g : Nat) (f : ValeSt → ValeSt) : State := s.setVale g (f (s.vale g))

/-- The command in in-flight slot c. -/
def State.cmd (s : State) (c : Nat) : Option Cmd := Sparse.get (fun _ => none) s.slots c
/-- Slot c replaced. -/
def State.setCmd (s : State) (c : Nat) (x : Option Cmd) : State :=
  { s with slots := Sparse.set (fun _ => none) s.slots c x }
/-- The command in slot c changed. -/
def State.modCmd (s : State) (c : Nat) (f : Cmd → Cmd) : State :=
  match s.cmd c with
  | none => s
  | some x => s.setCmd c (some (f x))

/-- Link k. -/
def State.link (s : State) (k : Nat) : LinkSt := Sparse.get (fun _ => LinkSt.reset) s.links k
/-- Link k replaced. -/
def State.setLink (s : State) (k : Nat) (l : LinkSt) : State :=
  { s with links := Sparse.set (fun _ => LinkSt.reset) s.links k l }
/-- Link k changed. -/
def State.modLink (s : State) (k : Nat) (f : LinkSt → LinkSt) : State := s.setLink k (f (s.link k))

/-- Switchback job slot t. -/
def State.turn (s : State) (t : Nat) : Option TurnJob := Sparse.get (fun _ => none) s.turns t
/-- Switchback job slot t replaced. -/
def State.setTurn (s : State) (t : Nat) (x : Option TurnJob) : State :=
  { s with turns := Sparse.set (fun _ => none) s.turns t x }
/-- The job in slot t changed. -/
def State.modTurn (s : State) (t : Nat) (f : TurnJob → TurnJob) : State :=
  match s.turn t with
  | none => s
  | some x => s.setTurn t (some (f x))

/-- The floor die of stack st. -/
def State.floor (s : State) (st : Nat) : FloorSt := Sparse.get (fun _ => FloorSt.reset) s.floors st
/-- The floor die of stack st changed. -/
def State.modFloor (s : State) (st : Nat) (f : FloorSt → FloorSt) : State :=
  { s with floors := Sparse.set (fun _ => FloorSt.reset) s.floors st (f (s.floor st)) }

/-- The echo unit of plain p. -/
def State.echoOf (s : State) (p : Nat) : EchoSt := Sparse.get (fun _ => EchoSt.reset) s.echo p
/-- The echo unit of plain p changed. -/
def State.modEcho (s : State) (p : Nat) (f : EchoSt → EchoSt) : State :=
  { s with echo := Sparse.set (fun _ => EchoSt.reset) s.echo p (f (s.echoOf p)) }

/-- The background test with ticket i. -/
def State.test (s : State) (i : Nat) : Option BgTest := Sparse.get (fun _ => none) s.tests i
/-- Ticket i replaced. -/
def State.setTest (s : State) (i : Nat) (x : Option BgTest) : State :=
  { s with tests := Sparse.set (fun _ => none) s.tests i x }

/-- The state of PCIe function f. -/
def State.fn (s : State) (f : Nat) : FnState := Sparse.get (fun _ => FnState.reset) s.fns f
/-- Function f changed. -/
def State.modFn (s : State) (f : Nat) (g : FnState → FnState) : State :=
  { s with fns := Sparse.set (fun _ => FnState.reset) s.fns f (g (s.fn f)) }

/-- An MSI-X table entry after reset: masked, as the PCI Express specification gives. PRESUMED. -/
def MsixEntry.reset : MsixEntry := { addr := 0#64, data := 0#32, masked := true, pending := false }
/-- Entry v of function f's MSI-X table. -/
def State.msixOf (s : State) (f v : Nat) : MsixEntry := Sparse.get (fun _ => MsixEntry.reset) s.msix (4096 * f + v)
/-- Entry v of function f's MSI-X table changed. -/
def State.modMsix (s : State) (f v : Nat) (g : MsixEntry → MsixEntry) : State :=
  { s with msix := Sparse.set (fun _ => MsixEntry.reset) s.msix (4096 * f + v) (g (s.msixOf f v)) }

/-- A page of the grant table that nothing holds (R442). -/
def Grant.none : Grant := { writer := Option.none, readers := 0 }
/-- The grant of physical page p. -/
def State.grant (s : State) (p : Nat) : Grant := Sparse.get (fun _ => Grant.none) s.grants p
/-- The grant of physical page p replaced. -/
def State.setGrant (s : State) (p : Nat) (g : Grant) : State :=
  { s with grants := Sparse.set (fun _ => Grant.none) s.grants p g }

/-! ### Registers -/

/-- What the register file holds at an address. -/
def State.reg (s : State) (a : Nat) : Word := Sparse.get regDefault s.regs a
/-- The register at an address replaced. -/
def State.setReg (s : State) (a : Nat) (w : Word) : State := { s with regs := Sparse.set regDefault s.regs a w }
/-- Bits [hi:lo] of the register at an address. -/
def State.regF (s : State) (a hi lo : Nat) : Nat := fieldOf (s.reg a) hi lo
/-- Bits [hi:lo] of the register at an address replaced. -/
def State.setRegF (s : State) (a hi lo v : Nat) : State := s.setReg a (setField (s.reg a) hi lo v)
/-- One bit of a register. -/
def State.regBit (s : State) (a i : Nat) : Bool := s.regF a i i == 1
/-- A 64-bit register pair whose low word lies at a (R10). -/
def State.reg64 (s : State) (a : Nat) : Nat := (s.reg a).toNat + 2 ^ 32 * (s.reg (a + 4)).toNat
/-- A 64-bit register pair replaced. -/
def State.setReg64 (s : State) (a v : Nat) : State :=
  (s.setReg a (BitVec.ofNat 32 v)).setReg (a + 4) (BitVec.ofNat 32 (v / 2 ^ 32))

/-- Whether a page applies a soft reset (R584). -/
def State.resetting (s : State) (pg : Page) : Bool := s.resets.contains (pageBase pg)

/-- Whether events of a page are counted (R584, R585). -/
def State.counting (s : State) (pg : Page) : Bool :=
  (s.regBit (pageBase pg + 0x08) 0 || !pageFreezes pg) && !s.resetting pg

/-- A 32-bit counter of a page gains k events; it stops at its largest value (R584, R585). -/
def State.count (s : State) (pg : Page) (o k : Nat) : State :=
  if s.counting pg then s.setReg (pageBase pg + o) (satInc (s.reg (pageBase pg + o)) k) else s

/-- A 64-bit counter of a page gains k events. -/
def State.count64 (s : State) (pg : Page) (o k : Nat) : State :=
  if s.counting pg then s.setReg64 (pageBase pg + o) (s.reg64 (pageBase pg + o) + k) else s

/-- The page's FLAGS gain arithmetic flags (R78, R79), its SAT_COUNT k saturation events (R80). -/
def State.accrue (s : State) (pg : Page) (f : Flags) (k : Nat) : State :=
  let s := if s.resetting pg then s
    else s.setReg (pageBase pg + 0x1C) (s.reg (pageBase pg + 0x1C) ||| BitVec.ofNat 32 f.toNat)
  if k = 0 then s else s.count pg 0x20 k

/-! ### Output and free values -/

/-- The part drives something outward. -/
def State.emit (s : State) (e : Emit) : State := { s with out := s.out ++ [e] }

/-- A fresh value the spec leaves open, 32 bits. -/
def State.freeWord (s : State) : Word × State := (Config.freeWord s.free, { s with free := s.free + 1 })
/-- A fresh choice the spec leaves open. -/
def State.freeBool (s : State) : Bool × State := (Config.freeBool s.free, { s with free := s.free + 1 })
/-- n fresh bytes the spec leaves open. -/
def State.freeBytes (s : State) (n : Nat) : List Byte × State :=
  ((List.range n).map fun i => Config.freeByte (s.free + i), { s with free := s.free + n })

/-! ### Interrupts (R500, R583, R590) -/

/-- A vector's message leaves, or its PBA bit is set while it is masked (R500); a function whose MSI-X is off, or that
is in D3hot, sends nothing (R494). -/
def State.sendMsix (s : State) (f v : Nat) : State :=
  let st := s.fn f
  if !st.msixOn || st.d3 then s
  else if st.fnMask || (s.msixOf f v).masked then s.modMsix f v fun e => { e with pending := true }
  else s.emit (.msix (if f = 0 then .pf else .vf (Fin.ofNat 16 (f - 1))) v)

/-- DEVICE.IRQ_STAT with its summary bits (R590). -/
def deviceIrq (s : State) : Word :=
  let own := s.reg 0x10 &&& 0x1A#32
  let pass := (List.range 4).any fun n => (s.reg (0x100010 + 0x40000 * n) &&& s.reg (0x100014 + 0x40000 * n)) != 0#32
  let hif := s.reg 0x10C != 0#32
  let beat := (s.reg 0x60 &&& s.reg 0x64) != 0#32
  own ||| BitVec.ofNat 32 (boolBit pass * 32 + boolBit hif * 4 + boolBit beat)

/-- The IRQ_STAT of a page as it reads (R583). -/
def irqOf (s : State) (pg : Page) : Word :=
  match pg with
  | .device => deviceIrq s
  | _ => s.reg (pageBase pg + 0x10)

/-- The OR of IRQ_STAT AND IRQ_EN over the pages of a PF vector (R500). -/
def vectorOr (s : State) (v : Nat) : Bool :=
  let on := fun (pg : Page) => (irqOf s pg &&& s.reg (pageBase pg + 0x14)) != 0#32
  if v = 0 then on .device else if v = 1 then on .health else if v = 2 then on .mem else if v = 3 then on .mp
  else if v < 8 then on (.swb (Fin.ofNat 4 (v - 4))) else if v < 40 then on (.link (Fin.ofNat 32 (v - 8)))
  else if v < 60 then on (.floor (Fin.ofNat 20 (v - 40))) else if v < 80 then on (.fuu (Fin.ofNat 20 (v - 60)))
  else if v < 96 then on (.echo (Fin.ofNat 16 (v - 80))) else if v < 112 then on (.partcfg (Fin.ofNat 16 (v - 96)))
  else if v < 128 then false
  else on (.stream (Fin.ofNat 128 (v - 128))) || on (.collect (Fin.ofNat 128 (v - 128)))

/-- A change that can raise events of a page: the vector's message leaves when its OR rises (R500). -/
def State.withIrq (s : State) (pg : Page) (f : State → State) : State :=
  match pageVector pg with
  | none => f s
  | some v =>
    let t := f s
    if !vectorOr s v && vectorOr t v then t.sendMsix 0 v else t

/-- An event of a page sets bits of its IRQ_STAT (R583); not while its soft reset is applied (R584). -/
def State.raise (s : State) (pg : Page) (bits : Nat) : State :=
  if s.resetting pg then s
  else s.withIrq pg fun s => s.setReg (pageBase pg + 0x10) (s.reg (pageBase pg + 0x10) ||| BitVec.ofNat 32 bits)

/-- A beat event sets bits of BEAT_EVT (R57). -/
def State.beatEvent (s : State) (bits : Nat) : State :=
  s.withIrq .device fun s => s.setReg 0x60 (s.reg 0x60 ||| BitVec.ofNat 32 bits)

/-- A host-interface event sets bits of HIF_EVT (R509). -/
def State.hifEvent (s : State) (bits : Nat) : State :=
  s.withIrq .device fun s => s.setReg 0x10C (s.reg 0x10C ||| BitVec.ofNat 32 bits)

/-! ### Time -/

/-- The sub-beat: core clocks since the last internal edge; 0, its reset value, until the first one (R40). -/
def State.subBeat (s : State) : Nat := if s.beat.counted then s.clock - s.beat.edgeClock else 0
/-- The beat number (R37). -/
def State.beatNum (s : State) : Nat := s.beat.num.toNat

/-- Whether the part runs: powered, not in reset, not tripped, not out of service (R28, R510, R566, R572). -/
def State.live (s : State) : Bool := s.boot.powered && !s.boot.resetLow && !s.boot.tripped && !s.boot.dead
/-- BOOT_STAT.PHASE is READY: the endpoint serves BARs (R512, R514). -/
def State.ready (s : State) : Bool := s.live && s.boot.phase == 6
/-- Whether a terrace hold is under way (R473). -/
def State.holding (s : State) : Bool := s.terrace.hold.isSome

/-- The shape of every meaning: while the part runs, the command does f; otherwise it changes nothing (R510, R562,
R572). The queue and the clock are f's only where f names them. -/
def act (s : State) (f : State → State) : Host.Outcome State Fault Refusal := .next (if s.live then f s else s)

/-- The shape of a host access to a BAR (R512): before READY it completes with Unsupported Request. -/
def actBar (fn : Fn) (s : State) (f : State → State) : Host.Outcome State Fault Refusal :=
  act s fun s => if s.ready && !(s.fn (fnNum fn)).d3 then f s else s.emit (.unsupported fn)

end Sys2Proof.Machine
end

