-- ==== Sys2Proof/Machine/Ops.lean ====
section
/-! DEFINITION. Ops: the named operations every family shares: Moraine records, health events, memory with its error
correction, page grants and translation, tokens, and the passing of time. -/

namespace Sys2Proof.Machine

/-! ### Records and health events -/

/-- The default of a setting (R550); the encoding of "none" is open. -/
def settingDefault (k : Nat) : Nat :=
  if k = 3 then 0x4C else if k = 5 then 16 else if k = 4 ∨ 0x100 ≤ k then Config.settingNone.toNat else 0

/-- A setting of a copy. -/
def SettingsCopy.value (c : SettingsCopy) (k : Nat) : Nat := Sparse.get settingDefault c.values k

/-- Whether copy A is in force: it is valid, and has the higher write count (R550). -/
def Mp.inA (m : Mp) : Bool :=
  match m.settingsA, m.settingsB with
  | some a, some b => decide (b.writes ≤ a.writes)
  | some _, none => true
  | none, _ => false

/-- The settings in force: the valid copy with the higher write count, the defaults where neither is valid (R550). -/
def Mp.settings (m : Mp) : SettingsCopy := ((if m.inA then m.settingsA else m.settingsB).getD SettingsCopy.fresh)

/-- MOR_LIMIT (R550, R556). -/
def morLimit (m : Mp) : Nat := m.settings.value 5

/-- The MP takes an event into its queue (R556): at most MOR_LIMIT per event in an interval unless it is FATAL; an
event that finds the queue full is lost and counted. -/
def Mp.take (m : Mp) (e : MorEntry) : Mp :=
  let n := ((m.queued.filter (·.1 == e.event)).map (·.2)).foldl (· + ·) 0
  let rest := m.queued.filter (·.1 != e.event)
  let m := { m with queued := rest ++ [(e.event, n + 1)] }
  if n < morLimit m || Config.morSev (morNumber e.event) == 3#2 then
    if m.queue.length < 1024 then { m with queue := m.queue ++ [e] } else { m with dropped := m.dropped + 1 }
  else m

/-- The ms since the release of RESET_N (R553); a ms is 2,100,000 core clocks. -/
def State.bootMs (s : State) : Nat := (s.clock - s.boot.releaseClock) / 2100000

/-- The part writes a Moraine record (R553 to R556). -/
def State.moraine (s : State) (ev : MorEvent) (pg : Page) (payload : List Nat) : State :=
  let e : MorEntry :=
    { event := ev, source := blkId pg, beat := s.beat.num, ms := BitVec.ofNat 32 s.bootMs, payload := payload.map (BitVec.ofNat 32) }
  let m := s.mp.take e
  let s := if s.mp.dropped < m.dropped then s.count .mp 0x8C 1 else s
  { s with mp := m }

/-- The health monitor takes n events of class k from a unit (R467, R468). -/
def State.healthEvent (s : State) (k unit n : Nat) : State :=
  let key := k * 64 + unit
  { s with health := { s.health with
      events := Sparse.set (fun _ => 0) s.health.events key (Sparse.get (fun _ => 0) s.health.events key + n) } }

/-! ### Device memory (R440, R452, R453) -/

/-- What a byte of memory reads as that nothing has written (R513, R519, R293): zero. -/
def memDefault : Nat → Byte := fun _ => 0#8

/-- The byte at a memory address. -/
def State.byte (s : State) (a : Nat) : Byte := Sparse.get memDefault s.mem a
/-- The byte at a memory address replaced. -/
def State.setByte (s : State) (a : Nat) (b : Byte) : State := { s with mem := Sparse.set memDefault s.mem a b }
/-- The n bytes from a memory address on. -/
def State.bytes (s : State) (a : Nat) : Nat → List Byte
  | 0 => []
  | n + 1 => s.byte a :: s.bytes (a + 1) n
/-- Bytes written from a memory address on. -/
def State.setBytes (s : State) (a : Nat) : List Byte → State
  | [] => s
  | b :: bs => (s.setByte a b).setBytes (a + 1) bs
/-- Every byte of [lo, hi) set to zero. -/
def State.clearRange (s : State) (lo hi : Nat) : State :=
  { s with mem := s.mem.filter fun c => decide (c.1 < lo) || decide (hi ≤ c.1) }

/-- The vale store of vale g lies here in memory: 32 MiB (R24). -/
def storeAddr (g o : Nat) : Nat := 2 ^ 44 + 2 ^ 25 * g + o % 2 ^ 25
/-- The operand cache of vale g: 1 MiB (R166). -/
def cacheAddr (g o : Nat) : Nat := 2 ^ 45 + 2 ^ 20 * g + o % 2 ^ 20
/-- The accumulator banks of array a of vale g: 256 rows of 128 words (R107). -/
def bankAddr (g a row col : Nat) : Nat := 2 ^ 46 + 2 ^ 17 * (4 * g + a) + 4 * (128 * row + col)
/-- The program memory of vale g: 4 KiB (R156). -/
def progAddr (g o : Nat) : Nat := 2 ^ 47 + 4096 * g + o
/-- The pooled buffer of a queue of an in-flight slot (R237): the spec does not say where its granules lie. -/
def poolAddr (slot q : Nat) : Nat := 2 ^ 48 + 2 ^ 40 * (32 * slot + q)

/-- The stack a DPA lies in (R440). -/
def dpaStack (a : Nat) : Option Nat := if a < 20 * 2 ^ 36 then some (a / 2 ^ 36) else none
/-- The pass die whose staging SRAM a DPA lies in (R440). -/
def dpaStaging (a : Nat) : Option Nat :=
  if 2 ^ 41 ≤ a ∧ a < 2 ^ 41 + 4 * 2 ^ 26 then some ((a - 2 ^ 41) / 2 ^ 26) else none
/-- Whether a DPA lies in a grantable part (R440). -/
def dpaGrantable (a : Nat) : Bool :=
  match dpaStack a, dpaStaging a with
  | some st, _ => decide (a % 2 ^ 36 / 2 ^ 21 < if st < 16 then 32640 else 31744)
  | none, some _ => decide (4 ≤ a % 2 ^ 26 / 2 ^ 21)
  | none, none => false
/-- Whether a physical page is grantable (R440, R443). -/
def pageGrantable (p : Nat) : Bool := dpaGrantable (2 ^ 21 * p)

/-- Whether the block at a DPA reads uncorrectable: a marked block, or any block of a failed stack (R453, R488). -/
def State.blockBad (s : State) (a : Nat) : Bool :=
  Sparse.get (fun _ => false) s.bad (a / 64) ||
    (match dpaStack a with | some st => (s.floor st).failed | none => false)

/-- The floor page of a stack. -/
def floorPage (st : Nat) : Page := .floor (Fin.ofNat 20 st)
/-- The pass page of a pass die. -/
def passPage (n : Nat) : Page := .pass (Fin.ofNat 4 n)

/-- A floor die marks the row of a block as a repair candidate (R456). -/
def State.repairCandidate (s : State) (st blk : Nat) : State :=
  if (s.floor st).candidates.contains (Config.rowOf blk) then s
  else
    let s := s.modFloor st fun f => { f with candidates := f.candidates ++ [Config.rowOf blk] }
    let a := pageBase (floorPage st) + 0x5C
    let s := s.setRegF a 15 0 (s.regF a 15 0 + 1)
    (s.raise (floorPage st) 2).moraine .repair (floorPage st) [blk * 64 % 2 ^ 32, blk * 64 / 2 ^ 32]

/-- A read that needed a correction (R452, R592): it is counted, reported to the health monitor (a stack's), and the
row's corrected blocks of this scrub pass may make it a repair candidate (R456). -/
def State.corrected (s : State) (a : Nat) : State :=
  match dpaStack a with
  | some st =>
    let row := Config.rowOf (a / 64)
    let f := s.floor st
    let old := ((f.corrected.filter (·.1 == row)).map (·.2)).flatten
    let blks := if old.contains (a / 64) then old else old ++ [a / 64]
    let s := s.modFloor st fun f => { f with corrected := f.corrected.filter (·.1 != row) ++ [(row, blks)] }
    let s := (s.count (floorPage st) 0x4C 1).healthEvent 0 st 1
    if s.regF (pageBase (floorPage st) + 0x64) 7 0 ≤ blks.length then s.repairCandidate st (a / 64) else s
  | none =>
    match dpaStaging a with
    | some n => s.count (passPage n) 0x44 1
    | none => s

/-- An access that met an uncorrectable block (R453, R592): the block stays so until it is written in full; it is
counted, recorded and raises UE. The reports of a failed stack go to the requester only (R488). -/
def State.uncorrectable (s : State) (a : Nat) (scrub : Bool) : State :=
  match dpaStack a with
  | some st =>
    if (s.floor st).failed then s
    else
      let s := { s with bad := Sparse.set (fun _ => false) s.bad (a / 64) true }
      let pg := floorPage st
      let s := s.count pg 0x50 1
      let s := s.setReg (pageBase pg + 0x54) (BitVec.ofNat 32 (a / 64 * 64))
      let s := s.setReg (pageBase pg + 0x58) (BitVec.ofNat 32 (a / 2 ^ 32 % 1024 + boolBit scrub * 2 ^ 31))
      let s := ((s.raise pg 1).healthEvent 7 0 1).moraine .uncorrectable pg
        [a / 64 * 64 % 2 ^ 32, a / 2 ^ 32 % 1024 + boolBit scrub * 2 ^ 31]
      s.repairCandidate st (a / 64)
  | none =>
    match dpaStaging a with
    | some n =>
      let s := { s with bad := Sparse.set (fun _ => false) s.bad (a / 64) true }
      let pg := passPage n
      let s := s.count pg 0x48 1
      let s := s.setReg (pageBase pg + 0x4C) (BitVec.ofNat 32 (a % 2 ^ 26 / 8 * 8))
      (s.raise pg 1).healthEvent 7 0 1
    | none => s

/-- Bytes read from device memory: none when a block of them reads uncorrectable (R18). -/
def State.readDpa (s : State) (a n : Nat) : Option (List Byte) × State :=
  let blks := (List.range ((a + n - 1) / 64 + 1 - a / 64)).map (· + a / 64)
  match (if n = 0 then [] else blks).filter fun b => s.blockBad (b * 64) with
  | [] => (some (s.bytes a n), s)
  | b :: bs => (none, (b :: bs).foldl (fun s b => s.uncorrectable (b * 64) false) s)

/-- A write that lies in one 64-byte block (R453, R488): a failed stack discards it; a partial write to an
uncorrectable block is discarded and reported; a full one clears the condition. `true` when the writer is reported an
error. -/
def State.writeBlock (s : State) (a : Nat) (bs : List Byte) : Bool × State :=
  if (match dpaStack a with | some st => (s.floor st).failed | none => false) then (true, s)
  else if bs.length = 64 then
    (false, { s.setBytes a bs with bad := Sparse.set (fun _ => false) s.bad (a / 64) false })
  else if s.blockBad a then (true, s.uncorrectable a false)
  else (false, s.setBytes a bs)

/-- Bytes written to device memory, block by block; fuel bounds the blocks. -/
def State.writeDpaFuel : Nat → State → Nat → List Byte → Bool × State
  | 0, s, _, _ => (false, s)
  | _ + 1, s, _, [] => (false, s)
  | f + 1, s, a, bs =>
    let k := 64 - a % 64
    let r := s.writeBlock a (bs.take k)
    let q := State.writeDpaFuel f r.2 (a + k) (bs.drop k)
    (r.1 || q.1, q.2)

/-- Bytes written to device memory. -/
def State.writeDpa (s : State) (a : Nat) (bs : List Byte) : Bool × State :=
  State.writeDpaFuel (bs.length / 64 + 2) s a bs

/-! ### Grants and translation (R442, R445 to R449) -/

/-- Whether partition n may read a physical page (R442). -/
def State.mayRead (s : State) (n p : Nat) : Bool :=
  pageGrantable p && ((s.grant p).writer.map Fin.val == some n || bitOf (s.grant p).readers n)
/-- Whether partition n may write a physical page (R442). -/
def State.mayWrite (s : State) (n p : Nat) : Bool :=
  pageGrantable p && (s.grant p).writer.map Fin.val == some n

/-- The page of PARTCFGn. -/
def pcfg (n : Nat) : Nat := 0x1000 + 0x1000 * n

/-- The PASID that the host requests of a function carry, if any (R502): 0 is the PF, n + 1 the VF of partition n. -/
def State.pasid (s : State) (f : Nat) : Option Nat :=
  let a := if f = 0 then 0x110 else pcfg (f - 1) + 0xE0
  if (s.fn f).pasidOn && s.regBit a 20 then some (s.regF a 19 0) else none

/-- What a translation answers (R446 to R449): a DPA, a translation fault at level 1 or 2, a refusal (R21), a table
entry that reads uncorrectable, with its DPA. -/
inductive Walk where
  | ok (dpa : Nat) (t : Trans)
  | fault (level2 : Bool)
  | refused
  | tableUe (dpa : Nat)
deriving DecidableEq, Repr

/-- The target of a translation under the grants and the WRITE bit (R447). -/
def State.walkTarget (s : State) (n pda : Nat) (write : Bool) (t : Trans) : Walk :=
  if write && !t.write then .refused
  else if (if write then s.mayWrite n t.dpa else s.mayRead n t.dpa) then .ok (2 ^ 21 * t.dpa + pda % 2 ^ 21) t
  else .refused

/-- One read of a table entry by the walk (R447). -/
def State.walkEntry (s : State) (n a : Nat) : Option (Option Nat) :=
  if !s.mayRead n (a / 2 ^ 21) then none
  else if s.blockBad a then some none
  else some (some (leNat (s.bytes a 8)))

/-- The two-level walk (R445 to R447), or the cached translation (R448). -/
def State.walk (s : State) (n pda : Nat) (write : Bool) : Walk :=
  if pda / 2 ^ 48 ≠ 0 then .refused
  else
    match (s.part n).tlb.find? (·.page == pda / 2 ^ 21) with
    | some t => s.walkTarget n pda write t
    | none =>
      let root := s.reg64 (pcfg n + 0xC0)
      let a1 := root + 8 * bitsOf pda 47 33
      match s.walkEntry n a1 with
      | none => .refused
      | some none => .tableUe a1
      | some (some e1) =>
        if !bitOf e1 63 || bitsOf e1 62 42 ≠ 0 || bitsOf e1 14 0 ≠ 0 then .fault false
        else
          let a2 := 2 ^ 15 * bitsOf e1 41 15 + 8 * bitsOf pda 32 21
          match s.walkEntry n a2 with
          | none => .refused
          | some none => .tableUe a2
          | some (some e2) =>
            if !bitOf e2 63 || bitsOf e2 61 42 ≠ 0 || bitsOf e2 20 0 ≠ 0 then .fault true
            else s.walkTarget n pda write { page := pda / 2 ^ 21, dpa := bitsOf e2 41 21, write := bitOf e2 62 }

/-- The part caches a valid translation (R448). -/
def State.cacheTrans (s : State) (n : Nat) (t : Trans) : State :=
  if (s.part n).tlb.any (·.page == t.page) then s else s.modPart n fun p => { p with tlb := p.tlb ++ [t] }

/-- How an operation's access to a partition's memory ends: with its bytes, refused (or not mapped), uncorrectable. -/
inductive Got where
  | ok (bs : List Byte)
  | access
  | ue
deriving DecidableEq, Repr

/-- Bytes of partition n's address space, page by page, as an operation of the part reads them; an address that is not
mapped counts as outside the partition's pages. -/
def State.readPdaFuel : Nat → State → Nat → Nat → Nat → Got × State
  | 0, s, _, _, _ => (.ok [], s)
  | f + 1, s, n, a, len =>
    if len = 0 then (.ok [], s)
    else
      let k := min len (2 ^ 21 - a % 2 ^ 21)
      match s.walk n a false with
      | .fault _ => (.access, s)
      | .refused => (.access, s)
      | .tableUe d => (.ue, s.uncorrectable d false)
      | .ok d _ =>
        match s.readDpa d k with
        | (none, s) => (.ue, s)
        | (some bs, s) =>
          match State.readPdaFuel f s n (a + k) (len - k) with
          | (.ok r, s) => (.ok (bs ++ r), s)
          | r => r

/-- Bytes of partition n's address space. -/
def State.readPda (s : State) (n a len : Nat) : Got × State := State.readPdaFuel (len / 2 ^ 21 + 2) s n a len

/-- Whether every page of a range of partition n's address space is mapped and permitted. -/
def State.pdaOkFuel : Nat → State → Nat → Nat → Nat → Bool → Bool
  | 0, _, _, _, _, _ => true
  | f + 1, s, n, a, len, w =>
    if len = 0 then true
    else
      let k := min len (2 ^ 21 - a % 2 ^ 21)
      match s.walk n a w with
      | .ok _ _ => State.pdaOkFuel f s n (a + k) (len - k) w
      | _ => false

/-- Whether a range lies in the partition's pages, for reading or for writing. -/
def State.pdaOk (s : State) (n a len : Nat) (w : Bool) : Bool := State.pdaOkFuel (len / 2 ^ 21 + 2) s n a len w

/-- Bytes written to partition n's address space, page by page; `some` error where a part of them was refused or
discarded. -/
def State.writePdaFuel : Nat → State → Nat → Nat → List Byte → Got × State
  | 0, s, _, _, _ => (.ok [], s)
  | _ + 1, s, _, _, [] => (.ok [], s)
  | f + 1, s, n, a, bs =>
    let k := 2 ^ 21 - a % 2 ^ 21
    match s.walk n a true with
    | .fault _ => (.access, s)
    | .refused => (.access, s)
    | .tableUe d => (.ue, s.uncorrectable d false)
    | .ok d _ =>
      let r := s.writeDpa d (bs.take k)
      match State.writePdaFuel f r.2 n (a + k) (bs.drop k) with
      | (.ok x, s) => (if r.1 then .ue else .ok x, s)
      | q => q

/-- Bytes written to partition n's address space. -/
def State.writePda (s : State) (n a : Nat) (bs : List Byte) : Got × State :=
  State.writePdaFuel (bs.length / 2 ^ 21 + 2) s n a bs

/-- Bytes of a partition's address space, zeros where they cannot be read (R21, R18). -/
def State.peek (s : State) (n a len : Nat) : List Byte :=
  match (s.readPda n a len).1 with
  | .ok bs => bs
  | _ => List.replicate len 0#8

/-- The 32-bit word at a partition address. -/
def State.peek32 (s : State) (n a : Nat) : Nat := leNat (s.peek n a 4)
/-- The 64-bit word at a partition address. -/
def State.peek64 (s : State) (n a : Nat) : Nat := leNat (s.peek n a 8)

/-- Bytes put into a partition's address space; what is refused is not written. -/
def State.poke (s : State) (n a : Nat) (bs : List Byte) : State := (s.writePda n a bs).2
/-- A 32-bit word put at a partition address. -/
def State.poke32 (s : State) (n a v : Nat) : State := s.poke n a (leBytes 4 v)
/-- A 64-bit word put at a partition address. -/
def State.poke64 (s : State) (n a v : Nat) : State := s.poke n a (leBytes 8 v)

/-! ### Partitions, vales and tokens -/

/-- The vales that partition n owns, ascending (R14, R279). -/
def State.owned (s : State) (n : Nat) : List Nat :=
  ((s.vales.filter fun e => e.2.owner.map Fin.val == some n).map (·.1))
/-- The owned, unfenced vales of partition n, ascending. -/
def State.usable (s : State) (n : Nat) : List Nat := (s.owned n).filter fun g => !(s.vale g).fenced
/-- Whether partition n is metered (R276). -/
def State.metered (s : State) (n : Nat) : Bool := s.regBit (pcfg n + 0x48) 0
/-- The commands in flight, by slot. -/
def State.inFlight (s : State) : List (Nat × Cmd) := s.slots.filterMap fun e => e.2.map fun c => (e.1, c)
/-- The commands of partition n in flight. -/
def State.ofPart (s : State) (n : Nat) : List (Nat × Cmd) := s.inFlight.filter fun e => e.2.part.val == n
/-- The commands in flight whose vale is g. -/
def State.ofVale (s : State) (g : Nat) : List (Nat × Cmd) := s.inFlight.filter fun e => e.2.vale == g

/-- The address of TOKENt of partition n (R273). -/
def tokenAddr (n t : Nat) : Nat := partBase n + 0x8000 + 4 * t
/-- The count of token t (R258). -/
def State.token (s : State) (n t : Nat) : Nat := s.regF (tokenAddr n t) 19 0

/-- Whether a wait word is satisfied (R258). -/
def State.waitOk (s : State) (n w : Nat) : Bool :=
  bitsOf w 31 20 == 0 || decide ((s.token n (bitsOf w 31 20) + 2 ^ 20 - bitsOf w 19 0) % 2 ^ 20 < 2 ^ 19)

/-- The ratio controller sees an increment of BOUNDARY_TOKEN (R426): a pending move falls due when the losing job has no
command in flight on the vale. -/
def State.boundary (s : State) (n t : Nat) : State :=
  let ctl := (s.reg (partBase n + 0x5080)).toNat
  match (s.part n).rc.pending with
  | none => s
  | some m =>
    if bitsOf ctl 31 20 == t && bitOf ctl 0 then
      let loser := if m.toPrefill then bitsOf ctl 16 12 else bitsOf ctl 8 4
      if (s.ofVale m.vale).any fun e => e.2.part.val == n && e.2.job == loser then s
      else s.modPart n fun p => { p with rc := { p.rc with due := true } }
    else s

/-- The address of version record v of set S of partition n (R348). -/
def verAddr (s : State) (n set v : Nat) : Nat := s.reg64 (partBase n + 0x3020) + 256 * set + 64 + 48 * v

/-- The bindings of job j of partition n as they stand: each set with the BASE of its version (R353). -/
def State.jobBindings (s : State) (n j : Nat) : List (Nat × Nat) :=
  ((s.part n).bindings.filter fun b => b.1 / 16 == j).map fun b =>
    (b.1 % 16, s.peek64 n (verAddr s n (b.1 % 16) b.2 + 0x10))

/-- Whether both wait words of a command are satisfied (R258). -/
def State.waitsOk (s : State) (c : Cmd) : Bool :=
  s.waitOk c.part.val (w32At c.desc 0x24) && s.waitOk c.part.val (w32At c.desc 0x28)

/-- Every command of partition n whose wait tokens are satisfied for the first time latches its job's bindings (R354). -/
def State.latchBindings (s : State) (n : Nat) : State :=
  (s.ofPart n).foldl (fun t e =>
    if !e.2.bound && s.waitsOk e.2 then
      t.modCmd e.1 fun c => { c with bound := true, bindings := s.jobBindings n c.job }
    else t) s

/-- Token t of partition n gains one (R259); token 0 is never signalled (R258). -/
def State.signal (s : State) (n t : Nat) : State :=
  if t = 0 then s
  else ((s.setRegF (tokenAddr n t) 19 0 ((s.token n t + 1) % 2 ^ 20)).boundary n t).latchBindings n

/-! ### Time -/

/-- The fault records and groups that stop a transfer on vale g (R246). -/
def State.stopped (s : State) (g : Nat) : Nat :=
  ((s.ofVale g).map fun e =>
    ((e.2.fetch ++ e.2.store).filter fun x => x.stop.isSome && x.stop != some .unsent).length).foldl (· + ·) 0

/-- k core clocks pass on vale g: WAIT while its element engine stalls (R187), LOAD_WAIT while an array waits for a
tile (R121), FAULT_WAIT while a transfer is stopped (R246). -/
def State.valeClocks (k : Nat) (s : State) (g : Nat) : State :=
  let v := s.vale g
  let fg := Fin.ofNat 128 g
  let s := if v.elem.stage.isSome && v.elem.wait != .none then s.count64 (.elem fg) 0x60 k else s
  let slots := fun (a : ArraySt) =>   -- a row slot is two clocks in mode F16 (R95)
    if (fieldOf a.stat 11 8 == 2 || fieldOf a.stat 11 8 == 3) then (s.clock + k) / 2 - s.clock / 2 else k
  let s := v.arrays.foldl
    (fun s e => if e.2.waiting then s.count64 (.array fg (Fin.ofNat 4 e.1)) 0x78 (slots e.2) else s) s
  if s.stopped g = 0 then s else s.count64 (.stream fg) 0x58 k

/-- k core clocks pass (R34): the clock, and the counters that count clocks. -/
def State.pass (s : State) (k : Nat) : State :=
  let s := (s.vales.map (·.1)).foldl (State.valeClocks k) s
  { s with clock := s.clock + k }

/-! ### Open pools (R237) -/

/-- The granules a pooled queue's data occupies on the vale, what is spilled aside (R237, R239). -/
def Queue.granules (q : Queue) : Nat :=
  let span := fun (lo hi : Nat) => ceilDiv (ceilDiv hi 2) 4096 - lo / 2 / 4096
  match q.spill with
  | none => if q.head = q.tail then 0 else span q.head q.tail
  | some (a, b) => (if q.head < a then span q.head a else 0) + (if b < q.tail then span b q.tail else 0)

/-- The granules of a partition's open pool that its pooled queues hold on vale g (R237). -/
def State.poolHeld (s : State) (n g : Nat) : Nat :=
  ((((s.ofVale g).filter fun e => e.2.part.val == n && e.2.ready).map fun e =>
    ((e.2.queues.filter fun q => q.pooled).map fun q => max q.floorG q.granules).foldl (· + ·) 0)).foldl (· + ·) 0

/-- The free granules of a partition's open pool on vale g (R237). -/
def State.poolFree (s : State) (n g : Nat) : Nat := s.regF (pcfg n + 0x78) 13 0 - s.poolHeld n g

/-- Whether any stream of vale g has data in the spill area (R239). -/
def State.spilling (s : State) (g : Nat) : Bool := (s.ofVale g).any fun e => e.2.queues.any fun q => q.spill.isSome

/-- Whether an early fetch is in progress on vale g (R225). -/
def State.earlyFetch (s : State) (g : Nat) : Bool := (s.ofVale g).any fun e => e.2.early && e.2.dispatched.isNone

end Sys2Proof.Machine
end

