-- ==== Sys2Proof/Machine/Views.lean ====
section
/-! DEFINITION. Views: what a host read of a register returns (R7, R10, R11, R283, R584): the register file, but for
the read-only fields that show the live state of a unit. -/

namespace Sys2Proof.Machine

/-! ### Fields put together -/

/-- A register from its fields (high bit, low bit, value). -/
def fields (fs : List (Nat × Nat × Nat)) : Word := fs.foldl (fun w f => setField w f.1 f.2.1 f.2.2) 0#32

/-- BEAT_STAT (R55). -/
def viewBeatStat (b : Beat) : Word :=
  fields [(5, 5, boolBit b.phaseFault), (4, 4, boolBit b.meteredValid), (3, 3, boolBit b.origin),
    (2, 0, beatCode b.state)]

/-- The beat unit as a register read finds it: in the clock of an internal edge, as it stood before the edge (R40). -/
def State.shownBeat (s : State) : Beat :=
  if s.beat.counted && s.clock == s.beat.edgeClock then s.beatBefore else s.beat

/-- A mask of vales, 32 from vale 32 k on. -/
def valeMask (gs : List Nat) (k : Nat) : Word :=
  BitVec.ofNat 32 (((gs.filter fun g => g / 32 == k).map fun g => 2 ^ (g % 32)).foldl (· + ·) 0)

/-- The fenced vales. -/
def State.fencedVales (s : State) : List Nat := (s.vales.filter fun e => e.2.fenced).map (·.1)

/-- PCFG_STAT (R276). -/
def viewPcfgStat (s : State) (n : Nat) : Word :=
  let p := s.part n
  fields [(25, 16, p.btEntry), (11, 8, p.err), (4, 4, boolBit ((s.owned n).any fun g => (s.vale g).fenced)),
    (3, 3, boolBit p.op.isSome), (1, 0, partCode p.mode)]

/-- GRANT_ENTRY of the page GRANT_READ_PAGE (R463). -/
def viewGrantEntry (s : State) : Word :=
  let g := s.grant (s.regF 0x1104C 20 0)
  fields [(20, 20, boolBit g.writer.isSome), (19, 16, (g.writer.map Fin.val).getD 0), (15, 0, g.readers)]

/-- TURN_STATk (R382). -/
def viewTurnStat (s : State) (k : Nat) : Word :=
  match s.turn k with
  | none => 0#32
  | some t => fields [(31, 16, t.layers), (15, 12, t.part.val), (11, 8, t.set), (7, 6, t.attempt),
      (2, 0, turnCode t.state)]

/-- SEQ_STAT (R594). -/
def viewSeqStat (s : State) (g : Nat) : Word :=
  let v := s.vale g
  fields [(27, 24, (v.owner.map Fin.val).getD 0), (23, 23, boolBit v.owner.isSome), (22, 22, boolBit v.test),
    (21, 20, v.set), (9, 0, (s.ofVale g).length)]

/-- ELEM_STAT (R189). -/
def viewElemStat (s : State) (g : Nat) : Word :=
  let e := (s.vale g).elem
  fields [(23, 16, match e.blk with | some b => b.base + b.pc / 64 | none => 0), (7, 4, waitCode e.wait),
    (1, 1, boolBit e.loading), (0, 0, boolBit e.stage.isSome)]

/-- PM_RESIDENT (R189): the resident program blocks. -/
def viewResident (s : State) (g : Nat) : Word :=
  BitVec.ofNat 32 ((((s.vale g).elem.resident.filter fun e => e.2.isSome).map fun e => 2 ^ e.1).foldl (· + ·) 0)

/-- COLL_STAT (R347): the stage that runs on the vale. -/
def viewCollStat (s : State) (g : Nat) : Word :=
  let live := (s.ofVale g).filter fun e => e.2.coll.any fun x => !x.ended
  let first := live.filter fun e => live.all fun o => decide (e.2.seqNo ≤ o.2.seqNo)
  match first.filterMap fun e => e.2.coll with
  | [] => 0#32
  | c :: _ => fields [(5, 4, c.attempt), (3, 0, collCode c.state)]

/-- LINK_STAT (R316). -/
def viewLinkStat (s : State) (k : Nat) : Word :=
  let l := s.link k
  fields [(14, 14, boolBit l.partnerValid), (13, 13, boolBit l.partnerHw), (12, 8, l.partnerLink.toNat),
    (3, 0, linkCode l)]

/-- PART_STAT (R274). -/
def viewPartStat (s : State) (n : Nat) : Word :=
  fields [(16, 16, boolBit (s.metered n)), (9, 0, (s.ofPart n).length)]

/-- RC_STAT (R439). -/
def viewRcStat (s : State) (n : Nat) : Word :=
  let r := (s.part n).rc
  let count := fun k => ((s.owned n).filter fun g => (s.vale g).set == k && !(s.vale g).fenced).length
  fields [(23, 20, r.hold), (17, 16, match r.pending with | none => 0 | some m => if m.toPrefill then 1 else 2),
    (15, 8, count 2), (7, 0, count 1)]

/-- The request records of partition n in a STATE (R407, R439). -/
def State.requestsIn (s : State) (n st : Nat) : List Nat :=
  let a := s.reg64 (partBase n + 0x5018)
  (List.range (s.regF (partBase n + 0x5020) 14 0)).filter fun r => bitsOf (s.peek32 n (a + 128 * r + 4)) 2 0 == st

/-- RQ_STAT (R439). -/
def viewRqStat (s : State) (n : Nat) : Word :=
  fields [(30, 16, (s.requestsIn n 1).length), (14, 0, (s.requestsIn n 2).length)]

/-- A word of a fault record (R449). -/
def faultWord (r : FaultRec) : Nat → Nat
  | 0 => r.addr
  | 1 => bitsOf r.addr 47 32
  | 2 => 2 ^ 31 + boolBit r.resumable * 2 ^ 30 + boolBit r.write * 2 ^ 29 + boolBit r.level * 2 ^ 28 +
      2 ^ 16 * r.vale + r.slot
  | 3 => r.xfer
  | 4 => r.beat
  | 5 => r.beat / 2 ^ 32
  | 6 => r.cmdId
  | _ => 0

/-- A fault record as the partition page shows it (R449). -/
def viewFault (s : State) (n o : Nat) : Word :=
  match (s.part n).faults.find? fun r => r.index == o / 32 with
  | none => 0#32
  | some r => BitVec.ofNat 32 (faultWord r (o % 32 / 4))

/-! ### The terrace window (R477, R478) -/

/-- The bytes of a region, dense from its cells. -/
def regionBytes (r : Region) : List Byte := (List.range r.length).map fun o => Sparse.get memDefault r.cells o

/-- The digest of a region (R478): of its bytes, or the one recorded. -/
def regionDigest (r : Region) : List Word := if r.digest = [] then td128 (regionBytes r) else r.digest

/-- A region entry (R478). -/
def regionEntry (r : Region) : List Byte :=
  leBytes 4 (regionCode r.kind + regionStatusCode r.status * 16 + r.part * 256 + 65536 * r.unit) ++ leBytes 4 0 ++
    leBytes 8 r.length ++ leBytes 8 r.src ++ leBytes 8 r.dst ++ wordBytes (regionDigest r) ++ leBytes 16 0

/-- The offset of the region index from the header: the index follows the header. DESIGN CHOICE. -/
def terraceIndex : Nat := 64

/-- The terrace header (R477). -/
def terraceHeader (t : Terrace) : List Byte :=
  let rev := fun i => t.revs.getD i 0
  leBytes 4 (terraceCode t.state + t.cause * 256) ++ leBytes 4 t.seq.toNat ++ leBytes 8 t.beatStart.toNat ++
    leBytes 8 t.beatEnd.toNat ++ leBytes 4 t.risk ++ leBytes 4 (rev 0) ++ leBytes 2 (rev 1) ++ leBytes 2 (rev 2) ++
    leBytes 4 (rev 3) ++ leBytes 2 t.regions.length ++ leBytes 2 t.commands.length ++ leBytes 4 t.parts ++
    leBytes 8 terraceIndex ++ leBytes 8 0

/-- The 64 bytes of the terrace at an offset from its header (R477, R490); an empty terrace shows its header only. -/
def terraceWindow (t : Terrace) (ofs : Nat) : List Byte :=
  if ofs < terraceIndex then terraceHeader t
  else
    let i := (ofs - terraceIndex) / 64
    match t.regions[i]? with
    | some r => regionEntry r
    | none =>
      let c := (t.commands.drop ((i - t.regions.length) * 4)).take 4
      let bs := c.flatten
      bs ++ List.replicate (64 - bs.length) 0#8

/-- A register of the health page that shows live state (R469, R490). -/
def viewHealth (s : State) (o : Nat) : Option Word :=
  let t := s.terrace
  if o = 0x44 then
    if s.health.last.isSome then none else some (setField (s.reg 0x103044) 15 0 (s.regF 0x103048 15 0))
  else if 0x80 ≤ o ∧ o < 0xA0 then some (BitVec.ofNat 32 (s.health.a.getD ((o - 0x80) / 4) 0))
  else if o = 0xC4 then
    let bad := (t.regions.filter fun r => r.status != .saved && r.status != .pushed).length
    some (fields [(27, 24, terraceCode t.state), (15, 8, min bad 255), (2, 2, boolBit t.pushing),
      (1, 1, boolBit t.restoring), (0, 0, boolBit t.hold.isSome)])
  else if 0xF0 ≤ o ∧ o < 0x100 then some (valeMask s.fencedVales ((o - 0xF0) / 4))
  else if 0x100 ≤ o ∧ o < 0x140 then
    some (wordAt (terraceWindow t (s.regF 0x1030E0 31 6 * 64)) (o - 0x100))
  else none

/-! ### The MP page (R539, R560) -/

/-- The flash as erased (R538). -/
def flashDefault : Nat → Byte := fun _ => 0xFF#8
/-- A byte of flash. -/
def Mp.flashByte (m : Mp) (a : Nat) : Byte := Sparse.get flashDefault m.flash a
/-- n bytes of flash. -/
def Mp.flashBytes (m : Mp) (a : Nat) : Nat → List Byte
  | 0 => []
  | n + 1 => m.flashByte a :: m.flashBytes (a + 1) n
/-- Bytes written to flash. -/
def Mp.setFlash (m : Mp) (a : Nat) : List Byte → Mp
  | [] => m
  | b :: bs => ({ m with flash := Sparse.set flashDefault m.flash a b } : Mp).setFlash (a + 1) bs
/-- A range of flash erased. -/
def Mp.eraseFlash (m : Mp) (lo hi : Nat) : Mp :=
  { m with flash := m.flash.filter fun c => decide (c.1 < lo) || decide (hi ≤ c.1) }
/-- The flash offset of a slot: 0 for A, 1 for B (R538). -/
def slotBase (slot : Nat) : Nat := 0x4000000 * slot
/-- The word at an offset of a slot. -/
def Mp.slotWord (m : Mp) (slot o : Nat) : Nat := leNat (m.flashBytes (slotBase slot + o) 4)

/-- Whether a slot's header is valid (R539). -/
def Mp.headerValid (m : Mp) (slot : Nat) : Bool :=
  let h := m.flashBytes (slotBase slot) 0x80
  w32At h 0 == 0x4D445648 && w32At h 0x7C == crc32 (h.take 8 ++ (h.drop 0x0C).take 0x70)

/-- STATE of a slot's header (R539). -/
def Mp.slotState (m : Mp) (slot : Nat) : Nat := bitsOf (m.slotWord slot 8) 1 0

/-- The activation log scanned from entry i on: the last valid ACT_SEQ before the first erased entry, and the index of
that entry (R539). -/
def Mp.scanLog (m : Mp) (slot : Nat) : Nat → Nat → Nat → Nat × Nat
  | 0, i, best => (best, i)
  | f + 1, i, best =>
    let e := m.flashBytes (slotBase slot + 0x80 + 8 * i) 8
    if e.all (· == 0xFF#8) then (best, i)
    else Mp.scanLog m slot f (i + 1) (if w32At e 4 == crc32 (e.take 4) then w32At e 0 else best)

/-- ACT_SEQ of a slot and its first erased log entry (496 when there is none) (R539). -/
def Mp.actSeq (m : Mp) (slot : Nat) : Nat × Nat := m.scanLog slot 496 0 0xFFFFFFFF

/-- Whether a slot can be selected (R540). -/
def Mp.selectable (m : Mp) (slot : Nat) : Bool := m.headerValid slot && m.slotState slot == 0

/-- ACT_SEQ as the selection compares it: 0xFFFF_FFFF counts as lowest (R540). -/
def actRank (a : Nat) : Nat := if a = 0xFFFFFFFF then 0 else a + 1

/-- The slot that the boot record selects (R540); none when no slot qualifies. -/
def Mp.selected (m : Mp) : Option Nat :=
  match m.selectable 0, m.selectable 1 with
  | true, true => some (if actRank (m.actSeq 0).1 < actRank (m.actSeq 1).1 then 1 else 0)
  | true, false => some 0
  | false, true => some 1
  | false, false => none

/-- The chunks staged in a slot: the bitmap bits that are 0 (R538, R544). -/
def Mp.stagedChunks (m : Mp) (slot : Nat) : Nat :=
  let n := ceilDiv (m.slotWord slot 4) 8192
  let bm := m.flashBytes (slotBase slot + 0x1000) 1024
  ((List.range (min n 8192)).filter fun c => !bitOf (bm.getD (c / 8) 0#8).toNat (c % 8)).length

/-- The slot that booted (R532). -/
def State.bootSlot (s : State) : Nat := s.regF 0x140 8 8

/-- FW_STAT (R560). -/
def viewFwStat (s : State) : Word :=
  let b := s.bootSlot
  let o := 1 - b
  fields [(31, 16, bitsOf (s.mp.slotWord b 0x50) 15 0), (5, 4, s.mp.slotState o),
    (3, 3, boolBit (s.mp.selected == some o)), (2, 2, boolBit s.mp.update.isSome), (0, 0, b)]

/-- The circular record that the MP writes next (R557, R560). -/
def Mp.head (m : Mp) : Nat := 256 + m.seq % 261888
/-- The first-fault records held (R555, R560). -/
def Mp.ffCount (m : Mp) : Nat := (m.records.filter fun e => e.1 < 256).length

/-- A register of the MP page that shows live state. -/
def viewMp (s : State) (o : Nat) : Option Word :=
  if o = 0x50 then some (Config.serial.setWidth 32)
  else if o = 0x54 then some ((Config.serial >>> 32).setWidth 32)
  else if o = 0x58 then some (viewFwStat s)
  else if o = 0x5C then some (BitVec.ofNat 32 (s.mp.stagedChunks (1 - s.bootSlot)))
  else if o = 0x84 then some (BitVec.ofNat 32 s.mp.head)
  else if o = 0x88 then some (BitVec.ofNat 32 s.mp.ffCount)
  else none

/-! ### All pages -/

/-- A register of the DEVICE page that shows live state. A read of HIF_STAT comes over the host link, which is then up. -/
def viewDevice (s : State) (o : Nat) : Option Word :=
  let b := s.shownBeat
  match o with
  | 0x10 => some (deviceIrq s)
  | 0x44 => some (viewBeatStat b)
  | 0x48 => some (b.num.setWidth 32)
  | 0x4C => some ((b.num >>> 32).setWidth 32)
  | 0x50 => some (BitVec.ofNat 32 ((if b.counted then s.clock - b.edgeClock else 0) % 2 ^ 14))
  | 0x54 => some (fields [(21, 8, b.pLock / 256), (7, 0, b.pLock % 256)])
  | 0x58 => some (fields [(10, 0, b.flyCount)])
  | 0x5C => some (fields [(15, 0, unsignedOf 16 b.phaseErr)])
  | 0x6C => some Config.boundRev
  | 0x108 => some (fields [(11, 8, 2 ^ (Config.hostWidth s.boot.hostTrained).val),
      (3, 0, (Config.hostRate s.boot.hostTrained).val + 1)])
  | 0x140 => some (setField (s.reg 0x140) 3 0 s.boot.phase)
  | 0x144 => some (fields [(0, 0, boolBit s.boot.headwater)])
  | _ => none

/-- A register of a partition page that shows live state. -/
def viewPart (s : State) (n o : Nat) : Option Word :=
  let p := s.part n
  if o = 0x40 then some (viewPartStat s n)
  else if 0x1000 ≤ o ∧ o < 0x1800 ∧ o % 0x40 = 0x18 then
    let j := (o - 0x1000) / 0x40
    some (setField (s.reg (partBase n + o)) 31 16 ((s.ofPart n).filter fun e => e.2.job == j).length)
  else if o = 0x3018 then some (setField (s.reg (partBase n + o)) 28 16 p.pins.length)
  else if o = 0x4018 then some (setField (s.reg (partBase n + o)) 1 1 (boolBit p.step.isSome))
  else if o = 0x5014 then some (viewRqStat s n)
  else if o = 0x5090 then some (viewRcStat s n)
  else if o = 0x6018 then some (fields [(0, 0, boolBit p.tlbInv.isSome)])
  else if o = 0x603C then some (setField (s.reg (partBase n + o)) 31 31 (boolBit p.res.isSome))
  else if o = 0x701C then some (setField (s.reg (partBase n + o)) 31 31 (boolBit p.digest.isSome))
  else if 0x10000 ≤ o ∧ o < 0x20000 then some (viewFault s n (o - 0x10000))
  else none

/-- A register that shows live state; none where the register file holds it. -/
def viewLive (s : State) (pg : Page) (o : Nat) : Option Word :=
  match pg with
  | .device => viewDevice s o
  | .partcfg n =>
    if o = 0x44 then some (viewPcfgStat s n.val)
    else if 0x50 ≤ o ∧ o < 0x60 ∧ (s.part n.val).mode ≠ .free then
      some (valeMask (s.owned n.val) ((o - 0x50) / 4))
    else if 0x60 ≤ o ∧ o < 0x70 then
      some (valeMask ((s.owned n.val).filter fun g => (s.vale g).fenced) ((o - 0x60) / 4))
    else none
  | .mem =>
    if o = 0x48 then some (setField (s.reg 0x11048) 31 31 (boolBit s.grantOp.isSome))
    else if o = 0x50 then some (viewGrantEntry s) else none
  | .pass n => if o = 0x40 then some (fields [(8, 8, boolBit (n.val == 0)), (1, 1, boolBit (n.val == 0 && s.live)),
      (0, 0, boolBit (decide (4 ≤ s.boot.phase) && s.boot.phase != 15))]) else none
  | .swb _ =>
    if o = 0x40 then
      some (BitVec.ofNat 32 (((s.turns.filter fun e => e.2.isSome).map fun e => 2 ^ e.1).foldl (· + ·) 0))
    else if 0x60 ≤ o ∧ o < 0x80 then some (viewTurnStat s ((o - 0x60) / 4)) else none
  | .health => viewHealth s o
  | .plain p =>
    if o = 0x40 then
      some (setField (setField (s.reg (pageBase pg + o)) 8 8 (boolBit (s.floor p.val).failed)) 7 0
        ((((s.fencedVales.filter fun g => g / 8 == p.val).map fun g => 2 ^ (g % 8))).foldl (· + ·) 0))
    else none
  | .seq g => if o = 0x44 then some (viewSeqStat s g.val) else none
  | .elem g =>
    if o = 0x44 then some (viewElemStat s g.val) else if o = 0x4C then some (viewResident s g.val) else none
  | .collect g => if o = 0x40 then some (viewCollStat s g.val) else none
  | .link k =>
    if o = 0x44 then some (viewLinkStat s k.val)
    else if o = 0x48 then some (fields [(15, 0, (s.link k.val).lambda)]) else none
  | .mp => viewMp s o
  | .part n => viewPart s n.val o
  | .stream g =>
    if o = 0x44 then
      let free := match (s.vale g.val).owner with | some n => s.poolFree n.val g.val | none => 0
      some (fields [(29, 16, free), (8, 4, s.stopped g.val), (1, 1, boolBit (s.spilling g.val)),
        (0, 0, boolBit (s.earlyFetch g.val))])
    else none
  | .array g a =>
    if o = 0x44 then some ((Sparse.get (fun _ => ArraySt.reset) (s.vale g.val).arrays a.val).stat)
    else if o = 0x48 then some ((Sparse.get (fun _ => ArraySt.reset) (s.vale g.val).arrays a.val).tileTag) else none
  | .fuu _ =>
    if o = 0x40 then
      let w := s.reg (pageBase pg + 0x40)
      some (setField w 1 1 (boolBit (fieldOf w 0 0 == 1 && s.holding)))
    else none
  | .floor st =>
    if o = 0x5C then
      some (setField (s.reg (pageBase pg + o)) 31 16 ((Config.spareRows st.val).toNat - (s.floor st.val).spared.length))
    else none
  | .echo _ => none

/-- Whether the unit of a page is fenced (R582). -/
def unitFenced (s : State) : Page → Bool
  | .seq g | .elem g | .stream g | .array g _ | .collect g => (s.vale g.val).fenced
  | .plain p => s.fencedVales.any fun g => g / 8 == p.val
  | .floor st | .fuu st => (s.floor st.val).failed
  | .link k => (s.link k.val).state == .failed
  | _ => false

/-- The boot phase whose end makes a page READY (R514, R582): links at LINKS, stacks at STACKS, the MP at FLASH, the
others at PROCESSORS. -/
def readyAfter : Page → Nat
  | .link _ => 5
  | .floor _ | .fuu _ => 3
  | .mp => 2
  | _ => 4

/-- BLK_STAT (R582). -/
def viewBlkStat (s : State) (pg : Page) : Word :=
  fields [(2, 2, boolBit (s.resetting pg)), (1, 1, boolBit (unitFenced s pg)),
    (0, 0, boolBit (s.live && s.boot.phase != 15 && decide (readyAfter pg < s.boot.phase)))]

/-- BLK_CTL as it reads (R581): FENCE is live. -/
def viewBlkCtl (s : State) (pg : Page) : Word :=
  if pageHasFence pg then setField (s.reg (pageBase pg + 8)) 2 2 (boolBit (unitFenced s pg)) else s.reg (pageBase pg + 8)

/-- The bits of a register that read as zero: those no row lists, and the WO fields (R7, R11). -/
def readMask (rs : List RegRow) : Word :=
  rs.foldl (fun w r => if r.acc == .wo then w else setField w r.hi r.lo (2 ^ (r.hi + 1 - r.lo) - 1)) 0#32

/-- Whether a page is the partition page of a FREE partition (R283). -/
def pageFree (s : State) : Page → Bool
  | .part n => (s.part n.val).mode == .free
  | _ => false

/-- What a host read of a 32-bit register returns (R7, R11); a partition page while its partition is FREE reads zero
but for its header (R283), a page in soft reset reads its reset values (R584). -/
def viewReg (s : State) (a : Nat) : Word :=
  match locate a with
  | none => 0#32
  | some (pg, o) =>
    if o = 0x0C then viewBlkStat s pg
    else if o = 0 ∨ o = 4 then regDefault a
    else if s.resetting pg then readMask (rowsAt pg o) &&& regDefault a
    else if o = 8 then viewBlkCtl s pg &&& readMask (rowsAt pg o)
    else if pageFree s pg then 0#32
    else
      match viewLive s pg o with
      | some w => w
      | none => readMask (rowsAt pg o) &&& s.reg a

end Sys2Proof.Machine
end

