-- ==== Sys2Proof/Machine/Registers.lean ====
section
/-! DEFINITION. Registers: how host accesses act on the register file (R7 to R13, R277, R274, R380, R404, R439, R465),
the interrupt registers (R500, R583), soft resets (R584) and the reads that change state (R7, R10). -/

namespace Sys2Proof.Machine

/-! ### The MP page, which FAILED still serves (R533) -/

/-- The shape of a host access to the MP page: in FAILED its accesses are served too (R533). -/
def actMp (s : State) (f : State → State) : Host.Outcome State Fault Refusal :=
  act s fun s => if (s.ready || s.boot.phase == 15) && !(s.fn 0).d3 then f s else s.emit (.unsupported .pf)

/-- Whether a BAR0 offset lies in the MP page, which FAILED still serves (R533). -/
def inMpPage (fn : Fn) (ofs : Nat) : Bool := fn == .pf && decide (0x3F00000 ≤ ofs) && decide (ofs < 0x3F01000)

/-- The shape of a host access to a page of a BAR0. -/
def actAt (mp : Bool) (fn : Fn) (s : State) (f : State → State) : Host.Outcome State Fault Refusal :=
  if mp then actMp s f else actBar fn s f

/-! ### Which writes a register takes -/

/-- Whether the request table of partition n holds a record that is not FREE (R407, R439). -/
def State.requestsLive (s : State) (n : Nat) : Bool :=
  let a := s.reg64 (partBase n + 0x5018)
  (List.range (s.regF (partBase n + 0x5020) 14 0)).any fun r => bitsOf (s.peek32 n (a + 128 * r + 4)) 2 0 ≠ 0

/-- Whether the residency table of partition n holds an entry that is RESIDENT or LOADING (R457, R465). -/
def State.shardsLive (s : State) (n : Nat) : Bool :=
  let a := s.reg64 (partBase n + 0x6020)
  (List.range (s.regF (partBase n + 0x6028) 10 0)).any fun r => bitsOf (s.peek32 n (a + 128 * r)) 31 30 ≠ 0

/-- Whether a queue of a partition page is empty: its tail and head registers agree (R248, R357). -/
def State.queueEmpty (s : State) (tail head : Nat) : Bool := s.regF tail 14 0 == s.regF head 14 0

/-- Whether a job's submit queue is empty and none of its commands is in flight (R274, R277). -/
def State.jobIdle (s : State) (n j : Nat) : Bool :=
  s.queueEmpty (partBase n + 0x100C + 0x40 * j) (partBase n + 0x1010 + 0x40 * j) &&
    !(s.ofPart n).any fun e => e.2.job == j

/-- Whether the host may write a field of PARTCFGn now (R277). -/
def partcfgWritable (s : State) (n : Nat) (o : Nat) (r : RegRow) : Bool :=
  if o < 0x48 then true
  else
    match (s.part n).mode with
    | .free => true
    | _ =>
      if 0x100 ≤ o then s.jobIdle n ((o - 0x100) / 8)
      else o == 0x88 || o == 0x8C || (o == 0x48 && r.lo == 8)

/-- Whether the host may write a register of the partition page of n now (R274, R380, R404, R439, R465, R283). -/
def partWritable (s : State) (n : Nat) (o : Nat) : Bool :=
  let b := partBase n
  if (s.part n).mode == .free then decide (o < 0x40)
  else if 0x1000 ≤ o ∧ o < 0x1800 then
    if o % 0x40 ≤ 8 then s.jobIdle n ((o - 0x1000) / 0x40) else true
  else if 0x2000 ≤ o ∧ o ≤ 0x2008 then (s.ofPart n).isEmpty
  else if (0x3000 ≤ o ∧ o ≤ 0x3008) ∨ (0x3020 ≤ o ∧ o ≤ 0x3024) then
    s.queueEmpty (b + 0x300C) (b + 0x3010) && (List.range 8).all fun t => !((s.turn t).any fun j => j.part.val == n)
  else if 0x4000 ≤ o ∧ o ≤ 0x4008 then s.queueEmpty (b + 0x400C) (b + 0x4010)
  else if (0x5000 ≤ o ∧ o ≤ 0x5008) ∨ (0x5018 ≤ o ∧ o < 0x5080) then
    s.queueEmpty (b + 0x500C) (b + 0x5010) && !s.requestsLive n
  else if 0x6020 ≤ o ∧ o < 0x6038 then !s.shardsLive n
  else true

/-- Whether a host write reaches a field now: not while its page applies a soft reset (R584), and under the rules of
PARTCFGn and of the partition page. -/
def writable (s : State) (pg : Page) (o : Nat) (r : RegRow) : Bool :=
  !s.resetting pg &&
    (match pg with
     | .partcfg n => partcfgWritable s n.val o r
     | .part n => partWritable s n.val o
     | _ => true)

/-! ### Storing -/

/-- A register after a host write, as one of its fields takes it (R7, R11, R12). No register of the map is RW1. -/
def fieldWrite (old v : Word) (r : RegRow) : Word :=
  let x := fieldOf v r.hi r.lo
  let y := fieldOf old r.hi r.lo
  match r.acc with
  | .rw => if r.legal.ok x then setField old r.hi r.lo x else old
  | .w1c => setField old r.hi r.lo (y - (y &&& x))
  | .w1s => setField old r.hi r.lo (y ||| x)
  | .rw1 | .ro | .wo | .rc => old

/-- Whether a write to a register counts as a write to an IRQ_STAT, and of which page (R500, R590). -/
def irqWritePage (pg : Page) (o : Nat) : Option Page :=
  match pg with
  | .device => if o = 0x10 ∨ o = 0x60 ∨ o = 0x10C then some .device else none
  | .pass _ => if o = 0x10 then some .device else none
  | _ => if o = 0x10 then some pg else none

/-- After a write to an IRQ_STAT the vector's message leaves again when its OR is still non-zero (R500). -/
def State.resend (s : State) (pg : Page) : State :=
  match pageVector pg with
  | none => s
  | some v => if vectorOr s v then s.sendMsix 0 v else s

/-- The fields of a register that pass a test take a host write (R7). -/
def State.storeFields (s : State) (a : Nat) (v : Word) (p : RegRow → Bool) : State :=
  match locate a with
  | none => s
  | some (pg, o) =>
    let rs := (rowsAt pg o).filter fun r => p r && writable s pg o r
    let put := fun (s : State) => s.setReg a (rs.foldl (fun w r => fieldWrite w v r) (s.reg a))
    match irqWritePage pg o with
    | some q => (put s).resend q
    | none => s.withIrq pg put

/-- The whole register takes a host write. -/
def State.storeReg (s : State) (a : Nat) (v : Word) : State := s.storeFields a v fun _ => true

/-! ### Reads that change state (R7, R10, R40) -/

/-- The key of the shadow of an address for a function (R10). -/
def shadowKey (fn : Fn) (a : Nat) : Nat := 2 ^ 32 * fnNum fn + a

/-- The shadow of an address, when a read latched one. -/
def State.shadow (s : State) (fn : Fn) (a : Nat) : Option Word :=
  (s.shadows.find? fun e => e.1 == shadowKey fn a).map (·.2)

/-- The shadow of an address set or dropped. -/
def State.setShadow (s : State) (fn : Fn) (a : Nat) (w : Option Word) : State :=
  let rest := Sparse.erase (shadowKey fn a) s.shadows
  { s with shadows := match w with | none => rest | some w => Sparse.insert (shadowKey fn a) w rest }

/-- The addresses a read of a register latches into shadows (R10, R40). -/
def latched (pg : Page) (o : Nat) : List Nat :=
  if pairLow pg o then (o + 4) :: (match pg with | .device => if o = 0x48 then [0x50] else [] | _ => []) else []

/-- The register after a read: its RC fields are clear (R7). -/
def rcCleared (rs : List RegRow) (w : Word) : Word :=
  rs.foldl (fun w r => if r.acc == .rc then setField w r.hi r.lo 0 else w) w

/-- A host read of one 32-bit register: what it returns, and what it changes (R7, R10, R40). -/
def State.hostRead (s : State) (fn : Fn) (a : Nat) : Word × State :=
  match locate a with
  | none => (0#32, s)
  | some (pg, o) =>
    let w := (s.shadow fn a).getD (viewReg s a)
    let s := if s.resetting pg then s else s.setReg a (rcCleared (rowsAt pg o) (s.reg a))
    let s := s.setShadow fn a none
    (w, (latched pg o).foldl (fun t q => t.setShadow fn (pageBase pg + q) (some (viewReg s (pageBase pg + q)))) s)

/-- A host read whose data leaves the part. -/
def State.readOut (s : State) (fn : Fn) (ofs : Nat) : State :=
  match flatAddr fn ofs with
  | none => s
  | some a =>
    let r := s.hostRead fn a
    r.2.emit (.read fn ofs (r.1.setWidth 64))

/-- Whether an address holds an RC field (R7). -/
def rcAddr (fn : Fn) (ofs : Nat) : Bool :=
  match flatAddr fn ofs with
  | none => false
  | some a => decide (a % 4 = 0) && (rowsOf a).any fun r => r.acc == .rc

/-- Whether a read of an address uses a shadow: it is the low word of a pair, or a word whose shadow is set (R10). -/
def shadowAddr (s : State) (fn : Fn) (ofs : Nat) : Bool :=
  match flatAddr fn ofs with
  | none => false
  | some a =>
    match locate a with
    | none => false
    | some (pg, o) => pairLow pg o || (s.shadow fn a).isSome

/-- RC_FIELD_READ (R7, R8): the read returns the field, then the field clears. -/
def execRcFieldRead (fn : Fn) (ofs : Nat) (s : State) : Host.Outcome State Fault Refusal :=
  actAt (inMpPage fn ofs) fn s fun s => if rcAddr fn ofs then s.readOut fn ofs else s

/-- LOW_WORD_READ (R10, R40): the read of a low word latches its upper word, BEAT_NUM_LO's SUB_BEAT too; the next read of
a latched word returns its shadow. -/
def execLowWordRead (fn : Fn) (ofs : Nat) (s : State) : Host.Outcome State Fault Refusal :=
  actAt (inMpPage fn ofs) fn s fun s => if shadowAddr s fn ofs then s.readOut fn ofs else s

/-- What CG_TEST_OUT reads (R93). -/
def cgTestOut (s : State) : Word :=
  cg ⟨s.reg 0x80, s.reg 0x84, s.reg 0x88, s.reg 0x8C⟩ ⟨s.reg 0x90, s.reg 0x94, s.reg 0x98, s.reg 0x9C⟩

/-- CG_TEST_OUT_READ (R93): the output of the counter generator for the test key and counter as they stand. -/
def execCgTestOutRead (s : State) : Host.Outcome State Fault Refusal :=
  actBar .pf s fun s => s.emit (.read .pf 0xA0 ((cgTestOut s).setWidth 64))

/-! ### Interrupt registers (R500, R583) -/

/-- Whether a page has an IRQ_STAT (R583, R587). -/
def hasIrq (pg : Page) : Bool := (rowsAt pg 0x10).any fun r => r.acc == .w1c

/-- IRQ_STAT_WRITE (R500): a W1C write, after which the message leaves again while enabled events remain. -/
def execIrqStatWrite (pg : Page) (v : BitVec 32) (s : State) : Host.Outcome State Fault Refusal :=
  actAt (pg == .mp) .pf s fun s => if hasIrq pg then s.storeReg (pageBase pg + 0x10) v else s

/-- The event bits of a page's IRQ_STAT that a write names (R583). -/
def forcedBits (pg : Page) (v : Word) : Nat :=
  ((rowsAt pg 0x18).foldl (fun w r => setField w r.hi r.lo (fieldOf v r.hi r.lo)) 0#32).toNat

/-- IRQ_FORCE_WRITE (R583): the named event bits are set as by their event, and nothing else changes. -/
def execIrqForceWrite (pg : Page) (v : BitVec 32) (s : State) : Host.Outcome State Fault Refusal :=
  actAt (pg == .mp) .pf s fun s => if hasIrq pg then s.raise pg (forcedBits pg v) else s

/-! ### Soft reset (R584) -/

/-- Whether a vale bars a soft reset of its pages: owned, or held by a background test (R584). -/
def valeBusy (s : State) (g : Nat) : Bool :=
  let v := s.vale g
  v.owner.isSome || v.test

/-- The floor rate LINK_WEIGHT of partition n on link k (R276, R316). -/
def linkWeight (s : State) (n k : Nat) : Nat := s.regF (pcfg n + 0xA8 + 4 * (k / 8)) (k % 8 * 4 + 3) (k % 8 * 4)

/-- Whether any partition has weight on a link (R316, R584). -/
def linkWeighted (s : State) (k : Nat) : Bool := (List.range 16).any fun n => linkWeight s n k ≠ 0

/-- Whether the part carries out a soft reset of a page (R584, R587). -/
def softResetOk (s : State) (pg : Page) : Bool :=
  pageSoftReset pg != .none && !s.resetting pg &&
    (match pg with
     | .seq g | .elem g | .stream g | .array g _ | .collect g => !valeBusy s g.val
     | .plain p => (List.range 8).all fun v => !valeBusy s (8 * p.val + v)
     | .link k => !linkWeighted s k.val
     | _ => true)

/-- The read-only registers of a page that count (R584). -/
def roCounts (pg : Page) : List Nat :=
  match pg with
  | .seq _ => [0x48, 0x4C]
  | .elem _ => [0x50, 0x54, 0x58, 0x5C, 0x60, 0x64]
  | .stream _ => [0x4C, 0x50, 0x58, 0x5C]
  | .array _ _ => [0x70, 0x74, 0x78, 0x7C]
  | .link _ => [0x64, 0x68, 0x6C, 0x70]
  | .floor _ => [0x48]
  | .fuu _ => [0x48, 0x4C]
  | _ => []

/-- A register of a page after a soft reset: its RW, RC, W1C and W1S fields and its counters hold their reset value,
every other field stays (R584). -/
def softResetWord (pg : Page) (o : Nat) (w : Word) : Word :=
  (rowsAt pg o).foldl (fun w r =>
    if r.acc == .ro && !(roCounts pg).contains o then w else setField w r.hi r.lo r.reset) w

/-- The registers of a page after a soft reset. -/
def State.softResetRegs (s : State) (pg : Page) : State :=
  let b := pageBase pg
  { s with regs := s.regs.foldl (fun m e =>
      if b ≤ e.1 ∧ e.1 < b + 0x1000 then Sparse.set regDefault m e.1 (softResetWord pg (e.1 - b) e.2) else m) s.regs }

/-- What a soft reset clears beside registers: an array's banks and tiles (R111); an element engine's operand cache and
the residency of its program blocks (R584). -/
def State.softResetUnit (s : State) (pg : Page) : State :=
  match pg with
  | .array g a =>
    let s := s.modVale g.val fun v => { v with arrays := Sparse.set (fun _ => ArraySt.reset) v.arrays a.val ArraySt.reset }
    s.clearRange (bankAddr g.val a.val 0 0) (bankAddr g.val a.val 256 0)
  | .elem g =>
    let s := s.modVale g.val fun v => { v with elem := { v.elem with resident := [] } }
    s.clearRange (2 ^ 45 + 2 ^ 20 * g.val) (2 ^ 45 + 2 ^ 20 * (g.val + 1))
  | _ => s

/-- A soft reset of a page (R584). -/
def softResetDo (pg : Page) (s : State) : State :=
  if softResetOk s pg then
    let s := (s.softResetRegs pg).softResetUnit pg
    { s with resets := s.resets ++ [pageBase pg] }
  else s

/-- SOFT_RESET (R584). -/
def execSoftReset (pg : Page) (s : State) : Host.Outcome State Fault Refusal := actBar .pf s (softResetDo pg)

/-- SOFT_RESET_END (R584): RESETTING falls. -/
def execSoftResetEnd (pg : Page) (s : State) : Host.Outcome State Fault Refusal :=
  act s fun s => { s with resets := s.resets.filter (· != pageBase pg) }

end Sys2Proof.Machine
end

