-- ==== Sys2Proof/Machine/Health.lean ====
section
/-! DEFINITION. Health: the health monitor (R467 to R471), fences (R484, R485, R488, R586) and the digest engine (R482). -/

namespace Sys2Proof.Machine

/-! ### Pins -/

/-- A pin is driven to a level; a change shows outside. -/
def State.setPin (s : State) (p : Pin) (on : Bool) : State :=
  if s.pins.contains p == on then s
  else
    { s with pins := if on then s.pins ++ [p] else s.pins.filter (· != p) }.emit (.pin p on)

/-- ALERT_N is asserted while an update has found RISK at or above ALERT_AT and ALERT_EN is 1 (R470). -/
def State.driveAlert (s : State) : State := s.setPin .alert (s.health.alert && s.regBit 0x103040 1)

/-! ### The health monitor (R467 to R471) -/

/-- The largest count of a class over its units, and the unit that gave it, the lowest one where several did (R467). -/
def classFigure (events : List (Nat × Nat)) (k : Nat) : Nat × Nat :=
  (events.filter fun e => e.1 / 64 == k).foldl
    (fun (best : Nat × Nat) e => if best.2 < e.2 then (e.1 % 64, e.2) else best) (0, 0)

/-- E_k of the interval with its unit (R467), clamped at 65,535. -/
def intervalFigure (s : State) (k : Nat) : Nat × Nat :=
  let h := s.health
  let f :=
    if k = 5 then (0, s.regF 0x103058 7 0 - (105 - h.hottest).toNat)
    else if k = 6 then (0, h.ripple - s.regF 0x103058 31 16)
    else classFigure h.events k
  (f.1, min f.2 65535)

/-- One accumulator's update (R468). -/
def accUpdate (a decay e weight : Nat) : Nat := min (a - a / 2 ^ decay + e * weight) 0xFFFFFFFF

/-- The accumulators A and B after an update (R468, R469). -/
def healthUpdate (s : State) : List Nat × Nat :=
  let h := s.health
  let a0 := if h.clearDue then List.replicate 8 0 else h.a
  let b0 := if h.clearDue || h.last.isNone then s.regF 0x103048 15 0 * 256 else h.b
  let a := (List.range 8).map fun k =>
    accUpdate (a0.getD k 0) (s.regF (0x103060 + 4 * k) 27 24) (intervalFigure s k).2 (s.regF (0x103060 + 4 * k) 23 0)
  (a, b0 - b0 / 2 ^ s.regF 0x103048 19 16)

/-- The risk of the accumulators (R468). -/
def riskOf (ab : List Nat × Nat) : Nat := min 65535 ((ab.2 + ab.1.foldl (· + ·) 0) / 256)

/-- Whether the beat edge of an interval's end is now, and its update has not run (R468). -/
def hmUpdateOk (s : State) : Bool :=
  s.beat.everLocked && s.beat.counted && s.subBeat == 0 && s.beatNum % 256 == 0 && s.health.last != some s.beatNum

/-- SRC_LASTk after an update (R467, R490). -/
def State.setSrcLast (s : State) (k : Nat) : State :=
  let f := intervalFigure s k
  s.setReg (0x1030A0 + 4 * k) (fields [(31, 24, f.1), (15, 0, f.2)])

/-- ALERT of an update (R470): `was` says whether the update before found the risk at or above ALERT_AT. -/
def State.alertAt (s : State) (risk : Nat) (was : Bool) : State :=
  let now := decide (s.regF 0x10304C 15 0 ≤ risk)
  let s := { s with health := { s.health with alert := now } }
  let s := s.driveAlert
  let s := if now && !was then s.raise .health 2 else s
  if now then s.moraine .alert .health [risk] else s

/-- The terrace trigger of an update (R471). -/
def State.triggerAt (s : State) (risk : Nat) : State :=
  let hit := decide (s.regF 0x103050 15 0 ≤ risk) && s.regBit 0x103040 2 && s.regBit 0x103044 16
  let s := if hit then s.setRegF 0x103044 16 16 0 else s
  let s := if hit && !s.holding then { s with terrace := { s.terrace with riskDue := true } } else s
  if risk < s.regF 0x103054 15 0 then s.setRegF 0x103044 16 16 1 else s

/-- An update of the health monitor (R468 to R471). -/
def hmUpdateDo (s : State) : State :=
  let ab := healthUpdate s
  let risk := riskOf ab
  let was := s.health.alert
  let s := (List.range 8).foldl State.setSrcLast s
  let h := { s.health with a := ab.1, b := ab.2, events := [], sampled := false, clearDue := false, last := some s.beatNum }
  let s := { s with health := h }
  let s := s.setRegF 0x103044 15 0 risk
  (s.alertAt risk was).triggerAt risk

/-- HM_UPDATE (R468). -/
def execHmUpdate (s : State) : Host.Outcome State Fault Refusal :=
  act s fun s => if hmUpdateOk s then hmUpdateDo s else s

/-- A write of HM_CTL.CLEAR (R469). -/
def hmClearDo (s : State) : State := { s with health := { s.health with clearDue := true } }

/-- HM_CLEAR (R469): the next update begins from cleared accumulators and the configured prior. -/
def execHmClear (s : State) : Host.Outcome State Fault Refusal := actBar .pf s hmClearDo

/-! ### Fences (R484, R485, R488, R586) -/

/-- The number of a vale fence's cause in its Moraine record; 0 is HOST. The spec gives no numbers. DESIGN CHOICE. -/
def valeCauseCode : ValeCause → Nat
  | .valeStore => 1 | .accumulator => 2 | .operandCache => 3 | .array => 4 | .element => 5 | .selfTest => 6

/-- The number of a plain fence's cause in its Moraine records. DESIGN CHOICE. -/
def plainCauseCode : PlainCause → Nat
  | .crossbar => 7 | .stackPort => 8 | .d2d _ => 9

/-- What a fence does to the owning partition: the vale counts as lost, the admission recheck falls due (R290), and a
pending move of the ratio controller that names it is cancelled (R427). -/
def partLosesVale (g : Nat) (p : Part) : Part :=
  let rc := if p.rc.pending.any fun m => m.vale == g then { p.rc with pending := none, due := false } else p.rc
  { p with rc := rc, lostVales := p.lostVales ++ [g], recheck := p.recheck ++ [g] }

/-- Vale g is fenced (R485, R427): it stops, it leaves its set, its owner is degraded. A fenced vale stays as it is. -/
def State.fenceVale (s : State) (g cause : Nat) : State :=
  if (s.vale g).fenced then s
  else
    let s := match (s.vale g).owner with
      | some n => s.modPart n.val (partLosesVale g)
      | none => s
    let s := s.modVale g fun v => { v with fenced := true, set := 0, lastSet := v.set }
    let s := (s.raise .health 1).moraine .fenced (.seq (Fin.ofNat 128 g)) [cause, g]
    let s := s.emit (.aer .pf .correctedInternal)
    if 1 ≤ cause ∧ cause ≤ 5 then s.healthEvent 7 0 1 else s

/-- The eight vales of a plain are fenced in ascending order, and its stack counts as failed (R484, R488). -/
def State.fencePlain (s : State) (p cause : Nat) : State :=
  let s := s.modFloor p fun f => { f with failed := true }
  (List.range 8).foldl (fun s v => s.fenceVale (8 * p + v) cause) s

/-- A fence of a unit by number: a vale below 128, plain u - 128 above. -/
def State.fenceUnit (s : State) (u cause : Nat) : State :=
  if u < 128 then s.fenceVale u cause else s.fencePlain (u - 128) cause

/-- A fence that waits for the end of the hold (R476, R586); a hardware cause takes the place of HOST (R586). -/
def State.fenceLater (s : State) (u cause : Nat) : State :=
  let due := s.terrace.fencesDue
  if due.any fun e => e.1 == u && (e.2 != 0 || cause == 0) then s
  else { s with terrace := { s.terrace with fencesDue := due.filter (fun e => e.1 != u) ++ [(u, cause)] } }

/-- The kind of region that an uncorrectable error in a vale spoils during a hold (R472, R476). DEDUCED. -/
def causeRegion : ValeCause → RegionKind
  | .valeStore => .valeStore | .accumulator => .accBanks | .operandCache => .operandCache | .array => .valeState
  | .element => .program | .selfTest => .valeState

/-- The regions of a kind and a unit get a status (R476). -/
def markRegions (kind : RegionKind) (unit : Nat) (st : RegionStatus) (rs : List Region) : List Region :=
  rs.map fun r => if r.kind == kind && r.unit == unit && r.status == .saved then { r with status := st } else r

/-- An uncorrectable vale error or a failed self-test (R484, R485, R476). -/
def valeFenceDo (g : Vale) (cause : ValeCause) (s : State) : State :=
  if s.holding then
    let t := s.terrace
    { s with terrace := { t with regions := markRegions (causeRegion cause) g.val .ueSource t.regions } }.fenceLater
      g.val (valeCauseCode cause)
  else s.fenceVale g.val (valeCauseCode cause)

/-- VALE_FENCE (R485). -/
def execValeFence (g : Vale) (cause : ValeCause) (s : State) : Host.Outcome State Fault Refusal :=
  act s (valeFenceDo g cause)

/-- The plain next to plain p on a side: 0 lower row, 1 higher column, 2 higher row, 3 lower column (R15); none where a
pass die lies there. -/
def neighbour (p side : Nat) : Option Nat :=
  if side = 0 then (if p < 4 then none else some (p - 4))
  else if side = 1 then (if p % 4 = 3 then none else some (p + 1))
  else if side = 2 then (if 12 ≤ p then none else some (p + 4))
  else (if p % 4 = 0 then none else some (p - 1))

/-- A failed die-to-die port is shown at both its ends (R591, R593). -/
def State.showD2d (s : State) (p side : Nat) : State :=
  let a := pageBase (.plain (Fin.ofNat 16 p)) + 0x40
  let s := s.setRegF a (12 + side) (12 + side) 1
  match neighbour p side with
  | some q =>
    let o := (side + 2) % 4
    s.setRegF (pageBase (.plain (Fin.ofNat 16 q)) + 0x40) (12 + o) (12 + o) 1
  | none =>
    let i := if side % 2 = 0 then p % 4 else p / 4
    (s.setRegF (pageBase (passPage side) + 0x50) i i 1).raise (passPage side) 2

/-- The plain that a failure removes: the higher-numbered one of two (R28). -/
def failedPlain (p : Nat) : PlainCause → Nat
  | .d2d side => (match neighbour p side.val with | some q => max p q | none => p)
  | _ => p

/-- A failure of a plain's crossbar, stack port or die-to-die port (R28, R484, R488). -/
def plainFenceDo (p : Plain) (cause : PlainCause) (s : State) : State :=
  let s := match cause with | .d2d side => s.showD2d p.val side.val | _ => s
  s.fencePlain (failedPlain p.val cause) (plainCauseCode cause)

/-- PLAIN_FENCE (R484). -/
def execPlainFence (p : Plain) (cause : PlainCause) (s : State) : Host.Outcome State Fault Refusal :=
  act s (plainFenceDo p cause)

/-- The unit that BLK_CTL.FENCE of a page fences (R586). -/
def fenceUnitOf : Page → Option Nat
  | .seq g => some g.val
  | .plain p => some (128 + p.val)
  | _ => none

/-- A write of 1 to BLK_CTL.FENCE (R586): applied at the end of a hold that is under way. A write to a page in soft
reset is discarded (R584). -/
def hostFenceDo (pg : Page) (s : State) : State :=
  match fenceUnitOf pg with
  | none => s
  | some u =>
    if s.resetting pg then s
    else if s.holding then s.fenceLater u 0 else s.fenceUnit u 0

/-- HOST_FENCE (R586). -/
def execHostFence (pg : Page) (s : State) : Host.Outcome State Fault Refusal := actBar .pf s (hostFenceDo pg)

/-! ### The digest engine (R482) -/

/-- What a partition address maps to for a read. -/
def State.pdaDpa (s : State) (n a : Nat) : Option Nat :=
  match s.walk n a false with
  | .ok d _ => some d
  | _ => none

/-- What a memory read by the part met (R452, R453), at the DPA it began at. -/
def State.met (s : State) (r : MemRead) (dpa : Nat) : State :=
  match r with
  | .clean => s
  | .corrected => s.corrected dpa
  | .uncorrectable => s.uncorrectable dpa false

/-- Whether a write to a partition page takes effect: its partition is not FREE (R283). -/
def State.pageOn (s : State) (n : Nat) : Bool := (s.part n).mode != .free

/-- DG_CTL.GO is taken: the engine is idle (R482). -/
def digestGoOk (n : PartId) (s : State) : Bool := s.pageOn n.val && (s.part n.val).digest.isNone

/-- DG_CTL.GO (R482): a beat that has passed starts the engine at once. -/
def digestGoDo (n : PartId) (signal : Fin 4096) (s : State) : State :=
  let b := s.reg64 (partBase n.val + 0x7010)
  let late := decide (b ≤ s.beatNum)
  let s := s.modPart n.val fun p => { p with digest := some { started := late, signal := signal.val, beat := b } }
  s.setRegF (partBase n.val + 0x701C) 4 4 (boolBit late)

/-- DIGEST_GO (R482). -/
def execDigestGo (n : PartId) (signal : Fin 4096) (s : State) : Host.Outcome State Fault Refusal :=
  actBar (.vf n) s fun s => if digestGoOk n s then digestGoDo n signal s else s

/-- Whether the edge of DG_BEAT has come for a digest that waits for it (R482). -/
def digestStartOk (n : PartId) (s : State) : Bool :=
  match (s.part n.val).digest with
  | some d => !d.started && decide (d.beat ≤ s.beatNum)
  | none => false

/-- DIGEST_START (R482). -/
def execDigestStart (n : PartId) (s : State) : Host.Outcome State Fault Refusal :=
  act s fun s =>
    if digestStartOk n s then
      s.modPart n.val fun p => { p with digest := p.digest.map fun d => { d with started := true } }
    else s

/-- The digest words written to DG_RESULT. -/
def State.setResult (s : State) (n : Nat) (ws : List Word) : State :=
  (List.range 4).foldl (fun s i => s.setReg (partBase n + 0x7020 + 4 * i) (ws.getD i 0#32)) s

/-- Four words the spec leaves open. -/
def State.freeWords4 (s : State) : List Word × State :=
  ((List.range 4).map fun i => Config.freeWord (s.free + i), { s with free := s.free + 4 })

/-- The end of a digest (R482): its result, its status, its signal. A failed digest's words are open. -/
def digestEndDo (n : PartId) (r : MemRead) (d : DigestOp) (s : State) : State :=
  let b := partBase n.val
  let a := s.reg64 (b + 0x7000)
  let s := match s.pdaDpa n.val a with | some dpa => s.met r dpa | none => s
  let g := s.readPda n.val a (s.reg64 (b + 0x7008))
  let s := g.2
  let out : Nat × State :=
    match g.1 with
    | .ok bs => if r = .uncorrectable then (2, s.freeWords4.2.setResult n.val s.freeWords4.1)
        else (0, s.setResult n.val (td128 bs))
    | .access => (1, s.freeWords4.2.setResult n.val s.freeWords4.1)
    | .ue => (2, s.freeWords4.2.setResult n.val s.freeWords4.1)
  let s := out.2.setRegF (b + 0x701C) 3 0 out.1
  let s := s.modPart n.val fun p => { p with digest := none }
  s.signal n.val d.signal

/-- DIGEST_END (R482). -/
def execDigestEnd (n : PartId) (r : MemRead) (s : State) : Host.Outcome State Fault Refusal :=
  act s fun s =>
    match (s.part n.val).digest with
    | some d => if d.started then digestEndDo n r d s else s
    | none => s

end Sys2Proof.Machine
end

