-- ==== Sys2Proof/Machine/Operands.lean ====
section
/-! DEFINITION. Operands: the fields of a command's descriptor, stage record and transfer entries (R255 to R265), the
version window (R353) and the queues' rings (R220, R221, R237). -/

namespace Sys2Proof.Machine

/-! ### The descriptor (R255, R256, R260, R261) -/

/-- Bits [hi:lo] of the descriptor word at an offset. -/
def Cmd.f (c : Cmd) (o hi lo : Nat) : Nat := bitsOf (w32At c.desc o) hi lo
/-- One bit of a descriptor word. -/
def Cmd.bit (c : Cmd) (o i : Nat) : Bool := c.f o i i == 1

/-- CMD_ID (R255). -/
def Cmd.id (c : Cmd) : Nat := w32At c.desc 0x04
/-- START_BEAT (R255). -/
def Cmd.startBeat (c : Cmd) : Nat := w64At c.desc 0x08
/-- START_OFS (R44). -/
def Cmd.startOfs (c : Cmd) : Nat := c.f 0x10 13 0
/-- COST_W (R58). -/
def Cmd.cost (c : Cmd) : Nat := w32At c.desc 0x14
/-- DEADLINE (R255). -/
def Cmd.deadline (c : Cmd) : Nat := w64At c.desc 0x18
/-- OUT_TAG (R255). -/
def Cmd.outTag (c : Cmd) : Nat := c.f 0x38 23 0
/-- N_FETCH (R255). -/
def Cmd.nFetch (c : Cmd) : Nat := c.f 0x3C 7 0
/-- N_STORE (R255). -/
def Cmd.nStore (c : Cmd) : Nat := c.f 0x3C 15 8
/-- The stages of CMD_CTL (R256). -/
def Cmd.hasFetch (c : Cmd) : Bool := c.bit 0 8
/-- A MATRIX stage is present (R256). -/
def Cmd.hasMatrix (c : Cmd) : Bool := c.bit 0 9
/-- An ELEMENT stage is present (R256). -/
def Cmd.hasElem (c : Cmd) : Bool := c.bit 0 10
/-- A COLLECT stage is present (R256). -/
def Cmd.hasColl (c : Cmd) : Bool := c.bit 0 11
/-- A STORE stage is present (R256). -/
def Cmd.hasStore (c : Cmd) : Bool := c.bit 0 12
/-- OVERLAP (R228). -/
def Cmd.overlap (c : Cmd) : Bool := c.bit 0 21 && !c.reissued
/-- STEP_CLOSE (R133). -/
def Cmd.stepClose (c : Cmd) : Bool := c.bit 0 22
/-- The VALE that the descriptor names (R256). -/
def descVale (desc : List Byte) : Nat := bitsOf (w32At desc 0) 30 24

/-- WFMT (R260). -/
def Cmd.wfmt (c : Cmd) : Nat := c.f 0x40 3 0
/-- AFMT (R260). -/
def Cmd.afmt (c : Cmd) : Nat := c.f 0x40 7 4
/-- The named arrays, ascending (R260). -/
def Cmd.arrays (c : Cmd) : List Nat := setBits (c.f 0x40 11 8) 4
/-- ACC_MODE is ACCUMULATE (R103). -/
def Cmd.accumulate (c : Cmd) : Bool := c.bit 0x40 12
/-- READOUT is SCALED (R115). -/
def Cmd.scaled (c : Cmd) : Bool := c.bit 0x40 13
/-- A_FROM_STORE (R260). -/
def Cmd.aFromStore (c : Cmd) : Bool := c.bit 0x40 14
/-- ACC_BASE (R107). -/
def Cmd.accBase (c : Cmd) : Nat := c.f 0x40 23 16
/-- A_QUEUE (R260). -/
def Cmd.aQueue (c : Cmd) : Nat := c.f 0x40 26 24
/-- M (R260). -/
def Cmd.m (c : Cmd) : Nat := c.f 0x44 8 0
/-- K_TILES (R260). -/
def Cmd.kTiles (c : Cmd) : Nat := c.f 0x44 27 16
/-- K_LAST (R260). -/
def Cmd.kLast (c : Cmd) : Nat := c.f 0x48 8 0
/-- N_VALID (R260). -/
def Cmd.nValid (c : Cmd) : Nat := c.f 0x48 23 16
/-- The activation zero point (R113). -/
def Cmd.za (c : Cmd) : Int := signedOf 16 (c.f 0x4C 15 0)
/-- A_BASE in bytes (R260). -/
def Cmd.aBase (c : Cmd) : Nat := 4096 * c.f 0x4C 28 16
/-- W_TAG (R114). -/
def Cmd.wTag (c : Cmd) : Nat := c.f 0x50 23 0
/-- A_TAG (R114). -/
def Cmd.aTag (c : Cmd) : Nat := c.f 0x54 23 0
/-- ORIGIN_ROW (R260). -/
def Cmd.originRow (c : Cmd) : Nat := c.f 0x58 15 0
/-- ORIGIN_COL (R260). -/
def Cmd.originCol (c : Cmd) : Nat := c.f 0x58 31 16

/-- PROG_LEN (R261). -/
def Cmd.progLen (c : Cmd) : Nat := c.f 0x60 10 0
/-- PM_BASE (R261). -/
def Cmd.pmBase (c : Cmd) : Nat := c.f 0x60 14 11
/-- PROG_RELOAD (R157). -/
def Cmd.progReload (c : Cmd) : Bool := c.bit 0x60 15
/-- SRC is STREAM (R160). -/
def Cmd.stream (c : Cmd) : Bool := c.bit 0x60 16
/-- LENVEC_EN (R173). -/
def Cmd.lenvecEn (c : Cmd) : Bool := c.bit 0x60 17
/-- MASK_EN (R174). -/
def Cmd.maskEn (c : Cmd) : Bool := c.bit 0x60 18
/-- MASK_Q (R174). -/
def Cmd.maskQ (c : Cmd) : Nat := c.f 0x60 21 19
/-- TBL_REV (R185). -/
def Cmd.tblRev (c : Cmd) : Nat := c.f 0x64 15 0
/-- OC_ZERO_COUNT (R167). -/
def Cmd.ocZeroCount (c : Cmd) : Nat := c.f 0x68 20 10
/-- OC_ZERO_FIRST (R261). -/
def Cmd.ocZeroFirst (c : Cmd) : Nat := c.f 0x68 9 0
/-- L, the row length of a stream source (R261). -/
def Cmd.rowLen (c : Cmd) : Nat := c.f 0x6C 19 0
/-- The program's address in the partition's pages (R156). -/
def Cmd.progSrc (c : Cmd) : Nat := w64At c.desc 0x70
/-- LENVEC (R261). -/
def Cmd.lenvec (c : Cmd) : Nat := c.f 0x78 24 0

/-! ### The stage record (R262 to R265) -/

/-- Queue entry i: 0 to 7 inbound, 8 to 15 outbound, 16 to 19 tile (R262). -/
def queueEntry (srec : List Byte) (i : Nat) : Nat := w32At srec (4 * i)
/-- MODE of a queue entry (R263). -/
def qeMode (e : Nat) : Nat := bitsOf e 18 17
/-- Quantisation slot i (R262). -/
def Cmd.slotWord (c : Cmd) (i : Nat) : Nat := w32At c.srec (0x50 + 4 * i)
/-- Bits [hi:lo] of a word of the COLLECT block (R262, R317). -/
def Cmd.coll32 (c : Cmd) (o hi lo : Nat) : Nat := bitsOf (w32At c.srec (0x60 + o)) hi lo

/-- Transfer entry x, FETCH entries first (R262). -/
def Cmd.entry (c : Cmd) (x : Nat) : List Byte := (c.srec.drop (0x80 + 64 * x)).take 64
/-- SRC_KIND (R264). -/
def xSrc (e : List Byte) : Nat := bitsOf (w32At e 0x10) 3 0
/-- DST_KIND (R264). -/
def xDst (e : List Byte) : Nat := bitsOf (w32At e 0x10) 7 4
/-- Q (R264). -/
def xQ (e : List Byte) : Nat := bitsOf (w32At e 0x10) 10 8
/-- VALE of a transfer entry (R264). -/
def xVale (e : List Byte) : Nat := bitsOf (w32At e 0x10) 17 11
/-- RUN (R264). -/
def xRun (e : List Byte) : Nat := bitsOf (w32At e 0x14) 16 0
/-- The three outer counts (R264). -/
def xCounts (e : List Byte) : Nat × Nat × Nat :=
  (bitsOf (w32At e 0x18) 15 0 + 1, bitsOf (w32At e 0x18) 31 16 + 1, bitsOf (w32At e 0x1C) 15 0 + 1)
/-- RATE (R232). -/
def xRate (e : List Byte) : Nat := bitsOf (w32At e 0x1C) 31 16
/-- The bytes a transfer moves in all (R240). -/
def xTotal (e : List Byte) : Nat := xRun e * (xCounts e).1 * (xCounts e).2.1 * (xCounts e).2.2

/-- The address at byte pos of the walk, from a base and the strides at an offset of the entry (R240). -/
def xWalk (e : List Byte) (base strides pos : Nat) : Nat :=
  let n := xCounts e
  let k := pos / xRun e
  let at_ := fun (i : Nat) => signedOf 32 (w32At e (strides + 4 * i))
  let d : Int := (k % n.1 : Nat) * at_ 0 + (k / n.1 % n.2.1 : Nat) * at_ 1 + (k / (n.1 * n.2.1) : Nat) * at_ 2
  unsignedOf 64 ((base : Int) + d + (pos % xRun e : Nat))

/-- The source address at byte pos. -/
def xSrcAt (e : List Byte) (pos : Nat) : Nat := xWalk e (w64At e 0) 0x20 pos
/-- The destination address at byte pos. -/
def xDstAt (e : List Byte) (pos : Nat) : Nat := xWalk e (w64At e 8) 0x2C pos

/-- Whether a kind is a memory kind, whose addresses split a run into sub-blocks (R240, R265). -/
def addressed (kind : Nat) : Bool := kind < 4 || kind == 0x0A

/-- The bytes of the sub-block from byte pos on (R240). -/
def subBlock (e : List Byte) (pos : Nat) : Nat :=
  let left := xRun e - pos % xRun e
  let a := if addressed (xSrc e) then 4096 - xSrcAt e pos % 4096 else left
  let b := if addressed (xDst e) then 4096 - xDstAt e pos % 4096 else left
  min left (min a b)

/-- The transfer in progress with index x, FETCH entries first. -/
def Cmd.xferAt (c : Cmd) (x : Nat) : Option Xfer :=
  if x < c.fetch.length then c.fetch[x]? else c.store[x - c.fetch.length]?

/-- That transfer changed. -/
def Cmd.modXfer (c : Cmd) (x : Nat) (f : Xfer → Xfer) : Cmd :=
  if x < c.fetch.length then { c with fetch := c.fetch.modify x f }
  else { c with store := c.store.modify (x - c.fetch.length) f }

/-! ### A command's record -/

/-- A void cause is noted (R61); finish reports it as the regime says. -/
def Cmd.addVoid (c : Cmd) (code : Nat) : Cmd :=
  if c.voids.contains code then c else { c with voids := c.voids ++ [code] }

/-- A failure status is noted, the first one stays (R268). -/
def Cmd.fail (c : Cmd) (status detail : Nat) : Cmd :=
  if c.status = 0 then { c with status := status, detail := detail } else c

/-- A transfer fails the command: its index is reported (R267). -/
def Cmd.failXfer (c : Cmd) (status x : Nat) : Cmd :=
  if c.status = 0 then { c with status := status, xfer := x } else c

/-- The command gains flags and saturation events (R79, R116, R180). -/
def Cmd.accrue (c : Cmd) (f : Flags) (k : Nat) : Cmd :=
  { c with flags := c.flags ||| f, sat := min (c.sat + k) 0xFFFFFFFF }

/-- Whether a command of an in-flight slot runs now: dispatched, its vale not fenced, no hold under way (R473, R485). -/
def State.running (s : State) (c : Cmd) : Bool :=
  c.dispatched.isSome && !(s.vale c.vale).fenced && !s.holding

/-- Whether a LAP runs on a vale: between a first lap's start and the ARRIVE of the attempt (R332). -/
def State.lapping (s : State) (g : Nat) : Bool :=
  (s.ofVale g).any fun e => match e.2.coll with
    | some x => x.state == .laps && !x.arrived
    | none => false

/-! ### Addresses (R353) -/

/-- The address that a command's device address stands for: a version-window address resolves through the binding that
the command latched; none where its job is not bound (R353, R354). -/
def Cmd.resolve (c : Cmd) (a : Nat) : Option Nat :=
  if bitsOf a 63 48 = 0xFFFE then
    match c.bindings.find? fun b => b.1 == bitsOf a 47 44 with
    | some b => some ((b.2 + bitsOf a 43 0) % 2 ^ 64)
    | none => none
  else some a

/-- The translation of a command's device address. -/
def Cmd.walk (c : Cmd) (s : State) (a : Nat) (write : Bool) : Walk :=
  match c.resolve a with
  | some p => s.walk c.part.val p write
  | none => .refused

/-! ### Queue rings (R220, R221, R237) -/

/-- The memory address of byte `off` of the slot of a tile queue's tile i (R220). -/
def Queue.inSlot (q : Queue) (i off : Nat) : Nat :=
  2 ^ 25 * (q.addr / 2 ^ 25) + (q.addr + i % (q.size / q.tile) * q.slot + off) % 2 ^ 25

/-- The memory address of byte b of a queue's stream; a buffer in a vale store wraps at the store's end, as R321 says of a
collective's regions. DEDUCED. -/
def Queue.at (q : Queue) (b : Nat) : Nat :=
  if q.pooled then q.addr + b % q.size
  else if q.tile ≠ 0 then q.inSlot (b / q.tile) (b % q.tile)
  else 2 ^ 25 * (q.addr / 2 ^ 25) + (q.addr + b % q.size) % 2 ^ 25

/-- n bytes of a queue from stream byte b on. -/
def State.qBytes (s : State) (q : Queue) (b : Nat) : Nat → List Byte
  | 0 => []
  | n + 1 => s.byte (q.at b) :: s.qBytes q (b + 1) n

/-- Bytes put into a queue's ring from stream byte b on. -/
def State.qPut (s : State) (q : Queue) (b : Nat) : List Byte → State
  | [] => s
  | x :: xs => (s.setByte (q.at b) x).qPut q (b + 1) xs

/-- n bytes of tile i's slot in a tile queue, from byte `off` on (R220). -/
def State.slotBytes (s : State) (q : Queue) (i off : Nat) : Nat → List Byte
  | 0 => []
  | n + 1 => s.byte (q.inSlot i off) :: s.slotBytes q i (off + 1) n

/-- Bytes put into tile i's slot of a tile queue, from byte `off` on (R220). -/
def State.slotPut (s : State) (q : Queue) (i off : Nat) : List Byte → State
  | [] => s
  | x :: xs => (s.setByte (q.inSlot i off) x).slotPut q i (off + 1) xs

/-- The element of w nibbles at stream nibble p. -/
def State.qElem (s : State) (q : Queue) (p w : Nat) : Nat :=
  if w ≤ 1 then bitsOf (s.byte (q.at (p / 2))).toNat (4 * (p % 2) + 3) (4 * (p % 2))
  else leNat (s.qBytes q (p / 2) (w / 2))

/-- The element of w nibbles put at stream nibble p. -/
def State.qPutElem (s : State) (q : Queue) (p w x : Nat) : State :=
  if w ≤ 1 then
    let a := q.at (p / 2)
    s.setByte a (BitVec.ofNat 8 (putBits (s.byte a).toNat (4 * (p % 2) + 3) (4 * (p % 2)) x))
  else s.qPut q (p / 2) (leBytes (w / 2) x)

/-- The free nibbles of a queue (R221, R237); a queue whose data is partly spilled continues within its floor (R239). -/
def State.qRoom (s : State) (c : Cmd) (q : Queue) : Nat :=
  if q.pooled then
    let k := q.granules
    let more := (q.floorG - k) + (if q.spill.isSome then 0 else s.poolFree c.part.val c.vale)
    let tailB := ceilDiv q.tail 2
    2 * (4096 * more + (if k = 0 then 0 else roundUp tailB 4096 - tailB))
  else 2 * q.size - (q.tail - q.head)

/-- The nibbles that wait in a queue. -/
def Queue.held (q : Queue) : Nat := q.tail - q.head

/-- A consumer that reached the end-of-stream mark (R224). -/
def Queue.ended (q : Queue) : Bool := q.eos && q.head == q.tail

/-- Queue i of a command. -/
def Cmd.queue (c : Cmd) (i : Nat) : Queue := (c.queues[i]?).getD Queue.unused
/-- Queue i of a command changed. -/
def Cmd.modQueue (c : Cmd) (i : Nat) (f : Queue → Queue) : Cmd := { c with queues := c.queues.modify i f }

/-- A consumer has read n nibbles: what of the spilled stretch was read comes back first, in order (R239). -/
def Queue.advance (q : Queue) (n : Nat) : Queue :=
  let h := q.head + n
  let sp := match q.spill with
    | some (a, b) => if b ≤ h then none else some (max a h, b)
    | none => none
  { q with head := h, spill := sp, holes := q.holes.filter fun x => h < x.1 + x.2 }

/-- Bytes appended at the tail of queue i of the command in slot k (R221). -/
def State.qAppend (s : State) (k : Nat) (c : Cmd) (i : Nat) (bs : List Byte) : State :=
  let q := c.queue i
  (s.qPut q (q.tail / 2) bs).modCmd k fun c => c.modQueue i fun q => { q with tail := q.tail + 2 * bs.length }

end Sys2Proof.Machine
end

