-- ==== Sys2Proof/Machine/Slices.lean ====
section
/-! DEFINITION. Slices: beat tables and the beats in which a job holds a vale (R285, R286), and what a window meets. -/

namespace Sys2Proof.Machine

/-! ### The table (R285) -/

/-- N_ENTRIES. -/
def BeatTable.n (t : BeatTable) : Nat := bitsOf (w32At t.bytes 0) 26 16
/-- PERIOD. -/
def BeatTable.period (t : BeatTable) : Nat := bitsOf (w32At t.bytes 4) 20 0
/-- ANCHOR. -/
def BeatTable.anchor (t : BeatTable) : Nat := w64At t.bytes 8
/-- Entry i. -/
def BeatTable.entry (t : BeatTable) (i : Nat) : List Byte := (t.bytes.drop (64 + 16 * i)).take 16
/-- All entries. -/
def BeatTable.entries (t : BeatTable) : List (List Byte) := (List.range t.n).map t.entry
/-- START of an entry. -/
def teStart (e : List Byte) : Nat := bitsOf (w32At e 0) 19 0
/-- LENGTH of an entry. -/
def teLen (e : List Byte) : Nat := bitsOf (w32At e 4) 20 0
/-- The number of vales or links of an entry. -/
def teCount (e : List Byte) : Nat := bitsOf (w32At e 8) 31 24 + 1
/-- FIRST of an entry. -/
def teFirst (e : List Byte) : Nat := bitsOf (w32At e 8) 23 16
/-- KIND of an entry: 0 SLICE, 1 VALE_BG, 2 LINK_BG. -/
def teKind (e : List Byte) : Nat := bitsOf (w32At e 8) 9 8
/-- JOB of an entry. -/
def teJob (e : List Byte) : Nat := bitsOf (w32At e 8) 4 0
/-- Whether an entry names vale or link u. -/
def teNames (e : List Byte) (u : Nat) : Bool := decide (teFirst e ≤ u) && decide (u < teFirst e + teCount e)

/-- The place of a beat at or after ANCHOR in its cycle (R286). -/
def BeatTable.offset (t : BeatTable) (b : Nat) : Nat := (b - t.anchor) % max 1 t.period

/-! ### Who holds a vale (R286) -/

/-- The SLICE entries of job j on vale g. -/
def BeatTable.slices (t : BeatTable) (j g : Nat) : List (List Byte) :=
  t.entries.filter fun e => teKind e == 0 && teJob e == j && teNames e g

/-- The last beat end, from beat b on, that a slice of job j on vale g covering b reaches; none where j does not hold g
at b. -/
def BeatTable.sliceEnd (t : BeatTable) (j g b : Nat) : Option Nat :=
  let o := t.offset b
  (t.slices j g).foldl (fun best e =>
    if teStart e ≤ o ∧ o < teStart e + teLen e then some (max (best.getD 0) (b - o + teStart e + teLen e)) else best) none

/-- Whether job j holds vale g in every beat of [a, b): fuel bounds the slices of one cycle. -/
def BeatTable.coversFuel (t : BeatTable) (j g : Nat) : Nat → Nat → Nat → Bool
  | 0, a, b => decide (b ≤ a)
  | f + 1, a, b =>
    decide (b ≤ a) ||
      (match t.sliceEnd j g a with
       | some e => BeatTable.coversFuel t j g f e b
       | none => false)

/-- Whether job j holds vale g in every beat of [a, b) under this table; a cycle says it for all cycles. -/
def BeatTable.covers (t : BeatTable) (j g a b : Nat) : Bool :=
  decide (t.anchor ≤ a) && (t.n == 0 || t.coversFuel j g (t.n + 2) a (min b (a + t.period)))

/-- The table that governs beat b (R286): the waiting one from its ANCHOR on. -/
def Part.tableAt (p : Part) (b : Nat) : Option BeatTable :=
  match p.next with
  | some t => if t.anchor ≤ b then some t else p.table
  | none => p.table

/-- Whether job j of partition n holds vale g in beat b (R286). -/
def State.holds (s : State) (n j g b : Nat) : Bool :=
  (s.vale g).owner.map Fin.val == some n &&
    (match (s.part n).tableAt b with
     | none => !s.metered n
     | some t => if b < t.anchor then !s.metered n else t.covers j g b (b + 1))

/-- The parts of the window [a, b) with the table that governs each (R286). -/
def Part.windowParts (p : Part) (a b : Nat) : List (Option BeatTable × Nat × Nat) :=
  match p.next with
  | none => [(p.table, a, b)]
  | some t => [(p.table, a, min b t.anchor), (some t, max a t.anchor, b)]

/-- Whether a metered window [a, b) lies within one slice of job j on vale g (R286). -/
def Part.inSlice (p : Part) (j g a b : Nat) : Bool :=
  (p.windowParts a b).all fun w =>
    decide (w.2.2 ≤ w.2.1) || (match w.1 with | some t => t.covers j g w.2.1 w.2.2 | none => false)

/-- Whether an entry of a table overlaps the window [a, b) in some cycle. -/
def BeatTable.meets (t : BeatTable) (e : List Byte) (a b : Nat) : Bool :=
  let o := t.offset a
  let T := max 1 t.period
  decide (a < b) && (decide ((teStart e + T - o) % T < b - a) || decide ((o + T - teStart e) % T < teLen e))

/-- Whether the window [a, b) overlaps a background entry of a kind on a vale or link (R286). -/
def Part.meetsBg (p : Part) (kind u a b : Nat) : Bool :=
  (p.windowParts a b).any fun w =>
    match w.1 with
    | some t => decide (t.anchor < w.2.2) &&
        t.entries.any fun e => teKind e == kind && teNames e u && t.meets e (max w.2.1 t.anchor) w.2.2
    | none => false

/-- Whether [a, b) lies in one entry of a kind on a vale or link under the governing table (R292). -/
def Part.inBg (p : Part) (kind u a b : Nat) : Bool :=
  match p.tableAt a with
  | some t => decide (t.anchor ≤ a) &&
      (match p.next with | some q => decide (q.anchor ≤ a) || decide (b ≤ q.anchor) | none => true) &&
      t.entries.any fun e => teKind e == kind && teNames e u &&
        decide (teStart e ≤ t.offset a) && decide (t.offset a + (b - a) ≤ teStart e + teLen e)
  | none => false

end Sys2Proof.Machine
end

