-- ==== Sys2Proof/Machine/Ports.lean ====
section
/-! DEFINITION. Ports: the routes of R15 to R17, the ports and rates of R19 and R230, a partition's floors (R234, R276),
and the bytes that a command's transfers put on each shared port (R58, R599). -/

namespace Sys2Proof.Machine

/-! ### Routes (R15 to R17) -/

/-- Where traffic begins or ends: a plain or a pass die. -/
inductive Node where
  | plain (p : Nat)
  | pass (n : Nat)
deriving DecidableEq, Repr

/-- The die-to-die port that leads out of plain p on a side. -/
def portOut (p side : Nat) : Port := .d2d (Fin.ofNat 16 p) (Fin.ofNat 4 side) true

/-- n hops from plain p on one side, each by `step` plains: the ports crossed. -/
def hops (side : Nat) (step : Int) : Nat → Nat → List Port
  | 0, _ => []
  | n + 1, p => portOut p side :: hops side step n ((p : Int) + step).toNat

/-- The ports from plain p to plain q (R16): along the row to the column, then along the column. -/
def plainRoute (p q : Nat) : List Port :=
  let c := p % 4
  let d := q % 4
  let m := p - c + d
  (if c ≤ d then hops 1 1 (d - c) p else hops 3 (-1) (c - d) p) ++
    (if m ≤ q then hops 2 4 ((q - m) / 4) m else hops 0 (-4) ((m - q) / 4) m)

/-- The plain through which plain p reaches pass die n (R16). -/
def edgePlain (p n : Nat) : Nat :=
  if n = 0 then p % 4 else if n = 1 then p / 4 * 4 + 3 else if n = 2 then 12 + p % 4 else p / 4 * 4

/-- The port from pass die n into plain p. -/
def portIn (p n : Nat) : Port := .d2d (Fin.ofNat 16 p) (Fin.ofNat 4 n) false

/-- The entry plain of a pass-to-pass route from m to n (R16). -/
def entryPlain (m n : Nat) : Nat :=
  if (m + 1) % 4 = n then [3, 15, 12, 0].getD m 0
  else if (n + 1) % 4 = m then [3, 15, 12, 0].getD n 0
  else [0, 3, 12, 0].getD m 0

/-- The die-to-die ports between two nodes (R16). -/
def route (a b : Node) : List Port :=
  let toPass := fun (p n : Nat) => plainRoute p (edgePlain p n) ++ [portOut (edgePlain p n) n]
  match a, b with
  | .plain p, .plain q => plainRoute p q
  | .plain p, .pass n => toPass p n
  | .pass n, .plain p => portIn (edgePlain p n) n :: plainRoute (edgePlain p n) p
  | .pass m, .pass n => if m = n then [] else portIn (entryPlain m n) m :: toPass (entryPlain m n) n

/-- The node behind which a DPA lies, with its port (R17, R440). -/
def dpaNode (d : Nat) : Option (Node × Port) :=
  match dpaStack d, dpaStaging d with
  | some st, _ => some (if st < 16 then .plain st else .pass (st - 16), .stack (Fin.ofNat 20 st))
  | none, some n => some (.pass n, .staging (Fin.ofNat 4 n))
  | none, none => none

/-! ### Rates and floors (R19, R230, R234, R276) -/

/-- A port's rate in bytes per clock, as a fraction; a core clock is 10/21 ns. The staging port's rate, which R19 does
not give, is a stack port's. PRESUMED. -/
def portRate : Port → Nat × Nat
  | .stack _ | .staging _ => (10000, 21)
  | .d2d _ _ _ => (16000, 21)
  | .link _ => (2000, 21)
  | .pcie _ => (640, 21)
  | .crossbar _ _ => (512, 1)

/-- A port's granule in bytes (R230). -/
def granule : Port → Nat
  | .stack _ => 64
  | .crossbar _ _ => 512
  | _ => 256

/-- FLOOR of partition n at a port, in 256ths of its rate (R234, R276); at a vale's crossbar port 240 of its owner's
(R281). -/
def portFloor (s : State) (n : Nat) : Port → Nat
  | .stack st => s.regF (pcfg n + 0x90 + 4 * (st.val / 4)) (st.val % 4 * 8 + 7) (st.val % 4 * 8)
  | .d2d _ _ _ => s.regF (pcfg n + 0xA4) 31 24
  | .staging _ => s.regF (pcfg n + 0xA4) 23 16
  | .link k => if linkWeight s n k.val = 0 then 0 else s.regF (pcfg n + 0xA4) 15 8
  | .pcie _ => if s.metered n then 0 else s.regF (pcfg n + 0xA4) 7 0
  | .crossbar g _ => if (s.vale g.val).owner.map Fin.val == some n then 240 else 0

/-! ### The bytes at each port (R599) -/

/-- Bytes added at some ports of a list. -/
def addLoad (bytes : Nat) (ports : List Port) (ls : List (Port × Nat)) : List (Port × Nat) :=
  ports.foldl (fun ls p =>
    if ls.any (·.1 == p) then ls.map fun e => if e.1 == p then (p, e.2 + bytes) else e else ls ++ [(p, bytes)]) ls

/-- The ports between a vale and the far side of one sub-block of an entry, from the far side inward for a FETCH (R599):
none for the vale's own store; the crossbar alone where the region does not translate or would be refused. -/
def farPorts (s : State) (c : Cmd) (e : List Byte) (fetch : Bool) (pos : Nat) : List Port :=
  let kind := if fetch then xSrc e else xDst e
  let here : Node := .plain (c.vale / 8)
  let own : Port := .crossbar (Fin.ofNat 128 c.vale) fetch
  let way := fun (far : Node) => if fetch then route far here else route here far
  if kind = 0 then []
  else if kind = 1 then
    if (s.vale (xVale e)).owner != some c.part || (s.vale (xVale e)).fenced then [own]
    else own :: (.crossbar (Fin.ofNat 128 (xVale e)) (!fetch)) :: way (.plain (xVale e / 8))
  else if kind = 2 then
    match c.walk s (if fetch then xSrcAt e pos else xDstAt e pos) (!fetch) with
    | .ok d _ => (match dpaNode d with | some (node, p) => own :: p :: way node | none => [own])
    | _ => [own]
  else if kind = 3 then [own, .pcie (!fetch)]
  else [own]

/-- The bytes that entry x of a command puts on each port. -/
def entryLoad (s : State) (c : Cmd) (x : Nat) (ls : List (Port × Nat)) : List (Port × Nat) :=
  let e := c.entry x
  let rec go : Nat → Nat → List (Port × Nat) → List (Port × Nat)
    | 0, _, ls => ls
    | f + 1, pos, ls =>
      if xTotal e ≤ pos then ls
      else
        let n := max 1 (subBlock e pos)
        go f (pos + n) (addLoad n (farPorts s c e (decide (x < c.nFetch)) pos) ls)
  go (xTotal e) 0 ls

/-- The bytes that a command's transfers put on each shared port (R599), under the bindings given. -/
def cmdLoads (s : State) (c : Cmd) : List (Port × Nat) :=
  (List.range (c.nFetch + c.nStore)).foldl (fun ls x => entryLoad s c x ls) []

/-- The sum of two fractions. -/
def fracAdd (a b : Nat × Nat) : Nat × Nat := (a.1 * b.2 + b.1 * a.2, a.2 * b.2)

/-- The bytes a load list has at a port. -/
def loadAt (ls : List (Port × Nat)) (p : Port) : Nat := ((ls.find? fun e => e.1 == p).map (·.2)).getD 0

/-- The commands of partition n with an admitted window, but for slot k: slot, command, window. -/
def State.windows (s : State) (n k : Nat) : List (Nat × Cmd × Nat × Nat) :=
  (s.ofPart n).filterMap fun e => match e.2.window with
    | some w => if e.2.admitted && e.1 != k then some (e.1, e.2, w) else none
    | none => none

/-- The bytes per beat at a port in beat b, of windows and one new load over [lo, hi) (R599). -/
def beatLoad (ws : List (Nat × Cmd × Nat × Nat)) (p : Port) (b : Nat) (new lo hi : Nat) : Nat × Nat :=
  ws.foldl (fun t w =>
    if w.2.2.1 ≤ b ∧ b < w.2.2.2 then fracAdd t (loadAt w.2.1.loads p, w.2.2.2 - w.2.2.1) else t) (new, hi - lo)

/-- The core clocks that a beat has at least (R59). -/
def State.beatClocks (s : State) : Nat := s.beat.pLock / 256 - 2

/-- Whether a new load fits a port within the partition's floor in every beat of its window [lo, hi) (R599). -/
def portFits (s : State) (n : Nat) (ws : List (Nat × Cmd × Nat × Nat)) (p : Port) (new lo hi : Nat) : Bool :=
  let beats := lo :: (ws.map (·.2.2.1)).filter fun b => decide (lo < b) && decide (b < hi)
  beats.all fun b =>
    let u := beatLoad ws p b new lo hi
    decide (u.1 * 256 * (portRate p).2 ≤ portFloor s n p * (portRate p).1 * s.beatClocks * u.2)

end Sys2Proof.Machine
end

