-- ==== Sys2Proof/Machine/Rings.lean ====
section
/-! DEFINITION. Rings: the fields of a COLLECT block and of a ring record (R317, R319), and the pieces of a tensor
(R322). -/

namespace Sys2Proof.Machine

/-! ### The ring record (R317) -/

/-- Bits [hi:lo] of the ring record word at an offset. -/
def Cmd.rf (c : Cmd) (o hi lo : Nat) : Nat := bitsOf (w32At c.ring o) hi lo
/-- N, the members. -/
def Cmd.members (c : Cmd) : Nat := c.rf 0 12 0
/-- POS, this member's position. -/
def Cmd.pos (c : Cmd) : Nat := c.rf 0 28 16
/-- RETRY_GAP. -/
def Cmd.retryGap (c : Cmd) : Nat := c.rf 4 15 0
/-- PEER_VC of rail r. -/
def Cmd.peerVc (c : Cmd) (r : Nat) : Nat := c.rf (0x10 + 4 * r) 19 16
/-- LINK_IN of rail r. -/
def Cmd.linkIn (c : Cmd) (r : Nat) : Nat := c.rf (0x10 + 4 * r) 12 8
/-- LINK_OUT of rail r. -/
def Cmd.linkOut (c : Cmd) (r : Nat) : Nat := c.rf (0x10 + 4 * r) 4 0

/-! ### The COLLECT block (R319) -/

/-- OP of the collective. -/
def Cmd.collOp (c : Cmd) : Nat := c.coll32 0 2 0
/-- OP is ALL_REDUCE. -/
def Cmd.isReduce (c : Cmd) : Bool := c.collOp == 0
/-- OP is REDUCE_SCATTER. -/
def Cmd.isScatter (c : Cmd) : Bool := c.collOp == 1
/-- OP is ALL_GATHER. -/
def Cmd.isGather (c : Cmd) : Bool := c.collOp == 2
/-- OP is SHIFT. -/
def Cmd.isShift (c : Cmd) : Bool := c.collOp == 3
/-- REDUCE. -/
def Cmd.collReduce (c : Cmd) : Nat := c.coll32 0 7 6
/-- IN_FMT. -/
def Cmd.inFmt (c : Cmd) : Nat := c.coll32 0 11 8
/-- OUT_FMT. -/
def Cmd.outFmt (c : Cmd) : Nat := c.coll32 0 15 12
/-- RAILS in use. -/
def Cmd.rails (c : Cmd) : Nat := c.coll32 0 18 16 + 1
/-- IN_Q. -/
def Cmd.inQ (c : Cmd) : Nat := c.coll32 0 21 19
/-- The queue that holds the input (R319): outbound queue IN_Q; where no ELEMENT stage fills it, the inbound queue of that
number, which FETCH fills. DEDUCED. -/
def Cmd.collIn (c : Cmd) : Nat := if c.hasElem then 8 + c.inQ else c.inQ
/-- OUT_Q_EN. -/
def Cmd.outQEn (c : Cmd) : Bool := c.coll32 0 25 25 == 1
/-- OUT_Q. -/
def Cmd.outQ (c : Cmd) : Nat := c.coll32 0 24 22
/-- The attempts that ATTEMPTS allows. -/
def Cmd.attempts (c : Cmd) : Nat := c.coll32 0 27 26 + 1
/-- ELEMS. -/
def Cmd.elems (c : Cmd) : Nat := c.coll32 4 31 0
/-- RING_REC. -/
def Cmd.ringRec (c : Cmd) : Nat := w64At c.srec 0x68
/-- COLL_SEQ. -/
def Cmd.collSeq (c : Cmd) : Nat := c.coll32 0x10 31 0
/-- OUT_BASE in bytes. -/
def Cmd.outBase (c : Cmd) : Nat := 4096 * c.coll32 0x14 12 0
/-- RETAIN_BASE in bytes. -/
def Cmd.retainBase (c : Cmd) : Nat := 4096 * c.coll32 0x14 28 16
/-- ARRIVE_TOKEN. -/
def Cmd.arriveToken (c : Cmd) : Nat := c.coll32 0x18 11 0
/-- CLOSE_TOKEN. -/
def Cmd.closeToken (c : Cmd) : Nat := c.coll32 0x18 27 16
/-- LAP_TIMEOUT. -/
def Cmd.lapTimeout (c : Cmd) : Nat := c.coll32 0x1C 15 0
/-- CLOSE_TIMEOUT. -/
def Cmd.closeTimeout (c : Cmd) : Nat := c.coll32 0x1C 31 16

/-- The bytes of an element of a collective's format code (R202); none for another code. -/
def collBytes (fmt : Nat) : Option Nat :=
  match fmt with
  | 0 | 1 => some 1
  | 2 | 3 => some 2
  | 10 => some 4
  | _ => none

/-- The bytes of an input element. -/
def Cmd.inBytes (c : Cmd) : Nat := (collBytes c.inFmt).getD 4
/-- The bytes of an output element. -/
def Cmd.outBytes (c : Cmd) : Nat := (collBytes c.outFmt).getD 4

/-! ### Pieces (R322) -/

/-- N as the pieces count it: SHIFT takes 1 (R322). -/
def Cmd.pieceN (c : Cmd) : Nat := if c.isShift then 1 else max 1 c.members
/-- P, the elements of a full piece (R322). -/
def Cmd.pieceLen (c : Cmd) : Nat := 64 * ceilDiv c.elems (64 * c.rails * c.pieceN)
/-- The elements [lo, hi) of piece (r, k) (R322). -/
def Cmd.piece (c : Cmd) (r k : Nat) : Nat × Nat :=
  let q := r * c.pieceN + k
  (min (q * c.pieceLen) c.elems, min ((q + 1) * c.pieceLen) c.elems)
/-- The elements of piece (r, k). -/
def Cmd.pieceSize (c : Cmd) (r k : Nat) : Nat := (c.piece r k).2 - (c.piece r k).1
/-- Where piece (r, pos) begins among the member's own pieces, stored compact in ascending r (R320). -/
def Cmd.ownStart (c : Cmd) (r : Nat) : Nat := ((List.range r).map fun x => c.pieceSize x c.pos).foldl (· + ·) 0
/-- The elements of the member's own pieces. -/
def Cmd.ownElems (c : Cmd) : Nat := c.ownStart c.rails
/-- The elements retained (R320). -/
def Cmd.retainElems (c : Cmd) : Nat := if c.isGather then c.ownElems else c.elems
/-- The elements of the output region (R320). -/
def Cmd.outElems (c : Cmd) : Nat := if c.isScatter then c.ownElems else c.elems

/-- Bytes put into the store of vale g from offset o on; addresses wrap modulo 32 MiB (R321). -/
def State.putStore (s : State) (g o : Nat) : List Byte → State
  | [] => s
  | b :: bs => (s.setByte (storeAddr g o) b).putStore g (o + 1) bs
/-- n bytes of the store of vale g from offset o on, wrapping (R321). -/
def State.getStore (s : State) (g o : Nat) : Nat → List Byte
  | 0 => []
  | n + 1 => s.byte (storeAddr g o) :: s.getStore g (o + 1) n

/-! ### The output (R320, R321, R325) -/

/-- The pieces of the output region in its order (R320). -/
def Cmd.outPieces (c : Cmd) : List (Nat × Nat) :=
  if c.isScatter then (List.range c.rails).map fun r => (r, c.pos)
  else (List.range c.rails).flatMap fun r => (List.range c.pieceN).map fun k => (r, k)

/-- The output elements that have landed below the first one that has not. -/
def Cmd.outLow (c : Cmd) (landed : List (Nat × Nat)) : Nat :=
  ((c.outPieces.takeWhile fun p => landed.contains p || c.pieceSize p.1 p.2 == 0).map
    fun p => c.pieceSize p.1 p.2).foldl (· + ·) 0

/-- What has landed of the output goes on to OUT_Q as far as it has room, with its mark after the last element (R321). -/
def State.collFeed (s : State) (k : Nat) : State :=
  match s.cmd k with
  | none => s
  | some c =>
    match c.coll with
    | none => s
    | some x =>
      let q := c.queue (8 + c.outQ)
      if !c.outQEn || q.eos then s
      else
        let n := min (c.outLow x.landed - x.outSent) (s.qRoom c q / (2 * c.outBytes))
        let bs := s.getStore c.vale (c.outBase + x.outSent * c.outBytes) (n * c.outBytes)
        let s := if n = 0 then s else s.qAppend k c (8 + c.outQ) bs
        s.modCmd k fun c =>
          let c := { c with coll := some { x with outSent := x.outSent + n } }
          if c.outElems ≤ x.outSent + n then c.modQueue (8 + c.outQ) fun q => { q with eos := true } else c

/-- What a LINK_BUF transfer can take now (R325): the bytes its rail has received beyond its cursor and beyond the transfers
of the rail before it. -/
def Cmd.linkBytes (c : Cmd) (x pos : Nat) : List Byte :=
  let q := xQ (c.entry x)
  let base := (((List.range x).filter fun y => xSrc (c.entry y) == 4 && xQ (c.entry y) == q).map
    fun y => xTotal (c.entry y)).foldl (· + ·) 0
  match c.coll with
  | some y => (((y.linkBuf.find? fun e => e.1 == q).map (·.2)).getD []).drop (base + pos)
  | none => []

end Sys2Proof.Machine
end

