-- ==== Sys2Proof/Machine/LaneOps.lean ====
section
/-! DEFINITION. LaneOps: what the element instructions compute in one lane, or over one row group (R195 to R203, R207,
R211, R212): pure functions from operand words to a result word, its flags and its saturation events. -/

namespace Sys2Proof.Machine

/-- The result of an instruction in one lane: the word, the flags, the saturation events. -/
structure LaneRes where
  w : Word
  flags : Flags
  sat : Nat
deriving DecidableEq, Repr

/-- A result that raises nothing. -/
def LaneRes.plain (w : Word) : LaneRes := ⟨w, 0#4, 0⟩

/-- A rounded result as a lane result (R80). -/
def LaneRes.ofRounded (r : Rounded) : LaneRes := ⟨BitVec.ofNat 32 r.code, r.flags, boolBit r.saturates⟩

/-- An exact FP32 outcome, rounded once (R71, R72, R73). -/
def LaneRes.fp (x : Exact) : LaneRes := LaneRes.ofRounded (fp32.round x)

/-- FADD (R195). -/
def opFadd (a b : Word) : LaneRes := .fp (Val.sum [fval a, fval b])
/-- FSUB (R195). -/
def opFsub (a b : Word) : LaneRes := .fp (Val.sum [fval a, (fval b).neg])
/-- FMUL (R195). -/
def opFmul (a b : Word) : LaneRes := .fp (Val.mul (fval a) (fval b))
/-- FFMA (R195): one rounding of a b + c; a NaN operand decides before any invalid product. -/
def opFfma (a b c : Word) : LaneRes := .fp (Exact.sum [Val.mul (fval a) (fval b), (fval c).exact])

/-- The canonical NaN in FP32. -/
def nanWord : Word := 0x7FC00000#32
/-- The largest finite FP32 magnitude, maxf. -/
def maxfWord : Word := 0x7F7FFFFF#32
/-- Whether a word is an FP32 NaN. -/
def isNan (a : Word) : Bool := fval a == .nan
/-- Bit [31]. -/
def signBit (a : Word) : Bool := a.getLsbD 31
/-- A word with sign bit s. -/
def withSign (s : Bool) (w : Word) : Word := if s then w ||| 0x80000000#32 else w &&& 0x7FFFFFFF#32

/-- The order of R196 and R207: by value, -0 below +0 (neither is NaN). -/
def fBelow (a b : Word) : Bool := Val.below (fval a) (fval b)

/-- FMIN (R196). -/
def opFmin (a b : Word) : LaneRes := .plain (if isNan a || isNan b then nanWord else if fBelow b a then b else a)
/-- FMAX (R196). -/
def opFmax (a b : Word) : LaneRes := .plain (if isNan a || isNan b then nanWord else if fBelow a b then b else a)
/-- FABS (R196). -/
def opFabs (a : Word) : LaneRes := .plain (if isNan a then nanWord else withSign false a)
/-- FNEG (R196). -/
def opFneg (a : Word) : LaneRes := .plain (if isNan a then nanWord else a ^^^ 0x80000000#32)

/-- A quotient of FP32 words with R197's special cases: finite non-zero over zero gives maxf. -/
def opFdiv (a b : Word) : LaneRes :=
  match fval a, fval b with
  | .fin na m _, .fin nb n _ =>
    if n = 0 ∧ m ≠ 0 then ⟨withSign (na != nb) maxfWord, Flags.saturated, 1⟩
    else .fp (Val.div (fval a) (fval b))
  | x, y => .fp (Val.div x y)
/-- FSQRT (R197). -/
def opFsqrt (a : Word) : LaneRes := .fp (Val.sqrt (fval a))
/-- FRSQ (R197): a zero gives maxf of its sign. -/
def opFrsq (a : Word) : LaneRes :=
  if (fval a).isZero then ⟨withSign (signBit a) maxfWord, Flags.saturated, 1⟩ else .fp (Val.rsqrt (fval a))

/-- INT32 saturation of an exact integer (R198). -/
def satInt32 (x : Int) : LaneRes :=
  if x > 2147483647 then ⟨0x7FFFFFFF#32, Flags.saturated, 1⟩
  else if x < -2147483648 then ⟨0x80000000#32, Flags.saturated, 1⟩
  else .plain (BitVec.ofInt 32 x)

/-- IADD (R198). -/
def opIadd (a b : Word) : LaneRes := satInt32 (a.toInt + b.toInt)
/-- ISUB (R198). -/
def opIsub (a b : Word) : LaneRes := satInt32 (a.toInt - b.toInt)
/-- IMUL (R198). -/
def opImul (a b : Word) : LaneRes := satInt32 (a.toInt * b.toInt)
/-- IMIN (R198): unsigned when MOD[0]. -/
def opImin (uns : Bool) (a b : Word) : LaneRes :=
  .plain (if uns then (if b.toNat < a.toNat then b else a) else (if b.toInt < a.toInt then b else a))
/-- IMAX (R198). -/
def opImax (uns : Bool) (a b : Word) : LaneRes :=
  .plain (if uns then (if a.toNat < b.toNat then b else a) else (if a.toInt < b.toInt then b else a))
/-- IABS (R198). -/
def opIabs (a : Word) : LaneRes := satInt32 a.toInt.natAbs

/-- AND (R199). -/
def opAnd (a b : Word) : LaneRes := .plain (a &&& b)
/-- OR (R199). -/
def opOr (a b : Word) : LaneRes := .plain (a ||| b)
/-- XOR (R199). -/
def opXor (a b : Word) : LaneRes := .plain (a ^^^ b)
/-- SHL (R199): by b[4:0], zeros in. -/
def opShl (a b : Word) : LaneRes := .plain (a <<< (b.toNat % 32))
/-- SHR (R199): zeros in, or copies of bit [31] when MOD[0]. -/
def opShr (arith : Bool) (a b : Word) : LaneRes :=
  .plain (if arith then a.sshiftRight (b.toNat % 32) else a >>> (b.toNat % 32))
/-- LDI (R199): the immediate as H directs, over the old d. -/
def opLdi (h : BitVec 2) (imm : BitVec 16) (d : Word) : LaneRes :=
  .plain (if h = 0 then imm.signExtend 32 else if h = 1 then imm ++ (0#16 : BitVec 16) else
    (d.extractLsb' 16 16) ++ imm)

/-- FCMP's condition (R200). -/
def condFp (cond : Nat) (a b : Word) : Bool :=
  let un := isNan a || isNan b
  let lt := Val.lt (fval a) (fval b)
  let gt := Val.lt (fval b) (fval a)
  match cond with
  | 0 => !un && !lt && !gt
  | 1 => un || lt || gt
  | 2 => lt
  | 3 => !un && !gt
  | 4 => gt
  | 5 => !un && !lt
  | _ => un

/-- ICMP's condition (R200). -/
def condInt (uns : Bool) (cond : Nat) (a b : Word) : Bool :=
  let x : Int := if uns then a.toNat else a.toInt
  let y : Int := if uns then b.toNat else b.toInt
  match cond with
  | 0 => decide (x = y)
  | 1 => decide (x ≠ y)
  | 2 => decide (x < y)
  | 3 => decide (x ≤ y)
  | 4 => decide (x > y)
  | _ => decide (x ≥ y)

/-- PLOG's operation (R201). -/
def logOp (op : Nat) (a b : Bool) : Bool :=
  match op with
  | 0 => a && b
  | 1 => a || b
  | 2 => a != b
  | _ => a && !b

/-- The floating-point format of a format code of R94 and R202. -/
def fpOfCode : Nat → Option FpFmt
  | 0 => some e4m3 | 1 => some e5m2 | 2 => some bf16 | 3 => some fp16 | 10 => some fp32
  | _ => none

/-- Width and signedness of an integer format code of R94 and R202. -/
def intOfCode : Nat → Option (Nat × Bool)
  | 4 => some (8, true) | 5 => some (8, false) | 6 => some (4, true) | 7 => some (4, false) | 11 => some (32, true)
  | _ => none

/-- The bits of an element of a format code. -/
def codeWidth : Nat → Nat
  | 0 | 1 | 4 | 5 | 9 => 8
  | 2 | 3 => 16
  | 6 | 7 | 8 => 4
  | _ => 32

/-- The integer an integer code stands for. -/
def intDecode (w : Nat) (signed : Bool) (x : Nat) : Int := if signed then signedOf w x else ((x % 2 ^ w : Nat) : Int)

/-- The limits of an integer format (R68). -/
def intLimits (w : Nat) (signed : Bool) : Int × Int :=
  if signed then (-(2 ^ (w - 1) : Nat), (2 ^ (w - 1) - 1 : Nat)) else (0, (2 ^ w - 1 : Nat))

/-- The value of a code of a format (not a codebook) (R67, R68). -/
def valOfCode (fmt code : Nat) : Val :=
  match fpOfCode fmt with
  | some f => f.decode (code % 2 ^ f.width)
  | none =>
    match intOfCode fmt with
    | some (w, s) => Val.ofInt (intDecode w s code)
    | none => .nan

/-- A value rounded to a format (R72, R74); `x` is exact. Codebook formats are not handled here. -/
def toCode (fmt : Nat) (x : Exact) : Rounded :=
  match fpOfCode fmt with
  | some f => f.round x
  | none =>
    match intOfCode fmt with
    | some (w, s) =>
      let lim := intLimits w s
      match x with
      | .nan => ⟨0, Flags.invalid⟩
      | .invalid => ⟨0, Flags.invalid⟩
      | .inf neg =>
        let r := Val.toInt lim.1 lim.2 (.inf neg)
        ⟨unsignedOf w r.1, r.2⟩
      | .fin neg m e more =>
        -- one more bit below keeps ties and the exactness right when the value lies strictly above m 2^e
        let r := Val.toInt lim.1 lim.2 (.fin neg (2 * m + boolBit more) (e - 1))
        ⟨unsignedOf w r.1, r.2⟩
    | none => ⟨0, 0#4⟩

/-- CVT (R202): from format b to format c. -/
def opCvt (src dst : Nat) (a : Word) : LaneRes :=
  let x := valOfCode src a.toNat
  match intOfCode src, intOfCode dst with
  | some (ws, ss), some (wd, sd) =>
    let v := intDecode ws ss a.toNat
    let lim := intLimits wd sd
    if v > lim.2 then ⟨BitVec.ofNat 32 (unsignedOf wd lim.2), Flags.saturated, 1⟩
    else if v < lim.1 then ⟨BitVec.ofNat 32 (unsignedOf wd lim.1), Flags.saturated, 1⟩
    else .plain (BitVec.ofNat 32 (unsignedOf wd v))
  | _, _ =>
    if src = dst then
      (match fpOfCode src with
       | some f => .plain (BitVec.ofNat 32 (if x = .nan then f.nanCode else a.toNat % 2 ^ f.width))
       | none => .plain a)
    else .ofRounded (toCode dst x.exact)

/-- The quotient x / SCALE of R128, exact; a finite non-zero x over a zero SCALE is answered apart. -/
def quotient (x s : Val) : Exact := Val.div x s

/-- Whether x is finite and non-zero over a zero scale (R128). -/
def overZero (x s : Val) : Bool :=
  match x, s with
  | .fin _ m _, .fin _ n _ => m != 0 && n == 0
  | _, _ => false

/-- The sign of a finite or infinite value. -/
def Val.isNeg : Val → Bool
  | .nan => false
  | .inf n => n
  | .fin n _ _ => n

/-- The result of quantising x / scale + z to a format that is not a codebook (R128, R203). The quotient is taken with
64 further bits and the rest as "more", so that the one rounding sees the exact value. -/
def quantPlain (fmt : Nat) (scale : Word) (z : Int) (a : Word) : Rounded :=
  let x := fval a
  let s := fval scale
  if overZero x s then
    let neg := x.isNeg != s.isNeg
    match fpOfCode fmt with
    | some f => ⟨boolBit neg * 2 ^ (f.width - 1) + f.maxCode, Flags.saturated⟩
    | none =>
      match intOfCode fmt with
      | some (w, sg) =>
        let lim := intLimits w sg
        ⟨unsignedOf w (if neg then lim.1 else lim.2), Flags.saturated⟩
      | none => ⟨0, 0#4⟩
  else
    match quotient x s with
    | .fin neg m e more =>
      if z = 0 then toCode fmt (.fin neg m e more)
      else
        -- exact sum with the integer z; "more" lies above |m 2^e|, so it is added after an exact step
        let e0 := min e 0
        let q := scaledInt neg (2 * m + boolBit more) (e - 1) (e0 - 1)
        let t := q + z * ((2 ^ (1 - e0).toNat : Nat) : Int)
        toCode fmt (.fin (decide (t < 0)) t.natAbs (e0 - 1) false)
    | x => toCode fmt x

/-- The result of quantising x / scale to a codebook (R76, R128). -/
def quantCode (entries : List Val) (scale a : Word) : Rounded :=
  let x := fval a
  let s := fval scale
  if overZero x s then quantCodebook entries (.inf (x.isNeg != s.isNeg))
  else
    match x, s with
    | .fin na m e, .fin nb n g =>
      -- |x / s - c| compared exactly: scale every entry by s instead
      if n = 0 then ⟨0, Flags.invalid⟩
      else
        let neg := na != nb
        let scaled : List Val := entries.map fun v =>
          match v with
          | .fin p k h => .fin p (k * n) (h + g)
          | w => w
        quantCodebook scaled (.fin neg m e)
    | _, _ =>
      match quotient x s with
      | .fin neg m e _ => quantCodebook entries (.fin neg m e)
      | .inf neg => quantCodebook entries (.inf neg)
      | .nan => quantCodebook entries .nan
      | .invalid => quantCodebook entries .nan

/-- The fold of a value into STEP_AMAX (R130). -/
def foldAmax (amax x : Word) : Word :=
  match fval x with
  | .nan => amax
  | .inf _ => maxfWord
  | .fin _ _ _ =>
    let a := withSign false x
    if isNan amax then a else if Val.lt (fval amax) (fval a) then a else amax

/-- The draw's output forms (R212, R88). -/
def drawForm (form : Nat) (u : Word) : Word :=
  match form with
  | 0 => u
  | 1 => u >>> (8 : Nat)
  | _ => BitVec.ofNat 32 (fp32.round (.fin false (u.toNat / 256) (-24) false)).code

/-- RNG (R211): key and counter from the operand words, by domain. -/
def opRng (dom form : Nat) (partKey jobKey : Nat) (a a1 b c : Word) : LaneRes :=
  let key := if dom ≤ 1 then cgKey partKey jobKey else
    { cgKey partKey 0 with k2 := b, k3 := c }
  let ctr : CgCounter :=
    match dom with
    | 0 => ⟨a, a1, b, c &&& 0x00FFFFFF#32⟩
    | 1 => ⟨a, a1 &&& 0x0000FFFF#32, b, (c &&& 0x00FFFFFF#32) ||| 0x01000000#32⟩
    | 2 => ⟨a, a1, 0#32, 0x03000000#32⟩
    | _ => ⟨a, a1, 0#32, 0x05000000#32⟩
  .plain (drawForm form (cg key ctr))

/-- The extreme of a non-empty list by an order "x is better than y". -/
def extreme (better : Word → Word → Bool) : List Word → Word
  | [] => 0#32
  | w :: ws => ws.foldl (fun best x => if better x best then x else best) w

/-- The best of a list of (key, term) pairs by the FP32 term (R207 ARGMAX): NaN terms never chosen while another is
there, ties to the earliest, all NaN the earliest. -/
def argmaxKey : List (Nat × Word) → Nat
  | [] => 0
  | (k, w) :: rest =>
    (rest.foldl (fun (best : Nat × Word) (x : Nat × Word) =>
      if isNan best.2 && !isNan x.2 then x
      else if !isNan x.2 && Val.lt (fval best.2) (fval x.2) then x else best) (k, w)).1

/-- RED over one row group (R207, R208). `terms` are (order key, reported COL, word) in ascending key; the answer is
one result per term. Saturation events count once per group, for FSCAN once per lane; the flags rise in every lane of the
group. -/
def opRed (op : Nat) (terms : List (Nat × Nat × Word)) : List LaneRes :=
  let ws := terms.map fun t => t.2.2
  let all (r : LaneRes) : List LaneRes :=
    match terms with
    | [] => []
    | _ :: rest => r :: rest.map fun _ => { r with sat := 0 }
  let anyNan := ws.any isNan
  match op with
  | 0 => all (.fp (Val.sum (ws.map fval)))
  | 1 => all (.plain (if anyNan then nanWord else extreme (fun x y => fBelow y x) ws))
  | 2 => all (.plain (if anyNan then nanWord else extreme (fun x y => fBelow x y) ws))
  | 3 =>
    let rs := terms.map fun t => LaneRes.fp (Val.sum ((terms.filter fun u => decide (u.1 ≤ t.1)).map fun u => fval u.2.2))
    let fl := rs.foldl (fun f r => f ||| r.flags) 0#4
    rs.map fun r => { r with flags := fl }
  | 4 => all (satInt32 ((ws.map fun w => w.toInt).foldl (· + ·) 0))
  | 5 => all (.plain (extreme (fun x y => decide (y.toInt < x.toInt)) ws))
  | 6 => all (.plain (extreme (fun x y => decide (x.toInt < y.toInt)) ws))
  | _ => all (.plain (BitVec.ofNat 32 (argmaxKey (terms.map fun t => (t.2.1, t.2.2)))))

end Sys2Proof.Machine
end

