-- ==== Sys2Proof/Machine/Tables.lean ====
section
/-! DEFINITION. Tables: table revision 1 of the element engine (R181), each entry the exact value at its grid point rounded
once to FP32 (R72), and the evaluation rules of R182, R183. -/

namespace Sys2Proof.Machine

/-- TABLE_REV of the tables of R181 that this model holds (R184, R185). -/
def tableRev : Nat := 1

/-- Entries 0 to 63 of EXP2 (R181). -/
def exp2Part0 : List Nat := [
  0x3F800000, 0x3F8058D8, 0x3F80B1ED, 0x3F810B41, 0x3F8164D2, 0x3F81BEA1, 0x3F8218AF, 0x3F8272FC,
  0x3F82CD87, 0x3F832850, 0x3F838359, 0x3F83DEA1, 0x3F843A29, 0x3F8495F0, 0x3F84F1F6, 0x3F854E3D,
  0x3F85AAC3, 0x3F86078A, 0x3F866491, 0x3F86C1D9, 0x3F871F62, 0x3F877D2B, 0x3F87DB35, 0x3F883981,
  0x3F88980F, 0x3F88F6DD, 0x3F8955EE, 0x3F89B541, 0x3F8A14D5, 0x3F8A74AD, 0x3F8AD4C6, 0x3F8B3523,
  0x3F8B95C2, 0x3F8BF6A4, 0x3F8C57CA, 0x3F8CB933, 0x3F8D1ADF, 0x3F8D7CD0, 0x3F8DDF04, 0x3F8E417D,
  0x3F8EA43A, 0x3F8F073B, 0x3F8F6A81, 0x3F8FCE0C, 0x3F9031DC, 0x3F9095F2, 0x3F90FA4D, 0x3F915EED,
  0x3F91C3D3, 0x3F922900, 0x3F928E72, 0x3F92F42C, 0x3F935A2B, 0x3F93C072, 0x3F9426FF, 0x3F948DD4,
  0x3F94F4F0, 0x3F955C53, 0x3F95C3FF, 0x3F962BF2, 0x3F96942D, 0x3F96FCB1, 0x3F97657D, 0x3F97CE92]

/-- Entries 64 to 127 of EXP2 (R181). -/
def exp2Part1 : List Nat := [
  0x3F9837F0, 0x3F98A197, 0x3F990B88, 0x3F9975C2, 0x3F99E046, 0x3F9A4B13, 0x3F9AB62B, 0x3F9B218D,
  0x3F9B8D3A, 0x3F9BF931, 0x3F9C6573, 0x3F9CD201, 0x3F9D3EDA, 0x3F9DABFE, 0x3F9E196E, 0x3F9E872A,
  0x3F9EF532, 0x3F9F6387, 0x3F9FD228, 0x3FA04116, 0x3FA0B051, 0x3FA11FD9, 0x3FA18FAF, 0x3FA1FFD2,
  0x3FA27043, 0x3FA2E102, 0x3FA3520F, 0x3FA3C36B, 0x3FA43516, 0x3FA4A70F, 0x3FA51958, 0x3FA58BEF,
  0x3FA5FED7, 0x3FA6720E, 0x3FA6E595, 0x3FA7596C, 0x3FA7CD94, 0x3FA8420C, 0x3FA8B6D5, 0x3FA92BEF,
  0x3FA9A15B, 0x3FAA1718, 0x3FAA8D26, 0x3FAB0387, 0x3FAB7A3A, 0x3FABF13F, 0x3FAC6897, 0x3FACE041,
  0x3FAD583F, 0x3FADD090, 0x3FAE4934, 0x3FAEC22D, 0x3FAF3B79, 0x3FAFB519, 0x3FB02F0E, 0x3FB0A957,
  0x3FB123F6, 0x3FB19EE9, 0x3FB21A32, 0x3FB295D0, 0x3FB311C4, 0x3FB38E0E, 0x3FB40AAF, 0x3FB487A6]

/-- Entries 128 to 191 of EXP2 (R181). -/
def exp2Part2 : List Nat := [
  0x3FB504F3, 0x3FB58298, 0x3FB60094, 0x3FB67EE7, 0x3FB6FD92, 0x3FB77C95, 0x3FB7FBF0, 0x3FB87BA3,
  0x3FB8FBAF, 0x3FB97C14, 0x3FB9FCD2, 0x3FBA7DEA, 0x3FBAFF5B, 0x3FBB8126, 0x3FBC034A, 0x3FBC85CA,
  0x3FBD08A4, 0x3FBD8BD8, 0x3FBE0F68, 0x3FBE9353, 0x3FBF179A, 0x3FBF9C3C, 0x3FC0213B, 0x3FC0A695,
  0x3FC12C4D, 0x3FC1B261, 0x3FC238D2, 0x3FC2BFA1, 0x3FC346CD, 0x3FC3CE57, 0x3FC4563F, 0x3FC4DE85,
  0x3FC5672A, 0x3FC5F02E, 0x3FC67991, 0x3FC70353, 0x3FC78D75, 0x3FC817F7, 0x3FC8A2D8, 0x3FC92E1B,
  0x3FC9B9BE, 0x3FCA45C1, 0x3FCAD226, 0x3FCB5EED, 0x3FCBEC15, 0x3FCC799F, 0x3FCD078C, 0x3FCD95DA,
  0x3FCE248C, 0x3FCEB3A1, 0x3FCF4319, 0x3FCFD2F4, 0x3FD06334, 0x3FD0F3D7, 0x3FD184DF, 0x3FD2164C,
  0x3FD2A81E, 0x3FD33A54, 0x3FD3CCF1, 0x3FD45FF3, 0x3FD4F35B, 0x3FD58729, 0x3FD61B5E, 0x3FD6AFFA]

/-- Entries 192 to 255 of EXP2 (R181). -/
def exp2Part3 : List Nat := [
  0x3FD744FD, 0x3FD7DA67, 0x3FD87039, 0x3FD90673, 0x3FD99D16, 0x3FDA3421, 0x3FDACB94, 0x3FDB6371,
  0x3FDBFBB8, 0x3FDC9468, 0x3FDD2D82, 0x3FDDC706, 0x3FDE60F5, 0x3FDEFB4E, 0x3FDF9613, 0x3FE03143,
  0x3FE0CCDF, 0x3FE168E7, 0x3FE2055B, 0x3FE2A23C, 0x3FE33F89, 0x3FE3DD44, 0x3FE47B6D, 0x3FE51A03,
  0x3FE5B907, 0x3FE65879, 0x3FE6F85B, 0x3FE798AB, 0x3FE8396A, 0x3FE8DA99, 0x3FE97C38, 0x3FEA1E47,
  0x3FEAC0C7, 0x3FEB63B7, 0x3FEC0719, 0x3FECAAEC, 0x3FED4F30, 0x3FEDF3E7, 0x3FEE9910, 0x3FEF3EAB,
  0x3FEFE4BA, 0x3FF08B3B, 0x3FF13231, 0x3FF1D99A, 0x3FF28177, 0x3FF329C9, 0x3FF3D290, 0x3FF47BCC,
  0x3FF5257D, 0x3FF5CFA4, 0x3FF67A41, 0x3FF72555, 0x3FF7D0DF, 0x3FF87CE1, 0x3FF9295A, 0x3FF9D64A,
  0x3FFA83B3, 0x3FFB3194, 0x3FFBDFED, 0x3FFC8EC0, 0x3FFD3E0C, 0x3FFDEDD2, 0x3FFE9E11, 0x3FFF4ECB]

/-- Entries 256 to 256 of EXP2 (R181). -/
def exp2Part4 : List Nat := [
  0x40000000]

/-- EXP2: 2^(i / 256) (R181). -/
def exp2Table : List Nat := exp2Part0 ++ exp2Part1 ++ exp2Part2 ++ exp2Part3 ++ exp2Part4

/-- Entries 0 to 63 of LOG2 (R181). -/
def log2Part0 : List Nat := [
  0x00000000, 0x3BB84E23, 0x3C37F286, 0x3C89B189, 0x3CB73CB4, 0x3CE49B1E, 0x3D08E68F, 0x3D1F6985,
  0x3D35D69C, 0x3D4C2DFE, 0x3D626FD6, 0x3D789C4C, 0x3D8759C5, 0x3D925ADC, 0x3D9D517F, 0x3DA83DC2,
  0x3DB31FB8, 0x3DBDF775, 0x3DC8C50B, 0x3DD3888F, 0x3DDE4212, 0x3DE8F1A7, 0x3DF39761, 0x3DFE3350,
  0x3E0462C4, 0x3E09A70E, 0x3E0EE68D, 0x3E14214A, 0x3E19574F, 0x3E1E88A3, 0x3E23B550, 0x3E28DD5D,
  0x3E2E00D2, 0x3E331FB8, 0x3E383A17, 0x3E3D4FF6, 0x3E42615F, 0x3E476E57, 0x3E4C76E8, 0x3E517B19,
  0x3E567AF1, 0x3E5B7679, 0x3E606DB6, 0x3E6560B2, 0x3E6A4F72, 0x3E6F39FF, 0x3E74205F, 0x3E79029A,
  0x3E7DE0B6, 0x3E815D5D, 0x3E83C857, 0x3E86314C, 0x3E88983F, 0x3E8AFD34, 0x3E8D602E, 0x3E8FC130,
  0x3E92203D, 0x3E947D5A, 0x3E96D888, 0x3E9931CB, 0x3E9B8926, 0x3E9DDE9D, 0x3EA03232, 0x3EA283E8]

/-- Entries 64 to 127 of LOG2 (R181). -/
def log2Part1 : List Nat := [
  0x3EA4D3C2, 0x3EA721C4, 0x3EA96DF0, 0x3EABB849, 0x3EAE00D2, 0x3EB0478E, 0x3EB28C7F, 0x3EB4CFA9,
  0x3EB7110E, 0x3EB950B2, 0x3EBB8E96, 0x3EBDCABD, 0x3EC0052B, 0x3EC23DE2, 0x3EC474E4, 0x3EC6AA34,
  0x3EC8DDD4, 0x3ECB0FC8, 0x3ECD4012, 0x3ECF6EB4, 0x3ED19BB0, 0x3ED3C70A, 0x3ED5F0C4, 0x3ED818DF,
  0x3EDA3F60, 0x3EDC6447, 0x3EDE8797, 0x3EE0A953, 0x3EE2C97D, 0x3EE4E818, 0x3EE70525, 0x3EE920A6,
  0x3EEB3A9F, 0x3EED5311, 0x3EEF69FF, 0x3EF17F6A, 0x3EF39355, 0x3EF5A5C2, 0x3EF7B6B4, 0x3EF9C62B,
  0x3EFBD42B, 0x3EFDE0B6, 0x3EFFEBCD, 0x3F00FAB9, 0x3F01FED4, 0x3F030239, 0x3F0404E8, 0x3F0506E2,
  0x3F060828, 0x3F0708BC, 0x3F08089E, 0x3F0907CF, 0x3F0A0650, 0x3F0B0422, 0x3F0C0146, 0x3F0CFDBE,
  0x3F0DF989, 0x3F0EF4A9, 0x3F0FEF1F, 0x3F10E8EB, 0x3F11E20F, 0x3F12DA8B, 0x3F13D260, 0x3F14C990]

/-- Entries 128 to 191 of LOG2 (R181). -/
def log2Part2 : List Nat := [
  0x3F15C01A, 0x3F16B601, 0x3F17AB44, 0x3F189FE4, 0x3F1993E3, 0x3F1A8742, 0x3F1B7A00, 0x3F1C6C1F,
  0x3F1D5DA0, 0x3F1E4E83, 0x3F1F3ECA, 0x3F202E74, 0x3F211D84, 0x3F220BF9, 0x3F22F9D5, 0x3F23E718,
  0x3F24D3C2, 0x3F25BFD6, 0x3F26AB53, 0x3F27963A, 0x3F28808C, 0x3F296A4A, 0x3F2A5374, 0x3F2B3C0C,
  0x3F2C2411, 0x3F2D0B85, 0x3F2DF268, 0x3F2ED8BC, 0x3F2FBE80, 0x3F30A3B5, 0x3F31885C, 0x3F326C77,
  0x3F335004, 0x3F343306, 0x3F35157D, 0x3F35F769, 0x3F36D8CB, 0x3F37B9A4, 0x3F3899F5, 0x3F3979BD,
  0x3F3A58FF, 0x3F3B37B9, 0x3F3C15EE, 0x3F3CF39D, 0x3F3DD0C8, 0x3F3EAD6E, 0x3F3F8991, 0x3F406531,
  0x3F41404F, 0x3F421AEB, 0x3F42F506, 0x3F43CEA0, 0x3F44A7BA, 0x3F458055, 0x3F465872, 0x3F473010,
  0x3F480731, 0x3F48DDD4, 0x3F49B3FB, 0x3F4A89A7, 0x3F4B5ED7, 0x3F4C338C, 0x3F4D07C7, 0x3F4DDB88]

/-- Entries 192 to 255 of LOG2 (R181). -/
def log2Part3 : List Nat := [
  0x3F4EAED0, 0x3F4F819F, 0x3F5053F7, 0x3F5125D7, 0x3F51F740, 0x3F52C832, 0x3F5398AF, 0x3F5468B6,
  0x3F553848, 0x3F560765, 0x3F56D60F, 0x3F57A446, 0x3F587209, 0x3F593F5A, 0x3F5A0C3A, 0x3F5AD8A8,
  0x3F5BA4A4, 0x3F5C7031, 0x3F5D3B4E, 0x3F5E05FB, 0x3F5ED039, 0x3F5F9A09, 0x3F60636A, 0x3F612C5E,
  0x3F61F4E5, 0x3F62BCFF, 0x3F6384AD, 0x3F644BF0, 0x3F6512C7, 0x3F65D933, 0x3F669F35, 0x3F6764CD,
  0x3F6829FB, 0x3F68EEC1, 0x3F69B31E, 0x3F6A7712, 0x3F6B3A9F, 0x3F6BFDC5, 0x3F6CC083, 0x3F6D82DB,
  0x3F6E44CD, 0x3F6F065A, 0x3F6FC781, 0x3F708843, 0x3F7148A1, 0x3F72089B, 0x3F72C832, 0x3F738765,
  0x3F744636, 0x3F7504A4, 0x3F75C2B0, 0x3F76805A, 0x3F773DA4, 0x3F77FA8C, 0x3F78B714, 0x3F79733C,
  0x3F7A2F04, 0x3F7AEA6D, 0x3F7BA578, 0x3F7C6023, 0x3F7D1A71, 0x3F7DD460, 0x3F7E8DF2, 0x3F7F4728]

/-- Entries 256 to 256 of LOG2 (R181). -/
def log2Part4 : List Nat := [
  0x3F800000]

/-- LOG2: log2(1 + i / 256) (R181). -/
def log2Table : List Nat := log2Part0 ++ log2Part1 ++ log2Part2 ++ log2Part3 ++ log2Part4

/-- Entries 0 to 63 of TANH (R181). -/
def tanhPart0 : List Nat := [
  0x00000000, 0x3CFFEAAD, 0x3D7FAACD, 0x3DBF7081, 0x3DFEACC9, 0x3E1EB5E4, 0x3E3DC7FD, 0x3E5C7E82,
  0x3E7ACBF5, 0x3E8C51CD, 0x3E9AFCC5, 0x3EA96163, 0x3EB77A9F, 0x3EC543F1, 0x3ED2B94F, 0x3EDFD735,
  0x3EEC9A9F, 0x3EF90109, 0x3F028438, 0x3F0857A4, 0x3F0DFA3F, 0x3F136BB8, 0x3F18ABF0, 0x3F1DBAFC,
  0x3F22991F, 0x3F2746C5, 0x3F2BC480, 0x3F301305, 0x3F343328, 0x3F3825D9, 0x3F3BEC1C, 0x3F3F870D,
  0x3F42F7D6, 0x3F463FAE, 0x3F495FDA, 0x3F4C59A3, 0x3F4F2E5B, 0x3F51DF55, 0x3F546DE6, 0x3F56DB63,
  0x3F59291E, 0x3F5B5866, 0x3F5D6A85, 0x3F5F60C0, 0x3F613C53, 0x3F62FE74, 0x3F64A852, 0x3F663B10,
  0x3F67B7CC, 0x3F691F97, 0x3F6A737A, 0x3F6BB475, 0x3F6CE37D, 0x3F6E017F, 0x3F6F0F5B, 0x3F700DEA,
  0x3F70FDFD, 0x3F71E058, 0x3F72B5B8, 0x3F737ED1, 0x3F743C4F, 0x3F74EED6, 0x3F7596FF, 0x3F763560]

/-- Entries 64 to 127 of TANH (R181). -/
def tanhPart1 : List Nat := [
  0x3F76CA83, 0x3F7756EE, 0x3F77DB1E, 0x3F78578B, 0x3F78CCA7, 0x3F793ADC, 0x3F79A28F, 0x3F7A0421,
  0x3F7A5FEB, 0x3F7AB645, 0x3F7B077E, 0x3F7B53E2, 0x3F7B9BBB, 0x3F7BDF4C, 0x3F7C1ED6, 0x3F7C5A95,
  0x3F7C92C1, 0x3F7CC792, 0x3F7CF939, 0x3F7D27E8, 0x3F7D53CA, 0x3F7D7D0A, 0x3F7DA3D0, 0x3F7DC843,
  0x3F7DEA85, 0x3F7E0AB8, 0x3F7E28FB, 0x3F7E456C, 0x3F7E6026, 0x3F7E7945, 0x3F7E90E0, 0x3F7EA710,
  0x3F7EBBE9, 0x3F7ECF80, 0x3F7EE1E8, 0x3F7EF334, 0x3F7F0376, 0x3F7F12BB, 0x3F7F2115, 0x3F7F2E91,
  0x3F7F3B3D, 0x3F7F4724, 0x3F7F5254, 0x3F7F5CD6, 0x3F7F66B6, 0x3F7F6FFD, 0x3F7F78B4, 0x3F7F80E5,
  0x3F7F8896, 0x3F7F8FD1, 0x3F7F969B, 0x3F7F9CFD, 0x3F7FA2FB, 0x3F7FA89D, 0x3F7FADE8, 0x3F7FB2E0,
  0x3F7FB78C, 0x3F7FBBEF, 0x3F7FC00E, 0x3F7FC3EE, 0x3F7FC791, 0x3F7FCAFC, 0x3F7FCE32, 0x3F7FD136]

/-- Entries 128 to 191 of TANH (R181). -/
def tanhPart2 : List Nat := [
  0x3F7FD40C, 0x3F7FD6B5, 0x3F7FD935, 0x3F7FDB8F, 0x3F7FDDC4, 0x3F7FDFD7, 0x3F7FE1C9, 0x3F7FE39E,
  0x3F7FE556, 0x3F7FE6F4, 0x3F7FE878, 0x3F7FE9E5, 0x3F7FEB3C, 0x3F7FEC7E, 0x3F7FEDAC, 0x3F7FEEC9,
  0x3F7FEFD4, 0x3F7FF0CE, 0x3F7FF1BA, 0x3F7FF297, 0x3F7FF367, 0x3F7FF42B, 0x3F7FF4E2, 0x3F7FF58F,
  0x3F7FF631, 0x3F7FF6C9, 0x3F7FF758, 0x3F7FF7DE, 0x3F7FF85C, 0x3F7FF8D3, 0x3F7FF942, 0x3F7FF9AA,
  0x3F7FFA0D, 0x3F7FFA69, 0x3F7FFAC0, 0x3F7FFB11, 0x3F7FFB5E, 0x3F7FFBA6, 0x3F7FFBE9, 0x3F7FFC28,
  0x3F7FFC64, 0x3F7FFC9C, 0x3F7FFCD1, 0x3F7FFD02, 0x3F7FFD30, 0x3F7FFD5C, 0x3F7FFD85, 0x3F7FFDAB,
  0x3F7FFDD0, 0x3F7FFDF2, 0x3F7FFE11, 0x3F7FFE2F, 0x3F7FFE4C, 0x3F7FFE66, 0x3F7FFE7F, 0x3F7FFE96,
  0x3F7FFEAC, 0x3F7FFEC1, 0x3F7FFED4, 0x3F7FFEE6, 0x3F7FFEF7, 0x3F7FFF07, 0x3F7FFF16, 0x3F7FFF25]

/-- Entries 192 to 255 of TANH (R181). -/
def tanhPart3 : List Nat := [
  0x3F7FFF32, 0x3F7FFF3E, 0x3F7FFF4A, 0x3F7FFF55, 0x3F7FFF5F, 0x3F7FFF69, 0x3F7FFF72, 0x3F7FFF7B,
  0x3F7FFF83, 0x3F7FFF8B, 0x3F7FFF92, 0x3F7FFF98, 0x3F7FFF9F, 0x3F7FFFA5, 0x3F7FFFAA, 0x3F7FFFAF,
  0x3F7FFFB4, 0x3F7FFFB9, 0x3F7FFFBD, 0x3F7FFFC1, 0x3F7FFFC5, 0x3F7FFFC9, 0x3F7FFFCC, 0x3F7FFFCF,
  0x3F7FFFD2, 0x3F7FFFD5, 0x3F7FFFD7, 0x3F7FFFDA, 0x3F7FFFDC, 0x3F7FFFDE, 0x3F7FFFE0, 0x3F7FFFE2,
  0x3F7FFFE4, 0x3F7FFFE6, 0x3F7FFFE7, 0x3F7FFFE9, 0x3F7FFFEA, 0x3F7FFFEC, 0x3F7FFFED, 0x3F7FFFEE,
  0x3F7FFFEF, 0x3F7FFFF0, 0x3F7FFFF1, 0x3F7FFFF2, 0x3F7FFFF3, 0x3F7FFFF4, 0x3F7FFFF4, 0x3F7FFFF5,
  0x3F7FFFF6, 0x3F7FFFF6, 0x3F7FFFF7, 0x3F7FFFF7, 0x3F7FFFF8, 0x3F7FFFF8, 0x3F7FFFF9, 0x3F7FFFF9,
  0x3F7FFFFA, 0x3F7FFFFA, 0x3F7FFFFB, 0x3F7FFFFB, 0x3F7FFFFB, 0x3F7FFFFB, 0x3F7FFFFC, 0x3F7FFFFC]

/-- Entries 256 to 256 of TANH (R181). -/
def tanhPart4 : List Nat := [
  0x3F7FFFFC]

/-- TANH: tanh(i / 32) (R181). -/
def tanhTable : List Nat := tanhPart0 ++ tanhPart1 ++ tanhPart2 ++ tanhPart3 ++ tanhPart4

/-- Entries 0 to 63 of ERF (R181). -/
def erfPart0 : List Nat := [
  0x00000000, 0x3C906BB8, 0x3D1062B2, 0x3D587D7F, 0x3D903EA4, 0x3DB42C8D, 0x3DD80409, 0x3DFBC0AD,
  0x3E0FAF0D, 0x3E216BFE, 0x3E331506, 0x3E44A808, 0x3E5622F2, 0x3E6783B7, 0x3E78C855, 0x3E84F76B,
  0x3E8D7AA7, 0x3E95ECEE, 0x3E9E4D54, 0x3EA69AF8, 0x3EAED4FA, 0x3EB6FA85, 0x3EBF0ACA, 0x3EC70501,
  0x3ECEE869, 0x3ED6B44B, 0x3EDE67F6, 0x3EE602C2, 0x3EED840E, 0x3EF4EB45, 0x3EFC37D5, 0x3F01B49D,
  0x3F053F7B, 0x3F08BC4A, 0x3F0C2AD3, 0x3F0F8AE6, 0x3F12DC54, 0x3F161EF6, 0x3F1952A6, 0x3F1C7745,
  0x3F1F8CB7, 0x3F2292E4, 0x3F2589B9, 0x3F287126, 0x3F2B4922, 0x3F2E11A4, 0x3F30CAAB, 0x3F337437,
  0x3F360E4C, 0x3F3898F3, 0x3F3B1438, 0x3F3D802C, 0x3F3FDCE0, 0x3F422A6B, 0x3F4468E7, 0x3F46986F,
  0x3F48B925, 0x3F4ACB29, 0x3F4CCEA1, 0x3F4EC3B4, 0x3F50AA8D, 0x3F528358, 0x3F544E43, 0x3F560B7E]

/-- Entries 64 to 127 of ERF (R181). -/
def erfPart1 : List Nat := [
  0x3F57BB3D, 0x3F595DB4, 0x3F5AF318, 0x3F5C7BA1, 0x3F5DF788, 0x3F5F6707, 0x3F60CA59, 0x3F6221BB,
  0x3F636D69, 0x3F64ADA3, 0x3F65E2A6, 0x3F670CB1, 0x3F682C06, 0x3F6940E2, 0x3F6A4B88, 0x3F6B4C36,
  0x3F6C432F, 0x3F6D30B1, 0x3F6E14FE, 0x3F6EF055, 0x3F6FC2F5, 0x3F708D1F, 0x3F714F11, 0x3F72090A,
  0x3F72BB46, 0x3F736604, 0x3F74097E, 0x3F74A5F2, 0x3F753B98, 0x3F75CAAC, 0x3F765366, 0x3F76D5FE,
  0x3F7752AB, 0x3F77C9A2, 0x3F783B18, 0x3F78A741, 0x3F790E50, 0x3F797075, 0x3F79CDE1, 0x3F7A26C4,
  0x3F7A7B4A, 0x3F7ACBA1, 0x3F7B17F4, 0x3F7B606E, 0x3F7BA537, 0x3F7BE677, 0x3F7C2456, 0x3F7C5EF9,
  0x3F7C9684, 0x3F7CCB1A, 0x3F7CFCDD, 0x3F7D2BEF, 0x3F7D586F, 0x3F7D827B, 0x3F7DAA32, 0x3F7DCFB0,
  0x3F7DF30F, 0x3F7E146C, 0x3F7E33DE, 0x3F7E517F, 0x3F7E6D66, 0x3F7E87AA, 0x3F7EA05F, 0x3F7EB79A]

/-- Entries 128 to 191 of ERF (R181). -/
def erfPart2 : List Nat := [
  0x3F7ECD71, 0x3F7EE1F4, 0x3F7EF537, 0x3F7F074B, 0x3F7F1840, 0x3F7F2826, 0x3F7F370C, 0x3F7F4500,
  0x3F7F5211, 0x3F7F5E4B, 0x3F7F69BA, 0x3F7F746A, 0x3F7F7E67, 0x3F7F87BB, 0x3F7F9070, 0x3F7F9890,
  0x3F7FA024, 0x3F7FA734, 0x3F7FADC8, 0x3F7FB3E8, 0x3F7FB99C, 0x3F7FBEEA, 0x3F7FC3D9, 0x3F7FC86E,
  0x3F7FCCB0, 0x3F7FD0A5, 0x3F7FD450, 0x3F7FD7B7, 0x3F7FDADF, 0x3F7FDDCC, 0x3F7FE081, 0x3F7FE303,
  0x3F7FE554, 0x3F7FE77A, 0x3F7FE975, 0x3F7FEB4B, 0x3F7FECFC, 0x3F7FEE8C, 0x3F7FEFFD, 0x3F7FF151,
  0x3F7FF28A, 0x3F7FF3AB, 0x3F7FF4B5, 0x3F7FF5AA, 0x3F7FF68B, 0x3F7FF75A, 0x3F7FF819, 0x3F7FF8C7,
  0x3F7FF968, 0x3F7FF9FB, 0x3F7FFA82, 0x3F7FFAFE, 0x3F7FFB6F, 0x3F7FFBD7, 0x3F7FFC36, 0x3F7FFC8E,
  0x3F7FFCDD, 0x3F7FFD26, 0x3F7FFD68, 0x3F7FFDA5, 0x3F7FFDDC, 0x3F7FFE0F, 0x3F7FFE3D, 0x3F7FFE67]

/-- Entries 192 to 255 of ERF (R181). -/
def erfPart3 : List Nat := [
  0x3F7FFE8D, 0x3F7FFEB0, 0x3F7FFED0, 0x3F7FFEED, 0x3F7FFF07, 0x3F7FFF1F, 0x3F7FFF34, 0x3F7FFF48,
  0x3F7FFF5A, 0x3F7FFF6A, 0x3F7FFF79, 0x3F7FFF86, 0x3F7FFF92, 0x3F7FFF9D, 0x3F7FFFA7, 0x3F7FFFB0,
  0x3F7FFFB8, 0x3F7FFFBF, 0x3F7FFFC6, 0x3F7FFFCC, 0x3F7FFFD1, 0x3F7FFFD6, 0x3F7FFFDA, 0x3F7FFFDE,
  0x3F7FFFE2, 0x3F7FFFE5, 0x3F7FFFE8, 0x3F7FFFEA, 0x3F7FFFEC, 0x3F7FFFEF, 0x3F7FFFF0, 0x3F7FFFF2,
  0x3F7FFFF4, 0x3F7FFFF5, 0x3F7FFFF6, 0x3F7FFFF7, 0x3F7FFFF8, 0x3F7FFFF9, 0x3F7FFFFA, 0x3F7FFFFA,
  0x3F7FFFFB, 0x3F7FFFFC, 0x3F7FFFFC, 0x3F7FFFFD, 0x3F7FFFFD, 0x3F7FFFFD, 0x3F7FFFFE, 0x3F7FFFFE,
  0x3F7FFFFE, 0x3F7FFFFE, 0x3F7FFFFF, 0x3F7FFFFF, 0x3F7FFFFF, 0x3F7FFFFF, 0x3F7FFFFF, 0x3F7FFFFF,
  0x3F7FFFFF, 0x3F7FFFFF, 0x3F7FFFFF, 0x3F800000, 0x3F800000, 0x3F800000, 0x3F800000, 0x3F800000]

/-- Entries 256 to 256 of ERF (R181). -/
def erfPart4 : List Nat := [
  0x3F800000]

/-- ERF: erf(i / 64) (R181). -/
def erfTable : List Nat := erfPart0 ++ erfPart1 ++ erfPart2 ++ erfPart3 ++ erfPart4

/-- Entry i of a table, as a value. -/
def entryVal (t : List Nat) (i : Nat) : Val := fp32.decode (t.getD i 0)

/-- interp(t, i, g / 2^k) of R182, exact: (2^k t[i] + g (t[i+1] - t[i])) / 2^k, with further terms added exactly. -/
def interpWith (t : List Nat) (i g k : Nat) (extra : List Exact) : Exact :=
  let a := entryVal t i
  let b := entryVal t (i + 1)
  let f : Val := .fin false g (-(k : Int))
  Exact.sum ([a.exact, Val.mul f b, Val.mul f a.neg] ++ extra)

/-- An exact finite outcome times 2^n. -/
def scaleExact (n : Int) : Exact → Exact
  | .fin neg m e more => .fin neg m (e + n) more
  | x => x

/-- exp2 (R182). The fraction of x is taken at the exponent of x, k bits below the point. -/
def tfExp2 (a : Word) : LaneRes :=
  match fval a with
  | .nan => .plain nanWord
  | .inf false => .plain 0x7F800000#32
  | .inf true => .plain 0#32
  | .fin neg m e =>
    if e ≥ 0 then .fp (scaleExact (scaledInt neg m e 0) (interpWith exp2Table 0 0 0 []))
    else
      let k := (-e).toNat
      let x : Int := if neg then -(m : Int) else m
      let n := x / (2 ^ k : Nat)
      let f := (x % (2 ^ k : Nat)).toNat
      let i := f * 256 / 2 ^ k
      let g := f * 256 % 2 ^ k
      .fp (scaleExact n (interpWith exp2Table i g k []))

/-- log2 (R182). -/
def tfLog2 (a : Word) : LaneRes :=
  match fval a with
  | .nan => .plain nanWord
  | .inf false => .plain 0x7F800000#32
  | .inf true => .fp .invalid
  | .fin neg m e =>
    if m = 0 then ⟨0xFF7FFFFF#32, Flags.saturated, 1⟩
    else if neg then .fp .invalid
    else
      let l := Nat.log2 m
      let r := m - 2 ^ l
      let i := r * 256 / 2 ^ l
      let g := r * 256 % 2 ^ l
      .fp (interpWith log2Table i g l [(Val.ofInt ((l : Int) + e)).exact])

/-- tanh and erf (R182): grid s, last point top. -/
def tfOdd (t : List Nat) (s top : Nat) (a : Word) : LaneRes :=
  match fval a with
  | .nan => .plain nanWord
  | .inf neg => .plain (withSign neg (BitVec.ofNat 32 (t.getD 256 0)))
  | .fin neg m e =>
    let k := (-e).toNat
    let big := m * 2 ^ e.toNat
    if big ≥ top * 2 ^ k then .plain (withSign neg (BitVec.ofNat 32 (t.getD 256 0)))
    else
      let i := big * s / 2 ^ k
      let g := big * s % 2 ^ k
      let r := LaneRes.fp (interpWith t i g k [])
      { r with w := withSign neg r.w }

/-- TFN (R204): the table function named by MOD[2:0]; MOM2 takes its entries from Learning (R389). -/
def opTfn (table : Nat) (mom2 : Nat → Word) (a : Word) : LaneRes :=
  match table with
  | 0 => tfExp2 a
  | 1 => tfLog2 a
  | 2 => tfOdd tanhTable 32 8 a
  | 3 => tfOdd erfTable 64 4 a
  | _ => .plain (mom2 (a.toNat % 256))

end Sys2Proof.Machine
end

