-- ==== Sys2Proof/Machine/Scales.lean ====
section
/-! DEFINITION. Scales: scale records and their updates (R124 to R136), codebook tables (R142), and the readout of an
accumulator bank (R108, R115). -/

namespace Sys2Proof.Machine

/-! ### Scale records (R124 to R127) -/

/-- The partition address of the scale record of a tag (R124). -/
def scaleAddr (s : State) (n tag : Nat) : Nat := s.reg64 (pcfg n + 0x80) + 128 * tag

/-- The word at an offset of a tag's scale record, zero where it cannot be read. -/
def State.recWord (s : State) (n tag o : Nat) : Word := BitVec.ofNat 32 (s.peek32 n (scaleAddr s n tag + o))

/-- Bits [hi:lo] of CTL of a tag's record (R126). -/
def State.recCtl (s : State) (n tag hi lo : Nat) : Nat := fieldOf (s.recWord n tag 0x08) hi lo

/-- What a command makes of the read of a tag's record (R127, R18): a refused page fails its transfer, an uncorrectable one
is a void cause, and both read zeros. -/
def gotRec (k : Nat) : Got × State → List Byte × State
  | (.ok bs, s) => (bs, s)
  | (.access, s) => (List.replicate 128 0#8, s.modCmd k fun c => c.failXfer 5 0xFF)
  | (.ue, s) => (List.replicate 128 0#8, s.modCmd k fun c => c.addVoid 1)

/-- The record of a tag read for the command in slot k: zeros and ACCESS where the read is refused, MEM_UE where it is
uncorrectable (R18, R21). -/
def State.readRec (s : State) (k : Nat) (c : Cmd) (tag : Nat) : List Byte × State :=
  gotRec k (s.readPda c.part.val (scaleAddr s c.part.val tag) 128)

/-- The floor die updates a tag's record on behalf of the command in slot k, unless the page is refused or the record
reads uncorrectable (R127). -/
def State.updateRec (s : State) (k : Nat) (c : Cmd) (tag : Nat) (f : List Byte → List Byte) : State :=
  let n := c.part.val
  let a := scaleAddr s n tag
  if !s.pdaOk n a 128 true then s.modCmd k fun c => c.failXfer 5 0xFF
  else
    match s.readPda n a 128 with
    | (.ok bs, s) => s.poke n a (f bs)
    | (.access, s) => s.modCmd k fun c => c.failXfer 5 0xFF
    | (.ue, s) => s.modCmd k fun c => c.addVoid 1

/-- A word of a record replaced. -/
def recPut (rc : List Byte) (o v : Nat) : List Byte := spliceBytes rc o (leBytes 4 v)

/-- A counter word of a record gains k, stopping at its largest value (R125). -/
def recCount (rc : List Byte) (o k : Nat) : List Byte := recPut rc o (min (w32At rc o + k) 0xFFFFFFFF)

/-- A fold of values into STEP_AMAX (R130). -/
def recFold (xs : List Word) (rc : List Byte) : List Byte :=
  recPut rc 0x04 (xs.foldl foldAmax (BitVec.ofNat 32 (w32At rc 0x04))).toNat

/-- k saturation events counted in a record (R131). -/
def recSat (k : Nat) (rc : List Byte) : List Byte := recCount (recCount rc 0x10 k) 0x14 k

/-- Values folded into a tag for the command in slot k. -/
def State.foldTag (s : State) (k : Nat) (c : Cmd) (tag : Nat) (xs : List Word) : State :=
  if xs.isEmpty then s else s.updateRec k c tag (recFold xs)

/-- Saturation events of the command in slot k: its count, and its OUT_TAG's record (R131). -/
def State.satEvents (s : State) (k : Nat) (c : Cmd) (n : Nat) : State :=
  if n = 0 then s else s.updateRec k c c.outTag (recSat n)

/-! ### Step close (R133, R134) -/

/-- The largest finite magnitude of a narrow format (R134); none for a reserved code. -/
def maxfOf (fmt : Nat) : Option Val :=
  match fmt with
  | 0 | 8 | 9 => some (.fin false 448 0)
  | 1 => some (.fin false 57344 0)
  | 2 => some (.fin false 255 120)
  | 3 => some (.fin false 65504 0)
  | 4 => some (.fin false 127 0)
  | 5 => some (.fin false 255 0)
  | 6 => some (.fin false 7 0)
  | 7 => some (.fin false 15 0)
  | _ => none

/-- The least of n exponents from e on for which a is at most mf × 2^e. -/
def leastExp (a mf : Val) : Nat → Int → Int
  | 0, e => e
  | n + 1, e =>
    match mf with
    | .fin _ m g => if Val.lt (.fin false m (g + e)) a then leastExp a mf n (e + 1) else e
    | _ => e

/-- The exponent of the scale that a sets under a format and a margin (R133): at most 127, at least -126. -/
def scaleExp (a : Val) (mf : Val) (margin : Int) : Int :=
  match a, mf with
  | .fin _ m g, .fin _ k h =>
    let e := leastExp a mf 4 ((Nat.log2 m : Int) + g - (Nat.log2 k : Int) - h - 2)
    min (max (e + margin) (-126)) 127
  | _, _ => 127

/-- FP32 of 2^x for x from -126 to 127. -/
def pow2Word (x : Int) : Nat := (x + 127).toNat * 2 ^ 23

/-- SCALE after the amax a, by R133: unchanged where FROZEN, where a is not above zero, or where FMT is reserved. -/
def nextScale (rc : List Byte) (a : Word) : Nat :=
  let ctl := w32At rc 0x08
  match maxfOf (bitsOf ctl 3 0) with
  | some mf =>
    if bitOf ctl 23 || !Val.lt (.fin false 0 0) (fval a) then w32At rc 0
    else pow2Word (scaleExp (fval a) mf (signedOf 8 (bitsOf ctl 11 4)))
  | none => w32At rc 0

/-- The largest of history words, NaN excluded; zero when none remains (R133). -/
def histMax (ws : List Word) : Word :=
  (ws.filter fun w => !isNan w).foldl (fun a w => if Val.lt (fval a) (fval w) then w else a) 0#32

/-- A step close of a record (R133). -/
def recClose (rc : List Byte) : List Byte :=
  let ctl := w32At rc 0x08
  let pos := bitsOf ctl 16 13
  let n := min (bitsOf ctl 21 17 + 1) 16
  let rc := recPut rc (0x40 + 4 * pos) (w32At rc 0x04)
  let pos' := (pos + 1) % 16
  let a := histMax ((List.range n).map fun i => BitVec.ofNat 32 (w32At rc (0x40 + 4 * ((pos' + 31 - i) % 16))))
  let rc := recPut rc 0x00 (nextScale rc a)
  let rc := recPut rc 0x08 (putBits (putBits ctl 16 13 pos') 21 17 n)
  recPut (recPut (recPut rc 0x04 0) 0x14 0) 0x0C ((w32At rc 0x0C + 1) % 2 ^ 32)

/-- Whether a close of a record reports a saturation burst (R133). -/
def recBurst (rc : List Byte) : Bool :=
  let t := bitsOf (w32At rc 0x24) 15 0
  t != 0 && decide (t ≤ w32At rc 0x14)

/-- A record after a seed pass that found the magnitude a (R139); a record with a history keeps it (R141). -/
def recSeed (a : Word) (rc : List Byte) : List Byte :=
  let ctl := w32At rc 0x08
  if bitsOf ctl 21 17 ≠ 0 then rc
  else
    let rc := recPut rc 0x40 a.toNat
    let rc := recPut rc 0x00 (nextScale rc a)
    recPut rc 0x08 (putBits (putBits (putBits ctl 21 17 1) 16 13 1) 22 22 1)

/-- Whether a tag's record calls for a seed pass (R137). -/
def State.needsSeed (s : State) (n tag : Nat) : Bool := s.recCtl n tag 21 17 == 0 && s.recCtl n tag 23 23 == 0

/-- A record as CREATE writes it (R126). -/
def recFresh : List Byte :=
  leBytes 4 0x3F800000 ++ leBytes 4 0 ++ leBytes 4 (2 ^ 25) ++ leBytes 20 0 ++ leBytes 4 0x00083000 ++ leBytes 92 0

/-! ### Codebook tables (R142) -/

/-- The bytes of a codebook table (R142). -/
def tableSize (fmt : Nat) : Nat := if fmt = 8 then 16 else 256

/-- The address of the codebook table that a tag's record gives for a table size and a column group (R142). -/
def tableAddr (rc : List Byte) (size group : Nat) : Nat :=
  let base := w64At rc 0x18 / size * size
  if bitOf (w32At rc 0x08) 24 then base + group * size else base

/-! ### Accumulator banks (R107, R115) -/

/-- The word of a bank (R107). -/
def State.bankWord (s : State) (g a row col : Nat) : Word := BitVec.ofNat 32 (leNat (s.bytes (bankAddr g a row col) 4))
/-- The word of a bank replaced. -/
def State.setBankWord (s : State) (g a row col : Nat) (w : Word) : State :=
  s.setBytes (bankAddr g a row col) (leBytes 4 w.toNat)

/-- Whether the accumulator of a weight format is INT32 (R95). -/
def intMode (wfmt : Nat) : Bool := 4 ≤ wfmt && wfmt ≤ 7

/-- Array a of vale g. -/
def State.array (s : State) (g a : Nat) : ArraySt := Sparse.get (fun _ => ArraySt.reset) (s.vale g).arrays a
/-- Array a of vale g changed. -/
def State.modArray (s : State) (g a : Nat) (f : ArraySt → ArraySt) : State :=
  s.modVale g fun v => { v with arrays := Sparse.set (fun _ => ArraySt.reset) v.arrays a (f (s.array g a)) }

/-- The column sums kept for a region of a bank (R100). -/
def ArraySt.sumsOf (a : ArraySt) (base : Nat) : List Int :=
  match a.colSums.find? fun e => e.1 == base with
  | some e => e.2
  | none => []

/-- A word of a bank as the epilogue port delivers it (R115): RAW, or SCALED by the latched scales. -/
def readout (c : Cmd) (w : Word) (cs : Int) : LaneRes :=
  let raw : LaneRes := if intMode c.wfmt && c.za ≠ 0 then satInt32 (w.toInt - c.za * cs) else .plain w
  if !c.scaled then raw
  else
    let v := if intMode c.wfmt then Val.ofInt raw.w.toInt else fval w
    let p : Exact :=
      match Val.mul (fval c.matrix.sa) (fval c.matrix.sw), v with
      | .fin a m e _, v => Val.mul (.fin a m e) v
      | .inf a, v => Val.mul (.inf a) v
      | .invalid, .nan => .nan
      | x, _ => x
    let r := LaneRes.fp p
    ⟨r.w, r.flags ||| raw.flags, r.sat + raw.sat⟩

/-- The readout of word (row, col) of array a's region for a command. -/
def State.readBank (s : State) (c : Cmd) (a row col : Nat) : LaneRes :=
  readout c (s.bankWord c.vale a (c.accBase + row) col) (((s.array c.vale a).sumsOf c.accBase).getD col 0)

end Sys2Proof.Machine
end

