-- ==== Sys2Proof/Machine/Matrix.lean ====
section
/-! DEFINITION. Matrix: the matrix arrays: tiles and shadow cells (R97 to R101, R597), streaming and accumulation (R102 to
R106), release (R109), saturation counting (R116, R117), and the capture of echo tiles (R144 to R146). -/

namespace Sys2Proof.Machine

/-! ### Order of commands on a vale (R228) -/

/-- Whether command a comes before command b on their vale: dispatch order, then submission order (R225, R228). -/
def Cmd.before (a b : Cmd) : Bool :=
  match a.dispatched, b.dispatched with
  | some x, some y => decide (x.1 < y.1) || (x.1 == y.1 && (decide (x.2 < y.2) || (x.2 == y.2 && decide (a.seqNo < b.seqNo))))
  | some _, none => true
  | none, some _ => false
  | none, none => decide (a.seqNo < b.seqNo)

/-- The other commands on a command's vale that come before it. -/
def State.earlier (s : State) (k : Nat) (c : Cmd) : List (Nat × Cmd) :=
  (s.ofVale c.vale).filter fun e => e.1 != k && e.2.before c

/-- Whether a command may start stages now: without OVERLAP only once the earlier dispatched commands on its vale have
completed (R228). -/
def State.stageTurn (s : State) (k : Nat) (c : Cmd) : Bool :=
  c.overlap || (s.earlier k c).all fun e => e.2.dispatched.isNone

/-- Whether a command's MATRIX stage has ended, or it has none (R223). -/
def Cmd.matrixEnded (c : Cmd) : Bool := !c.hasMatrix || (c.matrix.tile == c.kTiles && c.matrix.row == c.m)

/-- Whether two commands name a common array. -/
def sharesArray (a b : Cmd) : Bool := a.arrays.any fun x => b.arrays.contains x

/-- Whether a command still owns its bank region (R108, R165). -/
def Cmd.ownsBank (c : Cmd) : Bool :=
  c.hasMatrix &&
    (if c.hasElem && !c.stream then !c.elem.ended
     else !c.matrixEnded ||
       ((List.range c.nStore).any fun i => xSrc (c.entry (c.nFetch + i)) == 0x0C && !((c.store[i]?).any (·.done))))

/-! ### Reads that belong to no transfer (R598) -/

/-- Device memory read with zeros in place of the bytes of uncorrectable blocks (R598); `true` when there were any. -/
def State.readZeros (s : State) (d n : Nat) : List Byte × Bool × State :=
  let bad := (List.range n).any fun i => s.blockBad (d + i)
  let bs := (List.range n).map fun i => if s.blockBad (d + i) then 0#8 else s.byte (d + i)
  (bs, bad, (s.readDpa d n).2)

/-- A read that a command makes outside its transfers (R598): its bytes, and whether it succeeded. -/
def State.sideRead (s : State) (k : Nat) (c : Cmd) (a n : Nat) : List Byte × Bool × State :=
  let zeros := List.replicate n 0#8
  let metered := s.metered c.part.val
  match c.walk s a false with
  | .ok d t =>
    let r := (s.cacheTrans c.part.val t).readZeros d n
    (r.1, !r.2.1, if r.2.1 then r.2.2.modCmd k fun c => c.addVoid 1 else r.2.2)
  | .refused => (zeros, false, s.modCmd k fun c => c.failXfer 5 0xFF)
  | .fault _ => (zeros, false, s.modCmd k fun c => if metered then c.addVoid 5 else c.failXfer 4 0xFF)
  | .tableUe d => (zeros, false, (s.uncorrectable d false).modCmd k fun c => c.addVoid 1)

/-! ### Tiles (R95, R99, R597) -/

/-- The K positions of a tile by weight format (R95). -/
def tileK (wfmt : Nat) : Nat := if wfmt = 6 ∨ wfmt = 7 then 256 else 128

/-- The bytes of a tile (R95). -/
def tileBytes (wfmt : Nat) : Nat := tileK wfmt * 128 * codeWidth wfmt / 8

/-- The bytes of one activation row of a tile (R597). -/
def rowBytes (wfmt afmt : Nat) : Nat := tileK wfmt * codeWidth afmt / 8

/-- Element i of packed elements of a width in bits (R69, R597). -/
def packedAt (bs : List Byte) (width i : Nat) : Nat :=
  if width = 4 then bitsOf ((bs.getD (i / 2) 0#8).toNat) (4 * (i % 2) + 3) (4 * (i % 2))
  else leAt bs (i * (width / 8)) (width / 8)

/-- The decoded weight code (k, n) of a tile: a codebook code stands for its table entry (R98). -/
def Tile.code (t : Tile) (k n : Nat) : Nat :=
  let x := packedAt t.bytes (codeWidth t.wfmt) (k * 128 + n)
  if t.wfmt = 8 ∨ t.wfmt = 9 then (t.table.getD x 0#8).toNat else x

/-- The format of a tile's decoded weights (R98). -/
def decodedFmt (wfmt : Nat) : Nat := if wfmt = 8 ∨ wfmt = 9 then 0 else wfmt

/-- K_VALID of tile t of a command (R260). -/
def Cmd.kValid (c : Cmd) (t : Nat) : Nat := if t + 1 = c.kTiles then c.kLast else tileK c.wfmt

/-- N_VALID of the array of rank r among the named ones (R260). -/
def Cmd.nValidAt (c : Cmd) (r : Nat) : Nat := if r + 1 = c.arrays.length then c.nValid else 128

/-- The column sums of a tile (R100). -/
def Tile.columnSums (t : Tile) : List Int :=
  match intOfCode t.wfmt with
  | none => []
  | some (w, sg) =>
    (List.range 128).map fun n =>
      if n < t.nValid then (List.range t.kValid).foldl (fun a k => a + intDecode w sg (t.code k n)) 0 else 0

/-- The command whose tile array a of vale g loads next (R222, R227, R228): the first in order with tiles left. -/
def State.nextLoader (s : State) (g a : Nat) : Option (Nat × Cmd) :=
  ((s.ofVale g).filter fun e =>
      e.2.hasMatrix && e.2.ready && e.2.arrays.contains a &&
        (e.2.queue (16 + a)).head < e.2.kTiles * tileBytes e.2.wfmt * 2).foldl
    (fun best e => match best with
      | none => some e
      | some b => if e.2.before b.2 then some e else some b) none

/-- The bytes of a side read and the state after it. -/
def bytesOnly (x : List Byte × Bool × State) : List Byte × State := (x.1, x.2.2)

/-- The bytes of a tile's codebook table by weight format; 0 where it has none (R95). -/
def tileTableSize (wfmt : Nat) : Nat := if wfmt = 8 ∨ wfmt = 9 then tableSize wfmt else 0

/-- The codebook table of a tile of the rank-th named array of a command (R98, R143); none where its weight format has none. -/
def State.tileTable (s : State) (k : Nat) (c : Cmd) (rank : Nat) : List Byte × State :=
  if c.wfmt = 8 ∨ c.wfmt = 9 then
    let r := s.readRec k c c.wTag
    let size := tableSize c.wfmt
    bytesOnly (r.2.sideRead k c (tableAddr r.1 size ((8 * c.originCol + 128 * rank) / 128)) size)
  else ([], s)

/-- Whether the last n bytes put into a tile queue have completed a tile, and which (R222). -/
def Queue.tileIn (q : Queue) (n : Nat) : Option Nat :=
  if q.tile ≠ 0 ∧ (q.tail - 2 * n) / (2 * q.tile) < q.tail / (2 * q.tile) then some (q.tail / (2 * q.tile) - 1) else none

/-- The fetch engine puts a tile's codebook table directly after its last byte, n bytes of the tile queue of array a having
landed (R143, R222, R597). -/
def State.landTable (s : State) (k a n : Nat) : State :=
  match s.cmd k with
  | none => s
  | some c =>
    match (c.queue (16 + a)).tileIn n with
    | none => s
    | some i =>
      let got := s.tileTable k c (c.arrays.filter (· < a)).length
      got.2.slotPut (c.queue (16 + a)) i (c.queue (16 + a)).tile got.1

/-- The shadow cells of array a of vale g take the tile at the head of its tile queue, when they are empty and it is
complete (R97, R98, R222). -/
def State.fillShadow (s : State) (g a : Nat) : State :=
  if (s.array g a).shadow.isSome then s
  else
    match s.nextLoader g a with
    | none => s
    | some (k, c) =>
      let q := c.queue (16 + a)
      let n := tileBytes c.wfmt
      if q.held < 2 * n then s
      else
        let rank := (c.arrays.filter (· < a)).length
        let i := q.head / (2 * n)
        let tile : Tile :=
          { slot := k, index := i, bytes := s.qBytes q (q.head / 2) n, table := s.slotBytes q i n (tileTableSize c.wfmt), wfmt := c.wfmt,
            kValid := c.kValid i, nValid := c.nValidAt rank, tag := c.wTag, sums := [] }
        let tile := if c.za ≠ 0 then { tile with sums := tile.columnSums } else tile
        (s.modArray g a fun x => { x with shadow := some tile }).modCmd k fun c =>
          c.modQueue (16 + a) fun q => q.advance (2 * n)

/-- The shadow cells of a vale's arrays take what they can. -/
def State.fillShadows (s : State) (g : Nat) : State :=
  if (s.vale g).fenced then s else (List.range 4).foldl (fun s a => s.fillShadow g a) s

/-! ### Accumulation (R102 to R105) -/

/-- The value of a bank word as a term (R107). -/
def bankVal (wfmt : Nat) (w : Word) : Val := if intMode wfmt then Val.ofInt w.toInt else fval w

/-- The integer value of an operand code (R68). -/
def intOf (fmt code : Nat) : Int :=
  match intOfCode fmt with
  | some (w, sg) => intDecode w sg code
  | none => 0

/-- A bank word after a tile's products for one row and column (R102 to R105): the exact sum, rounded or saturated once.
`bank` is the bank word where it is a term. -/
def accumulate (wfmt afmt : Nat) (xs ws : List Nat) (bank : Option Word) : LaneRes :=
  if intMode wfmt then
    let t := (xs.zip ws).foldl (fun a p => a + intOf afmt p.1 * intOf wfmt p.2) (0 : Int)
    satInt32 (t + (match bank with | some w => w.toInt | none => 0))
  else
    let ps := (xs.zip ws).map fun p => Val.mul (valOfCode afmt p.1) (valOfCode (decodedFmt wfmt) p.2)
    .fp (Exact.sum (ps ++ (match bank with | some w => [(fval w).exact] | none => [])))

/-! ### Echo capture (R144 to R146) -/

/-- The K positions of a command's accumulation group. -/
def Cmd.groupK (c : Cmd) : Nat := (c.kTiles - 1) * tileK c.wfmt + c.kLast

/-- The bytes a captured tile takes of the buffer (R146). -/
def Cmd.echoBytes (c : Cmd) : Nat := 16 * c.groupK * (if codeWidth c.wfmt = 16 then 2 else 1) + 256

/-- The bytes of a plain's capture buffer that are in use. -/
def EchoSt.used (e : EchoSt) : Nat := (e.tiles.map (·.bytes)).foldl (· + ·) 0

/-- ECHO_STAT after a change of the capture buffer (R153). -/
def State.echoStat (s : State) (p : Nat) : State :=
  let e := s.echoOf p
  s.setReg (pageBase (.echo (Fin.ofNat 16 p)) + 0x44)
    (fields [(16, 16, boolBit !e.tiles.isEmpty), (9, 0, (512 * 1024 - e.used) / 1024)])

/-- Whether the draw samples tile (i, j) (R145). -/
def echoSampled (c : Cmd) (step rate i j : Nat) : Bool :=
  decide ((cg (cgKey c.partKey c.jobKey) (cgCounter domEcho c.outTag step 0 (2 ^ 24 * i + j))).toNat / 256 < 2 ^ (24 - rate))

/-- The capture of one echo tile begins at its first row, or is dropped for want of room (R146). -/
def State.beginCapture (s : State) (k : Nat) (c : Cmd) (a col r cols i j : Nat) : State :=
  let p := c.vale / 8
  let pg : Page := .echo (Fin.ofNat 16 p)
  if 512 * 1024 < (s.echoOf p).used + c.echoBytes then (s.count pg 0x50 1).raise pg 2
  else
    let rows := min 8 (c.m - r)
    let b0 := (List.range 8).flatMap fun y => (List.range 8).map fun x =>
      if c.accumulate ∧ y < rows ∧ x < cols then s.bankWord c.vale a (c.accBase + r + y) (col + x) else 0#32
    let t : EchoTile :=
      { slot := some k, part := c.part.val, vale := c.vale, tag := c.outTag, index := 2 ^ 24 * i + j, wfmt := c.wfmt,
        afmt := c.afmt, array := a, row := r, col := col, rows := rows, cols := cols, b0 := b0,
        acts := List.replicate rows [], wts := List.replicate cols [], got := [], bytes := c.echoBytes }
    (s.modEcho p fun e => { e with tiles := e.tiles ++ [t] }).echoStat p

/-- The echo tiles whose first row is r in array a are sampled (R145, R146). -/
def State.captureRow (s : State) (k : Nat) (c : Cmd) (a rank r : Nat) : State :=
  match c.matrix.echo with
  | none => s
  | some (step, rate) =>
    if r % 8 ≠ 0 then s
    else
      (List.range (ceilDiv (c.nValidAt rank) 8)).foldl (fun s x =>
        let i := c.originRow + r / 8
        let j := c.originCol + 16 * rank + x
        if echoSampled c step rate i j then s.beginCapture k c a (8 * x) r (min 8 (c.nValidAt rank - 8 * x)) i j else s) s

/-- What an echo tile takes from one row and its tile (R146), and the bank words at the end of its group. -/
def EchoTile.feed (e : EchoTile) (k a r : Nat) (xs : List Nat) (t : Tile) (last : Bool) (bank : Nat → Nat → Word) :
    EchoTile :=
  if e.slot ≠ some k ∨ e.array ≠ a ∨ r < e.row ∨ e.row + e.rows ≤ r then e
  else
    let e := { e with acts := e.acts.modify (r - e.row) (· ++ xs) }
    let e := if r = e.row then
        { e with wts := e.wts.mapIdx fun x ws => ws ++ (List.range t.kValid).map fun y => t.code y (e.col + x) }
      else e
    if last ∧ r + 1 = e.row + e.rows then
      { e with slot := none, got := (List.range 8).flatMap fun y => (List.range 8).map fun x =>
          if y < e.rows ∧ x < e.cols then bank (e.row + y) (e.col + x) else 0#32 }
    else e

/-! ### Streaming (R97 to R109) -/

/-- Saturation events of a command counted by an array's watched tags (R117). -/
def State.watchSat (s : State) (g a tag n : Nat) : State :=
  let pg : Page := .array (Fin.ofNat 128 g) (Fin.ofNat 4 a)
  let b := pageBase pg
  if n = 0 ∨ !s.regBit (b + 0x40) 0 then s
  else (List.range 4).foldl (fun s i =>
    if s.regBit (b + 0x50 + 4 * i) 31 && s.regF (b + 0x50 + 4 * i) 23 0 == tag then s.count pg (0x60 + 4 * i) n else s) s

/-- Flags and saturation events that an array raises for a command (R79, R106, R116, R117, R131). -/
def State.arrayEvents (s : State) (k : Nat) (c : Cmd) (a : Nat) (f : Flags) (n : Nat) : State :=
  let s := s.accrue (.array (Fin.ofNat 128 c.vale) (Fin.ofNat 4 a)) f n
  let s := (s.watchSat c.vale a c.outTag n).modCmd k fun c => c.accrue f n
  s.satEvents k c n

/-- The codes of the activation row r of tile t (R597): from the vale store, or at the head of the activation queue. -/
def State.actRow (s : State) (c : Cmd) (t r : Nat) : List Nat :=
  let n := rowBytes c.wfmt c.afmt
  let bs := if c.aFromStore then s.bytes (storeAddr c.vale (c.aBase + (t * c.m + r) * n)) n
    else let q := c.queue c.aQueue; s.qBytes q (q.head / 2) n
  (List.range (c.kValid t)).map fun i => packedAt bs (codeWidth c.afmt) i

/-- Row r of tile t passes through array a (R99, R102, R103): every word of the bank row takes its sum. -/
def State.rowThrough (s : State) (k : Nat) (c : Cmd) (xs : List Nat) (t r a rank : Nat) : State :=
  match (s.array c.vale a).active with
  | none => s
  | some tile =>
    let s := if t = 0 then s.captureRow k c a rank r else s
    let out := (List.range 128).foldl (fun (acc : State × Flags × Nat) j =>
      let s := acc.1
      if j < tile.nValid then
        let bank := if t = 0 ∧ !c.accumulate then none else some (s.bankWord c.vale a (c.accBase + r) j)
        let x := accumulate c.wfmt c.afmt xs ((List.range tile.kValid).map fun y => tile.code y j) bank
        (s.setBankWord c.vale a (c.accBase + r) j x.w, acc.2.1 ||| x.flags, acc.2.2 + x.sat)
      else if t = 0 ∧ !c.accumulate then (s.setBankWord c.vale a (c.accBase + r) j 0#32, acc.2)
      else acc) (s, 0#4, 0)
    let s := out.1
    let p := c.vale / 8
    let feed := fun (x : EchoTile) =>
      x.feed k a r xs tile (t + 1 = c.kTiles) fun y z => s.bankWord c.vale a (c.accBase + y) z
    let s := if (s.echoOf p).tiles.isEmpty then s else s.modEcho p fun e => { e with tiles := e.tiles.map feed }
    (s.count64 (.array (Fin.ofNat 128 c.vale) (Fin.ofNat 4 a)) 0x70 1).arrayEvents k c a out.2.1 out.2.2

/-- Whether the next activation row is there (R97, R221). -/
def State.rowReady (c : Cmd) : Bool := c.aFromStore || decide (2 * rowBytes c.wfmt c.afmt ≤ (c.queue c.aQueue).held)

/-- The next row streams through every named array (R97). -/
def State.streamRow (s : State) (k : Nat) (c : Cmd) : State :=
  let t := c.matrix.tile - 1
  let r := c.matrix.row
  let xs := s.actRow c t r
  let s := c.arrays.foldl (fun s a => s.rowThrough k c xs t r a (c.arrays.filter (· < a)).length) s
  s.modCmd k fun c =>
    let c := { c with matrix := { c.matrix with row := r + 1 } }
    if c.aFromStore then c else c.modQueue c.aQueue fun q => q.advance (2 * rowBytes c.wfmt c.afmt)

/-- The rows of the active tile stream as far as they are there. -/
def State.streamRows : Nat → State → Nat → State
  | 0, s, _ => s
  | f + 1, s, k =>
    match s.cmd k with
    | none => s
    | some c =>
      if c.matrix.started && decide (0 < c.matrix.tile) && decide (c.matrix.row < c.m) && State.rowReady c && s.running c then
        State.streamRows f (s.streamRow k c) k
      else s

/-- Whether array a waits for a tile of its command (R97). -/
def State.markWaiting (s : State) (k : Nat) : State :=
  match s.cmd k with
  | none => s
  | some c =>
    if !c.hasMatrix then s
    else c.arrays.foldl (fun s a => s.modArray c.vale a fun x =>
      { x with waiting := c.matrix.started && decide (c.matrix.tile < c.kTiles) &&
          (c.matrix.tile == 0 || c.matrix.row == c.m) && !(x.shadow.any fun t => t.slot == k) }) s

/-- The arrays of the command in slot k go on as far as their operands are there (R97). -/
def State.matrixGo (s : State) (k : Nat) : State :=
  match s.cmd k with
  | none => s
  | some c => if s.holding then s else ((s.streamRows 257 k).fillShadows c.vale).markWaiting k

/-! ### The commands -/

/-- Whether a tag is named in a quantisation slot with VALID set (R137, R262). -/
def Cmd.slotTag (c : Cmd) (t : Nat) : Bool :=
  c.hasElem && (List.range 4).any fun i => bitOf (c.slotWord i) 31 && bitsOf (c.slotWord i) 23 0 == t

/-- The operand tags that need a seed pass before a MATRIX stage starts (R137). A tag that a quantisation slot names too,
with the epilogue as the source, seeds from the bank that this very stage fills (R138), so its operand uses the SCALE as
it stands. DEDUCED. -/
def matrixSeeds (s : State) (c : Cmd) : List Nat :=
  ([c.wTag, c.aTag].eraseDups).filter fun t => s.needsSeed c.part.val t && !(c.slotTag t && !c.stream)

/-- Whether a MATRIX stage can start (R223, R228, R332): its first tile is in the shadow cells of every named array, and the
earlier commands have ended theirs. -/
def matrixStartOk (k : Nat) (s : State) : Bool :=
  match s.cmd k with
  | none => false
  | some c =>
    s.running c && c.hasMatrix && !c.matrix.started && !s.lapping c.vale && s.stageTurn k c &&
      (c.arrays.all fun a => (s.array c.vale a).shadow.any fun t => t.slot == k && t.index == 0) &&
      ((s.earlier k c).all fun e => e.2.matrixEnded || !sharesArray e.2 c)

/-- The stage latches its scales and its echo sampling (R114, R144). -/
def State.latchMatrix (s : State) (k : Nat) (c : Cmd) : State :=
  let w := s.readRec k c c.wTag
  let a := w.2.readRec k c c.aTag
  let o := a.2.readRec k c c.outTag
  let s := o.2
  let on := bitOf (w32At o.1 0x08) 25 && s.regBit (pageBase (.echo (Fin.ofNat 16 (c.vale / 8))) + 0x40) 0 &&
    !(s.echoOf (c.vale / 8)).failed
  s.modCmd k fun c => { c with matrix := { c.matrix with
    started := true, sw := BitVec.ofNat 32 (w32At w.1 0), sa := BitVec.ofNat 32 (w32At a.1 0),
    echo := if on then some (w32At o.1 0x0C, bitsOf (w32At o.1 0x20) 20 16) else none } }

/-- A MATRIX stage starts, or starts the seed passes that its operands' tags need first (R114, R137, R223). -/
def matrixStartDo (k : Nat) (s : State) : State :=
  match s.cmd k with
  | none => s
  | some c =>
    let need := matrixSeeds s c
    if need.isEmpty then s.latchMatrix k c
    else s.modCmd k fun c =>
      { c with seeds := c.seeds ++ (need.filter fun t => !(c.seeds.any (·.tag == t))).map SeedSt.mk }

/-- MATRIX_STAGE_START (R223). -/
def execMatrixStageStart (k : Slot) (s : State) : Host.Outcome State Fault Refusal :=
  act s fun s => if matrixStartOk k.val s then matrixStartDo k.val s else s

/-- Whether the shadow tiles can become active (R97, R108). -/
def tileSwapOk (k : Nat) (s : State) : Bool :=
  match s.cmd k with
  | none => false
  | some c =>
    s.running c && c.matrix.started && decide (c.matrix.tile < c.kTiles) &&
      (c.matrix.tile == 0 || c.matrix.row == c.m) &&
      (c.arrays.all fun a => (s.array c.vale a).shadow.any fun t => t.slot == k && t.index == c.matrix.tile) &&
      (c.matrix.tile != 0 || (s.earlier k c).all fun e =>
        !(sharesArray e.2 c && e.2.ownsBank && decide (e.2.accBase < c.accBase + c.m) &&
          decide (c.accBase < e.2.accBase + e.2.m)))

/-- The column-sum row of a region takes a tile's sums (R100): the sums and the saturation events. -/
def addSums (first : Bool) (old new : List Int) : List Int × Nat :=
  (List.range 128).foldl (fun (acc : List Int × Nat) j =>
    let x := (if first then 0 else old.getD j 0) + new.getD j 0
    let y := min (max x (-(2 ^ 31))) (2 ^ 31 - 1)
    (acc.1 ++ [y], acc.2 + boolBit (x != y))) ([], 0)

/-- Array a makes its shadow tile active (R97, R100, R122). -/
def State.activate (s : State) (k : Nat) (c : Cmd) (good : Bool) (a : Nat) : State :=
  match (s.array c.vale a).shadow with
  | none => s
  | some t =>
    let sums := addSums (t.index == 0 && !c.accumulate) ((s.array c.vale a).sumsOf c.accBase) t.sums
    let s := s.modArray c.vale a fun x =>
      { x with active := some t, shadow := none, waiting := false, tileTag := BitVec.ofNat 32 t.tag,
               colSums := if c.za ≠ 0 then (x.colSums.filter fun e => e.1 != c.accBase) ++ [(c.accBase, sums.1)] else x.colSums }
    let s := s.fillShadow c.vale a
    let s := s.modArray c.vale a fun x => { x with stat := fields [(11, 8, c.wfmt), (7, 4, c.afmt),
      (3, 3, boolBit x.shadow.isSome), (2, 2, boolBit good), (1, 1, boolBit good)] }
    if c.za ≠ 0 then s.arrayEvents k c a (Flags.when (sums.2 ≠ 0) Flags.saturated) sums.2 else s

/-- The shadow tiles become active; a parity error fences the vale (R97, R101). -/
def tileSwapDo (k : Nat) (parity : TileParity) (s : State) : State :=
  match s.cmd k with
  | none => s
  | some c =>
    let good := parity == .good
    let s := c.arrays.foldl (fun s a => s.activate k c good a) s
    let s := s.modCmd k fun c => { c with matrix := { c.matrix with tile := c.matrix.tile + 1, row := 0 } }
    if good then s.matrixGo k else valeFenceDo (Fin.ofNat 128 c.vale) .array s

/-- TILE_SWAP (R97): the shadow tile becomes active, and the rows stream through it as they arrive. -/
def execTileSwap (k : Slot) (parity : TileParity) (s : State) : Host.Outcome State Fault Refusal :=
  act s fun s => if tileSwapOk k.val s then tileSwapDo k.val parity s else s

/-- Whether the next bank row can be released (R109). -/
def rowReleaseOk (k : Nat) (s : State) : Bool :=
  match s.cmd k with
  | none => false
  | some c => s.running c && c.hasMatrix && c.matrix.started && c.matrix.tile == c.kTiles &&
      decide (c.matrix.released < c.matrix.row)

/-- Bank words of vale g that needed a correction, each by its array, are counted and reported (R110, R467). -/
def State.accCorrected (s : State) (g : Nat) (as : List ArrayId) : State :=
  as.foldl (fun s a => (s.count (.array (Fin.ofNat 128 g) a) 0x80 1).healthEvent 1 0 1) s

/-- The next row is released to its readers (R109); `corrected` names the array of each of its words that needed a
correction (R110). -/
def rowReleaseDo (k : Nat) (corrected : List ArrayId) (s : State) : State :=
  match s.cmd k with
  | none => s
  | some c =>
    (s.modCmd k fun c => { c with matrix := { c.matrix with released := c.matrix.released + 1 } }).accCorrected c.vale corrected

/-- BANK_ROW_RELEASE (R109): the next row whose last tile has been added is released to its readers. -/
def execBankRowRelease (k : Slot) (corrected : List ArrayId) (s : State) : Host.Outcome State Fault Refusal :=
  act s fun s => if rowReleaseOk k.val s then rowReleaseDo k.val corrected s else s

/-- A write of ARR_CTL.CNT_CLR (R121). -/
def arrCntClrDo (g : Vale) (a : ArrayId) (s : State) : State :=
  let pg : Page := .array g a
  if s.resetting pg then s else (s.setReg64 (pageBase pg + 0x70) 0).setReg64 (pageBase pg + 0x78) 0

/-- ARR_CNT_CLR (R121): ROW_SLOTS and LOAD_WAIT clear. -/
def execArrCntClr (g : Vale) (a : ArrayId) (s : State) : Host.Outcome State Fault Refusal := actBar .pf s (arrCntClrDo g a)

/-- A write of SAT_WATCH_TAGn (R117). -/
def satWatchTagDo (g : Vale) (a : ArrayId) (i : Fin 4) (v : BitVec 32) (s : State) : State :=
  let pg : Page := .array g a
  if s.resetting pg then s
  else (s.storeReg (pageBase pg + 0x50 + 4 * i.val) v).setReg (pageBase pg + 0x60 + 4 * i.val) 0#32

/-- SAT_WATCH_TAG_WRITE (R117): the write of the tag clears its counter. -/
def execSatWatchTagWrite (g : Vale) (a : ArrayId) (i : Fin 4) (v : BitVec 32) (s : State) :
    Host.Outcome State Fault Refusal :=
  actBar .pf s (satWatchTagDo g a i v)

end Sys2Proof.Machine
end

