-- ==== Sys2Proof/Machine/Streaming.lean ====
section
/-! DEFINITION. Streaming: transfers (R240 to R243), operand cache lines (R167, R168), page faults and their records
(R241, R449 to R451, R504, R505), pooled buffers and spills (R237 to R239). -/

namespace Sys2Proof.Machine

/-! ### Where a transfer stands -/

/-- Whether all transfers of a command's FETCH stage have ended (R223). -/
def Cmd.fetchEnded (c : Cmd) : Bool := c.fetch.all (·.done)
/-- Whether STORE transfer i of a command is over (R223, R224): all moved, or its queue read to its mark; a command cut short
has no COLLECT stage that would write the mark (R219). -/
def Cmd.storeOver (c : Cmd) (i : Nat) (t : Xfer) : Bool :=
  let e := c.entry (c.fetch.length + i)
  let q := c.queue (8 + xQ e)
  t.done || (xSrc e == 0x0B && q.head == q.tail && (q.eos || ((c.status == 3 || c.elem.noIssue) && c.hasColl)))
/-- Whether all transfers of a command's STORE stage have ended (R223). -/
def Cmd.storeEnded (c : Cmd) : Bool := (List.range c.store.length).all fun i => (c.store[i]?).any (c.storeOver i)

/-- Whether the fetch engine is at a command: the earlier ones on its vale have ended their FETCH (R228). -/
def State.fetchTurn (s : State) (k : Nat) (c : Cmd) : Bool :=
  (c.dispatched.isNone || s.stageTurn k c) && (s.earlier k c).all fun e => e.2.fetchEnded

/-- Whether an entry's destination is an inbound or tile queue, and its number among the command's queues. -/
def xInto (e : List Byte) : Option Nat :=
  if xDst e = 8 then some (xQ e) else if xDst e = 9 then some (16 + xQ e) else none

/-- The operand cache line that holds a cache address. -/
def lineOf (a : Nat) : Nat := a / 1024 % 1024

/-- The start positions of a transfer's sub-blocks with their lengths; fuel bounds them. -/
def subBlocks : Nat → List Byte → Nat → List (Nat × Nat)
  | 0, _, _ => []
  | f + 1, e, p =>
    if xTotal e ≤ p then []
    else
      let n := max 1 (subBlock e p)
      (p, n) :: subBlocks f e (p + n)

/-- The cache address of byte pos of a transfer whose one side is the operand cache. -/
def lineAddr (e : List Byte) (pos : Nat) : Nat := if xDst e = 0x0A then xDstAt e pos else xSrcAt e pos

/-- The lines of the operand cache that a transfer covers, each with the position just after its last byte. -/
def xLines (e : List Byte) : List (Nat × Nat) :=
  (subBlocks (xTotal e) e 0).foldl (fun ls b =>
    let a := lineAddr e b.1
    (List.range ((a + b.2 - 1) / 1024 + 1 - a / 1024)).foldl (fun ls i =>
      let ln := (a / 1024 + i) % 1024
      let stop := b.1 + min b.2 (1024 * (a / 1024 + i + 1) - a)
      (ls.filter fun x => x.1 != ln) ++ [(ln, max stop (((ls.find? fun x => x.1 == ln).map (·.2)).getD 0))]) ls) []

/-- The state of a line of vale g (R168). -/
def State.line (s : State) (g ln : Nat) : LineSt := Sparse.get (fun _ => ⟨0, 0⟩) (s.vale g).elem.lines ln
/-- A line of vale g changed. -/
def State.modLine (s : State) (g ln : Nat) (f : LineSt → LineSt) : State :=
  s.modVale g fun v => { v with elem := { v.elem with
    lines := Sparse.set (fun _ => ⟨0, 0⟩) v.elem.lines ln (f (s.line g ln)) } }

/-- A transfer is issued: its lines become FILLING or DRAINING (R168). -/
def State.issueXfer (s : State) (k x : Nat) : State :=
  match s.cmd k with
  | none => s
  | some c =>
    let e := c.entry x
    let s := s.modCmd k fun c => c.modXfer x fun t => { t with started := true }
    if xDst e = 0x0A then (xLines e).foldl (fun s l => s.modLine c.vale l.1 fun t => { t with fills := t.fills + 1 }) s
    else if xSrc e = 0x0A then
      (xLines e).foldl (fun s l => s.modLine c.vale l.1 fun t => { t with drains := t.drains + 1 }) s
    else s

/-! ### Reading and writing memory for a transfer -/

/-- What a transfer's access comes to: bytes, and what the command learns (R18, R21). -/
structure Moved where
  bytes : List Byte
  refused : Bool
  ue : Bool
deriving DecidableEq, Repr

/-- A refused read: zeros (R21, R268). -/
def Moved.no (n : Nat) : Moved := { bytes := List.replicate n 0#8, refused := true, ue := false }

/-- Whether partition n may use the store of vale g (R21, R485). -/
def State.storeOk (s : State) (n g : Nat) : Bool := (s.vale g).owner.map Fin.val == some n && !(s.vale g).fenced

/-- The PASID that the cached translations of partition n's host pages go by (R502, R503); 2^20 where its requests carry none. -/
def hostPasid (s : State) (n : Nat) : Nat := (s.pasid (n + 1)).getD (2 ^ 20)

/-- With ATS on, the part caches the translation of a host page that it uses (R503). The Smallest Translation Unit is 4 KiB.
PRESUMED. -/
def State.atsUse (s : State) (n a : Nat) : State :=
  let f := s.fn (n + 1)
  let e := (hostPasid s n, a / 4096)
  if f.ats && !f.atsCache.contains e then s.modFn (n + 1) fun f => { f with atsCache := f.atsCache ++ [e] } else s

/-- n bytes read for a transfer entry at byte pos of its walk, all in one sub-block. -/
def State.xRead (s : State) (c : Cmd) (e : List Byte) (pos n : Nat) (r : MemRead) (host : List Byte) : Moved × State :=
  let a := xSrcAt e pos
  match xSrc e with
  | 0 => if a + n ≤ 2 ^ 25 then (⟨s.bytes (storeAddr c.vale a) n, false, false⟩, s) else (.no n, s)
  | 1 => if a + n ≤ 2 ^ 25 ∧ s.storeOk c.part.val (xVale e) then (⟨s.bytes (storeAddr (xVale e) a) n, false, false⟩, s)
      else (.no n, s)
  | 2 =>
    match c.walk s a false with
    | .ok d t =>
      let m := ((s.cacheTrans c.part.val t).met r d).readZeros d n
      (⟨m.1, false, m.2.1 || r == .uncorrectable⟩, m.2.2)
    | .tableUe d => (⟨List.replicate n 0#8, false, true⟩, s.uncorrectable d false)
    | _ => (.no n, s)
  | 3 => (⟨(host ++ List.replicate n 0#8).take n, false, false⟩, s.atsUse c.part.val a)
  | _ => (.no n, s)

/-- A piece of data to store: bytes with, for each, whether its low and its high nibble are written (R215). -/
abbrev Piece := List (Byte × Bool × Bool)

/-- The destination byte with the written nibbles of a piece's byte in place. -/
def mergeByte (old : Byte) (p : Byte × Bool × Bool) : Byte :=
  let lo := if p.2.1 then bitsOf p.1.toNat 3 0 else bitsOf old.toNat 3 0
  let hi := if p.2.2 then bitsOf p.1.toNat 7 4 else bitsOf old.toNat 7 4
  BitVec.ofNat 8 (lo + 16 * hi)

/-- Runs of bytes that a piece writes, each with its offset. -/
def writtenRuns : Piece → Nat → List (Nat × Piece)
  | [], _ => []
  | p :: ps, o =>
    if p.2.1 || p.2.2 then
      match writtenRuns ps (o + 1) with
      | (q, r) :: rest => if q = o + 1 then (o, p :: r) :: rest else (o, [p]) :: (q, r) :: rest
      | [] => [(o, [p])]
    else writtenRuns ps (o + 1)

/-- A piece written to memory bytes from address a on, through a writer of runs. -/
def State.putPiece (s : State) (a : Nat) (p : Piece) (w : State → Nat → List Byte → Bool × State) : Bool × State :=
  (writtenRuns p 0).foldl (fun (acc : Bool × State) run =>
    let bs := run.2.mapIdx fun i b => mergeByte (acc.2.byte (a + run.1 + i)) b
    let r := w acc.2 (a + run.1) bs
    (acc.1 || r.1, r.2)) (false, s)

/-- The tag whose STEP_AMAX a write of n bytes at a partition address names (R132). -/
def State.amaxTarget (s : State) (n a len : Nat) : Option Nat :=
  let t := s.reg64 (pcfg n + 0x80)
  if len = 4 ∧ t ≤ a ∧ (a - t) % 128 = 4 ∧ (a - t) / 128 < s.regF (pcfg n + 0x7C) 16 0 then some ((a - t) / 128) else none

/-- A host write's bytes: a nibble that nothing wrote is open (R215). -/
def State.hostBytes (s : State) (p : Piece) : List Byte × State :=
  (p.mapIdx fun i b => mergeByte (Config.freeByte (s.free + i)) b, { s with free := s.free + p.length })

/-- A piece written for a transfer entry of the command in slot k at byte pos of its walk. -/
def State.xWrite (s : State) (k : Nat) (c : Cmd) (e : List Byte) (pos : Nat) (p : Piece) : Moved × State :=
  let a := xDstAt e pos
  let n := p.length
  let plain := fun (s : State) (a : Nat) (bs : List Byte) => (false, s.setBytes a bs)
  match xDst e with
  | 0 => if a + n ≤ 2 ^ 25 then (⟨[], false, false⟩, (s.putPiece (storeAddr c.vale a) p plain).2) else (.no n, s)
  | 1 => if a + n ≤ 2 ^ 25 ∧ s.storeOk c.part.val (xVale e) then
      (⟨[], false, false⟩, (s.putPiece (storeAddr (xVale e) a) p plain).2) else (.no n, s)
  | 2 =>
    match c.walk s a true with
    | .ok d t =>
      let s := s.cacheTrans c.part.val t
      match s.amaxTarget c.part.val a (xTotal e) with
      | some tag => (⟨[], false, false⟩, s.updateRec k c tag (recFold [BitVec.ofNat 32 (leNat (p.map (·.1)))]))
      | none =>
        let r := s.putPiece d p fun s a bs => s.writeDpa a bs
        (⟨[], false, r.1⟩, r.2)
    | .tableUe d => (⟨[], false, true⟩, s.uncorrectable d false)
    | _ => (.no n, s)
  | 3 =>
    (⟨[], false, false⟩, (writtenRuns p 0).foldl (fun s run =>
      let b := s.hostBytes run.2
      b.2.emit (.hostWrite (.vf c.part) (s.pasid (c.part.val + 1)) (s.fn (c.part.val + 1)).relaxed (a + run.1) b.1)) (s.atsUse c.part.val a))
  | _ => (.no n, s)

/-- The command learns of an access (R21, R268, R61). -/
def State.learn (s : State) (k x : Nat) (m : Moved) : State :=
  s.modCmd k fun c =>
    let c := if m.refused then c.failXfer 5 x else c
    if m.ue then c.addVoid 1 else c

/-! ### Translation faults of a transfer (R241) -/

/-- Whether the next byte of an entry meets a translation fault in the device's tables: at which level (R449). -/
def State.xFault (s : State) (c : Cmd) (e : List Byte) (pos : Nat) : Option Bool :=
  let go := fun (a : Nat) (w : Bool) => match c.walk s a w with | .fault l => some l | _ => none
  if xSrc e = 2 then go (xSrcAt e pos) false else if xDst e = 2 then go (xDstAt e pos) true else none

/-- Whether an entry reaches the host. -/
def xHost (e : List Byte) : Bool := xSrc e == 3 || xDst e == 3

/-! ### FETCH: a sub-block lands (R240) -/

/-- The bytes a destination queue or line can take now. -/
def State.landRoom (s : State) (k : Nat) (c : Cmd) (x : Nat) (e : List Byte) (pos : Nat) : Nat :=
  match xInto e with
  | some i =>
    let first := (List.range x).all fun y => xInto (c.entry y) != some i || (c.fetch[y]?).all (·.done)
    if first then s.qRoom c (c.queue i) / 2 else 0
  | none =>
    let ln := lineOf (xDstAt e pos)
    let l := s.line c.vale ln
    let earlier := (List.range x).any fun y =>
      xDst (c.entry y) == 0x0A && !((c.fetch[y]?).all (·.done)) && (xLines (c.entry y)).any fun z => z.1 == ln
    let older := (s.earlier k c).any fun o => (List.range o.2.nFetch).any fun y =>
      xDst (o.2.entry y) == 0x0A && !((o.2.fetch[y]?).all (·.done)) && (xLines (o.2.entry y)).any fun z => z.1 == ln
    if l.drains = 0 ∧ !earlier ∧ !older then 1024 - xDstAt e pos % 1024 else 0

/-- The end-of-stream mark of a queue when all transfers into it have ended (R224). -/
def Cmd.markEos (c : Cmd) (i : Nat) : Cmd :=
  if (List.range c.nFetch).all fun y => xInto (c.entry y) != some i || (c.fetch[y]?).all (·.done) then
    c.modQueue i fun q => { q with eos := true }
  else c

/-- A transfer's cursor moves on by n bytes; at its end its queue may be marked (R224). -/
def Cmd.stepXfer (c : Cmd) (x n : Nat) : Cmd :=
  let e := c.entry x
  let c := c.modXfer x fun t => { t with pos := t.pos + n, done := decide (xTotal e ≤ t.pos + n) }
  match xInto e with
  | some i => if x < c.nFetch then c.markEos i else c
  | none => c

/-- Bytes delivered into an entry's destination (R240). -/
def State.deliver (s : State) (k x : Nat) (e : List Byte) (pos : Nat) (bs : List Byte) : State :=
  match s.cmd k with
  | none => s
  | some c =>
    let s := match xInto e with
      | some i => s.qAppend k c i bs
      | none => s.setBytes (cacheAddr c.vale (xDstAt e pos)) bs
    s.modCmd k fun c => c.stepXfer x bs.length

/-- How many bytes of a FETCH transfer can land now; none while it is stopped, waits its turn, or its source faults, or
while a lap has the fetch engine (R332). -/
def State.fetchable (s : State) (k : Nat) (c : Cmd) (x : Nat) : Nat :=
  match c.fetch[x]? with
  | none => 0
  | some t =>
    let e := c.entry x
    let link := xSrc e == 4
    if !t.started || t.done || t.stop.isSome || (s.vale c.vale).fenced || !s.fetchTurn k c ||
        (s.lapping c.vale && !link) then 0
    else if link && !t.zeros then
      min (min (subBlock e t.pos) (c.linkBytes x t.pos).length) (s.landRoom k c x e t.pos)
    else if !t.zeros && ((s.xFault c e t.pos).isSome || (xHost e && (s.fn (c.part.val + 1)).d3)) then 0
    else min (subBlock e t.pos) (s.landRoom k c x e t.pos)

/-- A FETCH sub-block lands (R240, R18, R21). -/
def fetchLand (k x : Nat) (c : Cmd) (n : Nat) (r : MemRead) (host : List Byte) (s : State) : State :=
  match c.fetch[x]? with
  | none => s
  | some t =>
    let e := c.entry x
    let got : Moved × State :=
      if t.zeros then (⟨List.replicate n 0#8, false, false⟩, s)
      else if xSrc e = 4 then (⟨(c.linkBytes x t.pos).take n, false, r == .uncorrectable⟩, s)
      else s.xRead c e t.pos n r host
    let s := (got.2.learn k x got.1).deliver k x e t.pos got.1.bytes
    let s := if xDst e = 9 then s.landTable k (xQ e) n else s
    s.matrixGo k

/-! ### STORE: a sub-block leaves (R240, R215, R165) -/

/-- Whether a stream nibble of a queue is one that nothing wrote (R215). -/
def Queue.hole (q : Queue) (p : Nat) : Bool := q.holes.any fun h => decide (h.1 ≤ p) && decide (p < h.1 + h.2)

/-- n bytes at the head of an outbound queue, with their written marks. -/
def State.qPiece (s : State) (q : Queue) (n : Nat) : Piece :=
  (s.qBytes q (q.head / 2) n).mapIdx fun i b =>
    let p := q.head + 2 * i
    (b, decide (p < q.tail) && !q.hole p, decide (p + 1 < q.tail) && !q.hole (p + 1))

/-- Word w of a command's bank region in the order of its pieces (R163, R165): row by row, array by array. -/
def bankPlace (c : Cmd) (w : Nat) : Nat × Nat × Nat :=
  let p := w / 128
  (c.arrays.getD (p % max 1 c.arrays.length) 0, p / max 1 c.arrays.length, w % 128)

/-- The words of a bank region that a STORE reads, from word w on, with their flags and saturation events (R115). -/
def State.bankWords (s : State) (c : Cmd) (w : Nat) : Nat → List (Nat × LaneRes)
  | 0 => []
  | n + 1 =>
    let p := bankPlace c w
    (p.1, s.readBank c p.1 p.2.1 p.2.2) :: s.bankWords c (w + 1) n

/-- How many bytes a STORE transfer can move now. -/
def State.storable (s : State) (c : Cmd) (x : Nat) : Nat :=
  match c.store[x - c.fetch.length]? with
  | none => 0
  | some t =>
    let e := c.entry x
    if !t.started || t.done || t.stop.isSome || !s.running c then 0
    else if !t.zeros && ((s.xFault c e t.pos).isSome || (xHost e && (s.fn (c.part.val + 1)).d3)) then 0
    else
      let n := subBlock e t.pos
      if xSrc e = 0x0B then
        let q := c.queue (8 + xQ e)
        min n (if q.eos then ceilDiv q.held 2 else q.held / 2)
      else if xSrc e = 0x0C then
        min (n / 4 * 4) (c.matrix.released * c.arrays.length * 512 - t.pos)
      else n

/-- The data of a STORE sub-block and the state after it was read. -/
def State.storeData (s : State) (k : Nat) (c : Cmd) (e : List Byte) (pos n : Nat) : Piece × State :=
  let full := fun (bs : List Byte) => bs.map fun b => (b, true, true)
  if xSrc e = 0x0B then
    let i := 8 + xQ e
    let q := c.queue i
    (s.qPiece q n, s.modCmd k fun c => c.modQueue i fun q => q.advance (min (2 * n) q.held))
  else if xSrc e = 0x0C then
    let ws := s.bankWords c (pos / 4) (n / 4)
    (full (ws.flatMap fun w => leBytes 4 w.2.w.toNat),
     ws.foldl (fun s w => if w.2.flags = 0#4 ∧ w.2.sat = 0 then s else s.arrayEvents k c w.1 w.2.flags w.2.sat) s)
  else (full (s.bytes (cacheAddr c.vale (xSrcAt e pos)) n), s)

/-- A STORE sub-block is written, or discarded where the transfer has failed (R242). -/
def storeLand (k x : Nat) (c : Cmd) (n : Nat) (s : State) : State :=
  match c.store[x - c.fetch.length]? with
  | none => s
  | some t =>
    let e := c.entry x
    let d := s.storeData k c e t.pos n
    let r : Moved × State := if t.zeros then (⟨[], false, false⟩, d.2) else d.2.xWrite k c e t.pos d.1
    ((r.2.learn k x r.1).modCmd k fun c => c.stepXfer x n).collFeed k

/-- How many bytes of a transfer can move now. -/
def State.movable (s : State) (k x : Nat) : Nat :=
  match s.cmd k with
  | none => 0
  | some c => if x < c.fetch.length then s.fetchable k c x else s.storable c x

/-- A sub-block of a transfer is delivered (R240). -/
def subBlockDo (k x : Nat) (r : MemRead) (host : List Byte) (s : State) : State :=
  match s.cmd k with
  | none => s
  | some c =>
    let n := s.movable k x
    if x < c.fetch.length then fetchLand k x c n r host s else storeLand k x c n s

/-- SUB_BLOCK_LANDS (R240): the next sub-block of a transfer, as far as its queue has room or data. -/
def execSubBlockLands (k : Slot) (x : Nat) (r : MemRead) (host : List Byte) (s : State) :
    Host.Outcome State Fault Refusal :=
  act s fun s => if s.movable k.val x = 0 then s else subBlockDo k.val x r host s

/-! ### Operand cache lines (R168) -/

/-- The transfer with the operand cache on a given side whose bytes of a line have all moved. -/
def State.lineDone (s : State) (g ln : Nat) (fill : Bool) : Option (Nat × Nat) :=
  (s.ofVale g).findSome? fun e =>
    (List.range (e.2.fetch.length + e.2.store.length)).findSome? fun x =>
      match e.2.xferAt x with
      | none => none
      | some t =>
        let en := e.2.entry x
        if t.started && (if fill then xDst en == 0x0A else xSrc en == 0x0A) && !t.lines.contains ln &&
            (xLines en).any (fun l => l.1 == ln && decide (l.2 ≤ t.pos)) then some (e.1, x)
        else none

/-- The last byte of a FILL of a line has landed (R168). -/
def State.landLine (s : State) (g ln : Nat) (fill : Bool) : State :=
  match s.lineDone g ln fill with
  | none => s
  | some (k, x) =>
    let s := s.modCmd k fun c => c.modXfer x fun t => { t with lines := t.lines ++ [ln] }
    s.modLine g ln fun l => if fill then { l with fills := l.fills - 1 } else { l with drains := l.drains - 1 }

/-- LINE_FILL_LANDED (R168). -/
def execLineFillLanded (g : Vale) (line : Line) (s : State) : Host.Outcome State Fault Refusal :=
  act s fun s => s.landLine g.val line.val true

/-- LINE_DRAIN_DONE (R168). -/
def execLineDrainDone (g : Vale) (line : Line) (s : State) : Host.Outcome State Fault Refusal :=
  act s fun s => s.landLine g.val line.val false

/-! ### Page faults (R241 to R243, R449 to R451, R504, R505) -/

/-- The partition sends its fault queue's message unless one is outstanding (R450). -/
def State.faultMessage (s : State) (n : Nat) : State :=
  let ctl := s.reg (partBase n + 0x6004)
  if bitOf ctl.toNat 0 && !(s.part n).fqMessage then
    (s.sendMsix (n + 1) (fieldOf ctl 15 8)).modPart n fun p => { p with fqMessage := true }
  else s

/-- The lowest free fault record of a vale (R449). -/
def State.freeRecord (s : State) (n g : Nat) : Option Nat :=
  (List.range 16).find? fun i => !((s.part n).faults.any fun r => r.index == 16 * g + i)

/-- A fault record is written for a transfer (R449, R450). -/
def State.writeFault (s : State) (k : Nat) (c : Cmd) (x : Nat) (level : Bool) (resumable : Bool) (i : Nat) : State :=
  let e := c.entry x
  let t := (c.xferAt x).getD Xfer.fresh
  let w := xDst e == 2
  let a := if w then xDstAt e t.pos else xSrcAt e t.pos
  let r : FaultRec :=
    { index := 16 * c.vale + i, addr := ((c.resolve a).getD a) % 2 ^ 48, resumable := resumable, write := w,
      level := level, vale := c.vale, slot := k, xfer := x, beat := s.beatNum, cmdId := c.id, returned := false }
  (s.modPart c.part.val fun p => { p with faults := p.faults ++ [r] }).faultMessage c.part.val

/-- The transfer ends as an Invalid Request ends it (R242): zeros, or discards, from its cursor on. -/
def State.endXfer (s : State) (k x : Nat) : State :=
  s.modCmd k fun c => (c.modXfer x fun t => { t with stop := none, zeros := true }).failXfer 4 x

/-- The lowest free PRG index of a partition's function (R504). -/
def State.freePrg (s : State) (n : Nat) : Option Nat :=
  if (s.part n).prgs.length < (s.fn (n + 1)).allocation then
    (List.range ((s.part n).prgs.length + 1)).find? fun i => !((s.part n).prgs.any fun p => p.prg == i)
  else none

/-- A stopped transfer sends its request, or waits to send it (R241, R242, R504). -/
def State.askPage (s : State) (k : Nat) (c : Cmd) (x : Nat) : State :=
  let e := c.entry x
  let t := (c.xferAt x).getD Xfer.fresh
  let n := c.part.val
  let stopAs := fun (s : State) (w : StopKind) => s.modCmd k fun c => c.modXfer x fun t => { t with stop := some w }
  if 16 ≤ s.stopped c.vale then stopAs s .unsent
  else if xHost e then
    match s.freePrg n with
    | none => stopAs s .unsent
    | some i =>
      let w := xDst e == 3
      let s := s.modPart n fun p => { p with prgs := p.prgs ++ [{ prg := i, slot := k, xfer := x }] }
      (stopAs s (.prg i)).emit (.pageRequest c.part (s.pasid (c.part.val + 1)) i (if w then xDstAt e t.pos else xSrcAt e t.pos) w)
  else
    match s.xFault c e t.pos, s.freeRecord n c.vale with
    | some level, some i => stopAs (s.writeFault k c x level true i) (.record (16 * c.vale + i))
    | none, _ => s.modCmd k fun c => c.modXfer x fun t => { t with stop := none }
    | some _, none => stopAs s .unsent

/-- A metered transfer's fault (R243, R450): it ends in zeros, with a record that cannot be resumed. -/
def State.meteredFault (s : State) (k : Nat) (c : Cmd) (x : Nat) (level : Bool) : State :=
  let s := s.modCmd k fun c => (c.modXfer x fun t => { t with zeros := true }).addVoid 5
  match s.freeRecord c.part.val c.vale with
  | some i => s.writeFault k c x level false i
  | none => s.setReg (partBase c.part.val + 0x6008) (satInc (s.reg (partBase c.part.val + 0x6008)) 1)

/-- Whether a transfer meets a translation fault now (R241): in the device's tables, or, for a host address, as its
translation answers. -/
def faultOk (k x : Nat) (s : State) : Bool :=
  match s.cmd k with
  | none => false
  | some c =>
    match c.xferAt x with
    | none => false
    | some t =>
      t.started && !t.done && !t.zeros && t.stop.isNone && !(s.vale c.vale).fenced &&
        (xHost (c.entry x) || (s.xFault c (c.entry x) t.pos).isSome)

/-- A transfer meets a translation fault (R241, R243, R505). -/
def faultDo (k x : Nat) (s : State) : State :=
  match s.cmd k with
  | none => s
  | some c =>
    let e := c.entry x
    let n := c.part.val
    let pg : Page := .stream (Fin.ofNat 128 c.vale)
    let s := (s.count pg 0x54 1).raise pg 1
    if s.metered n then s.meteredFault k c x ((s.xFault c e ((c.xferAt x).getD Xfer.fresh).pos).getD false)
    else if xHost e && (!(s.fn (n + 1)).pri || (s.fn (n + 1)).responseFailure) then s.endXfer k x
    else s.askPage k c x

/-- TRANSLATION_FAULT (R241). -/
def execTranslationFault (k : Slot) (x : Nat) (s : State) : Host.Outcome State Fault Refusal :=
  act s fun s => if faultOk k.val x s then faultDo k.val x s else s

/-- The transfers of a partition that wait to send a request, in slot order. -/
def State.unsent (s : State) (n : Nat) : List (Nat × Nat) :=
  (s.ofPart n).flatMap fun e =>
    ((List.range (e.2.fetch.length + e.2.store.length)).filter fun x =>
      (e.2.xferAt x).any fun t => t.stop == some .unsent).map fun x => (e.1, x)

/-- Waiting transfers send their requests as far as room has come (R242, R504). -/
def State.sendWaiting (s : State) (n : Nat) : State :=
  (s.unsent n).foldl (fun s p => match s.cmd p.1 with | some c => s.askPage p.1 c p.2 | none => s) s

/-- A stopped transfer goes on from its cursor: its address is translated again (R242). -/
def State.resumeXfer (s : State) (k x : Nat) : State :=
  let s := s.modCmd k fun c => c.modXfer x fun t => { t with stop := none }
  match s.cmd k with
  | none => s
  | some c => if !xHost (c.entry x) && faultOk k x s then faultDo k x s else s

/-- A PRG response (R242, R505); one whose index has no outstanding group is discarded (R504). -/
def prgDo (n : PartId) (prg : Nat) (code : PrgCode) (s : State) : State :=
  match (s.part n.val).prgs.find? fun p => p.prg == prg with
  | none => s
  | some w =>
    let s := s.modPart n.val fun p => { p with prgs := p.prgs.filter fun q => q.prg != prg }
    let s := match code with
      | .success => s.resumeXfer w.slot w.xfer
      | .invalidRequest => s.endXfer w.slot w.xfer
      | .responseFailure => (s.endXfer w.slot w.xfer).modFn (n.val + 1) fun f => { f with responseFailure := true }
    s.sendWaiting n.val

/-- A command's effect that a hold puts off to its end (R475). -/
def State.deferOr (s : State) (d : Deferred) (f : State → State) : State :=
  if s.holding then { s with terrace := { s.terrace with deferred := s.terrace.deferred ++ [d] } } else f s

/-- PRG_RESPONSE (R242). -/
def execPrgResponse (n : PartId) (prg : Nat) (code : PrgCode) (s : State) : Host.Outcome State Fault Refusal :=
  act s fun s => s.deferOr (.prg n prg code) (prgDo n prg code)

/-- The held fault record of an index. -/
def State.faultRec (s : State) (n i : Nat) : Option FaultRec := (s.part n).faults.find? fun r => r.index == i

/-- A fault record is freed. -/
def State.freeFault (s : State) (n i : Nat) : State :=
  s.modPart n fun p => { p with faults := p.faults.filter fun r => r.index != i }

/-- FAULT_RESUME names a resumable record (R451). -/
def faultResumeDo (n : PartId) (i : Nat) (s : State) : State :=
  match s.faultRec n.val i with
  | none => s
  | some r =>
    if r.resumable then ((s.freeFault n.val i).resumeXfer r.slot r.xfer).sendWaiting n.val else s

/-- FAULT_RESUME ends a record (R451). -/
def faultEndDo (n : PartId) (i : Nat) (s : State) : State :=
  match s.faultRec n.val i with
  | none => s
  | some r =>
    let s := s.freeFault n.val i
    (if r.resumable then s.endXfer r.slot r.xfer else s).sendWaiting n.val

/-- FAULT_RESUME (R451). -/
def execFaultResume (n : PartId) (i : Nat) (s : State) : Host.Outcome State Fault Refusal :=
  actBar (.vf n) s fun s => if s.pageOn n.val then s.deferOr (.resume n i) (faultResumeDo n i) else s

/-- FAULT_END (R451). -/
def execFaultEnd (n : PartId) (i : Nat) (s : State) : Host.Outcome State Fault Refusal :=
  actBar (.vf n) s fun s => if s.pageOn n.val then s.deferOr (.finish n i) (faultEndDo n i) else s

/-- A read of FQ_NEXT (R450): the oldest record not yet returned, or VALID at 0, which ends the message. -/
def fqNextDo (n : PartId) (s : State) : State :=
  if !s.pageOn n.val then s.emit (.read (.vf n) 0x6000 0#64)
  else
    match (s.part n.val).faults.find? fun r => !r.returned with
    | none => (s.modPart n.val fun p => { p with fqMessage := false }).emit (.read (.vf n) 0x6000 0#64)
    | some r =>
      let mark := fun (q : FaultRec) => if q.index == r.index then { q with returned := true } else q
      (s.modPart n.val fun p => { p with faults := p.faults.map mark }).emit
        (.read (.vf n) 0x6000 (BitVec.ofNat 64 (2 ^ 31 + r.index)))

/-- FQ_NEXT_READ (R450). -/
def execFqNextRead (n : PartId) (s : State) : Host.Outcome State Fault Refusal := actBar (.vf n) s (fqNextDo n)

/-- Whether a transfer reads the host and is under way (R505). -/
def hostReadOk (k x : Nat) (s : State) : Bool :=
  match s.cmd k with
  | none => false
  | some c =>
    match c.fetch[x]? with
    | none => false
    | some t => t.started && !t.done && !t.zeros && xSrc (c.entry x) == 3

/-- A host read fails (R505, R508): zeros from its cursor on, STATUS TRANSLATION; a time-out is reported to AER. -/
def hostFailDo (k x : Nat) (why : HostFail) (s : State) : State :=
  match s.cmd k with
  | none => s
  | some c =>
    let s := s.endXfer k x
    match why with
    | .completionTimeout => s.emit (.aer (.vf c.part) .completionTimeout)
    | .unsupportedRequest | .completerAbort => s

/-- HOST_READ_FAILURE (R505). -/
def execHostReadFailure (k : Slot) (x : Nat) (why : HostFail) (s : State) : Host.Outcome State Fault Refusal :=
  act s fun s => if hostReadOk k.val x s then hostFailDo k.val x why s else s

/-! ### Circular wait and spills (R238, R239) -/

/-- The pooled queues of a vale's partition that hold granules above their floor: slot, queue number, command, queue. -/
def State.aboveFloor (s : State) (g : Nat) : List (Nat × Nat × Cmd × Queue) :=
  (s.ofVale g).flatMap fun e =>
    ((List.range 16).filter fun i => (e.2.queue i).pooled && decide ((e.2.queue i).floorG < (e.2.queue i).granules)).map
      fun i => (e.1, i, e.2, e.2.queue i)

/-- Whether a pooled stream is in buffer wait (R238): it needs a granule and the pool is empty, and it waits on nothing
else. -/
def State.bufferWait (s : State) (e : Nat × Nat × Cmd × Queue) : Bool :=
  s.qRoom e.2.2.1 e.2.2.2 == 0 && e.2.2.2.spill.isNone &&
    (if e.2.1 < 8 then (List.range e.2.2.1.nFetch).any fun x =>
        xInto (e.2.2.1.entry x) == some e.2.1 && (e.2.2.1.fetch[x]?).any fun t => t.started && !t.done && t.stop.isNone
     else !e.2.2.2.eos)

/-- Whether a vale shows the circular wait now (R238). -/
def State.circular (s : State) (g : Nat) : Bool :=
  match (s.vale g).owner with
  | none => false
  | some n =>
    !s.metered n.val && s.poolFree n.val g == 0 && !(s.aboveFloor g).isEmpty && (s.aboveFloor g).all s.bufferWait

/-- The later of two victims (R238): the later deadline, none counting as latest, then the higher stream number. -/
def laterVictim (a b : Nat × Nat × Cmd × Queue) : Nat × Nat × Cmd × Queue :=
  let d := fun (e : Nat × Nat × Cmd × Queue) => if e.2.2.1.deadline = 0 then 2 ^ 64 else e.2.2.1.deadline
  if d a < d b ∨ (d a = d b ∧ (a.1 < b.1 ∨ (a.1 = b.1 ∧ a.2.1 < b.2.1))) then b else a

/-- The victim of a vale's circular wait (R238). -/
def State.victim (s : State) (g : Nat) : Option (Nat × Nat × Cmd × Queue) :=
  (s.aboveFloor g).foldl (fun best e => match best with | none => some e | some b => some (laterVictim b e)) none

/-- Whether the detector of a vale fires (R238): 64 consecutive beats of circular wait. -/
def spillOk (g : Nat) (s : State) : Bool := decide (64 ≤ (s.vale g).stallBeats) && s.circular g

/-- The victim's data above its floor goes to the spill area (R239). -/
def spillDo (g : Nat) (s : State) : State :=
  match s.victim g with
  | none => s
  | some (k, i, _, q) =>
    let start := 2 * (4096 * (q.head / 2 / 4096 + q.floorG))
    let pg : Page := .stream (Fin.ofNat 128 g)
    let s := s.modCmd k fun c =>
      { c.modQueue i fun q => { q with spill := some (start, q.tail) } with spilled := true }
    let s := (s.count pg 0x48 1).count64 pg 0x4C (ceilDiv (q.tail - start) 2)
    (s.modVale g fun v => { v with stallBeats := 0 }).raise pg 2

/-- CIRCULAR_WAIT_SPILL (R238). -/
def execCircularWaitSpill (g : Vale) (s : State) : Host.Outcome State Fault Refusal :=
  act s fun s => if spillOk g.val s then spillDo g.val s else s

/-- A beat edge at a vale's detector (R238). -/
def State.watchStall (s : State) (g : Nat) : State :=
  s.modVale g fun v => { v with stallBeats := if s.circular g then v.stallBeats + 1 else 0 }

/-- A write of STRM_CTL.CNT_CLR (R246). -/
def strmCntClrDo (g : Vale) (s : State) : State :=
  let pg : Page := .stream g
  if s.resetting pg then s else (s.setReg64 (pageBase pg + 0x4C) 0).setReg64 (pageBase pg + 0x58) 0

/-- STRM_CNT_CLR (R246): SPILL_BYTES and FAULT_WAIT clear. -/
def execStrmCntClr (g : Vale) (s : State) : Host.Outcome State Fault Refusal := actBar .pf s (strmCntClrDo g)

end Sys2Proof.Machine
end

