-- ==== Sys2Proof/Machine/Admission.lean ====
section
/-! DEFINITION. Admission: the format checks of a descriptor (R266) and the admission checks of R59. -/

namespace Sys2Proof.Machine

/-! ### Format errors (R266): each check says whether it FAILS -/

/-- Whether any of some fields (offset, high bit, low bit) of a byte string is not zero. -/
def anySet (bs : List Byte) (fs : List (Nat × Nat × Nat)) : Bool := fs.any fun f => bitsOf (w32At bs f.1) f.2.1 f.2.2 != 0

/-- Whether a number lies outside a range. -/
def outside (x lo hi : Nat) : Bool := decide (x < lo) || decide (hi < x)

/-- The reserved fields of the descriptor header (R255, R256). -/
def headerResv : List (Nat × Nat × Nat) :=
  [(0x00, 31, 31), (0x00, 23, 23), (0x00, 15, 13), (0x10, 31, 14), (0x2C, 31, 28), (0x2C, 15, 12), (0x38, 31, 24),
   (0x3C, 31, 16)]

/-- The reserved MATRIX fields (R260). -/
def matrixResv : List (Nat × Nat × Nat) :=
  [(0x40, 31, 31), (0x40, 27, 27), (0x40, 15, 15), (0x44, 31, 28), (0x44, 15, 9), (0x48, 31, 24), (0x48, 15, 9),
   (0x4C, 31, 29), (0x50, 31, 24), (0x54, 31, 24), (0x5C, 31, 0)]

/-- The reserved ELEMENT fields (R261). -/
def elementResv : List (Nat × Nat × Nat) :=
  [(0x60, 31, 22), (0x64, 31, 16), (0x68, 31, 21), (0x6C, 31, 20), (0x78, 31, 25), (0x7C, 31, 0)]

/-- The reserved fields of the quantisation slots (R262). -/
def slotResv : List (Nat × Nat × Nat) := [(0x50, 30, 24), (0x54, 30, 24), (0x58, 30, 24), (0x5C, 30, 24)]

/-- The reserved fields of the COLLECT block (R319). -/
def collResv : List (Nat × Nat × Nat) :=
  [(0x60, 31, 28), (0x60, 5, 3), (0x74, 31, 29), (0x74, 15, 13), (0x78, 31, 28), (0x78, 15, 12)]

/-- The reserved fields of a ring record (R317). -/
def ringResv : List (Nat × Nat × Nat) :=
  [(0x00, 31, 29), (0x00, 15, 13), (0x04, 31, 16), (0x08, 31, 0), (0x0C, 31, 0)] ++
    (List.range 8).flatMap fun r => [(0x10 + 4 * r, 31, 20), (0x10 + 4 * r, 15, 13), (0x10 + 4 * r, 7, 5)]

/-- All words of [lo, hi). -/
def wordsOf (lo hi : Nat) : List (Nat × Nat × Nat) := (List.range ((hi - lo) / 4)).map fun i => (lo + 4 * i, 31, 0)

/-- K_LAST's largest value: 256 in mode I4 (R260). -/
def Cmd.kLastMax (c : Cmd) : Nat := if c.wfmt = 6 ∨ c.wfmt = 7 then 256 else 128

/-- The MATRIX part of ENCODING (R266). -/
def Cmd.badMatrixEnc (c : Cmd) : Bool :=
  if c.hasMatrix then
    anySet c.desc matrixResv || c.kTiles == 0 || outside c.m 1 256 || c.arrays.isEmpty || outside c.nValid 1 128 ||
      outside c.kLast 1 c.kLastMax
  else anySet c.desc (wordsOf 0x40 0x60)

/-- The ELEMENT part of ENCODING (R266). -/
def Cmd.badElementEnc (c : Cmd) : Bool :=
  if c.hasElem then
    anySet c.desc elementResv || outside c.progLen 1 1024 || decide (1024 < c.ocZeroCount) ||
      (c.lenvecEn && c.lenvec % 4 != 0) || (c.stream && c.rowLen == 0)
  else anySet c.desc (wordsOf 0x60 0x80)

/-- The ring record's part of ENCODING (R317). -/
def Cmd.badRing (c : Cmd) : Bool :=
  anySet c.ring ringResv || decide (c.members ≤ c.pos) || decide (c.retryGap < 16) ||
    anySet c.ring ((wordsOf 0x10 0x30).drop c.rails)

/-- The COLLECT part of ENCODING (R266, R319, R320): reserved fields and values, and ranges. -/
def Cmd.badCollEnc (c : Cmd) : Bool :=
  if c.hasColl then
    anySet c.srec collResv || decide (3 < c.collOp) || c.collReduce == 3 ||
      ((c.isGather || c.isShift) && c.collReduce != 0) || (collBytes c.inFmt).isNone || (collBytes c.outFmt).isNone ||
      c.elems == 0 || c.lapTimeout == 0 || c.closeTimeout == 0 || c.ringRec % 64 != 0 || c.badRing
  else anySet c.srec (wordsOf 0x60 0x80)

/-- ENCODING (R266); `j` is the queue's job. -/
def Cmd.badEncoding (c : Cmd) (j : Nat) : Bool :=
  c.f 0 7 0 != 1 || anySet c.desc headerResv || c.f 0 20 16 != j || c.f 0x30 5 0 != 0 || decide (64 < c.nFetch) ||
    decide (64 < c.nStore) || c.badMatrixEnc || c.badElementEnc || anySet c.srec slotResv || c.badCollEnc

/-- STAGES (R257). -/
def Cmd.badStages (c : Cmd) : Bool :=
  c.f 0 12 8 == 0 || (c.hasElem && !c.stream && !c.hasMatrix) || (c.hasColl && !c.hasElem && !c.hasFetch) ||
    (c.nFetch != 0) != c.hasFetch || (c.nStore != 0) != c.hasStore

/-- Whether a pair of formats is one of R95's modes. -/
def pairOk (w a : Nat) : Bool :=
  if w < 2 ∨ w = 8 ∨ w = 9 then decide (a < 2)
  else if w = 2 ∨ w = 3 then a == w
  else if w = 4 ∨ w = 5 then a == 4 || a == 5
  else if w = 6 ∨ w = 7 then decide (4 ≤ a) && decide (a < 8)
  else false

/-- Whether a zero point lies in the range of an activation format (R68, R113). -/
def zaOk (afmt : Nat) (za : Int) : Bool :=
  za == 0 ||
    (match intOfCode afmt with
     | some (w, true) => decide (-(2 ^ (w - 1) : Nat) ≤ za) && decide (za < (2 ^ (w - 1) : Nat))
     | some (w, false) => decide (0 ≤ za) && decide (za < (2 ^ w : Nat))
     | none => false)

/-- OPERAND (R96, R113). -/
def Cmd.badOperand (c : Cmd) : Bool := c.hasMatrix && !(pairOk c.wfmt c.afmt && zaOk c.afmt c.za)

/-- BANK (R107). -/
def Cmd.badBank (c : Cmd) : Bool := c.hasMatrix && decide (256 < c.accBase + c.m)

/-- The tags that a command names (R124). -/
def Cmd.tags (c : Cmd) : List Nat :=
  [c.outTag] ++ (if c.hasMatrix then [c.wTag, c.aTag] else []) ++
    ((List.range 4).filter fun i => bitOf (c.slotWord i) 31).map fun i => bitsOf (c.slotWord i) 23 0

/-- TAG (R124). -/
def Cmd.badTag (c : Cmd) (records : Nat) : Bool := c.tags.any fun t => decide (records ≤ t)

/-- PROGRAM (R156). -/
def Cmd.badProgram (c : Cmd) : Bool :=
  c.hasElem && (decide (16 < c.pmBase + ceilDiv c.progLen 64) || c.progSrc % 256 != 0)

/-- The bytes of a tile queue's slot (R220). -/
def tileSlot (wfmt : Nat) : Nat :=
  roundUp (tileBytes wfmt + (if wfmt = 8 ∨ wfmt = 9 then tableSize wfmt else 0)) 4096

/-- SIZE of a queue entry (R263). -/
def qeSize (e : Nat) : Nat := bitsOf e 16 13
/-- POOLED of a queue entry (R263). -/
def qePooled (e : Nat) : Bool := bitOf e 19
/-- FLOOR of a queue entry (R263). -/
def qeFloor (e : Nat) : Nat := bitsOf e 27 20
/-- BASE of a queue entry in bytes (R263). -/
def qeBase (e : Nat) : Nat := 4096 * bitsOf e 12 0

/-- The buffer bytes of queue entry i (R220, R263). -/
def qeBytes (c : Cmd) (i : Nat) : Nat :=
  let e := queueEntry c.srec i
  if i < 16 then 2 ^ (qeSize e + 12) else (qeSize e + 1) * tileSlot c.wfmt

/-- Whether queue entry i breaks R263. -/
def Cmd.badEntry (c : Cmd) (metered : Bool) (i : Nat) : Bool :=
  let e := queueEntry c.srec i
  if qeMode e = 0 then e != 0
  else
    bitsOf e 31 28 != 0 ||
      (if 16 ≤ i then qeMode e != 1 || qeSize e == 0 || qePooled e || qeFloor e != 0
       else decide (11 < qeSize e) || (decide (i < 8) && qeMode e == 3) ||
         (if qePooled e then metered || decide (qeFloor e < 2) else qeFloor e != 0))

/-- The buffers of a command in its vale store: start and length (R220, R321). -/
def Cmd.buffers (c : Cmd) : List (Nat × Nat) :=
  ((List.range 20).filter fun i => qeMode (queueEntry c.srec i) != 0).map
      (fun i => (qeBase (queueEntry c.srec i), qeBytes c i)) ++
    (if c.hasColl then [(c.retainBase, c.retainElems * c.inBytes), (c.outBase, c.outElems * c.outBytes)] else [])

/-- Whether two stretches of a vale store overlap; addresses wrap modulo 32 MiB. -/
def overlap2 (a b : Nat × Nat) : Bool :=
  a.2 != 0 && b.2 != 0 &&
    (decide ((b.1 + 2 ^ 25 - a.1) % 2 ^ 25 < a.2) || decide ((a.1 + 2 ^ 25 - b.1) % 2 ^ 25 < b.2))

/-- Whether two stretches of a list overlap. -/
def overlapAny : List (Nat × Nat) → Bool
  | [] => false
  | a :: bs => bs.any (overlap2 a) || overlapAny bs

/-- The queues that fields name and that must be in use (R266). -/
def Cmd.namedQueues (c : Cmd) : List Nat :=
  (if c.hasMatrix then c.arrays.map (16 + ·) else []) ++
    (if c.hasMatrix && !c.aFromStore then [c.aQueue] else []) ++
    (if c.hasElem && c.maskEn then [c.maskQ] else []) ++ (if c.hasElem && c.stream then [0] else []) ++
    (if c.hasColl then [c.collIn] else []) ++ (if c.hasColl && c.outQEn then [8 + c.outQ] else [])

/-- Whether queue i of a command is in use (R266). -/
def Cmd.inUse (c : Cmd) (i : Nat) : Bool := qeMode (queueEntry c.srec i) != 0

/-- QUEUES (R220, R263, R266). -/
def Cmd.badQueues (c : Cmd) (metered : Bool) : Bool :=
  (List.range 20).any (c.badEntry metered) ||
    decide (1 < ((List.range 8).filter fun q => qeMode (queueEntry c.srec (8 + q)) == 3).length) ||
    c.namedQueues.any (fun i => !c.inUse i) || overlapAny c.buffers

/-- Whether a FETCH entry's kinds are in the table of R265. -/
def fetchKinds (e : List Byte) : Bool := decide (xSrc e ≤ 4) && (xDst e == 8 || xDst e == 9 || xDst e == 10)
/-- Whether a STORE entry's kinds are in the table of R265. -/
def storeKinds (e : List Byte) : Bool := decide (xDst e ≤ 3) && (xSrc e == 10 || xSrc e == 11 || xSrc e == 12)

/-- Whether a queue kind of an entry names what is not in use (R266), or an address breaks R264, R265 or R325. -/
def Cmd.badTarget (c : Cmd) (e : List Byte) : Bool :=
  (xDst e == 8 && !c.inUse (xQ e)) ||
    (xDst e == 9 && !(c.hasMatrix && c.arrays.contains (xQ e) && c.inUse (16 + xQ e))) ||
    (xSrc e == 11 && !c.inUse (8 + xQ e)) ||
    ((xDst e == 8 || xDst e == 9) && w64At e 8 != 0) ||
    (xDst e == 10 && w64At e 8 % 1024 != 0) || (xSrc e == 10 && w64At e 0 % 1024 != 0) ||
    (xSrc e == 12 && (c.hasElem || !c.hasMatrix)) || (xSrc e == 4 && !(c.hasColl && c.isShift))

/-- TRANSFER (R264, R265, R266, R325). -/
def Cmd.badTransfers (c : Cmd) : Bool :=
  (List.range (c.nFetch + c.nStore)).any fun x =>
    let e := c.entry x
    anySet e [(0x10, 31, 18), (0x14, 31, 17), (0x38, 31, 0), (0x3C, 31, 0)] || outside (xRun e) 1 65536 ||
      !(if x < c.nFetch then fetchKinds e else storeKinds e) || c.badTarget e

/-- The first failing format check, in order of code; 0 for none (R266). -/
def formatError (s : State) (c : Cmd) : Nat :=
  let n := c.part.val
  if c.badEncoding c.job then 1 else if c.badStages then 2 else if c.badOperand then 3 else if c.badBank then 4
  else if c.badTag (s.regF (pcfg n + 0x7C) 16 0) then 5 else if c.badProgram then 6
  else if c.hasElem && c.tblRev != tableRev then 7 else if c.badQueues (s.metered n) then 8
  else if c.badTransfers then 9 else 0

/-! ### Admission (R59) -/

/-- The far side's kind of each transfer entry. -/
def Cmd.farKinds (c : Cmd) : List (Nat × Nat) :=
  (List.range (c.nFetch + c.nStore)).map fun x =>
    (if x < c.nFetch then xSrc (c.entry x) else xDst (c.entry x), xVale (c.entry x))

/-- The links that a command's COLLECT stage names; none for a ring of one (R318). -/
def Cmd.links (c : Cmd) : List Nat :=
  if c.hasColl && c.members != 1 then (List.range c.rails).flatMap fun r => [c.linkOut r, c.linkIn r] else []

/-- An operand lies in host memory (R250, R265). -/
def Cmd.hostOperand (c : Cmd) : Bool := c.f 0x34 31 31 == 1 || c.farKinds.any fun k => k.1 == 3

/-- A vale or link that the command names is fenced (R59); a link in FAILED counts as fenced. DEDUCED. -/
def fencedCmd (s : State) (c : Cmd) : Bool :=
  (s.vale c.vale).fenced || (c.farKinds.any fun k => k.1 == 1 && (s.vale k.2).fenced) ||
    c.links.any fun k => (s.link k).state == .failed

/-- The beats of a command's window (R59). -/
def Cmd.span (c : Cmd) : Nat × Nat := (c.startBeat, c.startBeat + c.cost)

/-- B, the bound in beats (R59). -/
def boundBeats (s : State) (c : Cmd) : Nat := ceilDiv (Config.boundClocks c.desc c.srec) (max 1 s.beatClocks)

/-- NO_ROOM fails (R59, R286, R599); `k` is the command's own slot. -/
def noRoom (s : State) (k : Nat) (c : Cmd) : Bool :=
  let p := s.part c.part.val
  let w := c.span
  let ws := s.windows c.part.val k
  (ws.any fun o => o.2.1.vale == c.vale && decide (o.2.2.1 < w.2) && decide (w.1 < o.2.2.2)) ||
    !(s.owned c.part.val).contains c.vale || !p.inSlice c.job c.vale w.1 w.2 || p.meetsBg 1 c.vale w.1 w.2 ||
    (c.links.any fun l => p.meetsBg 2 l w.1 w.2) ||
    c.loads.any fun l => !portFits s c.part.val ws l.1 l.2 w.1 w.2

/-- BEAT_NOT_VALID fails (R59). -/
def beatNotValid (b : Beat) : Bool := b.state == .noBeat || (b.state == .locking && !b.everLocked)

/-- The admission of a metered command: the code of the first failing check of R59, 0 for none. -/
def meteredCode (s : State) (k : Nat) (c : Cmd) : Nat :=
  if w32At c.desc 0x20 != Config.boundRev.toNat then 1
  else if beatNotValid s.beat then 2
  else if c.hostOperand then 3
  else if fencedCmd s c then 4
  else if s.beat.pLock / 256 - 12 ≤ c.startOfs then 5
  else if c.startBeat < c.takenBeat + 16 then 6
  else if c.takenBeat + 1048576 < c.startBeat then 7
  else if c.cost < boundBeats s c then 8
  else if c.deadline < c.startBeat + c.cost then 9
  else if noRoom s k c then 10 else 0

/-- The admission of an open command: its bound revision and fences alone (R59, R252). DEDUCED. -/
def openCode (s : State) (c : Cmd) : Nat :=
  if w32At c.desc 0x20 != Config.boundRev.toNat then 1 else if fencedCmd s c then 4 else 0

/-- The refusal code of a command of its partition's regime, 0 for an admission (R59). -/
def admissionCode (s : State) (k : Nat) (c : Cmd) : Nat :=
  if s.metered c.part.val then meteredCode s k c else openCode s c

/-- A command with the load of its transfers as it stands (R599). -/
def withLoads (s : State) (c : Cmd) : Cmd :=
  { c with loads := cmdLoads s { c with bindings := s.jobBindings c.part.val c.job } }

/-- A command that is admitted: a metered one has its window (R59). -/
def Cmd.takeIn (c : Cmd) (metered : Bool) : Cmd :=
  { c with admitted := true, window := if metered then some c.span else none }

end Sys2Proof.Machine
end

