-- ==== Sys2Proof/Machine/Echo.lean ====
section
/-! DEFINITION. Echo: the recomputation of captured echo tiles and its comparison (R147 to R150). -/

namespace Sys2Proof.Machine

/-- An exact finite outcome as a value. -/
def Exact.val : Exact → Val
  | .nan => .nan
  | .invalid => .nan
  | .inf n => .inf n
  | .fin n m e _ => .fin n m e

/-- The magnitude of a value. -/
def Val.abs : Val → Val
  | .nan => .nan
  | .inf _ => .inf false
  | .fin _ m e => .fin false m e

/-- One step of the recomputation (R147): the running value, the running magnitude sum, the flags so far. -/
def echoStep (afmt wfmt : Nat) (acc : Word × Word × Flags) (p : Nat × Nat) : Word × Word × Flags :=
  let x := Val.mul (valOfCode afmt p.1) (valOfCode (decodedFmt wfmt) p.2)
  let e := fp32.round (Exact.sum [(fval acc.1).exact, x])
  let s := fp32.round (Exact.sum [(fval acc.2.1).exact, x.val.abs.exact])
  (BitVec.ofNat 32 e.code, BitVec.ofNat 32 s.code, acc.2.2 ||| e.flags ||| s.flags)

/-- The tolerance of ECHO_TOL for a magnitude sum (R148). -/
def echoTol (tol : Nat) (s : Val) : Val :=
  let rel : Val := match s with
    | .fin n m e => .fin n m (e - (bitsOf tol 15 10 : Nat))
    | v => v
  let a := bitsOf tol 7 0
  if a = 0 then rel else (Val.sum [rel, .fin false 1 ((a : Int) - 127)]).val

/-- Whether a floating-point output disagrees, and by how much (R148). -/
def echoCompare (tol : Nat) (a e s : Word) : Bool × Val :=
  if isNan a && isNan e then (false, .fin false 0 0)
  else if isNan a || isNan e then (true, .nan)
  else
    let d := (Val.sum [fval a, (fval e).neg]).val.abs
    (Val.lt (echoTol tol (fval s)) d, d)

/-- One output of a tile recomputed (R147): whether it disagrees, by how much, and the flags it raised. -/
def EchoTile.output (t : EchoTile) (tol y x : Nat) : Bool × Val × Flags :=
  let b0 := t.b0.getD (8 * y + x) 0#32
  let a := t.got.getD (8 * y + x) 0#32
  let ps := (t.acts.getD y []).zip (t.wts.getD x [])
  if intMode t.wfmt then
    let e := ps.foldl (fun e p => e + intOf t.afmt p.1 * intOf t.wfmt p.2) b0.toInt
    let e := min (max e (-(2 ^ 31))) (2 ^ 31 - 1)
    (e != a.toInt, Val.ofInt (e - a.toInt).natAbs, 0#4)
  else
    let r := ps.foldl (echoStep t.afmt t.wfmt) (b0, withSign false b0, 0#4)
    let c := echoCompare tol a r.1 r.2.1
    (c.1, c.2, r.2.2)

/-- The larger of two differences; a NaN mismatch counts as the largest (R153). -/
def maxDiff : Val → Val → Val
  | .nan, _ => .nan
  | _, .nan => .nan
  | a, b => if Val.lt a b then b else a

/-- A tile recomputed (R147, R149): whether it disagrees, its largest difference, the flags. -/
def EchoTile.recompute (t : EchoTile) (tol : Nat) : Bool × Val × Flags :=
  ((List.range t.rows).flatMap fun y => (List.range t.cols).map fun x => t.output tol y x).foldl
    (fun acc o => (acc.1 || o.1, if o.1 then maxDiff acc.2.1 o.2.1 else acc.2.1, acc.2.2 ||| o.2.2))
    (false, .fin false 0 0, 0#4)

/-- A counter word of a scale record gains one, where its page lets the part write (R127, R149). -/
def State.bumpRec (s : State) (n tag o : Nat) : State :=
  let a := scaleAddr s n tag
  if s.pdaOk n a 128 true then s.poke32 n (a + o) (min (s.peek32 n (a + o) + 1) 0xFFFFFFFF) else s

/-- The ECHO_LAST registers take a disagreeing tile (R149, R153). -/
def State.echoLast (s : State) (pg : Page) (t : EchoTile) (d : Val) : State :=
  let b := pageBase pg
  let s := s.setReg (b + 0x54) (fields [(31, 31, 1), (27, 24, t.part), (23, 0, t.tag)])
  let s := s.setReg (b + 0x58) (BitVec.ofNat 32 t.index)
  let s := s.setReg (b + 0x5C) (fields [(22, 16, t.vale), (15, 0, t.index / 2 ^ 32)])
  s.setReg (b + 0x60) (BitVec.ofNat 32 (fp32.round d.exact).code)

/-- A captured tile is recomputed, compared and dropped from the buffer (R147 to R150). -/
def State.echoTile (s : State) (p : Nat) (t : EchoTile) : State :=
  let pg : Page := .echo (Fin.ofNat 16 p)
  let r := t.recompute (s.recWord t.part t.tag 0x20).toNat
  let s := ((s.count pg 0x48 1).accrue pg r.2.2 0).bumpRec t.part t.tag 0x28
  let s := (s.modEcho p fun e => { e with tiles := e.tiles.erase t }).echoStat p
  if r.1 then
    (((((s.count pg 0x4C 1).bumpRec t.part t.tag 0x2C).echoLast pg t r.2.1).raise pg 1).healthEvent 3 p 1)
  else s

/-- The captured tile that is recomputed next: the first whose group has ended. -/
def State.echoNext (s : State) (p : Nat) : Option EchoTile := (s.echoOf p).tiles.find? fun t => t.slot.isNone

/-- ECHO_RECOMPUTE (R147). -/
def execEchoRecompute (p : Plain) (s : State) : Host.Outcome State Fault Refusal :=
  act s fun s =>
    match s.echoNext p.val with
    | some t => if (s.echoOf p.val).failed then s else s.echoTile p.val t
    | none => s

/-- An echo unit fails (R28, R150): it stops sampling, its captured tiles are lost with it, and it is reported. -/
def echoFailDo (p : Plain) (s : State) : State :=
  let s := s.modEcho p.val fun _ => { failed := true, tiles := [] }
  (s.echoStat p.val).moraine .echoFailed (.echo p) []

/-- ECHO_UNIT_FAILURE (R150). -/
def execEchoUnitFailure (p : Plain) (s : State) : Host.Outcome State Fault Refusal := act s (echoFailDo p)

end Sys2Proof.Machine
end

