-- ==== Sys2Proof/Machine/Seeds.lean ====
section
/-! DEFINITION. Seeds: the seed pass of a tensor with no history (R137 to R141). -/

namespace Sys2Proof.Machine

/-- The bytes that a FETCH entry's source holds now, over its whole walk. -/
def State.sourceBytes (s : State) (c : Cmd) (x : Nat) : List Byte :=
  let e := c.entry x
  ((subBlocks (xTotal e) e 0).map fun b => (s.xRead c e b.1 b.2 .clean []).1.bytes).flatten

/-- The bytes that the FETCH entries into queue i bring from memory, in entry order (R138). -/
def State.inputBytes (s : State) (c : Cmd) (i : Nat) : List Byte :=
  (((List.range c.nFetch).filter fun x => xInto (c.entry x) == some i && decide (xSrc (c.entry x) < 3)).map
    fun x => s.sourceBytes c x).flatten

/-- A value as the FP32 word that a fold sees (R130). -/
def foldWord (x : Exact) : Word := BitVec.ofNat 32 (fp32.round x).code

/-- The elements of packed bytes in a format, as words to fold. -/
def packedWords (fmt : Nat) (bs : List Byte) : List Word :=
  (List.range (bs.length * 8 / codeWidth fmt)).map fun i => foldWord (valOfCode fmt (packedAt bs (codeWidth fmt) i)).exact

/-- Memory source (R138): the stream's elements, each in the format in which the transfer delivers it. -/
def State.seedMemory (s : State) (c : Cmd) (fmt : Nat) : List Word := packedWords fmt (s.inputBytes c 0)

/-- Bank source (R138): the released region as the epilogue port delivers it. -/
def State.seedBank (s : State) (c : Cmd) : List Word :=
  (List.range c.m).flatMap fun r => (c.arrays.mapIdx fun i a => (i, a)).flatMap fun p =>
    (List.range (c.nValidAt p.1)).map fun col =>
      let w := (s.readBank c p.2 r col).w
      if intMode c.wfmt && !c.scaled then foldWord (Val.ofInt w.toInt).exact else w

/-- A decoded value times the tag's SCALE (R138). -/
def scaledWord (scale : Word) (fmt code : Nat) : Word := foldWord (Val.mul (valOfCode fmt code) (fval scale))

/-- Operand source, the weights (R138): every valid element of every tile. -/
def State.seedWeights (s : State) (c : Cmd) (scale : Word) : List Word :=
  let n := tileBytes c.wfmt
  (c.arrays.mapIdx fun i a => (i, a)).flatMap fun p =>
    let bs := s.inputBytes c (16 + p.2)
    let table := if c.wfmt = 8 ∨ c.wfmt = 9 then
        s.peek c.part.val (tableAddr (s.peek c.part.val (scaleAddr s c.part.val c.wTag) 128) (tableSize c.wfmt)
          ((8 * c.originCol + 128 * p.1) / 128)) (tableSize c.wfmt)
      else []
    (List.range c.kTiles).flatMap fun t =>
      let tile : Tile := { slot := 0, index := t, bytes := (bs.drop (t * n)).take n, table := table, wfmt := c.wfmt,
                           kValid := c.kValid t, nValid := c.nValidAt p.1, tag := 0, sums := [] }
      (List.range tile.kValid).flatMap fun k => (List.range tile.nValid).map fun j =>
        scaledWord scale (decodedFmt c.wfmt) (tile.code k j)

/-- Operand source, the activations (R138): every valid element of every row. -/
def State.seedActs (s : State) (c : Cmd) (scale : Word) : List Word :=
  let n := rowBytes c.wfmt c.afmt
  let bs := if c.aFromStore then s.bytes (storeAddr c.vale c.aBase) (c.kTiles * c.m * n) else s.inputBytes c c.aQueue
  (List.range c.kTiles).flatMap fun t => (List.range c.m).flatMap fun r => (List.range (c.kValid t)).map fun i =>
    scaledWord scale c.afmt (packedAt (bs.drop ((t * c.m + r) * n)) (codeWidth c.afmt) i)

/-- The values that a seed pass of a tag sees (R138). -/
def State.seedValues (s : State) (c : Cmd) (tag fmt : Nat) : List Word :=
  if c.slotTag tag then (if c.stream then s.seedMemory c fmt else s.seedBank c)
  else
    let scale := s.recWord c.part.val tag 0
    (if c.wTag = tag then s.seedWeights c scale else []) ++ (if c.aTag = tag then s.seedActs c scale else [])

/-- Whether a seed pass of a tag is under way and its input is there (R137, R138): the bank source needs its region
released. -/
def seedEndOk (k tag : Nat) (s : State) : Bool :=
  match s.cmd k with
  | none => false
  | some c =>
    !(s.vale c.vale).fenced && !s.holding && c.seeds.any (fun d => d.tag == tag) &&
      (!(c.slotTag tag && !c.stream) || c.matrix.released == c.m)

/-- The end of a seed pass (R139, R141). -/
def seedEndDo (k tag fmt : Nat) (s : State) : State :=
  match s.cmd k with
  | none => s
  | some c =>
    let a := (s.seedValues c tag fmt).foldl foldAmax 0#32
    (s.updateRec k c tag (recSeed a)).modCmd k fun c => { c with seeds := c.seeds.filter fun d => d.tag != tag }

/-- SEED_PASS_END (R139). -/
def execSeedPassEnd (k : Slot) (tag : BitVec 24) (fmt : BitVec 4) (s : State) : Host.Outcome State Fault Refusal :=
  act s fun s => if seedEndOk k.val tag.toNat s then seedEndDo k.val tag.toNat fmt.toNat s else s

end Sys2Proof.Machine
end

