-- ==== Sys2Proof/Machine/Element.lean ====
section
/-! DEFINITION. Element: the element engine: the start of an ELEMENT stage (R155 to R159, R167, R185, R598), its blocks
and lanes (R160 to R164, R173, R174), the issue of an instruction (R172, R186, R187, R192, R209, R219), the end of a block
and of the stage (R178, R179, R214, R215, R224), and the engine's controls (R189). -/

namespace Sys2Proof.Machine

/-! ### The geometry of blocks (R161 to R163) -/

/-- The pieces of an epilogue source (R163). -/
def Cmd.pieces (c : Cmd) : Nat := c.m * c.arrays.length

/-- The rows that one block of a stream holds whole, where L is at most 256 (R161). -/
def Cmd.rowsPer (c : Cmd) : Nat := 256 / max 1 c.rowLen

/-- The positions of block b: its first, and how many it has when the source does not end in it (R161, R163, R174). -/
def Cmd.blockSpan (c : Cmd) (b : Nat) : Nat × Nat :=
  if c.stream then
    let l := max 1 c.rowLen
    if l ≤ 256 then (b * (c.rowsPer * l), c.rowsPer * l)
    else
      let nb := ceilDiv l 256
      (b / nb * l + b % nb * 256, min 256 (l - 256 * (b % nb)))
  else (256 * b, if 2 * b + 1 < c.pieces then 256 else 128)

/-- ROW and COL of lane i in block b (R162). -/
def Cmd.place (c : Cmd) (b i : Nat) : Nat × Nat :=
  if c.stream then
    let l := max 1 c.rowLen
    if l ≤ 256 then (b * c.rowsPer + i / l, i % l) else (b / ceilDiv l 256, b % ceilDiv l 256 * 256 + i)
  else
    let p := 2 * b + i / 128
    let a := max 1 c.arrays.length
    (p / a, 128 * (p % a) + i % 128)

/-- The first block of a row, and the number of its blocks (R217). -/
def Cmd.rowSpan (c : Cmd) (row : Nat) : Nat × Nat :=
  if c.stream then
    let l := max 1 c.rowLen
    if l ≤ 256 then (row / max 1 c.rowsPer, 1) else (row * ceilDiv l 256, ceilDiv l 256)
  else
    let a := max 1 c.arrays.length
    (row * a / 2, (row * a + a - 1) / 2 - row * a / 2 + 1)

/-- Whether block b is the last one of a row (R201): the row's own last, or the one in which the source ends. -/
def Cmd.lastOf (c : Cmd) (b row : Nat) (final : Bool) : Bool :=
  final || b + 1 == (c.rowSpan row).1 + (c.rowSpan row).2

/-! ### Lanes (R154, R155) -/

/-- Lane i of vale g. -/
def State.lane (s : State) (g i : Nat) : Lane := Sparse.get (fun _ => Lane.reset) (s.vale g).elem.lanes i
/-- The element engine of vale g changed. -/
def State.modElem (s : State) (g : Nat) (f : ElemSt → ElemSt) : State :=
  s.modVale g fun v => { v with elem := f v.elem }
/-- Lane i of vale g replaced. -/
def State.setLane (s : State) (g i : Nat) (l : Lane) : State :=
  s.modElem g fun e => { e with lanes := Sparse.set (fun _ => Lane.reset) e.lanes i l }
/-- Register e_r of a lane. -/
def Lane.reg (l : Lane) (r : Nat) : Word := l.e.toList.getD r 0#32
/-- Register e_r of a lane replaced. -/
def Lane.setReg (l : Lane) (r : Nat) (w : Word) : Lane := { l with e := l.e.setIfInBounds r w }
/-- Predicate p_i of a lane; p0 reads 1 (R154). -/
def Lane.pred (l : Lane) (i : Nat) : Bool := i == 0 || l.p.getLsbD i
/-- Predicate p_i of a lane replaced; p0 ignores writes (R154). -/
def Lane.setPred (l : Lane) (i : Nat) (b : Bool) : Lane :=
  if i = 0 then l else { l with p := BitVec.ofNat 8 (putBits l.p.toNat i i (boolBit b)) }

/-- Whether a lane of a block is live and active: while a compress is outstanding, the first n lanes are, which hold the
elements of live lanes (R175, R192). -/
def Blk.active (b : Blk) (i : Nat) : Bool :=
  match b.compress with
  | some z => decide (i < z.lanes.length)
  | none => bitOf b.live i

/-- The lanes in which an instruction with a predicate executes, ascending (R172, R192). -/
def State.executing (s : State) (g : Nat) (b : Blk) (pred : BitVec 3) (pneg : Bool) : List Nat :=
  (List.range 256).filter fun i => b.active i && (s.lane g i).pred pred.toNat != pneg

/-! ### Blocks start (R160, R164, R173, R174) -/

/-- The element width in nibbles of inbound queue q, as the stage's start gave it. -/
def Cmd.inWidth (c : Cmd) (q : Nat) : Nat :=
  let w := c.elem.inWidth.getD q 8
  if w = 1 ∨ w = 2 ∨ w = 4 then w else 8

/-- The positions of a positional inbound queue that wait in it; none beyond those where its mark stands. -/
def Cmd.waiting (c : Cmd) (q : Nat) : Nat := (c.queue q).held / c.inWidth q

/-- The positions that block b takes and whether it is the last, when its primary source is there (R160, R161, R164). -/
def Cmd.nextCount (c : Cmd) (b : Nat) : Option (Nat × Bool) :=
  let n := (c.blockSpan b).2
  if c.stream then
    let w := c.waiting 0
    if n ≤ w then some (n, (c.queue 0).eos && w == n)
    else if (c.queue 0).eos && 0 < w then some (w, true) else none
  else if 2 * b < c.pieces ∧ min (2 * b + 1) (c.pieces - 1) / max 1 c.arrays.length < c.matrix.released then
    some (n, c.pieces ≤ 2 * b + 2)
  else none

/-- Whether the primary source has no further block (R224). -/
def Cmd.sourceOver (c : Cmd) : Bool :=
  if c.stream then (c.queue 0).eos && c.waiting 0 == 0 else decide (c.pieces ≤ 2 * c.elem.block)

/-- The mask bits of n positions from stream bit p on are there (R174). -/
def Cmd.maskThere (c : Cmd) (p n : Nat) : Bool := !c.maskEn || decide (p + n ≤ 4 * (c.queue c.maskQ).tail)

/-- The mask bit of a position (R174). -/
def State.maskBit (s : State) (c : Cmd) (p : Nat) : Bool :=
  bitOf (s.byte ((c.queue c.maskQ).at (p / 8))).toNat (p % 8)

/-- Whether the further positional inbound queues hold a block's elements (R214). -/
def Cmd.positionalThere (c : Cmd) (n : Nat) : Bool :=
  (List.range 8).all fun q =>
    (c.queue q).mode != 1 || (c.maskEn && q == c.maskQ) || (c.hasMatrix && !c.aFromStore && q == c.aQueue) ||
      decide (n ≤ c.waiting q)

/-- The length that the length vector gives a row (R173). -/
def State.rowLimit (s : State) (c : Cmd) (row : Nat) : Nat := leNat (s.bytes (storeAddr c.vale (c.lenvec + 4 * row)) 4)

/-- Whether lane i of block b is live (R161, R163, R173). -/
def State.liveLane (s : State) (c : Cmd) (b n i : Nat) : Bool :=
  let p := c.place b i
  decide (i < n) && (c.stream || decide (i % 128 < c.nValidAt (p.2 / 128))) &&
    (!c.lenvecEn || decide (p.2 < s.rowLimit c p.1))

/-- What keeps the next block of a stage from starting; none when its input is there (R164, R187). -/
def Cmd.blockWait (c : Cmd) : WaitCause :=
  match c.nextCount c.elem.block with
  | none => if c.stream then .queueEmpty else .epilogue
  | some (n, _) =>
    if c.maskThere (c.blockSpan c.elem.block).1 n && c.positionalThere n then .none else .queueEmpty

/-- p7 of every lane from the mask stream (R174). -/
def State.setMask (s : State) (c : Cmd) (live start : Nat) : State :=
  if c.maskEn then
    (List.range 256).foldl (fun s i =>
      s.setLane c.vale i ((s.lane c.vale i).setPred 7 (bitOf live i && s.maskBit c (start + i)))) s
  else s

/-- The next block of the command in slot k is opened. -/
def State.openBlock (s : State) (k : Nat) (c : Cmd) (n : Nat) (final : Bool) : State :=
  let live := ((List.range 256).filter (s.liveLane c c.elem.block n)).foldl (fun a i => a + 2 ^ i) 0
  let s := s.setMask c live (c.blockSpan c.elem.block).1
  s.modElem c.vale fun e => { e with
    wait := .none
    blk := some { slot := k, base := c.pmBase, pc := 0, count := n, final := final, loop := none, live := live,
                  compress := none, packCount := 0, epi := none, written := [] } }

/-! ### The end of the stage (R219, R224) -/

/-- The outbound queue that a COLLECT stage writes (R321). -/
def Cmd.collOut (c : Cmd) : Option Nat :=
  if c.hasColl && c.coll32 0 25 25 == 1 then some (c.coll32 0 24 22) else none

/-- The stage of the command in slot k ends: its outbound queues get their marks, the engine is free (R224, R228). -/
def State.endElement (s : State) (k : Nat) : State :=
  match s.cmd k with
  | none => s
  | some c =>
    let s := s.modCmd k fun c =>
      let c := (List.range 8).foldl (fun c q =>
        if (c.queue (8 + q)).mode = 0 ∨ c.collOut = some q then c
        else c.modQueue (8 + q) fun x => { x with eos := true }) c
      { c with elem := { c.elem with ended := true } }
    s.modElem c.vale fun e => { e with blk := none, stage := none, wait := .none, loading := false }

/-- The arithmetic flags of the lanes reach the engine's FLAGS and the command (R179). -/
def State.gatherFlags (s : State) (k g : Nat) : State :=
  let f := (List.range 256).foldl (fun f i => f ||| (s.lane g i).flags) 0#4
  (s.accrue (.elem (Fin.ofNat 128 g)) f 0).modCmd k fun c => c.accrue f 0

/-- A program error stops the stage before the instruction takes effect (R219). Its block ends there, so its lane flags
count. DEDUCED. -/
def State.programError (s : State) (k g code pc : Nat) : State :=
  let s := s.gatherFlags k g
  (s.modCmd k fun c =>
    if c.status = 0 then { c with status := 3, detail := code, progAddr := c.pmBase * 64 + pc } else c).endElement k

/-- Whether every inbound queue that the stage reads has its mark (R224). -/
def Cmd.marksRead (c : Cmd) : Bool :=
  (List.range 8).all fun q =>
    (c.queue q).mode == 0 || (c.hasMatrix && !c.aFromStore && q == c.aQueue) || (c.queue q).eos

/-- The stage ends when its source has no further block and its input queues' marks have come (R224). -/
def State.tryEndStage (s : State) (k : Nat) : State :=
  match s.cmd k with
  | none => s
  | some c => if c.sourceOver && c.marksRead then s.endElement k else s

/-! ### The end of a block (R178, R179, R214, R215) -/

/-- The rows that have a position in block b of n positions, ascending. -/
def Cmd.rowsIn (c : Cmd) (b n : Nat) : List Nat := ((List.range n).map fun i => (c.place b i).1).eraseDups

/-- The count queue of a stage (R178, R263). -/
def Cmd.countQueue (c : Cmd) : Option Nat := (List.range 8).find? fun q => (c.queue (8 + q)).mode == 3
/-- The appending queues of a stage, ascending (R263). -/
def Cmd.appending (c : Cmd) : List Nat := (List.range 8).filter fun q => (c.queue (8 + q)).mode == 2
/-- The values appended to queue q in a row so far. -/
def Cmd.rowCount (c : Cmd) (row q : Nat) : Nat := Sparse.get (fun _ => 0) c.elem.rowCounts (row * 8 + q)

/-- The count words that a block's end appends (R178). -/
def Cmd.endCounts (c : Cmd) (b : Blk) : List Nat :=
  ((c.rowsIn c.elem.block b.count).filter fun r => c.lastOf c.elem.block r b.final).flatMap fun r =>
    c.appending.map fun q => c.rowCount r q

/-- Whether the outbound queues have room for what a block's end adds (R187, R215). -/
def State.endRoom (s : State) (c : Cmd) (b : Blk) : Bool :=
  (match c.countQueue with
   | some q => decide (8 * (c.endCounts b).length ≤ s.qRoom c (c.queue (8 + q)))
   | none => true) &&
    (List.range 8).all fun q =>
      let x := c.queue (8 + q)
      x.mode != 1 || x.width == 0 || decide (b.count * x.width ≤ s.qRoom c x)

/-- A positional outbound queue moves on by one block (R215): the positions nothing wrote are marked. -/
def Queue.passBlock (x : Queue) (n : Nat) (written : List Nat) : Queue :=
  if x.width = 0 then { x with skipped := x.skipped + n }
  else
    let gaps := (List.range n).filter fun i => !written.contains i
    { x with tail := x.tail + n * x.width, holes := x.holes ++ gaps.map fun i => (x.tail + i * x.width, x.width) }

/-- The queues of a command move on by one block (R174, R214, R215). -/
def Cmd.passBlock (c : Cmd) (b : Blk) : Cmd :=
  let start := (c.blockSpan c.elem.block).1
  let c := (List.range 8).foldl (fun c q =>
    if c.maskEn ∧ q = c.maskQ then c.modQueue q fun x => x.advance ((start + b.count) / 4 - x.head)
    else if ((c.queue q).mode = 1 ∨ (c.stream ∧ q = 0)) ∧ !(c.hasMatrix && !c.aFromStore && q == c.aQueue) then
      c.modQueue q fun x => x.advance (b.count * c.inWidth q)
    else c) c
  (List.range 8).foldl (fun c q =>
    if (c.queue (8 + q)).mode = 1 ∧ c.collOut ≠ some q then
      c.modQueue (8 + q) fun x => x.passBlock b.count ((b.written.filter (·.1 == q)).map (·.2))
    else c) c

/-- Words appended to the count queue (R178). -/
def State.putCounts (s : State) (k : Nat) (c : Cmd) (b : Blk) : State :=
  match c.countQueue with
  | some q => s.qAppend k c (8 + q) ((c.endCounts b).flatMap fun n => leBytes 4 n)
  | none => s

/-- A block whose program has run to its end (R178, R179, R190). -/
def State.endBlock (s : State) (k : Nat) (c : Cmd) (b : Blk) : State :=
  if !s.endRoom c b then s.modElem c.vale fun e => { e with wait := .queueFull }
  else
    let s := (s.gatherFlags k c.vale).count64 (.elem (Fin.ofNat 128 c.vale)) 0x50 1
    let s := s.putCounts k c b
    let done := (c.rowsIn c.elem.block b.count).filter fun r => c.lastOf c.elem.block r b.final
    let s := s.modCmd k fun c =>
      let c := c.passBlock b
      { c with elem := { c.elem with
          block := c.elem.block + 1
          rowCounts := c.elem.rowCounts.filter fun e => !done.contains (e.1 / 8) } }
    (s.modElem c.vale fun e => { e with blk := none, wait := .none }).tryEndStage k

/-! ### The issue of an instruction (R186, R187, R191, R193, R209) -/

/-- A word of the program memory of vale g, by instruction index (R156). -/
def State.progWord (s : State) (g i : Nat) : Nat := leNat (s.bytes (progAddr g (4 * i)) 4)

/-- The instruction word of the R format (R191). -/
def wordR (i : RFmt) (opc : Nat) : Nat :=
  opc * 2 ^ 26 + i.pred.toNat * 2 ^ 23 + boolBit i.pneg * 2 ^ 22 + i.d.toNat * 2 ^ 18 + i.a.toNat * 2 ^ 14 +
    i.b.toNat * 2 ^ 10 + i.c.toNat * 2 ^ 6 + i.mod.toNat
/-- The instruction word of the I format (R191). -/
def wordI (i : IFmt) (opc : Nat) : Nat :=
  opc * 2 ^ 26 + i.pred.toNat * 2 ^ 23 + boolBit i.pneg * 2 ^ 22 + i.d.toNat * 2 ^ 18 + i.h.toNat * 2 ^ 16 + i.imm.toNat
/-- The instruction word of the M format (R191). -/
def wordM (i : MFmt) (opc : Nat) : Nat :=
  opc * 2 ^ 26 + i.pred.toNat * 2 ^ 23 + boolBit i.pneg * 2 ^ 22 + i.reg.toNat * 2 ^ 18 + i.idx.toNat * 2 ^ 16 +
    i.resv.toNat * 2 ^ 10 + i.line.toNat
/-- The instruction word of the L format (R191). -/
def wordL (i : LFmt) (opc : Nat) : Nat :=
  opc * 2 ^ 26 + i.pred.toNat * 2 ^ 23 + boolBit i.pneg * 2 ^ 22 + i.resv.toNat * 2 ^ 18 + i.body.toNat * 2 ^ 12 +
    i.count.toNat

/-- The R-format fields of an instruction word (R191). -/
def fmtR (w : Nat) : RFmt :=
  { pred := BitVec.ofNat 3 (w >>> 23), pneg := bitOf w 22, d := BitVec.ofNat 4 (w >>> 18), a := BitVec.ofNat 4 (w >>> 14),
    b := BitVec.ofNat 4 (w >>> 10), c := BitVec.ofNat 4 (w >>> 6), mod := BitVec.ofNat 6 w }
/-- The I-format fields of an instruction word (R191). -/
def fmtI (w : Nat) : IFmt :=
  { pred := BitVec.ofNat 3 (w >>> 23), pneg := bitOf w 22, d := BitVec.ofNat 4 (w >>> 18), h := BitVec.ofNat 2 (w >>> 16),
    imm := BitVec.ofNat 16 w }
/-- The M-format fields of an instruction word (R191). -/
def fmtM (w : Nat) : MFmt :=
  { pred := BitVec.ofNat 3 (w >>> 23), pneg := bitOf w 22, reg := BitVec.ofNat 4 (w >>> 18), idx := BitVec.ofNat 2 (w >>> 16),
    resv := BitVec.ofNat 6 (w >>> 10), line := BitVec.ofNat 10 w }
/-- The L-format fields of an instruction word (R191). -/
def fmtL (w : Nat) : LFmt :=
  { pred := BitVec.ofNat 3 (w >>> 23), pneg := bitOf w 22, resv := BitVec.ofNat 4 (w >>> 18), body := BitVec.ofNat 6 (w >>> 12),
    count := BitVec.ofNat 12 w }

/-- The block that an element engine can issue from now: the command's slot, the command, the block (R162, R473, R485). -/
def State.issuing (s : State) (g : Nat) : Option (Nat × Cmd × Blk) :=
  match (s.vale g).elem.blk with
  | none => none
  | some b =>
    match s.cmd b.slot with
    | none => none
    | some c => if s.running c && decide (b.pc < c.progLen) then some (b.slot, c, b) else none

/-- Whether the next instruction that engine g issues is the word w (R156, R162). -/
def issueOk (g : Nat) (w : Nat) (s : State) : Bool :=
  match s.issuing g with
  | none => false
  | some (_, _, b) => s.progWord g (b.base * 64 + b.pc) == w

/-- The program counter and the loop after an instruction that is no LOOP (R209). -/
def Blk.next (b : Blk) : Blk :=
  match b.loop with
  | some l =>
    if b.pc = l.last then
      if l.iter + 1 < l.count then { b with pc := l.first, loop := some { l with iter := l.iter + 1 } }
      else { b with pc := b.pc + 1, loop := none }
    else { b with pc := b.pc + 1 }
  | none => { b with pc := b.pc + 1 }

/-- LC, the loop counter (R209). -/
def Blk.lc (b : Blk) : Nat := match b.loop with | some l => l.iter | none => 0

/-- The block after an instruction has issued for n clocks: it goes on, or the block ends (R186, R190). -/
def State.retireInstr (s : State) (g n : Nat) (f : Blk → Blk) : State :=
  let s := s.count64 (.elem (Fin.ofNat 128 g)) 0x58 n
  let s := s.modElem g fun e => { e with wait := .none, blk := e.blk.map f }
  match (s.vale g).elem.blk with
  | none => s
  | some b =>
    match s.cmd b.slot with
    | none => s
    | some c => if c.progLen ≤ b.pc then s.endBlock b.slot c b else s

/-- The issue of an instruction on engine g (R186, R187, R219): its program error, else its wait, else its effect in the
executing lanes, its clocks and the step to the next instruction. -/
def State.issue (s : State) (g : Nat) (err : State → Cmd → Blk → Nat) (wait : State → Cmd → Blk → WaitCause)
    (clocks : State → Cmd → Blk → Nat) (run : State → Nat → Cmd → Blk → State) (next : Blk → Blk) : State :=
  match s.issuing g with
  | none => s
  | some (k, c, b) =>
    let code := err s c b
    if code ≠ 0 then s.programError k g code b.pc
    else
      let w := wait s c b
      if w ≠ .none then s.modElem g fun e => { e with wait := w }
      else (run s k c b).retireInstr g (clocks s c b) next

/-- RESERVED_ENC where a field breaks R193. -/
def resvErr (bad : Bool) : Nat := if bad then 1 else 0

/-- Saturation events of an element instruction (R180, R131). -/
def State.elemSat (s : State) (k : Nat) (c : Cmd) (n : Nat) : State :=
  if n = 0 then s
  else ((s.accrue (.elem (Fin.ofNat 128 c.vale)) 0#4 n).modCmd k fun c => c.accrue 0#4 n).satEvents k c n

/-- Results written to register d of lanes, with their flags (R179); the sum of their saturation events. -/
def State.putLanes (s : State) (g d : Nat) (rs : List (Nat × LaneRes)) : State × Nat :=
  rs.foldl (fun (acc : State × Nat) r =>
    let l := acc.1.lane g r.1
    (acc.1.setLane g r.1 { l.setReg d r.2.w with flags := l.flags ||| r.2.flags }, acc.2 + r.2.sat)) (s, 0)

/-- The results of an instruction over its lanes take effect (R172, R179, R180). -/
def State.writeLanes (s : State) (k : Nat) (c : Cmd) (d : Nat) (rs : List (Nat × LaneRes)) : State :=
  let r := s.putLanes c.vale d rs
  r.1.elemSat k c r.2

/-- An instruction of the R format that computes each lane's result from the lane alone. -/
def State.issueLane (s : State) (g : Nat) (i : RFmt) (bad : Bool) (clocks : Nat) (f : Lane → LaneRes) : State :=
  s.issue g (fun _ _ _ => resvErr bad) (fun _ _ _ => .none) (fun _ _ _ => clocks)
    (fun s k c b => s.writeLanes k c i.d.toNat ((s.executing g b i.pred i.pneg).map fun j => (j, f (s.lane g j))))
    Blk.next

/-- An instruction of the R format that writes a predicate in each executing lane. -/
def State.issuePred (s : State) (g : Nat) (i : RFmt) (bad : Bool) (f : State → Cmd → Blk → Nat → Bool) : State :=
  s.issue g (fun _ _ _ => resvErr bad) (fun _ _ _ => .none) (fun _ _ _ => 1)
    (fun s _ c b => (s.executing g b i.pred i.pneg).foldl (fun t j =>
      t.setLane g j ((t.lane g j).setPred (i.d.toNat % 8) (f s c b j))) s)
    Blk.next

/-! ### Stage start (R129, R137, R155, R157, R167, R598) -/

/-- The tags of the valid quantisation slots that need a seed pass before the stage (R137). -/
def elementSeeds (s : State) (c : Cmd) : List Nat :=
  ((((List.range 4).filter fun i => bitOf (c.slotWord i) 31).map fun i => bitsOf (c.slotWord i) 23 0).eraseDups).filter
    fun t => s.needsSeed c.part.val t

/-- Slot i latched (R129, R203). -/
def State.latchSlot (s : State) (k : Nat) (c : Cmd) (i : Nat) : State :=
  if bitOf (c.slotWord i) 31 then
    let tag := bitsOf (c.slotWord i) 23 0
    let r := s.readRec k c tag
    let q : QuantSlot := { tag := tag, scale := BitVec.ofNat 32 (w32At r.1 0), fmt := bitsOf (w32At r.1 0x08) 3 0 }
    r.2.modCmd k fun c => { c with elem := { c.elem with slots := c.elem.slots ++ [some q] } }
  else s.modCmd k fun c => { c with elem := { c.elem with slots := c.elem.slots ++ [none] } }

/-- Program block j of a stage is loaded where it is not resident (R157, R598). -/
def State.loadBlock (s : State) (k : Nat) (c : Cmd) (j : Nat) : State :=
  let g := c.vale
  let src := c.progSrc + 256 * j
  let at_ := c.pmBase + j
  let have_ := Sparse.get (fun _ => none) (s.vale g).elem.resident at_
  if have_ = some (c.part, src) ∧ !c.progReload then s
  else
    let r := s.sideRead k c src 256
    let mark := fun (v : Option (PartId × Nat)) (s : State) =>
      s.modElem g fun e => { e with resident := Sparse.set (fun _ => none) e.resident at_ v }
    if r.2.1 then mark (some (c.part, src)) (r.2.2.setBytes (progAddr g (256 * at_)) r.1)
    else (mark none r.2.2).modCmd k fun c => { c with elem := { c.elem with noIssue := true } }

/-- The OC_ZERO lines are set to zero, one per clock (R167). -/
def State.zeroLines (s : State) (c : Cmd) : State :=
  let s := (List.range c.ocZeroCount).foldl (fun s i =>
    let a := cacheAddr c.vale (1024 * ((c.ocZeroFirst + i) % 1024))
    s.clearRange a (a + 1024)) s
  s.count64 (.elem (Fin.ofNat 128 c.vale)) 0x60 c.ocZeroCount

/-- Whether an ELEMENT stage can dispatch (R228, R332). -/
def elementStartOk (k : Nat) (s : State) : Bool :=
  match s.cmd k with
  | none => false
  | some c =>
    s.running c && c.hasElem && !c.elem.ended && (s.vale c.vale).elem.stage.isNone && !s.lapping c.vale &&
      s.stageTurn k c && (s.earlier k c).all fun e => !e.2.hasElem || e.2.elem.ended

/-- The stage dispatches: its lanes, its slots, its program, its lines. -/
def State.beginElement (s : State) (k : Nat) (c : Cmd) (inWidth : List Nat) : State :=
  let s := s.modCmd k fun c => { c with elem := { c.elem with block := 0, noIssue := false, slots := [], inWidth := inWidth,
                                                              rowCounts := [] } }
  let s := s.modElem c.vale fun e => { e with lanes := [], blk := none, wait := .none, stage := some k }
  let s := (List.range 4).foldl (fun s i => s.latchSlot k c i) s
  let s := (List.range (ceilDiv c.progLen 64)).foldl (fun s j => s.loadBlock k c j) s
  let s := s.zeroLines c
  match s.cmd k with
  | none => s
  | some c => if c.elem.noIssue then (s.modCmd k fun c => c.failXfer 5 0xFF).endElement k else s

/-- The start of an ELEMENT stage, or of the seed passes that its slots' tags need first (R137, R157). -/
def elementStartDo (k : Nat) (inWidth : List Nat) (s : State) : State :=
  match s.cmd k with
  | none => s
  | some c =>
    let need := elementSeeds s c
    if need.isEmpty then s.beginElement k c inWidth
    else s.modCmd k fun c =>
      { c with seeds := c.seeds ++ (need.filter fun t => !(c.seeds.any (·.tag == t))).map SeedSt.mk }

/-- ELEMENT_STAGE_START (R157). `inWidth` gives the element width of each inbound queue, in nibbles. -/
def execElementStageStart (k : Slot) (inWidth : List Nat) (s : State) : Host.Outcome State Fault Refusal :=
  act s fun s => if elementStartOk k.val s then elementStartDo k.val inWidth s else s

/-! ### The engine's controls (R158, R159, R189) -/

/-- Every program block of vale g becomes non-resident when a flush is due (R189). -/
def State.flushPm (s : State) (g : Nat) : State :=
  if (s.vale g).elem.flushDue then s.modElem g fun e => { e with resident := [], flushDue := false } else s

/-- A write of ELEM_CTL.PM_FLUSH (R189): at the vale's next command boundary, or at once where none of its commands is
under way. -/
def pmFlushDo (g : Vale) (s : State) : State :=
  if s.resetting (.elem g) then s
  else
    let s := s.modElem g.val fun e => { e with flushDue := true }
    if (s.ofVale g.val).any fun e => e.2.dispatched.isSome then s else s.flushPm g.val

/-- PM_FLUSH (R189). -/
def execPmFlush (g : Vale) (s : State) : Host.Outcome State Fault Refusal := actBar .pf s (pmFlushDo g)

/-- A write of ELEM_CTL.CNT_CLR (R189). -/
def elemCntClrDo (g : Vale) (s : State) : State :=
  let b := pageBase (.elem g)
  if s.resetting (.elem g) then s else ((s.setReg64 (b + 0x50) 0).setReg64 (b + 0x58) 0).setReg64 (b + 0x60) 0

/-- ELEM_CNT_CLR (R189): BLOCKS, ISSUE and WAIT clear. -/
def execElemCntClr (g : Vale) (s : State) : Host.Outcome State Fault Refusal := actBar .pf s (elemCntClrDo g)

/-- What a vale's element engine loses when the vale is assigned to a partition (R159). -/
def State.cleanElement (s : State) (g : Nat) : State :=
  (s.modElem g fun e => { e with resident := [], lines := [] }).clearRange (2 ^ 45 + 2 ^ 20 * g) (2 ^ 45 + 2 ^ 20 * (g + 1))

end Sys2Proof.Machine
end

