-- ==== Sys2Proof/Machine/Completion.lean ====
section
/-! DEFINITION. Completion: how a command ends: its step close, its tokens, its void cause, its completion record and the
halt of its job (R61 to R65, R133, R259, R267 to R271). -/

namespace Sys2Proof.Machine

/-! ### Job blocks and the completion queue (R247, R273) -/

/-- The job block of job j of partition n. -/
def jobBase (n j : Nat) : Nat := partBase n + 0x1000 + 0x40 * j

/-- The slots of a ring whose SIZE register lies at a. -/
def State.ringSlots (s : State) (a : Nat) : Nat := 2 ^ s.regF a 3 0
/-- The base address of a ring whose BASE_LO register lies at a, HOST aside. -/
def State.ringBase (s : State) (a : Nat) : Nat := s.reg64 a % 2 ^ 63
/-- HOST of a ring (R247). -/
def State.ringHost (s : State) (a : Nat) : Bool := bitOf (s.reg64 a) 63

/-- A record put in the next completion slot; CQ_TAIL advances, and the message leaves (R267, R269, R270). -/
def State.postRecord (s : State) (n : Nat) (bs : List Byte) : State :=
  let b := partBase n
  let tail := s.regF (b + 0x200C) 14 0
  let a := s.ringBase (b + 0x2000) + 64 * tail
  let s := if s.ringHost (b + 0x2000) then s.emit (.hostWrite (.vf (Fin.ofNat 16 n)) (s.pasid (n + 1)) false a bs) else s.poke n a bs
  let next := (tail + 1) % s.ringSlots (b + 0x2008)
  let s := s.setRegF (b + 0x200C) 14 0 next
  let s := s.modPart n fun p =>
    { p with cqHeld := p.cqHeld + 1, cqPass := if next = 0 then p.cqPass + 1 else p.cqPass }
  if s.regBit (b + 0x2014) 0 && !(s.part n).cqMessage then
    (s.sendMsix (n + 1) (s.regF (b + 0x2014) 15 8)).modPart n fun p => { p with cqMessage := true }
  else s

/-- A job halts with a record's status and detail (R271). -/
def State.haltJob (s : State) (n j status detail : Nat) : State :=
  let a := jobBase n j + 0x18
  s.setReg a (setField (setField (setField (s.reg a) 0 0 1) 7 4 status) 11 8 detail)

/-- HALTED of a job (R271). -/
def State.jobHalted (s : State) (n j : Nat) : Bool := s.regBit (jobBase n j + 0x18) 0

/-- Whether a status halts its job (R268); `detail` JOB_HALTED does not. -/
def haltingStatus (status detail : Nat) : Bool :=
  (status == 1 && detail != 11) || status == 2 || status == 3 || status == 4 || status == 5 || status == 7

/-! ### The record (R267) -/

/-- What a completion record reports beside the command itself. -/
structure Report where
  void : Nat
  late : Bool
  closed : Bool
  xfer : Nat
  progAddr : Nat
  beat : Nat
  sub : Nat
  phase : Bool
deriving DecidableEq, Repr

/-- The word at 0x04. -/
def recordCtl (c : Cmd) (r : Report) : Nat :=
  c.status + 2 ^ 4 * c.detail + 2 ^ 8 * r.void + 2 ^ 12 * c.flags.toNat + boolBit r.late * 2 ^ 16 +
    boolBit c.spilled * 2 ^ 17 + boolBit c.reissued * 2 ^ 18 + boolBit r.closed * 2 ^ 19 + 2 ^ 24 * c.job

/-- The 64 bytes of a completion record (R267). -/
def recordBytes (k : Nat) (c : Cmd) (r : Report) : List Byte :=
  let d := c.dispatched.getD (0, 0)
  leBytes 4 c.id ++ leBytes 4 (recordCtl c r) ++ leBytes 4 (c.vale + k * 2 ^ 7 + 2 ^ 16 * r.progAddr) ++
    leBytes 4 c.sat ++ leBytes 8 d.1 ++ leBytes 8 r.beat ++ leBytes 4 (d.2 + 2 ^ 16 * r.sub) ++ leBytes 4 r.xfer ++
    leBytes 20 0 ++ leBytes 4 (boolBit r.phase * 2 ^ 31)

/-- XFER and PROG_ADDR of a record: what a status they do not belong to leaves there is open. -/
def openFields (c : Cmd) (s : State) : Nat × Nat × State :=
  let f := s.freeWord
  let x := if c.status = 4 ∨ c.status = 5 then c.xfer else bitsOf f.1.toNat 7 0
  let p := if c.status = 3 then c.progAddr else bitsOf f.1.toNat 17 8
  (x, p, f.2)

/-! ### The void cause (R61 to R63) -/

/-- The causes that apply to a metered command at its completion (R61). -/
def voidCauses (s : State) (c : Cmd) : List Nat :=
  let other := c.farKinds.any fun k => k.1 == 1 && (s.vale k.2).fenced
  let fence := !(s.part c.part.val).recheck.isEmpty || other
  if fence && !c.voids.contains 2 then c.voids ++ [2] else c.voids

/-- The void cause of a metered command (R61): where several apply the spec names none of them first, so the choice is
free; where none applies and the window has passed, BEAT_PHASE if the partner of a link it uses disagrees about the beat
(R42), else OVER_BOUND, which the health monitor counts (R63). -/
def meteredVoid (s : State) (c : Cmd) : Nat × State :=
  match voidCauses s c with
  | [] =>
    if (c.window.any fun w => decide (w.2 ≤ s.beatNum)) && c.dispatched.isSome then
      if c.links.any fun k => (s.link k).mismatch then (8, s) else (10, s.healthEvent 7 0 1)
    else (0, s)
  | [v] => (v, s)
  | vs => let f := s.freeWord; (vs.getD (f.1.toNat % vs.length) 0, f.2)

/-- The void cause that a record carries: OPEN in an open partition; none for a metered command that never ran. -/
def voidOf (s : State) (c : Cmd) : Nat × State :=
  if !s.metered c.part.val then (9, s)
  else if c.status = 1 ∨ c.status = 2 ∨ c.status = 6 then (0, s)
  else meteredVoid s c

/-- The report of a void cause (R62). -/
def State.reportVoid (s : State) (c : Cmd) (v : Nat) : State :=
  let s := s.setReg 0x74 (satInc (s.reg 0x74) 1)
  (s.beatEvent 0x100).moraine .voidCompletion (.part c.part) [v, c.id]

/-- A refusal of a metered command (R56, R57). -/
def State.reportRefusal (s : State) : State := (s.setReg 0x70 (satInc (s.reg 0x70) 1)).beatEvent 0x80

/-! ### The step close (R133) -/

/-- The step close of a command's OUT_TAG, and whether it was applied (R127, R133, R151). A dispatched command that was
not abandoned makes it, whatever its status. DEDUCED. -/
def State.stepClose (s : State) (k : Nat) (c : Cmd) : Bool × State :=
  if !c.stepClose || c.dispatched.isNone || c.status = 7 then (false, s)
  else
    let a := scaleAddr s c.part.val c.outTag
    let old := (s.readPda c.part.val a 128).1
    let t := s.updateRec k c c.outTag recClose
    match old with
    | .ok bs =>
      if s.pdaOk c.part.val a 128 true then (true, if recBurst bs then t.healthEvent 4 0 1 else t) else (false, t)
    | _ => (false, t)

/-! ### The end of a command -/

/-- What a command leaves behind in the units it used: lines that it was filling or draining, unfinished captures, fault
records and page requests of its transfers. -/
def State.releaseUnits (s : State) (k : Nat) (c : Cmd) : State :=
  let s := (List.range (c.fetch.length + c.store.length)).foldl (fun s x =>
    match c.xferAt x with
    | none => s
    | some t =>
      let e := c.entry x
      if !t.started ∨ (xDst e ≠ 0x0A ∧ xSrc e ≠ 0x0A) then s
      else ((xLines e).filter fun l => !t.lines.contains l.1).foldl (fun s l =>
        s.modLine c.vale l.1 fun y => if xDst e = 0x0A then { y with fills := y.fills - 1 } else { y with drains := y.drains - 1 }) s) s
  let p := c.vale / 8
  let s := if (s.echoOf p).tiles.any fun t => t.slot == some k then
      (s.modEcho p fun e => { e with tiles := e.tiles.filter fun t => t.slot != some k }).echoStat p else s
  s.modPart c.part.val fun q =>
    { q with prgs := q.prgs.filter (fun w => w.slot != k), faults := q.faults.filter fun r => !(r.slot == k && r.resumable) }

/-- The slot of a command in use again. -/
def State.freeSlot (s : State) (k : Nat) : State := s.setCmd k none

/-- The command in slot k ends with the status it carries (R133, R259, R267 to R271): step close, tokens, record, void
report, halt, and its slot is free. -/
def State.finish (s : State) (k : Nat) : State :=
  match s.cmd k with
  | none => s
  | some c =>
    let n := c.part.val
    let cl := s.stepClose k c
    let s := cl.2
    match s.cmd k with
    | none => s
    | some c =>
      let s := if c.status = 0 then (s.signal n (c.f 0x2C 11 0)).signal n (c.f 0x2C 27 16) else s
      let v := voidOf s c
      let o := openFields c v.2
      let s := o.2.2
      let late := c.dispatched.isSome && c.deadline != 0 && decide (c.deadline ≤ s.beatNum)
      let r : Report := { void := v.1, late := late, closed := cl.1, xfer := o.1, progAddr := o.2.1, beat := s.beatNum,
                          sub := s.subBeat, phase := (s.part n).cqPass % 2 == 0 }
      let s := s.postRecord n (recordBytes k c r)
      let s := if s.metered n && v.1 != 0 then s.reportVoid c v.1 else s
      let s := if s.metered n && c.status == 1 then s.reportRefusal else s
      let s := if haltingStatus c.status c.detail then s.haltJob n c.job c.status c.detail else s
      (s.releaseUnits k c).freeSlot k

/-- The command in slot k ends with a status and a detail. -/
def State.endWith (s : State) (k status detail : Nat) : State :=
  (s.modCmd k fun c => { c with status := status, detail := detail }).finish k

end Sys2Proof.Machine
end

