-- ==== Sys2Proof/Machine/Commands.lean ====
section
/-! DEFINITION. Commands: submit queues and the taking of descriptors (R247 to R251, R424), dispatch (R43, R252, R253),
early fetch (R225), the start of a STORE stage (R223), completion (R224), the completion queue (R267, R270), a job's halt
and cancellation (R271, R272), and the reissue of a fenced vale's commands (R485 to R487). -/

namespace Sys2Proof.Machine

/-! ### Doorbells and queue registers (R248, R267, R270, R271) -/

/-- A write of SQ_TAIL (R248): a tail at or above the slot count is discarded. -/
def sqDoorbellDo (n : PartId) (j : Job) (tail : BitVec 32) (s : State) : State :=
  let b := jobBase n.val j.val
  let t := bitsOf tail.toNat 14 0
  if s.pageOn n.val && decide (t < s.ringSlots (b + 0x08)) then s.setRegF (b + 0x0C) 14 0 t else s

/-- SQ_DOORBELL (R248). -/
def execSqDoorbell (n : PartId) (j : Job) (tail : BitVec 32) (s : State) : Host.Outcome State Fault Refusal :=
  actBar (.vf n) s (sqDoorbellDo n j tail)

/-- How many records a write of head h releases (R270): with every slot used, the head it already has releases all. DEDUCED. -/
def releasedBy (held old h slots : Nat) : Nat :=
  let d := (h + slots - old) % slots
  if d = 0 ∧ held = slots then slots else min d held

/-- A write of CQ_HEAD (R270). -/
def cqHeadDo (n : PartId) (v : BitVec 32) (s : State) : State :=
  let b := partBase n.val
  let h := bitsOf v.toNat 14 0
  let slots := s.ringSlots (b + 0x2008)
  if s.pageOn n.val && decide (h < slots) then
    let old := s.regF (b + 0x2010) 14 0
    (s.setRegF (b + 0x2010) 14 0 h).modPart n.val fun p =>
      { p with cqMessage := false, cqHeld := p.cqHeld - releasedBy p.cqHeld old h slots }
  else s

/-- CQ_HEAD_WRITE (R270). -/
def execCqHeadWrite (n : PartId) (v : BitVec 32) (s : State) : Host.Outcome State Fault Refusal :=
  actBar (.vf n) s (cqHeadDo n v)

/-- The address of a completion queue register. -/
def cqRegAddr (n : Nat) : CqReg → Nat
  | .baseLo => partBase n + 0x2000
  | .baseHi => partBase n + 0x2004
  | .size => partBase n + 0x2008

/-- Whether a write of a completion queue register takes effect (R12, R274, R283). -/
def cqConfigOk (n : PartId) (r : CqReg) (v : BitVec 32) (s : State) : Bool :=
  s.pageOn n.val && (s.ofPart n.val).isEmpty && (r != .size || decide (4 ≤ bitsOf v.toNat 3 0))

/-- A write of CQ_BASE or CQ_SIZE that takes effect (R267): CQ_TAIL and CQ_HEAD are 0, and passes count from 0. -/
def cqConfigDo (n : PartId) (r : CqReg) (v : BitVec 32) (s : State) : State :=
  let b := partBase n.val
  let s := s.storeReg (cqRegAddr n.val r) v
  ((s.setReg (b + 0x200C) 0#32).setReg (b + 0x2010) 0#32).modPart n.val fun p => { p with cqPass := 0, cqHeld := 0 }

/-- CQ_CONFIG_WRITE (R267). -/
def execCqConfigWrite (n : PartId) (r : CqReg) (v : BitVec 32) (s : State) : Host.Outcome State Fault Refusal :=
  actBar (.vf n) s fun s => if cqConfigOk n r v s then cqConfigDo n r v s else s

/-- JOB_CTL.RESUME (R271): the halt ends; HALT_STATUS and HALT_DETAIL stay (R274). -/
def jobResumeDo (n : PartId) (j : Job) (s : State) : State :=
  if s.pageOn n.val then s.setRegF (jobBase n.val j.val + 0x18) 0 0 0 else s

/-- JOB_RESUME (R271). -/
def execJobResume (n : PartId) (j : Job) (s : State) : Host.Outcome State Fault Refusal := actBar (.vf n) s (jobResumeDo n j)

/-- Commands in the order of their submission. -/
def bySubmission (es : List (Nat × Cmd)) : List (Nat × Cmd) :=
  es.foldl (fun out e => (out.filter fun x => decide (x.2.seqNo < e.2.seqNo)) ++ [e] ++
    out.filter fun x => decide (e.2.seqNo ≤ x.2.seqNo)) []

/-- Some commands end with a status and a detail, in submission order. -/
def State.endAll (s : State) (es : List (Nat × Cmd)) (status detail : Nat) : State :=
  (bySubmission es).foldl (fun s e => s.endWith e.1 status detail) s

/-- JOB_CTL.CANCEL (R272): the undispatched commands of the job end CANCELLED; one that a fence has sent back to the start
has dispatched. -/
def jobCancelDo (n : PartId) (j : Job) (s : State) : State :=
  if s.pageOn n.val then
    s.endAll ((s.ofPart n.val).filter fun e => e.2.job == j.val && e.2.dispatched.isNone && !e.2.reissued) 6 0
  else s

/-- JOB_CANCEL (R272). -/
def execJobCancel (n : PartId) (j : Job) (s : State) : Host.Outcome State Fault Refusal := actBar (.vf n) s (jobCancelDo n j)

/-- A write of SEQ_CTL.CNT_CLR (R594). -/
def seqCntClrDo (g : Vale) (s : State) : State :=
  if s.resetting (.seq g) then s else s.setReg64 (pageBase (.seq g) + 0x48) 0

/-- SEQ_CNT_CLR (R594): DISPATCH clears. -/
def execSeqCntClr (g : Vale) (s : State) : Host.Outcome State Fault Refusal := actBar .pf s (seqCntClrDo g)

/-! ### Taking a descriptor (R249 to R251, R266, R424) -/

/-- SLOT_FLOOR of partition n (R251). -/
def slotFloor (s : State) (n : Nat) : Nat := s.regF (pcfg n + 0x4C) 9 0

/-- The slots above all floors that open partitions use (R251). -/
def slotsShared (s : State) : Nat :=
  ((List.range 16).map fun n => if s.metered n then 0 else (s.ofPart n).length - slotFloor s n).foldl (· + ·) 0

/-- The slots above all partitions' floors (R251). -/
def slotsPool (s : State) : Nat :=
  512 - ((List.range 16).map fun n => if (s.part n).mode = .free then 0 else slotFloor s n).foldl (· + ·) 0

/-- Whether an in-flight slot is free to partition n (R251). -/
def slotFree (s : State) (n : Nat) : Bool :=
  decide ((s.ofPart n).length < slotFloor s n) || (!s.metered n && decide (slotsShared s < slotsPool s))

/-- Whether a completion queue slot can be reserved (R249). -/
def cqRoom (s : State) (n : Nat) : Bool :=
  decide ((s.part n).cqHeld + (s.ofPart n).length < s.ringSlots (partBase n + 0x2008))

/-- The vales of a set of partition n, ascending (R424). -/
def setVales (s : State) (n k : Nat) : List Nat := (s.usable n).filter fun g => (s.vale g).set == k

/-- The vale that a VALE field stands for (R424): an index into a set for PREFILL_JOB and DECODE_JOB while the ratio
controller is on; none while the set has no such vale. -/
def mapVale (s : State) (n j v : Nat) : Option Nat :=
  let ctl := (s.reg (partBase n + 0x5080)).toNat
  if !bitOf ctl 0 then some v
  else if j = bitsOf ctl 8 4 then (setVales s n 1)[v]?
  else if j = bitsOf ctl 16 12 then (setVales s n 2).reverse[v]?
  else some v

/-- Bytes read by the part for a command, zeros where they cannot be read. DEDUCED. -/
def State.readOr (s : State) (n a len : Nat) : List Byte × State :=
  match s.readPda n a len with
  | (.ok bs, s) => (bs, s)
  | (_, s) => (List.replicate len 0#8, s)

/-- Bytes at a queue address: of the host where HOST is set, else of the partition's pages. `host` are the bytes that host
memory returns. -/
def State.readQueue (s : State) (n : Nat) (isHost : Bool) (a len : Nat) (host : List Byte) : List Byte × List Byte × State :=
  if isHost then ((host ++ List.replicate len 0#8).take len, host.drop len, s)
  else let r := s.readOr n a len; (r.1, host, r.2)

/-- The bytes of a stage record (R262). -/
def srecLen (desc : List Byte) : Nat :=
  0x80 + 64 * (min 64 (bitsOf (w32At desc 0x3C) 7 0) + min 64 (bitsOf (w32At desc 0x3C) 15 8))

/-- Queue i of a command on vale g, as its entry sets it up (R220, R263). -/
def queueOf (k : Nat) (c : Cmd) (i : Nat) : Queue :=
  let e := queueEntry c.srec i
  if qeMode e = 0 then Queue.unused
  else
    let size := if 16 ≤ i then (qeSize e + 1) * tileBytes c.wfmt else if qePooled e then 2 ^ 40 else 2 ^ (qeSize e + 12)
    { Queue.unused with
      tile := if 16 ≤ i then tileBytes c.wfmt else 0, slot := if 16 ≤ i then tileSlot c.wfmt else 0, mode := qeMode e, pooled := qePooled e, addr := if qePooled e then poolAddr k i else storeAddr c.vale (qeBase e),
      size := size, floorG := qeFloor e }

/-- A command as it is taken, on its vale, before it has run (R244, R249, R487). -/
def Cmd.start (c : Cmd) (k g : Nat) : Cmd :=
  let c := { c with vale := g }
  { c with dispatched := none, early := false, ready := false, status := 0, detail := 0, progAddr := 0, xfer := 0xFF,
           flags := 0#4, sat := 0, spilled := false, fetch := List.replicate (min 64 c.nFetch) Xfer.fresh,
           store := List.replicate (min 64 c.nStore) Xfer.fresh,
           queues := (List.range 20).map (queueOf k c), matrix := MatrixSt.fresh,
           elem := { block := 0, ended := false, noIssue := false, slots := [], inWidth := [], rowCounts := [], pieces := 0 },
           coll := none, seeds := [], replays := [] }

/-- A command as read from its queue (R249). -/
def newCmd (n : PartId) (j k g seq beat : Nat) (desc srec ring : List Byte) : Cmd :=
  Cmd.start
    { part := n, job := j, desc := desc, srec := srec, ring := ring, vale := g, seqNo := seq, takenBeat := beat,
      admitted := false, window := none, dispatched := none, early := false, bound := false, ready := false, loads := [],
      partKey := 0, jobKey := 0, bindings := [], voids := [], status := 0, detail := 0, progAddr := 0, xfer := 0xFF,
      flags := 0#4, sat := 0, spilled := false, reissued := false, fetch := [], store := [],
      queues := [], matrix := MatrixSt.fresh,
      elem := { block := 0, ended := false, noIssue := false, slots := [], inWidth := [], rowCounts := [], pieces := 0 },
      coll := none, seeds := [], replays := [] } k g

/-- The next slot of a job's submit queue. -/
def sqNext (s : State) (n j : Nat) : Nat := s.regF (jobBase n j + 0x10) 14 0

/-- Whether the part can take the next descriptor of a job into slot k (R249, R251, R475). -/
def takeOk (n : PartId) (j : Job) (k : Nat) (s : State) : Bool :=
  let b := jobBase n.val j.val
  (s.part n.val).mode == .active && !s.holding && !s.queueEmpty (b + 0x0C) (b + 0x10) && (s.cmd k).isNone &&
    slotFree s n.val && cqRoom s n.val

/-- What the part does with a command it has taken into slot k (R250, R266, R271, R59): refusal, format error, or
admission. -/
def State.judge (s : State) (k : Nat) (c : Cmd) (sqHost : Bool) : State :=
  let n := c.part.val
  let met := s.metered n
  let err := formatError s c
  if s.jobHalted n c.job then s.endWith k 1 11
  else if met && (sqHost || s.ringHost (partBase n + 0x2000) || c.f 0x34 31 31 == 1) then s.endWith k 1 3
  else if err ≠ 0 then s.endWith k 2 err
  else
    let c := withLoads s c
    let code := admissionCode s k c
    if code ≠ 0 then s.endWith k 1 code
    else (s.setCmd k (some (c.takeIn met))).latchBindings n

/-- A descriptor that was read, with the rest of the host's bytes, becomes the command in slot k (R249), once its vale is
known: none where no vale takes it yet. -/
def takeOn (n : PartId) (j : Job) (k : Nat) (s : State) (d : List Byte × List Byte × State) : Option Nat → State
  | none => s
  | some g =>
    let b := jobBase n.val j.val
    let slots := s.ringSlots (b + 0x08)
    let head := sqNext s n.val j.val
    let rec_ := w64At d.1 0x30
    let r := d.2.2.readQueue n.val (bitOf rec_ 63) (rec_ % 2 ^ 63) (srecLen d.1) d.2.1
    let ring := if bitOf (w32At d.1 0) 11 then r.2.2.readOr n.val (w64At r.1 0x68) 48 else ([], r.2.2)
    let sqHost := s.ringHost b
    let s := ring.2.setRegF (b + 0x10) 14 0 ((head + 1) % slots)
    let c := newCmd n j.val k g (s.part n.val).nextSeq s.beatNum d.1 r.1 ring.1
    let s := (s.modPart n.val fun p => { p with nextSeq := p.nextSeq + 1 }).setCmd k (some c)
    s.judge k c sqHost

/-- The part takes the next descriptor of a job into slot k (R249): `host` are the bytes that host memory returns for the
descriptor and the stage record that lie there. -/
def takeDo (n : PartId) (j : Job) (k : Nat) (host : List Byte) (s : State) : State :=
  let b := jobBase n.val j.val
  let d := s.readQueue n.val (s.ringHost b) (s.ringBase b + 128 * sqNext s n.val j.val) 128 host
  takeOn n j k s d (mapVale d.2.2 n.val j.val (descVale d.1))

/-- DESCRIPTOR_TAKE (R249): the slot is any that is free; the spec does not say which the part picks. -/
def execDescriptorTake (n : PartId) (j : Job) (k : Slot) (host : List Byte) (s : State) :
    Host.Outcome State Fault Refusal :=
  act s fun s => if takeOk n j k.val s then takeDo n j k.val host s else s

/-! ### Dispatch (R43, R252, R253) -/

/-- The key registers of a partition and of a job (R83). -/
def State.partKey (s : State) (n : Nat) : Nat := s.reg64 (pcfg n + 0x70)
/-- The key of job j (R83). -/
def State.jobKey (s : State) (n j : Nat) : Nat := s.reg64 (pcfg n + 0x100 + 8 * j)

/-- Whether a collective's links are all open to its partition (R318). -/
def linksOpen (s : State) (c : Cmd) : Bool := c.links.all fun l => linkWeight s c.part.val l != 0

/-- A COLLECT stage at the dispatch of its command (R330, R343, R345): it waits for its links or retains its input; a
reissued member has started no attempt. -/
def CollSt.fresh (wait : Bool) (reissued : Bool) (beat : Nat) : CollSt :=
  { state := if wait then .linkWait else .retain, attempt := 0, started := !reissued, retained := 0, rails := [],
    landed := [], linkBuf := [], unclean := false, arrived := false, outSent := 0, progress := beat,
    close := CloseSt.fresh, ended := false }

/-- OUT_Q of a COLLECT stage that ends without all its output takes its mark (R224). -/
def Cmd.closeOutQ (c : Cmd) : Cmd := if c.outQEn then c.modQueue (8 + c.outQ) fun q => { q with eos := true } else c

/-- A COLLECT stage that never runs: it has ended. -/
def CollSt.never : CollSt := { CollSt.fresh false true 0 with ended := true }

/-- Whether a stage holds the VC of its links (R330): until its last lap has ended cleanly, and in doubt or failed (R338,
R341). -/
def CollSt.holdsVc (x : CollSt) : Bool :=
  !x.ended && (x.state == .inDoubt || x.state == .failed || (x.state != .linkWait && x.close.verdict != some true))

/-- Whether another stage holds the VC of a link that a command names, in the direction it names it (R330). -/
def State.vcBusy (s : State) (k : Nat) (c : Cmd) : Bool :=
  (s.ofPart c.part.val).any fun e => e.1 != k && e.2.coll.any (·.holdsVc) && c.members != 1 && e.2.members != 1 &&
    (List.range c.rails).any fun r => (List.range e.2.rails).any fun q =>
      c.linkOut r == e.2.linkOut q || c.linkIn r == e.2.linkIn q

/-- The fetch engine has the transfers of a command (R223, R225). -/
def State.startFetch (s : State) (k : Nat) : State :=
  match s.cmd k with
  | none => s
  | some c =>
    let s := s.modCmd k fun c => { c with ready := true }
    ((List.range c.fetch.length).filter fun x => !((c.fetch[x]?).any (·.started))).foldl (fun s x => s.issueXfer k x) s

/-- The void causes that stand when a metered command is dispatched (R47, R50). -/
def standingVoids (s : State) (c : Cmd) : Cmd :=
  if !s.metered c.part.val then c
  else
    let c := if s.beat.expiredVoid then c.addVoid 4 else c
    if s.beat.phaseVoid then c.addVoid 8 else c

/-- The command in slot k is dispatched now (R43, R252): it latches its keys and its bindings, and its FETCH starts. -/
def State.dispatch (s : State) (k : Nat) (c : Cmd) : State :=
  let n := c.part.val
  let s := s.modCmd k fun c =>
    let c := if c.bound then c else { c with bound := true, bindings := s.jobBindings n c.job }
    standingVoids s { c with dispatched := some (s.beatNum, s.subBeat), partKey := s.partKey n, jobKey := s.jobKey n c.job }
  let s := s.count64 (.seq (Fin.ofNat 128 c.vale)) 0x48 1
  let s :=
    if !c.hasColl then s
    else if linksOpen s c then
      s.modCmd k fun d => { d with coll := some (CollSt.fresh (s.vcBusy k c) c.reissued s.beatNum) }
    else s.modCmd k fun d => { (d.failXfer 5 0xFF).closeOutQ with coll := some CollSt.never }
  (s.startFetch k).matrixGo k

/-- Whether a command's wait tokens are satisfied; a reissued command's count as satisfied (R487). -/
def State.waitsMet (s : State) (c : Cmd) : Bool := c.reissued || s.waitsOk c

/-- The commands of a command's job on its vale that were submitted before it. -/
def State.predecessors (s : State) (k : Nat) (c : Cmd) : List (Nat × Cmd) :=
  (s.ofVale c.vale).filter fun e => e.1 != k && e.2.part == c.part && e.2.job == c.job && decide (e.2.seqNo < c.seqNo)

/-- The pooled floors of a command (R237). -/
def Cmd.floors (c : Cmd) : Nat := ((c.queues.filter (·.pooled)).map (·.floorG)).foldl (· + ·) 0

/-- Whether a destructive test waits for the next command boundary of vale g: its start has come (R254, R292). -/
def State.testDue (s : State) (g : Nat) : Bool :=
  s.tests.any fun e => e.2.any fun t =>
    (t.code == 3 || t.code == 4) && t.target == g && t.until_.isNone && t.starts.any fun b => decide (b ≤ s.beatNum)

/-- Whether nothing keeps a vale from dispatching at all: no fence, no destructive test, no hold (R293, R475, R485). -/
def State.valeOpen (s : State) (g : Nat) : Bool :=
  !(s.vale g).fenced && !(s.vale g).test && !s.testDue g && !s.holding

/-- The clock at which a metered command is scheduled, while its beat lasts (R43). -/
def scheduledClock (s : State) (c : Cmd) : Nat := s.beat.edgeClock + c.startOfs

/-- Whether a metered command can be dispatched (R43, R253): its beat has come, its tokens are satisfied, and its job's
earlier commands on its vale have completed. -/
def scheduledOk (k : Nat) (s : State) : Bool :=
  match s.cmd k with
  | none => false
  | some c =>
    s.metered c.part.val && c.admitted && c.dispatched.isNone && s.valeOpen c.vale && s.waitsMet c &&
      decide (c.startBeat ≤ s.beatNum) && (s.predecessors k c).isEmpty

/-- Whether a dispatch comes later than R43 allows: after its beat, or more than ten clocks after its offset. -/
def lateDispatch (s : State) (c : Cmd) : Bool :=
  decide (c.startBeat < s.beatNum) || decide (scheduledClock s c + 10 < s.clock)

/-- A metered command is dispatched (R43): in its beat the clocks up to its offset pass; a dispatch that waits, a hold or a
fence or a beat number aside, delayed was UPSTREAM (R61, R253). -/
def scheduledDo (k : Nat) (s : State) : State :=
  match s.cmd k with
  | none => s
  | some c =>
    let s := if c.startBeat = s.beatNum then s.pass (scheduledClock s c - s.clock) else s
    let s := if lateDispatch s c && !c.reissued && !c.voids.contains 6 && !s.beat.phaseVoid then
        s.modCmd k fun c => c.addVoid 7 else s
    s.dispatch k c

/-- SCHEDULED_DISPATCH (R43). -/
def execScheduledDispatch (k : Slot) (s : State) : Host.Outcome State Fault Refusal :=
  act s fun s => if scheduledOk k.val s then scheduledDo k.val s else s

/-- Whether an earlier command has ended the stage of a kind: 0 FETCH, 1 MATRIX, 2 ELEMENT, 3 COLLECT, 4 STORE. -/
def Cmd.stageOver (c : Cmd) (kind : Nat) : Bool :=
  if kind = 0 then c.fetchEnded
  else if kind = 1 then c.matrixEnded
  else if kind = 2 then !c.hasElem || c.elem.ended
  else if kind = 3 then !c.hasColl || c.coll.any (·.ended)
  else c.storeEnded

/-- The kind of a command's first stage (R257). -/
def Cmd.firstStage (c : Cmd) : Nat :=
  if c.hasFetch then 0 else if c.hasMatrix then 1 else if c.hasElem then 2 else if c.hasColl then 3 else 4

/-- Whether a command's engines are free (R228): with OVERLAP the engine of its first stage; without, no command runs on
the vale. A command of another job whose slice has ended runs on first (R254). -/
def enginesFree (s : State) (k : Nat) (c : Cmd) : Bool :=
  ((s.ofVale c.vale).filter fun e => e.1 != k && e.2.dispatched.isSome).all fun e =>
    c.overlap && e.2.stageOver c.firstStage &&
      (e.2.job == c.job || s.holds e.2.part.val e.2.job c.vale s.beatNum)

/-- Whether an open command can be dispatched (R237, R252). -/
def openOk (k : Nat) (s : State) : Bool :=
  match s.cmd k with
  | none => false
  | some c =>
    let n := c.part.val
    !s.metered n && c.admitted && c.dispatched.isNone && s.valeOpen c.vale && s.waitsMet c &&
      decide (c.startBeat ≤ s.beatNum) && s.holds n c.job c.vale s.beatNum && enginesFree s k c &&
      ((s.predecessors k c).all fun e => e.2.dispatched.isSome) && (c.ready || decide (c.floors ≤ s.poolFree n c.vale))

/-- OPEN_DISPATCH (R252). -/
def execOpenDispatch (k : Slot) (s : State) : Host.Outcome State Fault Refusal :=
  act s fun s =>
    match s.cmd k.val with
    | some c => if openOk k.val s then s.dispatch k.val c else s
    | none => s

/-! ### Early fetch (R225 to R227) -/

/-- The operand cache lines that a command's transfers and its OC_ZERO touch. -/
def Cmd.lineSet (c : Cmd) : List Nat :=
  ((List.range (c.nFetch + c.nStore)).flatMap fun x =>
    if xDst (c.entry x) = 0x0A ∨ xSrc (c.entry x) = 0x0A then (xLines (c.entry x)).map (·.1) else []) ++
    (List.range c.ocZeroCount).map fun i => (c.ocZeroFirst + i) % 1024

/-- Whether the buffers or lines of two commands overlap (R225). -/
def clash (a b : Cmd) : Bool :=
  (a.buffers.any fun x => b.buffers.any (overlap2 x)) || a.lineSet.any fun l => b.lineSet.contains l

/-- Whether a command's FETCH stage may start before its dispatch (R225, R239, R332). -/
def earlyOk (k : Nat) (s : State) : Bool :=
  match s.cmd k with
  | none => false
  | some c =>
    let g := c.vale
    let next := (s.ofVale g).filter fun e => e.2.dispatched.isNone && e.2.part == c.part && decide (e.2.seqNo < c.seqNo)
    let pg : Page := .stream (Fin.ofNat 128 g)
    c.hasFetch && c.admitted && c.dispatched.isNone && !c.early && s.valeOpen g && s.waitsMet c && !s.lapping g &&
      decide (next.length < s.regF (pageBase pg + 0x40) 1 0) && (s.vale g).owner == some c.part &&
      (((s.ofVale g).filter fun e => e.2.dispatched.isSome).all fun e => e.2.part == c.part && !clash c e.2) &&
      decide (c.floors ≤ s.poolFree c.part.val g)

/-- A command's FETCH stage starts early (R225). -/
def earlyDo (k : Nat) (s : State) : State :=
  (s.modCmd k fun c =>
    { c with early := true, bound := true,
             bindings := if c.bound then c.bindings else s.jobBindings c.part.val c.job }).startFetch k

/-- EARLY_FETCH (R225). -/
def execEarlyFetch (k : Slot) (s : State) : Host.Outcome State Fault Refusal :=
  act s fun s => if earlyOk k.val s then earlyDo k.val s else s

/-! ### The STORE stage and the end (R223, R224) -/

/-- Whether a STORE transfer can be issued (R223): its queue has an element or its mark, its region a released row, or,
for lines, the ELEMENT stage has ended. DEDUCED. -/
def storeReady (c : Cmd) (x : Nat) : Bool :=
  let e := c.entry x
  let q := c.queue (8 + xQ e)
  if xSrc e = 0x0B then q.eos || decide (0 < q.held)
  else if xSrc e = 0x0C then decide (0 < c.matrix.released)
  else (!c.hasElem || c.elem.ended) && (!c.hasMatrix || c.matrixEnded) && c.fetchEnded

/-- The STORE transfers that can be issued now. -/
def storeNow (s : State) (k : Nat) (c : Cmd) : List Nat :=
  if s.running c && c.hasStore && s.stageTurn k c && (s.earlier k c).all fun e => e.2.storeEnded then
    ((List.range c.store.length).filter fun i =>
      !((c.store[i]?).any (·.started)) && storeReady c (c.fetch.length + i)).map (c.fetch.length + ·)
  else []

/-- STORE_STAGE_START (R223): the transfers whose source has its first element are issued. -/
def execStoreStageStart (k : Slot) (s : State) : Host.Outcome State Fault Refusal :=
  act s fun s =>
    match s.cmd k.val with
    | none => s
    | some c =>
      let xs := storeNow s k.val c
      xs.foldl (fun s x => s.issueXfer k.val x) s

/-- Whether a command stopped on a program error, or issued no instruction because a program block could not be loaded
(R219, R598). -/
def Cmd.cutShort (c : Cmd) : Bool := c.status == 3 || c.elem.noIssue

/-- Whether a command's FETCH stage is over: of a command cut short, a transfer into a queue that nobody reads any more is
not waited for. DEDUCED. -/
def Cmd.fetchOver (c : Cmd) : Bool :=
  (List.range c.fetch.length).all fun x =>
    (c.fetch[x]?).any fun t => t.done || (c.cutShort && t.stop.isNone && xDst (c.entry x) == 8 &&
      !(c.hasMatrix && !c.aFromStore && xQ (c.entry x) == c.aQueue))

/-- Whether every stage of a command has ended (R219, R224, R598). -/
def Cmd.allEnded (c : Cmd) : Bool :=
  c.fetchOver && c.matrixEnded && (!c.hasElem || c.elem.ended) && c.storeEnded &&
    (!c.hasColl || c.cutShort || c.coll.any (·.ended))

/-- Whether a command completes (R224). -/
def completeOk (k : Nat) (s : State) : Bool :=
  match s.cmd k with
  | none => false
  | some c => s.running c && c.allEnded

/-- A command completes (R224); its vale is at a command boundary (R189). -/
def completeDo (k : Nat) (s : State) : State :=
  match s.cmd k with
  | none => s
  | some c => (s.finish k).flushPm c.vale

/-- COMMAND_COMPLETE (R224). -/
def execCommandComplete (k : Slot) (s : State) : Host.Outcome State Fault Refusal :=
  act s fun s => if completeOk k.val s then completeDo k.val s else s

/-! ### Admission again (R51, R290) -/

/-- The admitted metered commands not yet dispatched, of partitions that pass a test, in submission order. -/
def State.admittedOnes (s : State) (p : Nat → Bool) : List (Nat × Cmd) :=
  (bySubmission (s.inFlight.filter fun e =>
    e.2.admitted && e.2.dispatched.isNone && !e.2.reissued && s.metered e.2.part.val && p e.2.part.val))

/-- One command is checked again: it is refused where it no longer fits (R51, R290). -/
def State.recheckCmd (s : State) (k : Nat) : State :=
  match s.cmd k with
  | none => s
  | some c =>
    let code := meteredCode s k c
    if code = 0 then s else s.endWith k 1 code

/-- A write of BEAT_CTL.REARM (R51). -/
def rearmDo (s : State) : State :=
  if s.beat.state != .locked then s
  else
    let b := s.beat
    let s := { s with beat := { b with meteredValid := true, expiredVoid := false, phaseVoid := false } }
    (s.admittedOnes fun _ => true).foldl (fun s e => s.recheckCmd e.1) s

/-- REARM (R51). -/
def execRearm (s : State) : Host.Outcome State Fault Refusal := actBar .pf s rearmDo

/-! ### Reissue (R485 to R487) -/

/-- The vale with the fewest commands of a partition in flight, the lowest on ties (R486). -/
def fewest (s : State) (n : Nat) (gs : List Nat) : Option Nat :=
  let load := fun (g : Nat) => ((s.ofVale g).filter fun e => e.2.part.val == n).length
  gs.foldl (fun best g => match best with
    | none => some g
    | some b => if load g < load b then some g else some b) none

/-- The vale to which a command of a fenced vale goes (R486). -/
def reissueVale (s : State) (c : Cmd) : Option Nat :=
  let n := c.part.val
  let r := (s.reg (pcfg n + 0xC8)).toNat
  let on := s.regBit (partBase n + 0x5080) 0
  match bitsOf r 9 8 with
  | 0 => fewest s n ((s.usable n).filter fun g => !on || (s.vale g).set == (s.vale c.vale).lastSet)
  | 1 => (s.usable n).find? fun g => g == bitsOf r 6 0
  | _ => none

/-- Whether a command depends on a vale store that a fence has lost (R486). -/
def lostStore (s : State) (c : Cmd) : Bool :=
  ((List.range c.nFetch).any fun x => xSrc (c.entry x) == 0) || (c.hasMatrix && c.aFromStore) ||
    c.farKinds.any fun k => k.1 == 1 && (s.vale k.2).fenced

/-- Whether a command of a fenced vale is due for reissue (R485): it has dispatched, or its partition is open. -/
def reissueOk (k : Nat) (s : State) : Bool :=
  match s.cmd k with
  | none => false
  | some c => (s.vale c.vale).fenced && !s.holding && (c.dispatched.isSome || c.reissued || !s.metered c.part.val)

/-- A command of a fenced vale is reissued, or ends ABANDONED (R486, R487). -/
def reissueDo (k : Nat) (s : State) : State :=
  match s.cmd k with
  | none => s
  | some c =>
    let n := c.part.val
    let s := if s.metered n then s.modCmd k fun c => c.addVoid 2 else s
    match (if lostStore s c then none else reissueVale s c) with
    | none => s.endWith k 7 0
    | some g =>
      let s := (s.releaseUnits k c).modCmd k fun c =>
        { c.start k g with reissued := true, bound := true,
                           bindings := if c.bound then c.bindings else s.jobBindings n c.job }
      s.count (.seq (Fin.ofNat 128 g)) 0x50 1

/-- COMMAND_REISSUE (R486). -/
def execCommandReissue (k : Slot) (s : State) : Host.Outcome State Fault Refusal :=
  act s fun s => if reissueOk k.val s then reissueDo k.val s else s

end Sys2Proof.Machine
end

