-- ==== Sys2Proof/Machine/ElementOps.lean ====
section
/-! DEFINITION. ElementOps: the element instructions that work lane by lane: arithmetic, logic, moves, compares,
conversions, table functions, draws and lane state (R195 to R204, R211, R212, R217, R218). Each runs only as the next
instruction of its engine's program (R162, R186); a field that breaks R193 stops the stage (R219). -/

namespace Sys2Proof.Machine

/-- Entry c of the second-moment codebook (R389): (c / 255)^4 rounded once to FP32. -/
def mom2Entry (c : Nat) : Word :=
  BitVec.ofNat 32 (fp32.round (Val.div (.fin false (c ^ 4) 0) (.fin false (255 ^ 4) 0))).code

/-- The formats that CVT takes (R202). -/
def cvtFormat (f : Nat) : Bool := decide (f < 8) || f == 10 || f == 11

/-- The effect of NOP (R194): nothing. -/
def doNop (g : Nat) (i : RFmt) (s : State) : State :=
  s.issue g (fun _ _ _ => resvErr (i.d != 0 || i.a != 0 || i.b != 0 || i.c != 0 || i.mod != 0)) (fun _ _ _ => .none)
    (fun _ _ _ => 1) (fun s _ _ _ => s) Blk.next

/-- NOP (R194). -/
def execNop (g : Vale) (i : RFmt) (s : State) : Host.Outcome State Fault Refusal :=
  act s fun s => if issueOk g.val (wordR i 0x0) s then doNop g.val i s else s

/-- The effect of FADD (R195): d = a + b, rounded once. -/
def doFadd (g : Nat) (i : RFmt) (s : State) : State :=
  s.issueLane g i (i.c != 0 || i.mod != 0) 1 fun l => opFadd (l.reg i.a.toNat) (l.reg i.b.toNat)

/-- FADD (R195): d = a + b, rounded once. -/
def execFadd (g : Vale) (i : RFmt) (s : State) : Host.Outcome State Fault Refusal :=
  act s fun s => if issueOk g.val (wordR i 0x1) s then doFadd g.val i s else s

/-- The effect of FSUB (R195): d = a - b, rounded once. -/
def doFsub (g : Nat) (i : RFmt) (s : State) : State :=
  s.issueLane g i (i.c != 0 || i.mod != 0) 1 fun l => opFsub (l.reg i.a.toNat) (l.reg i.b.toNat)

/-- FSUB (R195): d = a - b, rounded once. -/
def execFsub (g : Vale) (i : RFmt) (s : State) : Host.Outcome State Fault Refusal :=
  act s fun s => if issueOk g.val (wordR i 0x2) s then doFsub g.val i s else s

/-- The effect of FMUL (R195): d = a b, rounded once. -/
def doFmul (g : Nat) (i : RFmt) (s : State) : State :=
  s.issueLane g i (i.c != 0 || i.mod != 0) 1 fun l => opFmul (l.reg i.a.toNat) (l.reg i.b.toNat)

/-- FMUL (R195): d = a b, rounded once. -/
def execFmul (g : Vale) (i : RFmt) (s : State) : Host.Outcome State Fault Refusal :=
  act s fun s => if issueOk g.val (wordR i 0x3) s then doFmul g.val i s else s

/-- The effect of FFMA (R195): d = a b + c, rounded once. -/
def doFfma (g : Nat) (i : RFmt) (s : State) : State :=
  s.issueLane g i (i.mod != 0) 1 fun l => opFfma (l.reg i.a.toNat) (l.reg i.b.toNat) (l.reg i.c.toNat)

/-- FFMA (R195): d = a b + c, rounded once. -/
def execFfma (g : Vale) (i : RFmt) (s : State) : Host.Outcome State Fault Refusal :=
  act s fun s => if issueOk g.val (wordR i 0x4) s then doFfma g.val i s else s

/-- The effect of FMIN (R196): the smaller, -0 below +0. -/
def doFmin (g : Nat) (i : RFmt) (s : State) : State :=
  s.issueLane g i (i.c != 0 || i.mod != 0) 1 fun l => opFmin (l.reg i.a.toNat) (l.reg i.b.toNat)

/-- FMIN (R196): the smaller, -0 below +0. -/
def execFmin (g : Vale) (i : RFmt) (s : State) : Host.Outcome State Fault Refusal :=
  act s fun s => if issueOk g.val (wordR i 0x5) s then doFmin g.val i s else s

/-- The effect of FMAX (R196): the larger, -0 below +0. -/
def doFmax (g : Nat) (i : RFmt) (s : State) : State :=
  s.issueLane g i (i.c != 0 || i.mod != 0) 1 fun l => opFmax (l.reg i.a.toNat) (l.reg i.b.toNat)

/-- FMAX (R196): the larger, -0 below +0. -/
def execFmax (g : Vale) (i : RFmt) (s : State) : Host.Outcome State Fault Refusal :=
  act s fun s => if issueOk g.val (wordR i 0x6) s then doFmax g.val i s else s

/-- The effect of FABS (R196): the magnitude. -/
def doFabs (g : Nat) (i : RFmt) (s : State) : State :=
  s.issueLane g i (i.b != 0 || i.c != 0 || i.mod != 0) 1 fun l => opFabs (l.reg i.a.toNat)

/-- FABS (R196): the magnitude. -/
def execFabs (g : Vale) (i : RFmt) (s : State) : Host.Outcome State Fault Refusal :=
  act s fun s => if issueOk g.val (wordR i 0x7) s then doFabs g.val i s else s

/-- The effect of FNEG (R196): the negative. -/
def doFneg (g : Nat) (i : RFmt) (s : State) : State :=
  s.issueLane g i (i.b != 0 || i.c != 0 || i.mod != 0) 1 fun l => opFneg (l.reg i.a.toNat)

/-- FNEG (R196): the negative. -/
def execFneg (g : Vale) (i : RFmt) (s : State) : Host.Outcome State Fault Refusal :=
  act s fun s => if issueOk g.val (wordR i 0x8) s then doFneg g.val i s else s

/-- The effect of FDIV (R197): d = a / b. -/
def doFdiv (g : Nat) (i : RFmt) (s : State) : State :=
  s.issueLane g i (i.c != 0 || i.mod != 0) 4 fun l => opFdiv (l.reg i.a.toNat) (l.reg i.b.toNat)

/-- FDIV (R197): d = a / b. -/
def execFdiv (g : Vale) (i : RFmt) (s : State) : Host.Outcome State Fault Refusal :=
  act s fun s => if issueOk g.val (wordR i 0x9) s then doFdiv g.val i s else s

/-- The effect of FSQRT (R197): the square root. -/
def doFsqrt (g : Nat) (i : RFmt) (s : State) : State :=
  s.issueLane g i (i.b != 0 || i.c != 0 || i.mod != 0) 4 fun l => opFsqrt (l.reg i.a.toNat)

/-- FSQRT (R197): the square root. -/
def execFsqrt (g : Vale) (i : RFmt) (s : State) : Host.Outcome State Fault Refusal :=
  act s fun s => if issueOk g.val (wordR i 0xa) s then doFsqrt g.val i s else s

/-- The effect of FRSQ (R197): the reciprocal square root. -/
def doFrsq (g : Nat) (i : RFmt) (s : State) : State :=
  s.issueLane g i (i.b != 0 || i.c != 0 || i.mod != 0) 4 fun l => opFrsq (l.reg i.a.toNat)

/-- FRSQ (R197): the reciprocal square root. -/
def execFrsq (g : Vale) (i : RFmt) (s : State) : Host.Outcome State Fault Refusal :=
  act s fun s => if issueOk g.val (wordR i 0xb) s then doFrsq g.val i s else s

/-- The effect of TFN (R204): the built-in table function that MOD names. -/
def doTfn (g : Nat) (i : RFmt) (s : State) : State :=
  s.issueLane g i (i.b != 0 || i.c != 0 || decide (4 < i.mod.toNat)) 2 fun l => opTfn i.mod.toNat mom2Entry (l.reg i.a.toNat)

/-- TFN (R204): the built-in table function that MOD names. -/
def execTfn (g : Vale) (i : RFmt) (s : State) : Host.Outcome State Fault Refusal :=
  act s fun s => if issueOk g.val (wordR i 0xd) s then doTfn g.val i s else s

/-- The effect of IADD (R198): d = a + b, saturated. -/
def doIadd (g : Nat) (i : RFmt) (s : State) : State :=
  s.issueLane g i (i.c != 0 || i.mod != 0) 1 fun l => opIadd (l.reg i.a.toNat) (l.reg i.b.toNat)

/-- IADD (R198): d = a + b, saturated. -/
def execIadd (g : Vale) (i : RFmt) (s : State) : Host.Outcome State Fault Refusal :=
  act s fun s => if issueOk g.val (wordR i 0x10) s then doIadd g.val i s else s

/-- The effect of ISUB (R198): d = a - b, saturated. -/
def doIsub (g : Nat) (i : RFmt) (s : State) : State :=
  s.issueLane g i (i.c != 0 || i.mod != 0) 1 fun l => opIsub (l.reg i.a.toNat) (l.reg i.b.toNat)

/-- ISUB (R198): d = a - b, saturated. -/
def execIsub (g : Vale) (i : RFmt) (s : State) : Host.Outcome State Fault Refusal :=
  act s fun s => if issueOk g.val (wordR i 0x11) s then doIsub g.val i s else s

/-- The effect of IMUL (R198): d = a b, saturated. -/
def doImul (g : Nat) (i : RFmt) (s : State) : State :=
  s.issueLane g i (i.c != 0 || i.mod != 0) 1 fun l => opImul (l.reg i.a.toNat) (l.reg i.b.toNat)

/-- IMUL (R198): d = a b, saturated. -/
def execImul (g : Vale) (i : RFmt) (s : State) : Host.Outcome State Fault Refusal :=
  act s fun s => if issueOk g.val (wordR i 0x12) s then doImul g.val i s else s

/-- The effect of IMIN (R198): the smaller, unsigned when MOD[0]. -/
def doImin (g : Nat) (i : RFmt) (s : State) : State :=
  s.issueLane g i (i.c != 0 || decide (1 < i.mod.toNat)) 1 fun l => opImin (i.mod == 1) (l.reg i.a.toNat) (l.reg i.b.toNat)

/-- IMIN (R198): the smaller, unsigned when MOD[0]. -/
def execImin (g : Vale) (i : RFmt) (s : State) : Host.Outcome State Fault Refusal :=
  act s fun s => if issueOk g.val (wordR i 0x13) s then doImin g.val i s else s

/-- The effect of IMAX (R198): the larger, unsigned when MOD[0]. -/
def doImax (g : Nat) (i : RFmt) (s : State) : State :=
  s.issueLane g i (i.c != 0 || decide (1 < i.mod.toNat)) 1 fun l => opImax (i.mod == 1) (l.reg i.a.toNat) (l.reg i.b.toNat)

/-- IMAX (R198): the larger, unsigned when MOD[0]. -/
def execImax (g : Vale) (i : RFmt) (s : State) : Host.Outcome State Fault Refusal :=
  act s fun s => if issueOk g.val (wordR i 0x14) s then doImax g.val i s else s

/-- The effect of IABS (R198): the magnitude, saturated. -/
def doIabs (g : Nat) (i : RFmt) (s : State) : State :=
  s.issueLane g i (i.b != 0 || i.c != 0 || i.mod != 0) 1 fun l => opIabs (l.reg i.a.toNat)

/-- IABS (R198): the magnitude, saturated. -/
def execIabs (g : Vale) (i : RFmt) (s : State) : Host.Outcome State Fault Refusal :=
  act s fun s => if issueOk g.val (wordR i 0x15) s then doIabs g.val i s else s

/-- The effect of AND (R199): d = a and b. -/
def doAnd (g : Nat) (i : RFmt) (s : State) : State :=
  s.issueLane g i (i.c != 0 || i.mod != 0) 1 fun l => opAnd (l.reg i.a.toNat) (l.reg i.b.toNat)

/-- AND (R199): d = a and b. -/
def execAnd (g : Vale) (i : RFmt) (s : State) : Host.Outcome State Fault Refusal :=
  act s fun s => if issueOk g.val (wordR i 0x18) s then doAnd g.val i s else s

/-- The effect of OR (R199): d = a or b. -/
def doOr (g : Nat) (i : RFmt) (s : State) : State :=
  s.issueLane g i (i.c != 0 || i.mod != 0) 1 fun l => opOr (l.reg i.a.toNat) (l.reg i.b.toNat)

/-- OR (R199): d = a or b. -/
def execOr (g : Vale) (i : RFmt) (s : State) : Host.Outcome State Fault Refusal :=
  act s fun s => if issueOk g.val (wordR i 0x19) s then doOr g.val i s else s

/-- The effect of XOR (R199): d = a xor b. -/
def doXor (g : Nat) (i : RFmt) (s : State) : State :=
  s.issueLane g i (i.c != 0 || i.mod != 0) 1 fun l => opXor (l.reg i.a.toNat) (l.reg i.b.toNat)

/-- XOR (R199): d = a xor b. -/
def execXor (g : Vale) (i : RFmt) (s : State) : Host.Outcome State Fault Refusal :=
  act s fun s => if issueOk g.val (wordR i 0x1a) s then doXor g.val i s else s

/-- The effect of SHL (R199): a shifted left by b[4:0]. -/
def doShl (g : Nat) (i : RFmt) (s : State) : State :=
  s.issueLane g i (i.c != 0 || i.mod != 0) 1 fun l => opShl (l.reg i.a.toNat) (l.reg i.b.toNat)

/-- SHL (R199): a shifted left by b[4:0]. -/
def execShl (g : Vale) (i : RFmt) (s : State) : Host.Outcome State Fault Refusal :=
  act s fun s => if issueOk g.val (wordR i 0x1b) s then doShl g.val i s else s

/-- The effect of SHR (R199): a shifted right by b[4:0], arithmetic when MOD[0]. -/
def doShr (g : Nat) (i : RFmt) (s : State) : State :=
  s.issueLane g i (i.c != 0 || decide (1 < i.mod.toNat)) 1 fun l => opShr (i.mod == 1) (l.reg i.a.toNat) (l.reg i.b.toNat)

/-- SHR (R199): a shifted right by b[4:0], arithmetic when MOD[0]. -/
def execShr (g : Vale) (i : RFmt) (s : State) : Host.Outcome State Fault Refusal :=
  act s fun s => if issueOk g.val (wordR i 0x1c) s then doShr g.val i s else s

/-- The effect of SEL (R199): a where predicate C[8:6] is set, else b. -/
def doSel (g : Nat) (i : RFmt) (s : State) : State :=
  s.issueLane g i (i.mod != 0 || decide (8 ≤ i.c.toNat)) 1 fun l => LaneRes.plain (if l.pred (i.c.toNat % 8) then l.reg i.a.toNat else l.reg i.b.toNat)

/-- SEL (R199): a where predicate C[8:6] is set, else b. -/
def execSel (g : Vale) (i : RFmt) (s : State) : Host.Outcome State Fault Refusal :=
  act s fun s => if issueOk g.val (wordR i 0x1d) s then doSel g.val i s else s

/-- The effect of MOV (R199): d = a. -/
def doMov (g : Nat) (i : RFmt) (s : State) : State :=
  s.issueLane g i (i.b != 0 || i.c != 0 || i.mod != 0) 1 fun l => LaneRes.plain (l.reg i.a.toNat)

/-- MOV (R199): d = a. -/
def execMov (g : Vale) (i : RFmt) (s : State) : Host.Outcome State Fault Refusal :=
  act s fun s => if issueOk g.val (wordR i 0x1e) s then doMov g.val i s else s

/-- The effect of CVT (R202): a converted from format B to format C. -/
def doCvt (g : Nat) (i : RFmt) (s : State) : State :=
  s.issueLane g i (i.mod != 0 || !cvtFormat i.b.toNat || !cvtFormat i.c.toNat) 1 fun l => opCvt i.b.toNat i.c.toNat (l.reg i.a.toNat)

/-- CVT (R202): a converted from format B to format C. -/
def execCvt (g : Vale) (i : RFmt) (s : State) : Host.Outcome State Fault Refusal :=
  act s fun s => if issueOk g.val (wordR i 0x20) s then doCvt g.val i s else s

/-- The effect of FCMP (R200): pd = a cond b, FP32. -/
def doFcmp (g : Nat) (i : RFmt) (s : State) : State :=
  s.issuePred g i (decide (8 ≤ i.d.toNat) || i.c != 0 || decide (6 < i.mod.toNat)) fun s _ _ j =>
    condFp i.mod.toNat ((s.lane g j).reg i.a.toNat) ((s.lane g j).reg i.b.toNat)

/-- FCMP (R200). -/
def execFcmp (g : Vale) (i : RFmt) (s : State) : Host.Outcome State Fault Refusal :=
  act s fun s => if issueOk g.val (wordR i 0xc) s then doFcmp g.val i s else s

/-- The effect of ICMP (R200): pd = a cond b, INT32, unsigned when MOD[3]. -/
def doIcmp (g : Nat) (i : RFmt) (s : State) : State :=
  s.issuePred g i (decide (8 ≤ i.d.toNat) || i.c != 0 || decide (15 < i.mod.toNat) || decide (5 < i.mod.toNat % 8))
    fun s _ _ j =>
      condInt (bitOf i.mod.toNat 3) (i.mod.toNat % 8) ((s.lane g j).reg i.a.toNat) ((s.lane g j).reg i.b.toNat)

/-- ICMP (R200). -/
def execIcmp (g : Vale) (i : RFmt) (s : State) : Host.Outcome State Fault Refusal :=
  act s fun s => if issueOk g.val (wordR i 0x16) s then doIcmp g.val i s else s

/-- The lowest live, active lane of the row group of lane j (R201). -/
def headLane (c : Cmd) (b : Blk) (j : Nat) : Nat :=
  ((List.range 256).find? fun i =>
    b.active i && (c.place c.elem.block i).1 == (c.place c.elem.block j).1).getD j

/-- The effect of PSET (R201): pd = FIRST, LAST or HEAD. -/
def doPset (g : Nat) (i : RFmt) (s : State) : State :=
  s.issuePred g i (decide (8 ≤ i.d.toNat) || i.a != 0 || i.b != 0 || i.c != 0 || decide (2 < i.mod.toNat))
    fun _ c b j =>
      let row := (c.place c.elem.block j).1
      if i.mod = 0 then c.elem.block == (c.rowSpan row).1
      else if i.mod = 1 then c.lastOf c.elem.block row b.final
      else headLane c b j == j

/-- PSET (R201). -/
def execPset (g : Vale) (i : RFmt) (s : State) : Host.Outcome State Fault Refusal :=
  act s fun s => if issueOk g.val (wordR i 0x30) s then doPset g.val i s else s

/-- The effect of PLOG (R201): pd = pa op pb. -/
def doPlog (g : Nat) (i : RFmt) (s : State) : State :=
  s.issuePred g i (decide (8 ≤ i.d.toNat) || decide (8 ≤ i.a.toNat) || decide (8 ≤ i.b.toNat) || i.c != 0 ||
      decide (3 < i.mod.toNat)) fun s _ _ j =>
    logOp i.mod.toNat ((s.lane g j).pred (i.a.toNat % 8)) ((s.lane g j).pred (i.b.toNat % 8))

/-- PLOG (R201). -/
def execPlog (g : Vale) (i : RFmt) (s : State) : Host.Outcome State Fault Refusal :=
  act s fun s => if issueOk g.val (wordR i 0x31) s then doPlog g.val i s else s

/-- The effect of LDI (R199): the immediate as H directs. -/
def doLdi (g : Nat) (i : IFmt) (s : State) : State :=
  s.issue g (fun _ _ _ => resvErr (i.h == 3)) (fun _ _ _ => .none) (fun _ _ _ => 1)
    (fun s k c b => s.writeLanes k c i.d.toNat ((s.executing g b i.pred i.pneg).map fun j =>
      (j, opLdi i.h i.imm ((s.lane g j).reg i.d.toNat))))
    Blk.next

/-- LDI (R199). -/
def execLdi (g : Vale) (i : IFmt) (s : State) : Host.Outcome State Fault Refusal :=
  act s fun s => if issueOk g.val (wordI i 0x1f) s then doLdi g.val i s else s

/-- The effect of RNG (R211, R212): a draw under the partition's key, in the form of MOD[3:2]. -/
def doRng (g : Nat) (i : RFmt) (s : State) : State :=
  s.issue g (fun _ _ _ => resvErr (decide (11 < i.mod.toNat))) (fun _ _ _ => .none) (fun _ _ _ => 2)
    (fun s k c b => s.writeLanes k c i.d.toNat ((s.executing g b i.pred i.pneg).map fun j =>
      let l := s.lane g j
      (j, opRng (i.mod.toNat % 4) (i.mod.toNat / 4) c.partKey c.jobKey (l.reg i.a.toNat) (l.reg ((i.a.toNat + 1) % 16))
        (l.reg i.b.toNat) (l.reg i.c.toNat))))
    Blk.next

/-- RNG (R211). -/
def execRng (g : Vale) (i : RFmt) (s : State) : Host.Outcome State Fault Refusal :=
  act s fun s => if issueOk g.val (wordR i 0x29) s then doRng g.val i s else s

/-- The property of a lane that MOVS reads (R217). -/
def laneProperty (s : State) (g : Nat) (c : Cmd) (b : Blk) (mod j : Nat) : Nat :=
  let p := c.place c.elem.block j
  match mod with
  | 0 => j
  | 1 => p.1
  | 2 => p.2
  | 3 => c.elem.block - (c.rowSpan p.1).1
  | 4 => (c.rowSpan p.1).2
  | 5 => b.lc
  | 6 => b.packCount
  | _ => (s.lane g j).flags.toNat

/-- The effect of MOVS (R217): d = a property of the lane. -/
def doMovs (g : Nat) (i : RFmt) (s : State) : State :=
  s.issue g (fun _ _ _ => resvErr (i.a != 0 || i.b != 0 || i.c != 0 || decide (7 < i.mod.toNat))) (fun _ _ _ => .none)
    (fun _ _ _ => 1)
    (fun s k c b => s.writeLanes k c i.d.toNat ((s.executing g b i.pred i.pneg).map fun j =>
      (j, LaneRes.plain (BitVec.ofNat 32 (laneProperty s g c b i.mod.toNat j)))))
    Blk.next

/-- MOVS (R217). -/
def execMovs (g : Vale) (i : RFmt) (s : State) : Host.Outcome State Fault Refusal :=
  act s fun s => if issueOk g.val (wordR i 0x2f) s then doMovs g.val i s else s

/-- The effect of FCLR (R218): the flags of the mask B clear in the executing lanes. -/
def doFclr (g : Nat) (i : RFmt) (s : State) : State :=
  s.issue g (fun _ _ _ => resvErr (i.d != 0 || i.a != 0 || i.c != 0 || i.mod != 0)) (fun _ _ _ => .none) (fun _ _ _ => 1)
    (fun s _ _ b => (s.executing g b i.pred i.pneg).foldl (fun t j =>
      t.setLane g j { t.lane g j with flags := (t.lane g j).flags &&& ~~~i.b }) s)
    Blk.next

/-- FCLR (R218). -/
def execFclr (g : Vale) (i : RFmt) (s : State) : Host.Outcome State Fault Refusal :=
  act s fun s => if issueOk g.val (wordR i 0x32) s then doFclr g.val i s else s

end Sys2Proof.Machine
end

