-- ==== Sys2Proof/Machine/ElementQueues.lean ====
section
/-! DEFINITION. ElementQueues: the element instructions that reach beyond one lane: quantisation under a tag (R203), the
operand cache (R205, R206), reductions (R207, R208), compress and expand (R210), the epilogue port (R213), the queues
(R214 to R216) and the loop (R209); and the run of a program over a block (R164, R186, R219). -/

namespace Sys2Proof.Machine

/-! ### The operand cache (R168, R170, R205, R206) -/

/-- Whether a program read of a cache address must wait (R168). -/
def State.readWaits (s : State) (g a : Nat) : Bool := (s.line g (lineOf a)).fills != 0
/-- Whether a program write of a cache address must wait (R168). -/
def State.writeWaits (s : State) (g a : Nat) : Bool :=
  (s.line g (lineOf a)).fills != 0 || (s.line g (lineOf a)).drains != 0
/-- The wait cause LINE when a test holds for an address that executing lanes use. -/
def lineWait (t : Nat → Bool) (as : List Nat) : WaitCause := if as.any t then .line else .none

/-- The cache address of word j of the line that an M-format instruction names (R205). -/
def lineWord (c : Cmd) (b : Blk) (i : MFmt) (j : Nat) : Nat :=
  let x := match i.idx.toNat with
    | 0 => 0
    | 1 => b.lc
    | _ => c.elem.block - (c.rowSpan (c.place c.elem.block j).1).1
  1024 * ((i.line.toNat + x) % 1024) + 4 * j

/-- The effect of OCL (R205): word j of the line into REG of lane j. -/
def doOcl (g : Nat) (i : MFmt) (s : State) : State :=
  s.issue g (fun _ _ _ => resvErr (i.idx == 3 || i.resv != 0))
    (fun s c b => lineWait (s.readWaits g) ((s.executing g b i.pred i.pneg).map (lineWord c b i)))
    (fun _ _ _ => 1)
    (fun s k c b => s.writeLanes k c i.reg.toNat ((s.executing g b i.pred i.pneg).map fun j =>
      (j, LaneRes.plain (BitVec.ofNat 32 (leNat (s.bytes (cacheAddr g (lineWord c b i j)) 4))))))
    Blk.next

/-- OCL (R205). -/
def execOcl (g : Vale) (i : MFmt) (s : State) : Host.Outcome State Fault Refusal :=
  act s fun s => if issueOk g.val (wordM i 0x22) s then doOcl g.val i s else s

/-- The effect of OCS (R205): REG of lane j into word j of the line. -/
def doOcs (g : Nat) (i : MFmt) (s : State) : State :=
  s.issue g (fun _ _ _ => resvErr (i.idx == 3 || i.resv != 0))
    (fun s c b => lineWait (s.writeWaits g) ((s.executing g b i.pred i.pneg).map (lineWord c b i)))
    (fun _ _ _ => 1)
    (fun s _ c b => (s.executing g b i.pred i.pneg).foldl (fun t j =>
      t.setBytes (cacheAddr g (lineWord c b i j)) (leBytes 4 ((t.lane g j).reg i.reg.toNat).toNat)) s)
    Blk.next

/-- OCS (R205). -/
def execOcs (g : Vale) (i : MFmt) (s : State) : Host.Outcome State Fault Refusal :=
  act s fun s => if issueOk g.val (wordM i 0x23) s then doOcs g.val i s else s

/-- The bytes that a gather or scatter moves per lane (R206). -/
def cacheWidth (mod : Nat) : Nat := if mod = 0 then 4 else if mod = 1 then 1 else 2

/-- The cache address that a lane's address word names at a width: low bits ignored, wrapped (R171, R206). -/
def cacheByte (w : Word) (mod : Nat) : Nat := w.toNat % 2 ^ 20 / cacheWidth mod * cacheWidth mod

/-- The clocks of a gather or scatter (R166, R170): the most distinct words in one bank; one where no lane takes part. -/
def bankClocks (as : List Nat) : Nat :=
  let ws := (as.map (· / 4)).eraseDups
  ((List.range 64).map fun k => (ws.filter fun w => w % 64 == k).length).foldl max 1

/-- The addresses that the executing lanes of OCG or OCT use, from register r. -/
def State.gatherAddrs (s : State) (g : Nat) (b : Blk) (i : RFmt) (r : Nat) : List Nat :=
  (s.executing g b i.pred i.pneg).map fun j => cacheByte ((s.lane g j).reg r) i.mod.toNat

/-- The effect of OCG (R206): d from the byte address in a. -/
def doOcg (g : Nat) (i : RFmt) (s : State) : State :=
  s.issue g (fun _ _ _ => resvErr (i.b != 0 || i.c != 0 || decide (2 < i.mod.toNat)))
    (fun s _ b => lineWait (s.readWaits g) (s.gatherAddrs g b i i.a.toNat))
    (fun s _ b => bankClocks (s.gatherAddrs g b i i.a.toNat))
    (fun s k c b => s.writeLanes k c i.d.toNat ((s.executing g b i.pred i.pneg).map fun j =>
      (j, LaneRes.plain (BitVec.ofNat 32 (leNat (s.bytes
        (cacheAddr g (cacheByte ((s.lane g j).reg i.a.toNat) i.mod.toNat)) (cacheWidth i.mod.toNat)))))))
    Blk.next

/-- OCG (R206). -/
def execOcg (g : Vale) (i : RFmt) (s : State) : Host.Outcome State Fault Refusal :=
  act s fun s => if issueOk g.val (wordR i 0x24) s then doOcg g.val i s else s

/-- The effect of OCT (R206): a to the byte address in b, in ascending lanes. -/
def doOct (g : Nat) (i : RFmt) (s : State) : State :=
  s.issue g (fun _ _ _ => resvErr (i.d != 0 || i.c != 0 || decide (2 < i.mod.toNat)))
    (fun s _ b => lineWait (s.writeWaits g) (s.gatherAddrs g b i i.b.toNat))
    (fun s _ b => bankClocks (s.gatherAddrs g b i i.b.toNat))
    (fun s _ _ b => (s.executing g b i.pred i.pneg).foldl (fun t j =>
      t.setBytes (cacheAddr g (cacheByte ((t.lane g j).reg i.b.toNat) i.mod.toNat))
        (leBytes (cacheWidth i.mod.toNat) ((t.lane g j).reg i.a.toNat).toNat)) s)
    Blk.next

/-- OCT (R206). -/
def execOct (g : Vale) (i : RFmt) (s : State) : Host.Outcome State Fault Refusal :=
  act s fun s => if issueOk g.val (wordR i 0x25) s then doOct g.val i s else s

/-! ### Quantisation (R203) -/

/-- The quantisation slot that QNT names, as the stage latched it. -/
def qntSlot (c : Cmd) (i : RFmt) : Option QuantSlot := (c.elem.slots.getD (i.mod.toNat % 4) none)

/-- Whether a format is a codebook. -/
def isCodebook (fmt : Nat) : Bool := fmt == 8 || fmt == 9

/-- The program error of a QNT (R193, R203). -/
def qntErr (c : Cmd) (i : RFmt) : Nat :=
  if i.c ≠ 0 ∨ 7 < i.mod.toNat then 1
  else
    match qntSlot c i with
    | none => 7
    | some q =>
      let zp := bitOf i.mod.toNat 2
      if 10 ≤ q.fmt ∨ (zp && (intOfCode q.fmt).isNone) then 7
      else if i.b ≠ 0 && !zp && !isCodebook q.fmt then 1 else 0

/-- The entries of the codebook table at a cache address (R142, R203). -/
def State.cacheTable (s : State) (g fmt : Nat) (w : Word) : List Val :=
  let n := tableSize fmt
  (s.bytes (cacheAddr g (w.toNat % 2 ^ 20 / n * n)) n).map fun b => e4m3.decode b.toNat

/-- The quantised value of a lane (R203). -/
def State.quantLane (s : State) (g : Nat) (q : QuantSlot) (i : RFmt) (l : Lane) : LaneRes :=
  if isCodebook q.fmt then LaneRes.ofRounded (quantCode (s.cacheTable g q.fmt (l.reg i.b.toNat)) q.scale (l.reg i.a.toNat))
  else LaneRes.ofRounded
    (quantPlain q.fmt q.scale (if bitOf i.mod.toNat 2 then (l.reg i.b.toNat).toInt else 0) (l.reg i.a.toNat))

/-- QNT in its executing lanes (R203, R130, R131, R180). -/
def State.runQnt (s : State) (g : Nat) (i : RFmt) (k : Nat) (c : Cmd) (b : Blk) : State :=
  match qntSlot c i with
  | none => s
  | some q =>
    let js := s.executing g b i.pred i.pneg
    let xs := js.map fun j => (s.lane g j).reg i.a.toNat
    let rs := js.map fun j => (j, s.quantLane g q i (s.lane g j))
    let n := (rs.map (·.2.sat)).foldl (· + ·) 0
    let s := (s.writeLanes k c i.d.toNat rs).foldTag k c q.tag xs
    if n = 0 ∨ q.tag = c.outTag then s else s.updateRec k c q.tag (recSat n)

/-- The effect of QNT (R203). -/
def doQnt (g : Nat) (i : RFmt) (s : State) : State :=
  s.issue g (fun _ c _ => qntErr c i)
    (fun s c b => match qntSlot c i with
      | some q => if isCodebook q.fmt then
          lineWait (s.readWaits g) ((s.executing g b i.pred i.pneg).map fun j =>
            ((s.lane g j).reg i.b.toNat).toNat % 2 ^ 20) else .none
      | none => .none)
    (fun _ c _ => match qntSlot c i with
      | some q => if q.fmt = 8 then 2 else if q.fmt = 9 then 16 else 1
      | none => 1)
    (fun s k c b => s.runQnt g i k c b) Blk.next

/-- QNT (R203). -/
def execQnt (g : Vale) (i : RFmt) (s : State) : Host.Outcome State Fault Refusal :=
  act s fun s => if issueOk g.val (wordR i 0x21) s then doQnt g.val i s else s

/-! ### Reductions (R207, R208) -/

/-- The groups over which RED works, each with its terms: order key, reported COL, lane (R207, R208). -/
def redGroups (c : Cmd) (b : Blk) (js : List Nat) : List (List (Nat × Nat × Nat)) :=
  let col := fun j => (c.place c.elem.block j).2
  if b.compress.isSome then [js.map fun j => (j, col j, j)]
  else
    ((js.map fun j => (c.place c.elem.block j).1).eraseDups).map fun row =>
      (js.filter fun j => (c.place c.elem.block j).1 == row).map fun j => (col j, col j, j)

/-- The effect of RED (R207). -/
def doRed (g : Nat) (i : RFmt) (s : State) : State :=
  s.issue g (fun _ _ _ => resvErr (i.b != 0 || i.c != 0 || decide (7 < i.mod.toNat))) (fun _ _ _ => .none) (fun _ _ _ => 3)
    (fun s k c b => s.writeLanes k c i.d.toNat ((redGroups c b (s.executing g b i.pred i.pneg)).flatMap fun ts =>
      (ts.map fun t => t.2.2).zip
        (opRed i.mod.toNat (ts.map fun t => (t.1, t.2.1, (s.lane g t.2.2).reg i.a.toNat)))))
    Blk.next

/-- RED (R207). -/
def execRed (g : Vale) (i : RFmt) (s : State) : Host.Outcome State Fault Refusal :=
  act s fun s => if issueOk g.val (wordR i 0x26) s then doRed g.val i s else s

/-! ### Compress and expand (R175, R176, R210) -/

/-- Whether an instruction names the predicate of the outstanding compress (R210). -/
def sameCompress (b : Blk) (i : RFmt) : Bool :=
  match b.compress with
  | some z => z.pred == i.pred && z.pneg == i.pneg
  | none => true

/-- PACK over a lane mapping (R175): lane i takes the value of the i-th lane, the lanes beyond receive +0. -/
def State.packLanes (s : State) (g : Nat) (i : RFmt) (lanes : List Nat) : State :=
  let xs := lanes.map fun j => (s.lane g j).reg i.a.toNat
  (List.range 256).foldl (fun t j => t.setLane g j ((t.lane g j).setReg i.d.toNat (xs.getD j 0#32))) s

/-- PACK (R210): the first of a block records its mapping. -/
def State.runPack (s : State) (g : Nat) (i : RFmt) (b : Blk) : State :=
  match b.compress with
  | some z => s.packLanes g i z.lanes
  | none =>
    let lanes := s.executing g b i.pred i.pneg
    (s.packLanes g i lanes).modElem g fun e => { e with
      blk := e.blk.map fun b => { b with compress := some ⟨i.pred, i.pneg, lanes⟩, packCount := lanes.length } }

/-- The effect of PACK (R210). -/
def doPack (g : Nat) (i : RFmt) (s : State) : State :=
  s.issue g
    (fun _ _ b => if i.b ≠ 0 ∨ i.c ≠ 0 ∨ i.mod ≠ 0 then 1 else if sameCompress b i then 0 else 6)
    (fun _ _ _ => .none) (fun _ _ _ => 2) (fun s _ _ b => s.runPack g i b) Blk.next

/-- PACK (R210). -/
def execPack (g : Vale) (i : RFmt) (s : State) : Host.Outcome State Fault Refusal :=
  act s fun s => if issueOk g.val (wordR i 0x27) s then doPack g.val i s else s

/-- UNPK (R176, R210): each mapped lane takes its compressed lane; MOD[0] = 0 ends the compress. -/
def State.runUnpk (s : State) (g : Nat) (i : RFmt) (b : Blk) : State :=
  match b.compress with
  | none => s
  | some z =>
    let t := (z.lanes.mapIdx fun r j => (j, (s.lane g r).reg i.a.toNat)).foldl
      (fun t e => t.setLane g e.1 ((t.lane g e.1).setReg i.d.toNat e.2)) s
    if i.mod = 0 then t.modElem g fun e => { e with blk := e.blk.map fun b => { b with compress := none } } else t

/-- The effect of UNPK (R210). -/
def doUnpk (g : Nat) (i : RFmt) (s : State) : State :=
  s.issue g
    (fun _ _ b => if i.b ≠ 0 ∨ i.c ≠ 0 ∨ 1 < i.mod.toNat then 1
      else if b.compress.isSome && sameCompress b i then 0 else 6)
    (fun _ _ _ => .none) (fun _ _ _ => 2) (fun s _ _ b => s.runUnpk g i b) Blk.next

/-- UNPK (R210). -/
def execUnpk (g : Vale) (i : RFmt) (s : State) : Host.Outcome State Fault Refusal :=
  act s fun s => if issueOk g.val (wordR i 0x28) s then doUnpk g.val i s else s

/-! ### The epilogue port (R163, R164, R213) -/

/-- The bank word of lane j of block b in the command's readout mode, with its array (R115, R163). -/
def State.pieceWord (s : State) (c : Cmd) (b j : Nat) : Nat × LaneRes :=
  let p := 2 * b + j / 128
  let a := c.arrays.getD (p % max 1 c.arrays.length) 0
  (a, s.readBank c a (p / max 1 c.arrays.length) (j % 128))

/-- The first EPI of a block reads the words of its live lanes, with the flags and saturation events of the readout
(R115, R116, R213). -/
def State.readPieces (s : State) (k : Nat) (c : Cmd) (b : Blk) : List Word × State :=
  match b.epi with
  | some ws => (ws, s)
  | none =>
    let rs := (List.range 256).map fun j =>
      if bitOf b.live j then s.pieceWord c c.elem.block j else (0, LaneRes.plain 0#32)
    let ws := rs.map fun r => r.2.w
    let s := rs.foldl (fun s r =>
      if r.2.flags = 0#4 ∧ r.2.sat = 0 then s else s.arrayEvents k c r.1 r.2.flags r.2.sat) s
    (ws, s.modElem c.vale fun e => { e with blk := e.blk.map fun b => { b with epi := some ws } })

/-- The effect of EPI (R213). -/
def doEpi (g : Nat) (i : RFmt) (s : State) : State :=
  s.issue g
    (fun _ c _ => if i.a ≠ 0 ∨ i.b ≠ 0 ∨ i.c ≠ 0 ∨ i.mod ≠ 0 then 1 else if c.stream then 4 else 0)
    (fun _ _ _ => .none) (fun _ _ _ => 1)
    (fun s k c b =>
      let r := s.readPieces k c b
      r.2.writeLanes k c i.d.toNat ((r.2.executing g b i.pred i.pneg).map fun j => (j, LaneRes.plain (r.1.getD j 0#32))))
    Blk.next

/-- EPI (R213). -/
def execEpi (g : Vale) (i : RFmt) (s : State) : Host.Outcome State Fault Refusal :=
  act s fun s => if issueOk g.val (wordR i 0x2a) s then doEpi g.val i s else s

/-! ### Queues (R214 to R216) -/

/-- The effect of QRD (R214): the lane's element, or the next scalar. -/
def doQrd (g : Nat) (i : RFmt) (s : State) : State :=
  let q := i.b.toNat % 8
  s.issue g
    (fun _ c _ => if 8 ≤ i.b.toNat ∨ i.a ≠ 0 ∨ i.c ≠ 0 ∨ 1 < i.mod.toNat then 1
      else if (c.queue q).mode = i.mod.toNat + 1 then 0 else 5)
    (fun s c b => if i.mod = 1 ∧ !(s.executing g b i.pred i.pneg).isEmpty ∧ (c.queue q).held < c.inWidth q then .queueEmpty
      else .none)
    (fun _ _ _ => 1)
    (fun s k c b =>
      let w := c.inWidth q
      let x := c.queue q
      let js := s.executing g b i.pred i.pneg
      if i.mod = 0 then s.writeLanes k c i.d.toNat
        (js.map fun j => (j, LaneRes.plain (BitVec.ofNat 32 (s.qElem x (x.head + j * w) w))))
      else if js.isEmpty then s
      else (s.writeLanes k c i.d.toNat (js.map fun j => (j, LaneRes.plain (BitVec.ofNat 32 (s.qElem x x.head w))))).modCmd k
        fun c => c.modQueue q fun x => x.advance w)
    Blk.next

/-- QRD (R214). -/
def execQrd (g : Vale) (i : RFmt) (s : State) : Host.Outcome State Fault Refusal :=
  act s fun s => if issueOk g.val (wordR i 0x2b) s then doQrd g.val i s else s

/-- The nibbles of a write width (R215). -/
def writeWidth (mod : Nat) : Nat := match mod % 4 with | 0 => 8 | 1 => 4 | 2 => 2 | _ => 1

/-- A positional queue with its element width, which the first QWR of the stage sets (R215); the positions that passed
before it are marked unwritten. -/
def Queue.sized (x : Queue) (w : Nat) : Queue :=
  if x.width ≠ 0 then x
  else { x with width := w, skipped := 0, tail := x.tail + x.skipped * w,
                holes := if x.skipped = 0 then x.holes else x.holes ++ [(x.tail, x.skipped * w)] }

/-- QWR in its executing lanes (R215). -/
def State.runQwr (s : State) (g : Nat) (i : RFmt) (k : Nat) (b : Blk) : State :=
  let q := i.b.toNat % 8
  let s := s.modCmd k fun c => c.modQueue (8 + q) fun x => x.sized (writeWidth i.mod.toNat)
  match s.cmd k with
  | none => s
  | some c =>
    let x := c.queue (8 + q)
    let js := s.executing g b i.pred i.pneg
    let s := js.foldl (fun t j => t.qPutElem x (x.tail + j * x.width) x.width ((t.lane g j).reg i.a.toNat).toNat) s
    s.modElem g fun e => { e with blk := e.blk.map fun b => { b with written := b.written ++ js.map fun j => (q, j) } }

/-- The effect of QWR (R215). -/
def doQwr (g : Nat) (i : RFmt) (s : State) : State :=
  let q := i.b.toNat % 8
  s.issue g
    (fun _ c _ => if 8 ≤ i.b.toNat ∨ i.d ≠ 0 ∨ i.c ≠ 0 ∨ 3 < i.mod.toNat then 1
      else if (c.queue (8 + q)).mode = 1 then 0 else 5)
    (fun s c b =>
      let x := c.queue (8 + q)
      if !(s.executing g b i.pred i.pneg).isEmpty &&
          decide (s.qRoom c x < b.count * (if x.width = 0 then writeWidth i.mod.toNat else x.width)) then .queueFull
      else .none)
    (fun _ _ _ => 1)
    (fun s k _ b => if (s.executing g b i.pred i.pneg).isEmpty then s else s.runQwr g i k b)
    Blk.next

/-- QWR (R215). -/
def execQwr (g : Vale) (i : RFmt) (s : State) : Host.Outcome State Fault Refusal :=
  act s fun s => if issueOk g.val (wordR i 0x2c) s then doQwr g.val i s else s

/-- A value of w nibbles put at stream nibble p of a ring, nibble by nibble (R69). -/
def State.putNibbles (s : State) (x : Queue) (p w v : Nat) : State :=
  (List.range w).foldl (fun s j => s.qPutElem x (p + j) 1 (v >>> (4 * j) % 16)) s

/-- The nibbles that one lane appends (R178, R216). -/
def appendWidth (mod : Nat) : Nat := writeWidth mod + (if bitOf mod 2 then 8 else 0)

/-- QWC in its executing lanes (R178, R216): the values in ascending lanes, each with its COL when MOD[2]. -/
def State.runQwc (s : State) (g : Nat) (i : RFmt) (k : Nat) (c : Cmd) (b : Blk) : State :=
  let q := i.b.toNat % 8
  let m := i.mod.toNat
  let x := c.queue (8 + q)
  let w := writeWidth m
  let js := s.executing g b i.pred i.pneg
  let t := (js.foldl (fun (acc : State × Nat) j =>
    let s := acc.1.putNibbles x acc.2 w ((acc.1.lane g j).reg i.a.toNat).toNat
    let s := if bitOf m 2 then s.putNibbles x (acc.2 + w) 8 (c.place c.elem.block j).2 else s
    (s, acc.2 + appendWidth m)) (s, x.tail)).1
  t.modCmd k fun c =>
    let c := c.modQueue (8 + q) fun x => { x with tail := x.tail + js.length * appendWidth m }
    let rows := js.map fun j => (c.place c.elem.block j).1 * 8 + q
    { c with elem := { c.elem with rowCounts := rows.foldl (fun t key =>
        Sparse.set (fun _ => 0) t key (Sparse.get (fun _ => 0) t key + 1)) c.elem.rowCounts } }

/-- The effect of QWC (R216). -/
def doQwc (g : Nat) (i : RFmt) (s : State) : State :=
  let q := i.b.toNat % 8
  s.issue g
    (fun _ c _ => if 8 ≤ i.b.toNat ∨ i.d ≠ 0 ∨ i.c ≠ 0 ∨ 7 < i.mod.toNat then 1
      else if (c.queue (8 + q)).mode = 2 then 0 else 5)
    (fun s c b => if s.qRoom c (c.queue (8 + q)) < (s.executing g b i.pred i.pneg).length * appendWidth i.mod.toNat then
        .queueFull else .none)
    (fun _ _ _ => 1) (fun s k c b => s.runQwc g i k c b) Blk.next

/-- QWC (R216). -/
def execQwc (g : Vale) (i : RFmt) (s : State) : Host.Outcome State Fault Refusal :=
  act s fun s => if issueOk g.val (wordR i 0x2d) s then doQwc g.val i s else s

/-! ### LOOP (R209) -/

/-- The block after a LOOP: into the body, or past it (R209). -/
def Blk.loopTo (b : Blk) (i : LFmt) (run : Bool) : Blk :=
  if run && i.count != 0 then
    { b with pc := b.pc + 1, loop := some ⟨b.pc + 1, b.pc + i.body.toNat, 0, i.count.toNat⟩ }
  else { b with pc := b.pc + 1 + i.body.toNat }

/-- The effect of LOOP (R209). -/
def doLoop (g : Nat) (i : LFmt) (s : State) : State :=
  s.issue g
    (fun _ c b => if i.resv ≠ 0 ∨ i.body = 0 then 1 else if b.loop.isSome then 2
      else if c.progLen ≤ b.pc + i.body.toNat then 3 else 0)
    (fun _ _ _ => .none) (fun _ _ _ => 1)
    (fun s _ _ b =>
      let run := !(s.executing g b i.pred i.pneg).isEmpty
      s.modElem g fun e => { e with blk := e.blk.map fun b => b.loopTo i run })
    id

/-- LOOP (R209). -/
def execLoop (g : Vale) (i : LFmt) (s : State) : Host.Outcome State Fault Refusal :=
  act s fun s => if issueOk g.val (wordL i 0x2e) s then doLoop g.val i s else s

/-! ### The run of a program (R156, R162, R164, R219) -/

/-- A reserved opcode (R193, R219). -/
def doReserved (g : Nat) (s : State) : State :=
  s.issue g (fun _ _ _ => 1) (fun _ _ _ => .none) (fun _ _ _ => 1) (fun s _ _ _ => s) Blk.next

/-- The instruction of a word, on engine g (R194). -/
def doWord (g w : Nat) (s : State) : State :=
  let r := fmtR w
  match w / 2 ^ 26 with
  | 0x00 => doNop g r s | 0x01 => doFadd g r s | 0x02 => doFsub g r s | 0x03 => doFmul g r s | 0x04 => doFfma g r s
  | 0x05 => doFmin g r s | 0x06 => doFmax g r s | 0x07 => doFabs g r s | 0x08 => doFneg g r s | 0x09 => doFdiv g r s
  | 0x0A => doFsqrt g r s | 0x0B => doFrsq g r s | 0x0C => doFcmp g r s | 0x0D => doTfn g r s
  | 0x10 => doIadd g r s | 0x11 => doIsub g r s | 0x12 => doImul g r s | 0x13 => doImin g r s | 0x14 => doImax g r s
  | 0x15 => doIabs g r s | 0x16 => doIcmp g r s | 0x18 => doAnd g r s | 0x19 => doOr g r s | 0x1A => doXor g r s
  | 0x1B => doShl g r s | 0x1C => doShr g r s | 0x1D => doSel g r s | 0x1E => doMov g r s | 0x1F => doLdi g (fmtI w) s
  | 0x20 => doCvt g r s | 0x21 => doQnt g r s | 0x22 => doOcl g (fmtM w) s | 0x23 => doOcs g (fmtM w) s | 0x24 => doOcg g r s
  | 0x25 => doOct g r s | 0x26 => doRed g r s | 0x27 => doPack g r s | 0x28 => doUnpk g r s | 0x29 => doRng g r s
  | 0x2A => doEpi g r s | 0x2B => doQrd g r s | 0x2C => doQwr g r s | 0x2D => doQwc g r s | 0x2E => doLoop g (fmtL w) s
  | 0x2F => doMovs g r s | 0x30 => doPset g r s | 0x31 => doPlog g r s | 0x32 => doFclr g r s
  | _ => doReserved g s

/-- Up to n instructions issue on engine g. -/
def issueMany : Nat → Nat → State → State
  | 0, _, s => s
  | n + 1, g, s =>
    match s.issuing g with
    | none => s
    | some (_, _, b) => issueMany n g (doWord g (s.progWord g (b.base * 64 + b.pc)) s)

/-- The stage that engine g works on, when its command runs (R473, R485). -/
def State.elemStage (s : State) (g : Nat) : Option (Nat × Cmd) :=
  match (s.vale g).elem.stage with
  | none => none
  | some k => match s.cmd k with
    | none => none
    | some c => if s.running c then some (k, c) else none

/-- The next block opens, when its input is there; else the engine waits, or the stage ends (R164, R187, R224). -/
def State.nextBlock (s : State) (k : Nat) (c : Cmd) : State :=
  if c.sourceOver then s.tryEndStage k
  else
    let w := c.blockWait
    match c.nextCount c.elem.block with
    | some (n, final) => if w = .none then s.openBlock k c n final else s.modElem c.vale fun e => { e with wait := w }
    | none => s.modElem c.vale fun e => { e with wait := w }

/-- The next block of engine g opens where none is open, and the program runs for up to n instructions of it. -/
def blockStartDo (g n : Nat) (s : State) : State :=
  match s.elemStage g with
  | none => s
  | some (k, c) =>
    match (s.vale g).elem.blk with
    | some b => if c.progLen ≤ b.pc then s.endBlock k c b else issueMany n g s
    | none => issueMany n g (s.nextBlock k c)

/-- Operand cache words that needed a correction are counted and reported (R166, R467). -/
def State.cacheCorrected (s : State) (g : Vale) (n : Nat) : State :=
  if n = 0 then s else (s.count (.elem g) 0x68 n).healthEvent 1 0 n

/-- ELEMENT_BLOCK_START (R164): the next block starts when its input is there, and its program runs; `issues` bounds the
instructions that issue with it, and `corrected` operand cache words needed a correction. -/
def execElementBlockStart (g : Vale) (issues corrected : Nat) (s : State) : Host.Outcome State Fault Refusal :=
  act s fun s => blockStartDo g.val issues (if (s.elemStage g.val).isSome then s.cacheCorrected g corrected else s)

end Sys2Proof.Machine
end

