-- ==== Sys2Proof/Machine/Beat.lean ====
section
/-! DEFINITION. Beat: the beat input, lock, the internal edge and the count, loss and the flywheel, return and slewing,
relock and BEAT_EN (R32 to R37, R46 to R50, R53 to R57). An event whose time the beat unit fixes lets the clocks up to
that time pass. -/

namespace Sys2Proof.Machine

/-- The beat unit changed. -/
def State.modBeat (s : State) (f : Beat → Beat) : State := { s with beat := f s.beat }

/-- BEAT_CTL.BEAT_EN (R53). -/
def State.beatEn (s : State) : Bool := s.regBit 0x40 0

/-- The clocks up to a time pass; none where it is past. -/
def State.passTo (s : State) (t : Nat) : State := s.pass (t - s.clock)

/-- The dispatched metered commands carry a void cause (R47, R50); one not yet dispatched takes it at its dispatch while
the cause stands. -/
def State.voidMetered (s : State) (code : Nat) : State :=
  s.inFlight.foldl (fun s e =>
    if s.metered e.2.part.val && e.2.dispatched.isSome then s.modCmd e.1 fun c => c.addVoid code else s) s

/-! ### Lock (R34, R35) -/

/-- Whether the measured periods give lock: sixteen, each within 2 clocks of their mean (R34). -/
def lockPeriods (ps : List Nat) : Bool :=
  let t := ps.foldl (· + ·) 0
  ps.length == 16 && ps.all fun p => decide (16 * p ≤ t + 32) && decide (t ≤ 16 * p + 32)

/-- The last sixteen of a list. -/
def lastSixteen (ps : List Nat) : List Nat := ps.drop (ps.length - 16)

/-- The mean of sixteen periods, in 1/256 clock. -/
def meanPeriod (ps : List Nat) : Nat := 16 * ps.foldl (· + ·) 0

/-- The crossing at clock x closes the sixteenth period: the part enters LOCKED, and the crossing is a counted edge
(R34, R50, R55, R57). -/
def State.enterLock (s : State) (x : Nat) (ps : List Nat) : State :=
  let p := meanPeriod ps
  (s.modBeat fun b => { b with
    state := .locked, pLock := p, meteredValid := b.meteredValid || !b.everLocked, everLocked := true, lastCross := some x,
    periods := [], accepted := ps, predicted := x * 256 + p, phaseFault := false, returning := none,
    edgesDue := b.edgesDue ++ [x] }).beatEvent 1

/-- A crossing in LOCKING (R34). -/
def State.measure (s : State) (x : Nat) : State :=
  match s.beat.lastCross with
  | none => s.modBeat fun b => { b with lastCross := some x }
  | some y =>
    let ps := if 523 ≤ x - y ∧ x - y ≤ 8402 then lastSixteen (s.beat.periods ++ [x - y]) else []
    if lockPeriods ps then s.enterLock x ps else s.modBeat fun b => { b with lastCross := some x, periods := ps }

/-- Whether a crossing at clock x lies within n clocks of a time in 1/256 clock. -/
def within (x t n : Nat) : Bool := decide (x * 256 ≤ t + n * 256) && decide (t ≤ x * 256 + n * 256)

/-- A crossing in LOCKED: accepted or rejected (R35, R48). -/
def State.lockedCross (s : State) (x : Nat) : State :=
  if within x s.beat.predicted 2 then
    s.modBeat fun b =>
      let acc := match b.lastCross with
        | some y => lastSixteen (b.accepted ++ [x - y])
        | none => b.accepted
      let p := if acc.length = 16 then meanPeriod acc else b.pLock
      { b with lastCross := some x, accepted := acc, pLock := p, predicted := x * 256 + p, edgesDue := b.edgesDue ++ [x] }
  else
    let s := s.setReg 0x68 (satInc (s.reg 0x68) 1)
    s.beatEvent 0x40

/-! ### Return and slewing (R48, R49) -/

/-- The part enters LOCKED from the flywheel: the next prediction stands, and no period is counted across the gap. -/
def State.lockFromFly (s : State) : State :=
  (s.modBeat fun b => { b with state := .locked, accepted := [], lastCross := none, returning := none }).beatEvent 1

/-- The crossing at clock x minus the predicted flywheel crossing nearest to it, in 1/256 clock (R48). -/
def Beat.offBy (b : Beat) (x : Nat) : Int :=
  let d : Int := (x * 256 : Nat) - (b.predicted : Int)
  let e : Int := d + b.pLock
  if d.natAbs < e.natAbs then d else e

/-- 1/256 clocks rounded to whole clocks, halves away from zero (R48). -/
def wholeClocks (d : Int) : Int := if 0 ≤ d then (d + 128) / 256 else -((128 - d) / 256)

/-- PHASE_FAULT (R49). -/
def State.phaseFaulted (s : State) : State :=
  ((s.modBeat fun b => { b with phaseFault := true, returning := none }).beatEvent 0x10).moraine .beatPhaseFault .device []

/-- The confirming crossing at clock x (R48): SLEWING, or LOCKED at once where the error is small; a flywheel crossing of
this beat that has not come yet still makes its edge. -/
def State.returned (s : State) (x : Nat) : State :=
  let d := s.beat.offBy x
  let e := wholeClocks d
  let s := (s.modBeat fun b => { b with state := .slewing, phaseErr := e, returning := none }).beatEvent 8
  if 2 < e.natAbs then s
  else
    let s := if d = (x * 256 : Nat) - (s.beat.predicted : Int) then
        s.modBeat fun b => { b with predicted := b.predicted + b.pLock, edgesDue := b.edgesDue ++ [b.predicted / 256] }
      else s
    s.lockFromFly

/-- A crossing in FLYWHEEL or EXPIRED (R48, R49). -/
def State.flyCross (s : State) (x : Nat) : State :=
  let b := s.beat
  if b.phaseFault then s
  else
    match b.returning, b.lastCross with
    | some n, some y =>
      if within (x - y) b.pLock 2 then
        if n + 1 = 15 then s.returned x else s.modBeat fun b => { b with returning := some (n + 1), lastCross := some x }
      else s.phaseFaulted
    | _, _ =>
      if (b.offBy x).natAbs ≤ b.pLock / 256 / 4 * 256 then
        s.modBeat fun b => { b with returning := some 0, lastCross := some x }
      else s.phaseFaulted

/-! ### The crossing (R32, R34, R35) -/

/-- The clock by which the beat unit's next event of its own must have come: a loss or a flywheel edge, and every internal
edge (R36, R46, R48). -/
def Beat.due (b : Beat) (t : Nat) : Bool :=
  (b.edgesDue.all fun x => decide (t ≤ x + 25)) &&
    (match b.state with
     | .locked => decide (t * 256 ≤ b.predicted + 512 + 255)
     | .flywheel | .expired | .slewing => decide (t * 256 ≤ b.predicted + 512 + 255)
     | .locking => !b.everLocked || decide (t * 256 ≤ b.predicted + 255)
     | .noBeat => true)

/-- A recognised crossing at clock x (R34, R35, R48). -/
def State.crossing (s : State) (x : Nat) : State :=
  match s.beat.state with
  | .noBeat => s.modBeat fun b => { b with state := .locking, lastCross := some x, periods := [] }
  | .locking => s.measure x
  | .locked => s.lockedCross x
  | .flywheel | .expired => s.flyCross x
  | .slewing => s

/-- A crossing of BEAT_P/N, falling or rising, after gap clocks. -/
def beatCrossingDo (falling : Bool) (gap : Nat) (s : State) : State :=
  if s.beat.due (s.clock + gap) then
    let s := s.pass gap
    if s.beatEn && falling == s.beat.fallingPol then s.crossing s.clock else s
  else s

/-- BEAT_CROSSING (R34): gap clocks pass before the crossing. -/
def execBeatCrossing (falling : Bool) (gap : Nat) (s : State) : Host.Outcome State Fault Refusal :=
  act s (beatCrossingDo falling gap)

/-! ### The internal edge (R36, R37, R40) -/

/-- The part of e that no edge has taken yet, that of an edge on its way aside (R48). -/
def Beat.left (b : Beat) : Int := if b.slewEdge then b.phaseErr - max (-2) (min 2 b.phaseErr) else b.phaseErr

/-- What the next flywheel crossing of a slewing part is moved by, in clocks (R48). -/
def Beat.slew (b : Beat) : Int := max (-2) (min 2 b.left)

/-- The predicted crossing with the slew of its beat, in 1/256 clock. -/
def Beat.slewed (b : Beat) : Nat := ((b.predicted : Int) + b.slew * 256).toNat

/-- The internal edge of a beat that slewing moved: e falls by what the beat was moved by, and at 2 or less the part is
LOCKED (R48). -/
def State.slewStep (s : State) : State :=
  if s.beat.slewEdge then
    let s := s.modBeat fun b => { b with phaseErr := b.left, slewEdge := false }
    if s.beat.state = .slewing ∧ s.beat.phaseErr.natAbs ≤ 2 then s.lockFromFly else s
  else s

/-- What an internal edge at clock t does to the counts (R37, R38, R47): BEAT_NUM, and on the flywheel FLYWHEEL_CNT. -/
def Beat.step (b : Beat) (t : Nat) : Beat :=
  { b with edgesDue := b.edgesDue.drop 1, edgeClock := t, counted := true, num := if b.counted then b.num + 1 else b.num,
           flyCount := if b.state = .flywheel ∨ b.state = .expired then min 2047 (b.flyCount + 1) else b.flyCount }

/-- The internal edge that follows the oldest crossing that waits for one: BEAT_NUM counts, and the vales' detectors see a
beat (R37, R238). -/
def beatEdgeDo (late : Bool) (s : State) : State :=
  match s.beat.edgesDue with
  | [] => s
  | x :: _ =>
    let t := x + 24 + boolBit late
    let s := s.passTo t
    let s := { s with beatBefore := s.beat, beat := s.beat.step t }
    (s.vales.map (·.1)).foldl (fun s g => s.watchStall g) s.slewStep

/-- BEAT_EDGE (R37): the internal edge, 24 or 25 clocks after its crossing (R36). -/
def execBeatEdge (late : Bool) (s : State) : Host.Outcome State Fault Refusal := act s (beatEdgeDo late)

/-! ### Loss and the flywheel (R46, R47, R48) -/

/-- Whether the part finds no crossing by 2 clocks after the predicted one (R46), or runs into the loss of a BEAT_EN
cleared in SLEWING (R54); every internal edge comes before the next crossing. -/
def beatLossOk (s : State) : Bool :=
  s.beat.edgesDue.isEmpty &&
    (match s.beat.state with
     | .locked => true
     | .slewing => !s.beatEn
     | _ => false)

/-- The loss (R46): a flywheel edge at 2 clocks after the prediction; FLYWHEEL_CNT counts it at the internal edge. -/
def beatLossDo (s : State) : State :=
  let p := (if s.beat.state = .slewing then s.beat.slewed else s.beat.predicted) + 512
  let s := s.passTo (p / 256)
  let s := s.modBeat fun b => { b with
    state := .flywheel, flyCount := 0, slewEdge := false, returning := none, edgesDue := b.edgesDue ++ [p / 256], predicted := p + b.pLock }
  (s.beatEvent 2).moraine .beatLoss .device []

/-- BEAT_LOSS (R46). -/
def execBeatLoss (s : State) : Host.Outcome State Fault Refusal := act s fun s => if beatLossOk s then beatLossDo s else s

/-- A flywheel crossing at p comes: its internal edge is due, and the next crossing follows by P_lock (R46). -/
def State.flyStep (s : State) (p : Nat) : State :=
  (s.passTo (p / 256)).modBeat fun b => { b with edgesDue := b.edgesDue ++ [p / 256], predicted := p + b.pLock }

/-- Whether the flywheel makes its next edge (R47, R48, R50); after flywheel edge 1,025 the expiry comes first. -/
def flywheelEdgeOk (s : State) : Bool :=
  s.beat.edgesDue.isEmpty &&
    (match s.beat.state with
     | .flywheel => decide (s.beat.flyCount < 1025)
     | .expired => true
     | .slewing => s.beatEn
     | .locking => s.beat.everLocked
     | _ => false)

/-- The next flywheel edge (R46 to R48, R50). -/
def flywheelEdgeDo (s : State) : State :=
  if s.beat.state = .slewing then (s.flyStep s.beat.slewed).modBeat fun b => { b with slewEdge := true }
  else s.flyStep s.beat.predicted

/-- FLYWHEEL_EDGE (R46). -/
def execFlywheelEdge (s : State) : Host.Outcome State Fault Refusal :=
  act s fun s => if flywheelEdgeOk s then flywheelEdgeDo s else s

/-- Whether flywheel edge 1,025 since the loss has come (R47). -/
def flywheelExpiryOk (s : State) : Bool := s.beat.state == .flywheel && s.beat.flyCount == 1025

/-- Expiry (R47). -/
def flywheelExpiryDo (s : State) : State :=
  let s := s.modBeat fun b => { b with state := .expired, meteredValid := false, expiredVoid := true }
  ((s.beatEvent 4).moraine .beatExpiry .device []).voidMetered 4

/-- FLYWHEEL_EXPIRY (R47). -/
def execFlywheelExpiry (s : State) : Host.Outcome State Fault Refusal :=
  act s fun s => if flywheelExpiryOk s then flywheelExpiryDo s else s

/-! ### RELOCK and BEAT_EN (R50, R53, R54) -/

/-- The effect of a BEAT_EN of 0 in LOCKING (R54): the flywheel, or NO_BEAT where no period has been locked. -/
def State.dropLock (s : State) : State :=
  s.modBeat fun b =>
    if b.everLocked then { b with state := .flywheel, flyCount := 0, periods := [], returning := none }
    else { b with state := .noBeat, periods := [], lastCross := none }

/-- Whether any partition is metered (R50). -/
def State.anyMetered (s : State) : Bool := (List.range 16).any fun n => (s.part n).mode != .free && s.metered n

/-- A write of BEAT_CTL.RELOCK (R50, R54). -/
def relockDo (s : State) : State :=
  let pol := s.regBit 0x40 1
  let s := s.modBeat fun b => { b with
    state := .locking, periods := [], lastCross := none, returning := none, takeNumber := true, fallingPol := pol,
    predicted := if b.state = .slewing then b.slewed else b.predicted, slewEdge := false }
  let s := if s.anyMetered then (s.modBeat fun b => { b with phaseVoid := true }).voidMetered 8 else s
  if s.beatEn then s else s.dropLock

/-- RELOCK (R50). -/
def execRelock (s : State) : Host.Outcome State Fault Refusal := actBar .pf s relockDo

/-- A write of BEAT_CTL.BEAT_EN (R54). -/
def beatEnDo (en : Bool) (s : State) : State :=
  if s.beatEn = en then s
  else
    let s := s.setRegF 0x40 0 0 (boolBit en)
    match s.beat.state, en with
    | .locking, false => s.dropLock
    | .flywheel, _ => s.modBeat fun b => { b with returning := none }
    | .expired, _ => s.modBeat fun b => { b with returning := none }
    | _, _ => s

/-- BEAT_EN_WRITE (R54). -/
def execBeatEnWrite (en : Bool) (s : State) : Host.Outcome State Fault Refusal := actBar .pf s (beatEnDo en)

end Sys2Proof.Machine
end

