-- ==== Sys2Proof/Machine/Versions.lean ====
section
/-! DEFINITION. Versions: the version table (R348 to R352), bindings and pins (R355, R356), the version queue and its
operations but TURN (R357 to R361), and the token ledger (R377, R378). -/

namespace Sys2Proof.Machine

/-! ### The version table (R348 to R351) -/

/-- The partition address of the header of a set (R348). -/
def vtHeader (s : State) (n set : Nat) : Nat := s.reg64 (partBase n + 0x3020) + 256 * set
/-- EPOCH of a version record (R350). -/
def verEpoch (s : State) (n set v : Nat) : Nat := s.peek32 n (verAddr s n set v)
/-- STATE of a version record (R350): 0 FREE, 1 LANDING, 2 CURRENT, 3 HELD, 4 ABANDONED. -/
def verState (s : State) (n set v : Nat) : Nat := bitsOf (s.peek32 n (verAddr s n set v + 4)) 2 0
/-- REFS of a version record (R350). -/
def verRefs (s : State) (n set v : Nat) : Nat := bitsOf (s.peek32 n (verAddr s n set v + 8)) 23 0
/-- LAST_EPOCH of a set (R349). -/
def lastEpoch (s : State) (n set : Nat) : Nat := s.peek32 n (vtHeader s n set + 0x28)

/-- STATE of a version record written. -/
def State.setVerState (s : State) (n set v x : Nat) : State :=
  let a := verAddr s n set v + 4
  s.poke32 n a (putBits (s.peek32 n a) 2 0 x)
/-- REFS of a version record written. -/
def State.setVerRefs (s : State) (n set v x : Nat) : State :=
  let a := verAddr s n set v + 8
  s.poke32 n a (putBits (s.peek32 n a) 23 0 x)

/-- A record enters FREE: FREE_TOKEN steps (R351). -/
def State.freeVersion (s : State) (n set v : Nat) : State :=
  (s.setVerState n set v 0).signal n (bitsOf (s.peek32 n (vtHeader s n set + 0x10)) 27 16)

/-- A reference of a version is released; HELD and ABANDONED versions without one become FREE (R351, R355). -/
def State.unref (s : State) (n set v : Nat) : State :=
  let r := verRefs s n set v - 1
  let s := s.setVerRefs n set v r
  if r = 0 ∧ 3 ≤ verState s n set v then s.freeVersion n set v else s

/-- A reference of a version is taken. -/
def State.ref (s : State) (n set v : Nat) : State := s.setVerRefs n set v (verRefs s n set v + 1)

/-- The version that SEL selects, in a bindable state (R358). -/
def selVersion (s : State) (n set : Nat) (sel : Bool) (epoch : Nat) : Option Nat :=
  (List.range 4).find? fun v =>
    if sel then verEpoch s n set v == epoch && decide (1 ≤ verState s n set v) && decide (verState s n set v ≤ 3)
    else verState s n set v == 2

/-- The FREE records of a set. -/
def freeRecords (s : State) (n set : Nat) : List Nat := (List.range 4).filter fun v => verState s n set v == 0

/-- One element of a list, the spec not saying which. -/
def State.pick (s : State) (xs : List Nat) : Option Nat × State :=
  match xs with
  | [] => (none, s)
  | [x] => (some x, s)
  | _ => let f := s.freeWord; (xs[f.1.toNat % xs.length]?, f.2)

/-- Version v of a set gives way to another (R351): FREE where nothing refers to it, else SUPERSEDED. -/
def State.giveWay (s : State) (n set : Nat) : Option Nat → State
  | none => s
  | some v => if verRefs s n set v = 0 then s.freeVersion n set v else s.setVerState n set v 3

/-- The CURRENT version of a set, if there is one, gives way to another (R351). -/
def State.retireCurrent (s : State) (n set : Nat) : State :=
  s.giveWay n set ((List.range 4).find? fun v => verState s n set v == 2)

/-- Version v of a set becomes CURRENT (R351, R373). -/
def State.makeCurrent (s : State) (n set v : Nat) : State :=
  let s := s.retireCurrent n set
  let a := verAddr s n set v
  let h := vtHeader s n set
  let s := (s.setVerState n set v 2).poke64 n (a + 0x20) s.beatNum
  (s.poke32 n h (verEpoch s n set v)).poke32 n (h + 4) (putBits (s.peek32 n (h + 4)) 1 0 v)

/-- A FREE record takes the set's next epoch (R351, R352): its EPOCH, STATE, BASE and LAYOUT are written, REFS and LANDED
are 0. -/
def State.startVersion (s : State) (n set v st base layout : Nat) : State :=
  let e := (lastEpoch s n set + 1) % 2 ^ 32
  let a := verAddr s n set v
  let s := s.poke32 n (vtHeader s n set + 0x28) e
  let s := ((s.poke32 n a e).poke32 n (a + 4) st).poke32 n (a + 8) 0
  (s.poke64 n (a + 0x10) base).poke64 n (a + 0x18) layout

/-! ### Bindings and pins (R355, R356) -/

/-- The entry of a key. -/
def lookupKey (key : Nat) (xs : List (Nat × Nat)) : Option Nat := (xs.find? fun e => e.1 == key).map (·.2)
/-- The entries without a key's. -/
def dropKey (key : Nat) (xs : List (Nat × Nat)) : List (Nat × Nat) := xs.filter fun e => e.1 != key

/-- The key of a binding: job and set. -/
def bindKey (job set : Nat) : Nat := job * 16 + set
/-- The key of a pin: set and request id (R356). -/
def pinKey (set req : Nat) : Nat := 2 ^ 32 * set + req

/-- Every binding and every pin of partition n is released (R356). -/
def State.releaseVersions (s : State) (n : Nat) : State :=
  let p := s.part n
  let s := p.bindings.foldl (fun s b => s.unref n (b.1 % 16) b.2) s
  let s := p.pins.foldl (fun s b => s.unref n (b.1 / 2 ^ 32) b.2) s
  s.modPart n fun p => { p with bindings := [], pins := [] }

/-! ### The version queue (R357, R359) -/

/-- A doorbell of a partition page's operation queue, whose SIZE, TAIL registers lie at offsets of the page (R248, R357). -/
def State.ringBell (s : State) (n size tail v : Nat) : State :=
  let b := partBase n
  let t := bitsOf v 11 0
  if s.pageOn n && decide (t < s.ringSlots (b + size)) then s.setRegF (b + tail) 11 0 t else s

/-- VQ_DOORBELL (R357). -/
def execVqDoorbell (n : PartId) (tail : BitVec 32) (s : State) : Host.Outcome State Fault Refusal :=
  actBar (.vf n) s fun s => s.ringBell n.val 0x3008 0x300C tail.toNat

/-- VQ_CTL.RESUME (R359): the halt ends; HALT_STATUS stays. -/
def vqResumeDo (n : PartId) (s : State) : State :=
  if s.pageOn n.val then s.setRegF (partBase n.val + 0x3018) 0 0 0 else s

/-- VQ_RESUME (R359). -/
def execVqResume (n : PartId) (s : State) : Host.Outcome State Fault Refusal := actBar (.vf n) s (vqResumeDo n)

/-- The address of the slot at the head of the version queue. -/
def vqSlot (s : State) (n : Nat) : Nat := s.ringBase (partBase n + 0x3000) + 32 * s.regF (partBase n + 0x3010) 11 0

/-- Whether the Switchback engine takes the version operation at the head now (R357, R359). -/
def vqReady (s : State) (n : Nat) : Bool :=
  let b := partBase n
  s.pageOn n && !s.holding && !s.queueEmpty (b + 0x300C) (b + 0x3010) && !s.regBit (b + 0x3018) 0 &&
    (s.part n).turnWait.isNone && s.waitOk n (w32At (s.peek n (vqSlot s n) 32) 0x10)

/-- OP of a version operation (R357). -/
def vopCode (o : List Byte) : Nat := bitsOf (w32At o 0) 3 0
/-- SET of a version operation. -/
def vopSet (o : List Byte) : Nat := bitsOf (w32At o 0) 7 4
/-- JOB of a version operation. -/
def vopJob (o : List Byte) : Nat := bitsOf (w32At o 0) 12 8
/-- SEL of a version operation. -/
def vopSel (o : List Byte) : Bool := bitOf (w32At o 0) 13
/-- Whether a version operation breaks its format: a reserved bit, a reserved OP (R357, R358). -/
def vopBad (o : List Byte) : Bool :=
  anySet o [(0x00, 31, 14), (0x14, 31, 12), (0x18, 31, 4)] || vopCode o == 0 || decide (7 < vopCode o)

/-- Whether the row of an OP takes the operation at the head; BIND's row takes one whose OP is reserved too. -/
def vopOk (n : PartId) (op : Nat) (s : State) : Bool :=
  let c := vopCode (s.peek n.val (vqSlot s n.val) 32)
  vqReady s n.val && (c == op || (op == 1 && (c == 0 || decide (7 < c))))

/-- What a version operation answers: its status, its epoch where it has one. -/
structure VopEnd where
  status : Nat
  epoch : Option Nat
deriving DecidableEq, Repr

/-- A version operation writes RESULT_EPOCH and STATUS to its slot (R359); what RESULT_EPOCH is for an operation that has
none is open. -/
def State.vopWrite (s : State) (n a : Nat) (r : VopEnd) : State :=
  let f := s.freeWord
  let e : Nat × State := match r.epoch with | some e => (e, s) | none => (f.1.toNat, f.2)
  let s := e.2.poke32 n (a + 0x1C) e.1
  s.poke32 n (a + 0x18) (putBits (s.peek32 n (a + 0x18)) 3 0 r.status)

/-- The head of the version queue moves on. -/
def State.vqAdvance (s : State) (n : Nat) : State :=
  let b := partBase n
  s.setRegF (b + 0x3010) 11 0 ((s.regF (b + 0x3010) 11 0 + 1) % s.ringSlots (b + 0x3008))

/-- The version queue halts (R359). -/
def State.vqHalt (s : State) (n status : Nat) : State :=
  let a := partBase n + 0x3018
  s.setReg a (setField (setField (s.reg a) 0 0 1) 7 4 status)

/-- A version operation ends (R359): STATUS, then SIGNAL on success; a failure halts the queue. -/
def State.vopFinish (s : State) (n : Nat) (o : List Byte) (r : VopEnd) : State :=
  let s := (s.vopWrite n (vqSlot s n) r).vqAdvance n
  if r.status = 0 then s.signal n (bitsOf (w32At o 0x14) 11 0) else s.vqHalt n r.status

/-- The shape of a version operation: the format, the table's pages, then its own effect, which fails by changing nothing. -/
def State.vop (s : State) (n : Nat) (f : List Byte → State → VopEnd × State) : State :=
  let o := s.peek n (vqSlot s n) 32
  if vopBad o then s.vopFinish n o ⟨1, none⟩
  else if !s.pdaOk n (vtHeader s n 0) 4096 true then s.vopFinish n o ⟨8, none⟩
  else let r := f o s; r.2.vopFinish n o r.1

/-! ### BIND, UNBIND, PIN, UNPIN, INSTALL (R355, R356, R358) -/

/-- BIND (R355, R358). -/
def bindOp (n : Nat) (o : List Byte) (s : State) : VopEnd × State :=
  let S := vopSet o
  let key := bindKey (vopJob o) S
  match selVersion s n S (vopSel o) (w32At o 4) with
  | none => (⟨2, none⟩, s)
  | some v =>
    let old := lookupKey key (s.part n).bindings
    let e := verEpoch s n S v
    if old = some v then (⟨0, some e⟩, s)
    else if verRefs s n S v = 0xFFFFFF then (⟨3, none⟩, s)
    else
      let s := (s.ref n S v).modPart n fun p => { p with bindings := dropKey key p.bindings ++ [(key, v)] }
      (⟨0, some e⟩, match old with | some w => s.unref n S w | none => s)

/-- BIND (R358). -/
def execBind (n : PartId) (s : State) : Host.Outcome State Fault Refusal :=
  act s fun s => if vopOk n 1 s then s.vop n.val (bindOp n.val) else s

/-- UNBIND (R358). -/
def unbindOp (n : Nat) (o : List Byte) (s : State) : VopEnd × State :=
  let key := bindKey (vopJob o) (vopSet o)
  match lookupKey key (s.part n).bindings with
  | none => (⟨4, none⟩, s)
  | some v => (⟨0, none⟩, (s.modPart n fun p => { p with bindings := dropKey key p.bindings }).unref n (vopSet o) v)

/-- UNBIND (R358). -/
def execUnbind (n : PartId) (s : State) : Host.Outcome State Fault Refusal :=
  act s fun s => if vopOk n 2 s then s.vop n.val (unbindOp n.val) else s

/-- PIN (R356, R358). -/
def pinOp (n : Nat) (o : List Byte) (s : State) : VopEnd × State :=
  let S := vopSet o
  let key := pinKey S (w32At o 8)
  if (lookupKey key (s.part n).pins).isSome then (⟨2, none⟩, s)
  else
    match selVersion s n S (vopSel o) (w32At o 4) with
    | none => (⟨2, none⟩, s)
    | some v =>
      if 4096 ≤ (s.part n).pins.length ∨ verRefs s n S v = 0xFFFFFF then (⟨3, none⟩, s)
      else (⟨0, some (verEpoch s n S v)⟩, (s.ref n S v).modPart n fun p => { p with pins := p.pins ++ [(key, v)] })

/-- PIN (R358). -/
def execPin (n : PartId) (s : State) : Host.Outcome State Fault Refusal :=
  act s fun s => if vopOk n 3 s then s.vop n.val (pinOp n.val) else s

/-- UNPIN (R356, R358). -/
def unpinOp (n : Nat) (o : List Byte) (s : State) : VopEnd × State :=
  let key := pinKey (vopSet o) (w32At o 8)
  match lookupKey key (s.part n).pins with
  | none => (⟨4, none⟩, s)
  | some v => (⟨0, none⟩, (s.modPart n fun p => { p with pins := dropKey key p.pins }).unref n (vopSet o) v)

/-- UNPIN (R358). -/
def execUnpin (n : PartId) (s : State) : Host.Outcome State Fault Refusal :=
  act s fun s => if vopOk n 4 s then s.vop n.val (unpinOp n.val) else s

/-- INSTALL (R351, R352, R358): the FREE record it takes is any of the set's. -/
def installOp (n : Nat) (o : List Byte) (s : State) : VopEnd × State :=
  let S := vopSet o
  match s.readPda n (w64At o 8) 16 with
  | (.ok bs, s) =>
    match s.pick (freeRecords s n S) with
    | (none, s) => (⟨6, none⟩, s)
    | (some v, s) =>
      let s := (s.startVersion n S v 0 (w64At bs 0) (w64At bs 8)).makeCurrent n S v
      (⟨0, some (verEpoch s n S v)⟩, s)
  | (_, s) => (⟨8, none⟩, s)

/-- INSTALL (R358). -/
def execInstall (n : PartId) (s : State) : Host.Outcome State Fault Refusal :=
  act s fun s => if vopOk n 5 s then s.vop n.val (installOp n.val) else s

/-! ### The token ledger (R377, R378) -/

/-- Whether a staged ledger record has a reserved bit set (R377). -/
def ledgerResv (r : List Byte) : Bool := anySet r [(0x08, 31, 28), (0x08, 23, 18), (0x14, 31, 4)]

/-- Whether a version of set S in state CURRENT or HELD has an epoch (R378). -/
def epochLives (s : State) (n set epoch : Nat) : Bool :=
  (List.range 4).any fun v => verEpoch s n set v == epoch && (verState s n set v == 2 || verState s n set v == 3)

/-- The status that a staged record gives: FORMAT, EPOCH, or 0 (R378). -/
def ledgerCheck (s : State) (n set : Nat) (r : List Byte) : Nat :=
  if ledgerResv r then 1
  else if bitsOf (w32At r 0x14) 3 0 != set || !epochLives s n set (w32At r 0x10) then 5 else 0

/-- Record i of a string of 32-byte records. -/
def recAt (bs : List Byte) (i : Nat) : List Byte := (bs.drop (32 * i)).take 32

/-- The address of ledger record k of a set (R377). -/
def ledgerAddr (s : State) (n set k : Nat) : Nat :=
  let h := vtHeader s n set
  s.peek64 n (h + 8) + 32 * (k % 2 ^ bitsOf (s.peek32 n (h + 0x10)) 4 0)

/-- LEDGER_APPEND (R378). -/
def ledgerOp (n : Nat) (o : List Byte) (s : State) : VopEnd × State :=
  let S := vopSet o
  let count := w32At o 4
  let h := vtHeader s n S
  let tail := s.peek64 n (h + 0x18)
  if count = 0 ∨ 65536 < count then (⟨1, none⟩, s)
  else
    match s.readPda n (w64At o 8) (32 * count) with
    | (.ok bs, s) =>
      match ((List.range count).map fun i => ledgerCheck s n S (recAt bs i)).find? (· != 0) with
      | some e => (⟨e, none⟩, s)
      | none =>
        if s.peek64 n (h + 8) = 0 ∨
            2 ^ bitsOf (s.peek32 n (h + 0x10)) 4 0 < (tail + 2 ^ 64 - s.peek64 n (h + 0x20)) % 2 ^ 64 + count then
          (⟨3, none⟩, s)
        else if !(List.range count).all fun i => s.pdaOk n (ledgerAddr s n S (tail + i)) 32 true then (⟨8, none⟩, s)
        else
          let t := (List.range count).foldl (fun t i =>
            t.poke n (ledgerAddr s n S (tail + i)) ((recAt bs i).take 0x18 ++ leBytes 8 s.beatNum)) s
          (⟨0, none⟩, t.poke64 n (h + 0x18) ((tail + count) % 2 ^ 64))
    | (_, s) => (⟨8, none⟩, s)

/-- LEDGER_APPEND (R378). -/
def execLedgerAppend (n : PartId) (s : State) : Host.Outcome State Fault Refusal :=
  act s fun s => if vopOk n 6 s then s.vop n.val (ledgerOp n.val) else s

end Sys2Proof.Machine
end

