-- ==== Sys2Proof/Machine/Partitions.lean ====
section
/-! DEFINITION. Partitions: the operations of PCFG_CMD (R278 to R284, R287), beat tables as they are read and checked (R285,
R286), and the recheck after a fence (R290). -/

namespace Sys2Proof.Machine

/-! ### Reading a beat table (R285) -/

/-- The reserved fields of a beat table header. -/
def btHeaderResv : List (Nat × Nat × Nat) := [(0x00, 31, 27), (0x00, 15, 8), (0x04, 31, 21)] ++ wordsOf 0x10 0x40

/-- Whether a header fails check 1. -/
def badHeader (h : List Byte) : Bool :=
  anySet h btHeaderResv || bitsOf (w32At h 0) 7 0 != 1 || decide (1024 < bitsOf (w32At h 0) 26 16) ||
    outside (bitsOf (w32At h 4) 20 0) 16 1048576

/-- Whether an entry fails check 1, under PERIOD T. -/
def badBtEntry (T : Nat) (e : List Byte) : Bool :=
  anySet e [(0x00, 31, 20), (0x04, 31, 21), (0x08, 15, 10), (0x08, 7, 5), (0x0C, 31, 0)] || teKind e == 3 ||
    outside (teLen e) 1 T || (teKind e != 0 && teJob e != 0)

/-- Some entries of a table from entry i on, as partition n's pages hold them: their bytes, or the first that fails
check 1. -/
def State.readEntries (n a T : Nat) : Nat → Nat → State → Except Nat (List Byte) × State
  | 0, _, s => (.ok [], s)
  | f + 1, i, s =>
    match s.readPda n (a + 64 + 16 * i) 16 with
    | (.ok e, s) =>
      if badBtEntry T e then (.error i, s)
      else
        match State.readEntries n a T f (i + 1) s with
        | (.ok es, s) => (.ok (e ++ es), s)
        | r => r
    | (_, s) => (.error i, s)

/-- The table at BT_ADDR, or the entry at which check 1 fails. -/
def State.readTable (s : State) (n : Nat) : Except Nat BeatTable × State :=
  let a := s.reg64 (pcfg n + 0x88)
  if a % 64 ≠ 0 then (.error 0, s)
  else
    match s.readPda n a 64 with
    | (.ok h, s) =>
      if badHeader h then (.error 0, s)
      else
        match State.readEntries n a (bitsOf (w32At h 4) 20 0) (bitsOf (w32At h 0) 26 16) 0 s with
        | (.ok es, s) => (.ok ⟨h ++ es⟩, s)
        | (.error i, s) => (.error i, s)
    | (_, s) => (.error 0, s)

/-! ### Checks 2 to 7 (R285): the first entry that fails -/

/-- The first index below n that passes a test. -/
def firstIdx (n : Nat) (p : Nat → Bool) : Option Nat := (List.range n).find? p

/-- Whether two entries clash on a vale (check 5). -/
def teClash (a b : List Byte) : Bool :=
  teKind a != 2 && teKind b != 2 && decide (teFirst a < teFirst b + teCount b) && decide (teFirst b < teFirst a + teCount a) &&
    decide (teStart a < teStart b + teLen b) && decide (teStart b < teStart a + teLen a) &&
    !(teKind a == 0 && teKind b == 0 && teJob a == teJob b)

/-- Whether every vale or link that an entry names is the partition's (check 4). -/
def teOwned (s : State) (n : Nat) (owned : Nat → Bool) (e : List Byte) : Bool :=
  (List.range (teCount e)).all fun i =>
    let u := teFirst e + i
    if teKind e = 2 then decide (u < 32) && linkWeight s n u != 0 else owned u

/-- The entry at which a table fails checks 2 to 7; `load` is the beat in which BT_LOAD was written. -/
def tableFails (s : State) (n : Nat) (owned : Nat → Bool) (load : Option Nat) (t : BeatTable) : Option Nat :=
  let es := t.entries
  let e := fun (i : Nat) => es.getD i []
  ((((firstIdx t.n fun i => i != 0 && decide (teStart (e i) < teStart (e (i - 1)))) <|>
    (firstIdx t.n fun i => decide (t.period < teStart (e i) + teLen (e i)))) <|>
    (firstIdx t.n fun i => !teOwned s n owned (e i))) <|>
    (firstIdx t.n fun i => (es.take i).any fun x => teClash x (e i))) <|>
    (if (s.metered n && t.n == 0) || (load.any fun b => decide (t.anchor < b + 128)) then some 0 else none)

/-- A table that was read if it passes every check of R285, or the entry it fails at. -/
def checkTable (n : Nat) (owned : Nat → Bool) (load : Option Nat) : Except Nat BeatTable × State → Except Nat BeatTable × State
  | (.error i, s) => (.error i, s)
  | (.ok t, s) => match tableFails s n owned load t with | some i => (.error i, s) | none => (.ok t, s)

/-- The table at BT_ADDR if it passes every check of R285, or the entry it fails at. -/
def State.checkedTable (s : State) (n : Nat) (owned : Nat → Bool) (load : Option Nat) : Except Nat BeatTable × State :=
  checkTable n owned load (s.readTable n)

/-! ### The start and the end of an operation (R278) -/

/-- An operation has its result: it is in progress until its end (R278). -/
def State.opTakes (s : State) (n code vale err entry : Nat) : State :=
  s.modPart n fun p => { p with op := some { code := code, vale := vale, err := err, entry := entry } }

/-- The shape of a PCFG_CMD operation: discarded while BUSY (R278); `f` answers ERR, BT_ENTRY and the state after, which is
used where ERR is OK or where reading changed error counters alone. -/
def pcfgOp (n : PartId) (code vale : Nat) (f : State → Nat × Nat × State) (s : State) : State :=
  if (s.part n.val).op.isSome then s else let r := f s; r.2.2.opTakes n.val code vale r.1 r.2.1

/-- Whether an operation can end: a DESTROY only once the partition has drained (R282). -/
def opEndOk (n : PartId) (s : State) : Bool := (s.part n.val).op.isSome && (s.part n.val).mode != .destroying

/-- An operation ends (R278): ERR, BUSY, CMD_DONE and a Moraine record. -/
def opEndDo (n : PartId) (s : State) : State :=
  match (s.part n.val).op with
  | none => s
  | some o =>
    let s := s.modPart n.val fun p =>
      { p with op := none, err := o.err, btEntry := if o.err = 8 then o.entry else p.btEntry }
    (s.raise (.partcfg n) 1).moraine .pcfgDone (.partcfg n) [o.code, o.err, if o.err = 8 then o.entry else o.vale]

/-- PCFG_OP_END (R278). -/
def execPcfgOpEnd (n : PartId) (s : State) : Host.Outcome State Fault Refusal :=
  act s fun s => if opEndOk n s then opEndDo n s else s

/-! ### Checks of CREATE (R278 to R281, R288) -/

/-- The vales that VALE_MASK of a FREE partition names. -/
def maskVales (s : State) (n : Nat) : List Nat :=
  (List.range 128).filter fun g => bitOf (s.reg (pcfg n + 0x50 + 4 * (g / 32))).toNat (g % 32)

/-- Whether a background test on vale g is accepted or running (R278). -/
def valeTested (s : State) (g : Nat) : Bool :=
  s.tests.any fun e => e.2.any fun t => (t.code == 1 || t.code == 3 || t.code == 4) && t.target == g

/-- The partitions in ACTIVE or DESTROYING, and n. -/
def floorHolders (s : State) (n : Nat) : List Nat :=
  (List.range 16).filter fun m => m == n || (s.part m).mode != .free

/-- The ports at which FLOOR values can differ (R230, R276); a crossbar port is its owner's alone. -/
def floorPorts : List Port :=
  (List.range 20).map (fun i => .stack (Fin.ofNat 20 i)) ++ [.d2d 0 0 true, .staging 0, .pcie true] ++
    (List.range 32).map fun i => .link (Fin.ofNat 32 i)

/-- FLOOR_SUM (R281, R288). -/
def floorSumBad (s : State) (n : Nat) : Bool :=
  let ms := floorHolders s n
  (floorPorts.any fun p => decide (240 < (ms.map fun m => portFloor s m p).foldl (· + ·) 0)) ||
    (List.range 32).any fun k => decide (15 < (ms.map fun m => linkWeight s m k).foldl (· + ·) 0)

/-- SLOT_SUM (R278). -/
def slotSumBad (s : State) (n : Nat) : Bool :=
  decide (512 < ((floorHolders s n).map (slotFloor s)).foldl (· + ·) 0) || (s.metered n && slotFloor s n == 0)

/-- POOL (R278). -/
def poolBad (s : State) (n : Nat) : Bool :=
  let base := s.regF (pcfg n + 0x78) 28 16
  let size := s.regF (pcfg n + 0x78) 13 0
  (s.metered n && (base != 0 || size != 0)) || decide (8192 < base + size)

/-- The stacks in which the pages of [a, a + len) lie, mapped and granted for writing; none where a page is not, or lies in
no stack. -/
def stacksOf (s : State) (n a len : Nat) : Option (List Nat) :=
  let pages := (List.range ((a + len - 1) / 2 ^ 21 + 1 - a / 2 ^ 21)).map fun i => max a (2 ^ 21 * (a / 2 ^ 21 + i))
  pages.foldl (fun out p => match out, s.walk n p true with
    | some xs, .ok d _ => (dpaStack d).map fun st => st :: xs
    | _, _ => none) (some [])

/-- SCALE_TABLE (R278). -/
def scaleTableBad (s : State) (n : Nat) : Bool :=
  let count := s.regF (pcfg n + 0x7C) 16 0
  let a := s.reg64 (pcfg n + 0x80)
  outside count 1 65536 || a % 128 != 0 ||
    (match stacksOf s n a (128 * count) with
     | some (x :: xs) => xs.any (· != x)
     | _ => true)

/-- ERR of CREATE before the beat table, in the order of the codes; 0 for none (R278, R279). -/
def createErr (s : State) (n : Nat) : Nat :=
  let gs := maskVales s n
  if (s.part n).mode != .free then 1
  else if gs.any fun g => (s.vale g).owner.isSome || valeTested s g then 2
  else if gs.any fun g => (s.vale g).fenced then 3
  else if floorSumBad s n then 4 else if slotSumBad s n then 5 else if poolBad s n then 6
  else if scaleTableBad s n then 7 else 0

/-! ### CREATE (R159, R279) -/

/-- Every register of an address range at its reset value. -/
def State.clearRegs (s : State) (lo hi : Nat) : State :=
  { s with regs := s.regs.filter fun e => decide (e.1 < lo) || decide (hi ≤ e.1) }

/-- A vale assigned to a partition (R159). -/
def State.assignVale (s : State) (n : PartId) (g : Nat) : State :=
  (s.cleanElement g).modVale g fun v => { v with owner := some n, set := 0 }

/-- Every scale record of partition n written by R126. -/
def State.freshRecords (s : State) (n : Nat) : State :=
  (List.range (s.regF (pcfg n + 0x7C) 16 0)).foldl (fun s t => s.poke n (scaleAddr s n t) recFresh) s

/-- Partition n is created with some vales and its beat table (R279). -/
def State.createPart (s : State) (n : PartId) (gs : List Nat) (t : BeatTable) : State :=
  let s := gs.foldl (fun s g => s.assignVale n g) s
  let s := s.clearRegs (tokenAddr n.val 0) (tokenAddr n.val 4096)
  let s := (List.range 32).foldl (fun s j => s.setRegF (jobBase n.val j + 0x18) 0 0 0) s
  let s := s.freshRecords n.val
  s.modPart n.val fun p => { p with mode := .active, table := some t, next := none, since := s.clock }

/-- CREATE (R279): ERR, BT_ENTRY and the state after. -/
def createOp (n : PartId) (s : State) : Nat × Nat × State :=
  let e := createErr s n.val
  if e ≠ 0 then (e, 0, s)
  else
    let gs := maskVales s n.val
    match s.checkedTable n.val (fun g => gs.contains g) none with
    | (.error i, s) => (8, i, s)
    | (.ok t, s) => (0, 0, s.createPart n gs t)

/-- CREATE (R279). -/
def execCreate (n : PartId) (s : State) : Host.Outcome State Fault Refusal := actBar .pf s (pcfgOp n 1 0 (createOp n))

/-! ### DESTROY (R282, R356) -/

/-- A partition enters DESTROYING (R282): its undispatched commands end CANCELLED, its bindings and pins are released. -/
def State.beginDestroy (s : State) (n : Nat) : State :=
  let s := s.modPart n fun p => { p with mode := .destroying }
  let s := s.endAll ((s.ofPart n).filter fun e => e.2.dispatched.isNone && !e.2.reissued) 6 0
  s.releaseVersions n

/-- DESTROY (R282): ERR, BT_ENTRY and the state after. -/
def destroyOp (n : PartId) (s : State) : Nat × Nat × State :=
  if (s.part n.val).mode = .active then (0, 0, s.beginDestroy n.val) else (1, 0, s)

/-- DESTROY (R282). -/
def execDestroy (n : PartId) (s : State) : Host.Outcome State Fault Refusal := actBar .pf s (pcfgOp n 2 0 (destroyOp n))

/-- The on-chip state of vale g set to zero, its program blocks non-resident (R282, R293). -/
def State.zeroVale (s : State) (g : Nat) : State :=
  let s := s.clearRange (2 ^ 44 + 2 ^ 25 * g) (2 ^ 44 + 2 ^ 25 * (g + 1))
  let s := s.clearRange (2 ^ 45 + 2 ^ 20 * g) (2 ^ 45 + 2 ^ 20 * (g + 1))
  let s := s.clearRange (2 ^ 46 + 2 ^ 17 * (4 * g)) (2 ^ 46 + 2 ^ 17 * (4 * (g + 1)))
  s.modVale g fun v =>
    { v with elem := { v.elem with resident := [] },
             arrays := v.arrays.map fun a => (a.1, { a.2 with colSums := [] }) }

/-- The owner of a vale that a destructive test zeroes has lost the count tables in its store (R419). -/
def State.loseTables (s : State) (g : Nat) : State :=
  match (s.vale g).owner with
  | some n => s.modPart n.val fun p => { p with lostVales := p.lostVales ++ [g] }
  | none => s

/-- A vale zeroed and released (R282, R284). -/
def State.releaseVale (s : State) (g : Nat) : State :=
  (s.zeroVale g).modVale g fun v => { v with owner := none, set := 0 }

/-- Whether a partition in DESTROYING has drained (R282). -/
def destroyDrainedOk (n : PartId) (s : State) : Bool :=
  (s.part n.val).mode == .destroying && (s.ofPart n.val).isEmpty

/-- Steps 3 and 4 of R282. -/
def destroyDrainedDo (n : PartId) (s : State) : State :=
  let s := (s.owned n.val).foldl State.releaseVale s
  s.modPart n.val fun p => { p with mode := .free, tlb := [], table := none, next := none, lostVales := [], recheck := [], rc := Rc.reset,
                                    turnWait := none, step := none, rqCopy := none, res := none, digest := none }

/-- DESTROY_DRAINED (R282). -/
def execDestroyDrained (n : PartId) (s : State) : Host.Outcome State Fault Refusal :=
  act s fun s => if destroyDrainedOk n s then destroyDrainedDo n s else s

/-! ### ADD_VALE and RELEASE_VALE (R284, R428) -/

/-- The set that a vale added to partition n goes to (R428): prefill below the highest prefill vale, else decode. -/
def addedSet (s : State) (n g : Nat) : Nat :=
  if !s.regBit (partBase n + 0x5080) 0 then 0
  else if (setVales s n 1).any fun h => decide (g < h) then 1 else 2

/-- ADD_VALE (R284): ERR, BT_ENTRY and the state after. -/
def addValeOp (n : PartId) (g : Vale) (s : State) : Nat × Nat × State :=
  if (s.part n.val).mode != .active then (1, 0, s)
  else if (s.vale g.val).owner.isSome || valeTested s g.val then (2, 0, s)
  else if (s.vale g.val).fenced then (3, 0, s)
  else
    let k := addedSet s n.val g.val
    (0, 0, (s.assignVale n g.val).modVale g.val fun v => { v with set := k })

/-- ADD_VALE (R284). -/
def execAddVale (n : PartId) (g : Vale) (s : State) : Host.Outcome State Fault Refusal :=
  actBar .pf s (pcfgOp n 3 g.val (addValeOp n g))

/-- The governing table of a partition and the one that waits for its ANCHOR. -/
def liveTables (s : State) (n : Nat) : List BeatTable :=
  ((s.part n).tableAt s.beatNum).toList ++ (s.part n).next.toList

/-- IN_USE of RELEASE_VALE (R278, R284). -/
def valeInUse (s : State) (n g : Nat) : Bool :=
  ((s.ofPart n).any fun e => e.2.dispatched.isNone &&
    (e.2.vale == g || e.2.farKinds.any fun k => k.1 == 1 && k.2 == g)) ||
  (liveTables s n).any fun t => t.entries.any fun e => teKind e != 2 && teNames e g

/-- What the release of a vale does to a pending move that names it (R428). -/
def dropMove (g : Nat) (r : Rc) : Rc := if r.pending.any fun m => m.vale == g then { r with pending := none, due := false } else r

/-- RELEASE_VALE (R284): ERR, BT_ENTRY and the state after. -/
def releaseValeOp (n : PartId) (g : Vale) (s : State) : Nat × Nat × State :=
  if (s.part n.val).mode != .active then (1, 0, s)
  else if (s.vale g.val).owner != some n || valeTested s g.val then (2, 0, s)
  else if valeInUse s n.val g.val then (10, 0, s)
  else (0, 0, (s.releaseVale g.val).modPart n.val fun p =>
    { p with rc := dropMove g.val p.rc, lostVales := p.lostVales ++ [g.val] })

/-- RELEASE_VALE (R284). -/
def execReleaseVale (n : PartId) (g : Vale) (s : State) : Host.Outcome State Fault Refusal :=
  actBar .pf s (pcfgOp n 4 g.val (releaseValeOp n g))

/-! ### BT_LOAD (R286, R287) -/

/-- The beats a piece of a test takes (R291). -/
def testBeats (code : Nat) : Nat :=
  match code with | 1 => 1 | 2 => 1 | 3 => 6 | 4 => 48 | 5 => 64 | _ => 2048

/-- The kind of background window that a test takes in a metered partition: of its vale, or of its link (R292). -/
def testKind (code : Nat) : Nat := if code = 6 then 2 else 1

/-- Whether a test, accepted and not ended, has its pieces from beat a on within the windows of a partition's tables, where
it needs any of them (R287, R292). -/
def testFits (s : State) (n : Nat) (p : Part) (a : Nat) (t : BgTest) : Bool :=
  let mine := if t.code = 6 then linkWeight s n t.target != 0 else (s.vale t.target).owner.map Fin.val == some n
  !(s.metered n) || !mine || t.code == 2 || t.code == 5 ||
    t.starts.all fun b => decide (b + testBeats t.code ≤ a) ||
      (match p.next with
       | some q => q.entries.any fun e => teKind e == testKind t.code && teNames e t.target &&
           decide (teStart e ≤ q.offset (max b a)) && decide (q.offset (max b a) + (b + testBeats t.code - max b a) ≤ teStart e + teLen e)
       | none => true)

/-- WINDOWS (R287): an admitted window, or an accepted test, at or after ANCHOR does not fit the new table. -/
def windowsBad (s : State) (n : Nat) (p : Part) (t : BeatTable) : Bool :=
  ((s.ofPart n).any fun e => match e.2.window with
    | some w => e.2.admitted && decide (t.anchor < w.2) &&
        (!p.inSlice e.2.job e.2.vale w.1 w.2 || p.meetsBg 1 e.2.vale w.1 w.2 ||
          e.2.links.any fun l => p.meetsBg 2 l w.1 w.2)
    | none => false) ||
  s.tests.any fun e => e.2.any fun x => !testFits s n p t.anchor x

/-- BT_LOAD (R287): ERR, BT_ENTRY and the state after. -/
def btLoadOp (n : PartId) (s : State) : Nat × Nat × State :=
  if (s.part n.val).mode != .active then (1, 0, s)
  else
    match s.checkedTable n.val (fun g => (s.owned n.val).contains g) (some s.beatNum) with
    | (.error i, s) => (8, i, s)
    | (.ok t, s) =>
      let p := s.part n.val
      let q := { p with table := p.tableAt s.beatNum, next := some t }
      if windowsBad s n.val q t then (9, 0, s) else (0, 0, s.setPart n.val q)

/-- BT_LOAD (R287). -/
def execBtLoad (n : PartId) (s : State) : Host.Outcome State Fault Refusal := actBar .pf s (pcfgOp n 5 0 (btLoadOp n))

/-- Whether a loaded table's ANCHOR has come (R286). -/
def anchorOk (n : PartId) (s : State) : Bool := (s.part n.val).next.any fun t => decide (t.anchor ≤ s.beatNum)

/-- A loaded table starts to govern (R286). -/
def anchorDo (n : PartId) (s : State) : State := s.modPart n.val fun p => { p with table := p.next, next := none }

/-- BEAT_TABLE_ANCHOR (R286). -/
def execBeatTableAnchor (n : PartId) (s : State) : Host.Outcome State Fault Refusal :=
  act s fun s => if anchorOk n s then anchorDo n s else s

/-! ### The recheck after a fence (R290) -/

/-- Whether a recheck is due. -/
def recheckOk (n : PartId) (s : State) : Bool := !(s.part n.val).recheck.isEmpty

/-- One command of a recheck: under HALT_ALL it is refused with FENCED; else one that names a fenced vale is, and one that no
longer passes R59 is refused with its code. -/
def State.recheckOne (s : State) (haltAll : Bool) (k : Nat) : State :=
  match s.cmd k with
  | none => s
  | some c => if haltAll || fencedCmd s c then s.endWith k 1 4 else s.recheckCmd k

/-- The admission recheck (R290, R64). -/
def recheckDo (n : PartId) (s : State) : State :=
  let gs := (s.part n.val).recheck
  let haltAll := s.regF (pcfg n.val + 0x48) 9 8 == 1
  let es := s.admittedOnes fun m => m == n.val
  let s := es.foldl (fun s e => s.recheckOne haltAll e.1) s
  let refused := (es.filter fun e => (s.cmd e.1).isNone).length
  let s := (s.modPart n.val fun p => { p with recheck := [] }).raise (.partcfg n) 2
  gs.foldl (fun s g => s.moraine .degraded (.partcfg n) [g, refused]) s

/-- ADMISSION_RECHECK (R290). -/
def execAdmissionRecheck (n : PartId) (s : State) : Host.Outcome State Fault Refusal :=
  act s fun s => if recheckOk n s then recheckDo n s else s

end Sys2Proof.Machine
end

