-- ==== Sys2Proof/Machine/Links.lean ====
section
/-! DEFINITION. Links: flits, sequence numbers, replay and credits (R297 to R305), training and link states (R307 to R311),
and the beat-number messages of R42, R524 and R525. -/

namespace Sys2Proof.Machine

/-! ### Flits (R297 to R299) -/

/-- The link page. -/
def linkPage (k : Nat) : Page := .link (Fin.ofNat 32 k)

/-- Whether a TYPE is sequenced (R298). -/
def sequenced (type : Nat) : Bool := type == 1 || type == 2 || type == 4 || type == 5

/-- What a flit's header says (R297). -/
structure FlitHead where
  type : Nat
  vc : Nat
  last : Bool
  nak : Bool
  seq : Nat
  ack : Nat
  crVc : Nat
  crTotal : Nat
  rxBuf : Nat
  len : Nat
  msg : Nat
deriving DecidableEq, Repr

/-- The header of a flit's bytes (R297). -/
def flitHead (bs : List Byte) : FlitHead :=
  let h := leAt bs 0 12
  { type := bitsOf h 3 0, vc := bitsOf h 8 4, last := bitOf h 9, nak := bitOf h 10, seq := bitsOf h 23 12,
    ack := bitsOf h 35 24, crVc := bitsOf h 40 36, crTotal := bitsOf h 52 41, rxBuf := bitsOf h 55 53,
    len := bitsOf h 63 56, msg := bitsOf h 95 64 }

/-- The 12 bytes of a header (R297). -/
def headBytes (h : FlitHead) : List Byte :=
  leBytes 12 (h.type + h.vc * 2 ^ 4 + boolBit h.last * 2 ^ 9 + boolBit h.nak * 2 ^ 10 + 2 ^ 12 * h.seq + 2 ^ 24 * h.ack +
    2 ^ 36 * h.crVc + 2 ^ 41 * h.crTotal + 2 ^ 53 * h.rxBuf + 2 ^ 56 * h.len + 2 ^ 64 * h.msg)

/-- A message's bytes cut into flits of 240 bytes; fuel bounds them. -/
def flitPayloads : Nat → List Byte → List (List Byte)
  | 0, _ => []
  | _ + 1, [] => []
  | f + 1, bs => bs.take 240 :: flitPayloads f (bs.drop 240)

/-- Whether a flit passes its CRC (R299). -/
def flitCrcOk (bs : List Byte) : Bool := leAt bs 252 4 == crc32c (bs.take 252)

/-- Whether a flit that passes its CRC in state UP is a protocol error (R298). -/
def protocolError (h : FlitHead) : Bool :=
  decide (6 ≤ h.type) || decide (16 < h.vc) || (h.type == 1 && outside h.len 1 240)

/-- The VCs whose freed counts a link reports, ascending (R305). -/
def reportVcs (s : State) (k : Nat) : List Nat := (List.range 16).filter (fun n => linkWeight s n k != 0) ++ [16]

/-- The VC that the next flit reports (R305). -/
def nextReport (s : State) (k : Nat) : Nat :=
  let vs := reportVcs s k
  ((vs.find? fun v => decide ((s.link k).nextVc ≤ v)).orElse fun _ => vs.head?).getD 16

/-- A per-VC count of a link. -/
def vcCount (xs : List (Nat × Nat)) (v : Nat) : Nat := Sparse.get (fun _ => 0) xs v
/-- A per-VC count that gains one, modulo 4,096. -/
def vcStep (xs : List (Nat × Nat)) (v : Nat) : List (Nat × Nat) := Sparse.set (fun _ => 0) xs v ((vcCount xs v + 1) % 4096)

/-- The part sends a flit on link k now, with sequence number seq: the receiver's ACK and NAK, one VC's credits, the CRC
(R297, R299, R300, R305). -/
def State.sendFlit (s : State) (k : Nat) (f : OutFlit) (seq : Nat) : State :=
  let l := s.link k
  let v := nextReport s k
  let h : FlitHead :=
    { type := f.type, vc := f.vc, last := f.last, nak := l.nakPending, seq := seq, ack := (l.expected + 4095) % 4096,
      crVc := v, crTotal := vcCount l.freed v, rxBuf := f.rxBuf, len := f.payload.length, msg := f.msg }
  let bs := headBytes h ++ (f.payload ++ List.replicate 240 0#8).take 240
  (s.modLink k fun l => { l with nextVc := v + 1 }).emit (.flit (Fin.ofNat 32 k) (bs ++ leBytes 4 (crc32c bs)))

/-! ### Losing a link (R28, R302, R307, R311) -/

/-- The dispatched commands whose COLLECT stage uses link k, and has not ended, carry void cause LINK (R61). -/
def State.voidUsers (s : State) (k : Nat) : State :=
  (s.inFlight.filter fun e => e.2.dispatched.isSome && e.2.links.contains k && !e.2.coll.any (·.ended)).foldl
    (fun s e => s.modCmd e.1 fun c => c.addVoid 3) s

/-- A link event is reported (R311): its IRQ_STAT bits and a Moraine record. -/
def State.linkReport (s : State) (k bits : Nat) : State := (s.raise (linkPage k) bits).moraine .linkFailed (linkPage k) [bits]

/-- The link enters a state of its training now. -/
def State.enterLink (s : State) (k : Nat) (st : LinkState) (kind : TrainKind) : State :=
  s.modLink k fun l => { l with state := st, kind := kind, since := s.clock, probes := 0 }

/-- Whether a link is UP. -/
def State.linkUp (s : State) (k : Nat) : Bool := (s.link k).state == .up

/-- Link k, in UP, enters RECOVERY (R302, R307, R311, R467). -/
def State.linkRecovery (s : State) (k : Nat) : State :=
  let s := (s.enterLink k .align .recovery).modLink k fun l => { l with era := l.era + 1, resend := [] }
  let s := (s.count (linkPage k) 0x5C 1).healthEvent 2 k 64
  (s.linkReport k 3).voidUsers k

/-- Link k enters FAILED (R307, R311, R467). -/
def State.linkFail (s : State) (k : Nat) : State :=
  let bits := if s.linkUp k then 5 else 4
  let s := (s.enterLink k .failed .initial).modLink k fun l => { l with era := l.era + 1 }
  ((s.healthEvent 7 0 1).linkReport k bits).voidUsers k

/-- A protocol state as a link begins with it (R304, R310). -/
def LinkSt.fresh (l : LinkSt) : LinkSt :=
  { l with txSeq := 0, replay := [], resend := [], lastReplay := none, replayRun := (0, 0), expected := 0, nakPending := false,
           sent := [], credited := [], limits := [], freed := [] }

/-- Link k leaves DOWN and trains from DETECT, under a new link epoch (R307, R310). -/
def State.linkTrain (s : State) (k : Nat) : State :=
  let f := s.freeWord
  (f.2.enterLink k .detect .initial).modLink k fun l => { l.fresh with epoch := f.1, era := l.era + 1 }

/-- LINK_CTL.EN of link k. -/
def State.linkEn (s : State) (k : Nat) : Bool := s.regBit (pageBase (linkPage k) + 0x40) 0

/-- A write of LINK_CTL.EN (R316): a 0 while any partition has weight on the link is discarded. -/
def linkEnDo (k : Link) (en : Bool) (s : State) : State :=
  let pg : Page := .link k
  if s.resetting pg || (!en && linkWeighted s k.val) then s
  else
    let s := s.setRegF (pageBase pg + 0x40) 0 0 (boolBit en)
    if en then (if (s.link k.val).state = .down ∧ 5 ≤ s.boot.phase then s.linkTrain k.val else s)
    else
      let up := s.linkUp k.val
      let s := s.enterLink k.val .down .initial
      if up then (s.linkReport k.val 1).voidUsers k.val else s

/-- LINK_EN_WRITE (R316). -/
def execLinkEnWrite (k : Link) (en : Bool) (s : State) : Host.Outcome State Fault Refusal := actBar .pf s (linkEnDo k en)

/-! ### Replay (R300 to R302) -/

/-- A time in flit times of 1.28 ns has passed since clock t (R295). -/
def flitTimes (s : State) (t n : Nat) : Bool := decide (2688 * n ≤ (s.clock - t) * 1000)

/-- The commands that use link k count one replay more; a third gives void cause LINK (R61, R302). -/
def State.countReplays (s : State) (k : Nat) : State :=
  (s.inFlight.filter fun e => e.2.dispatched.isSome && e.2.links.contains k && !e.2.coll.any (·.ended)).foldl
    (fun s e => s.modCmd e.1 fun c =>
      let c := { c with replays := Sparse.set (fun _ => 0) c.replays k (vcCount c.replays k + 1) }
      if 2 < vcCount c.replays k then c.addVoid 3 else c) s

/-- REPLAY_LIMIT of link k. -/
def replayLimit (s : State) (k : Nat) : Nat := s.regF (pageBase (linkPage k) + 0x40) 7 4

/-- A go-back replay starts on link k (R301, R302): every unacknowledged flit is to be sent again, the oldest first. -/
def State.startReplay (s : State) (k : Nat) : State :=
  match (s.link k).replay with
  | [] => s
  | t :: ts =>
    let run := if (s.link k).replayRun.1 = t.seq ∧ (s.link k).replayRun.2 ≠ 0 then (s.link k).replayRun.2 + 1 else 1
    let s := s.modLink k fun l =>
      { l with resend := (t :: ts).map (·.seq), ackClock := s.clock, lastReplay := some (t.seq, s.clock),
               replayRun := (t.seq, run) }
    let s := ((s.count (linkPage k) 0x4C 1).healthEvent 2 k 1).countReplays k
    if replayLimit s k ≤ run then s.linkRecovery k else s

/-- An ACK reaches the transmitter (R300): the flits it covers leave the replay buffer. -/
def LinkSt.takeAck (l : LinkSt) (a clock : Nat) : LinkSt :=
  match l.replay.findIdx? fun t => t.seq == a with
  | none => l
  | some i =>
    let rest := l.replay.drop (i + 1)
    { l with replay := rest, resend := l.resend.filter fun q => rest.any fun t => t.seq == q, ackClock := clock }

/-- A NAK with ACK a reaches the transmitter (R301). -/
def State.takeNak (s : State) (k a : Nat) : State :=
  match (s.link k).lastReplay with
  | some (q, t) => if q = (a + 1) % 4096 ∧ !flitTimes s t 600 then s else s.startReplay k
  | none => s.startReplay k

/-- Whether no ACK has come for 2,048 flit times while a flit is unacknowledged (R301). -/
def replayTimeoutOk (k : Link) (s : State) : Bool :=
  let l := s.link k.val
  l.state == .up && !l.replay.isEmpty && flitTimes s l.ackClock 2048

/-- REPLAY_TIMEOUT (R301). -/
def execReplayTimeout (k : Link) (s : State) : Host.Outcome State Fault Refusal :=
  act s fun s => if replayTimeoutOk k s then s.startReplay k.val else s

/-! ### Reception (R298, R300, R303) -/

/-- A flit enters the receive buffer. -/
def rxFlit (h : FlitHead) (bs : List Byte) (era clock : Nat) : RxFlit :=
  { type := h.type, vc := h.vc, rxBuf := h.rxBuf, msg := h.msg, last := h.last, payload := (bs.drop 12).take (min 240 h.len),
    era := era, at_ := clock }

/-- What a flit that passes its CRC does at the receiver once its ACK, NAK and credits are taken (R300). -/
def State.acceptFlit (s : State) (k : Nat) (h : FlitHead) (bs : List Byte) : State :=
  let l := s.link k
  if !sequenced h.type then
    if h.type = 3 then s.modLink k fun l => { l with rx := l.rx ++ [rxFlit h bs l.era s.clock] } else s
  else if h.seq = l.expected then
    (s.modLink k fun l =>
      { l with rx := l.rx ++ [rxFlit h bs l.era s.clock], expected := (l.expected + 1) % 4096, nakPending := false }).count64
      (linkPage k) 0x6C 1
  else s.modLink k fun l => { l with nakPending := true }

/-- A flit is received on link k in state UP (R298 to R301). -/
def flitReceiveDo (k : Link) (bs : List Byte) (s : State) : State :=
  let h := flitHead bs
  if !flitCrcOk bs then (s.count (.link k) 0x50 1).modLink k.val fun l => { l with nakPending := true }
  else if protocolError h then (s.count (.link k) 0x60 1).linkRecovery k.val
  else
    let s := s.modLink k.val fun l =>
      { l.takeAck h.ack s.clock with credited := Sparse.set (fun _ => 0) l.credited h.crVc h.crTotal }
    let s := if h.nak then s.takeNak k.val h.ack else s
    s.acceptFlit k.val h bs

/-- FLIT_RECEIVE (R300): outside UP a link carries TRAIN flits alone (R298, R307). -/
def execFlitReceive (k : Link) (flit : List Byte) (s : State) : Host.Outcome State Fault Refusal :=
  act s fun s => if s.linkUp k.val && flit.length == 256 then flitReceiveDo k flit s else s

/-- The oldest flit of a type on a VC leaves the receive buffer of link k; its slot counts as freed (R305). -/
def State.readFlit (s : State) (k type vc : Nat) : Option RxFlit × State :=
  match (s.link k).rx.find? fun f => f.type == type && f.vc == vc with
  | none => (none, s)
  | some f =>
    (some f, s.modLink k fun l =>
      { l with rx := l.rx.erase f, freed := if sequenced type then vcStep l.freed vc else l.freed })

/-- MGMT_MESSAGE (R298): what management processors say to each other the spec does not give; the flit's slot is freed. -/
def execMgmtMessage (k : Link) (s : State) : Host.Outcome State Fault Refusal :=
  act s fun s => (s.readFlit k.val 5 16).2

/-! ### Training (R307 to R310) -/

/-- LINK_SIGNAL_DETECT (R307). -/
def execLinkSignalDetect (k : Link) (s : State) : Host.Outcome State Fault Refusal :=
  act s fun s => if (s.link k.val).state = .detect then s.enterLink k.val .equalise .initial else s

/-- A link goes on to the next state of its training; RECOVERY's bound runs on from its start (R307). -/
def State.linkNext (s : State) (k : Nat) (st : LinkState) : State :=
  s.modLink k fun l =>
    { l with state := st, since := if l.kind = .recovery then l.since else s.clock, probes := 0,
             lambda := if st = .measure then 0 else l.lambda }

/-- LINK_EQUALISED (R307). -/
def execLinkEqualised (k : Link) (s : State) : Host.Outcome State Fault Refusal :=
  act s fun s => if (s.link k.val).state = .equalise then s.linkNext k.val .align else s

/-- CODEWORD_LOCK (R307). -/
def execCodewordLock (k : Link) (s : State) : Host.Outcome State Fault Refusal :=
  act s fun s => if (s.link k.val).state = .align then s.linkNext k.val .measure else s

/-- λ of one echo (R308). -/
def echoLambda (sent turnaround back : Nat) : Nat := ceilDiv (back - sent - turnaround) 2

/-- A TRAIN flit of MEASURE (R308): a probe goes back with this device's turnaround, which is as it happens to be; an echo
gives λ. -/
def trainMessageDo (k : Link) (m : TrainMsg) (s : State) : State :=
  match m with
  | .probe sent => let f := s.freeWord; f.2.emit (.trainEcho k sent f.1.toNat)
  | .echo sent turnaround back =>
    s.modLink k.val fun l => { l with probes := l.probes + 1, lambda := max l.lambda (echoLambda sent turnaround back % 2 ^ 16) }

/-- TRAIN_MESSAGE (R308): accepted only outside state UP (R298). -/
def execTrainMessage (k : Link) (m : TrainMsg) (s : State) : Host.Outcome State Fault Refusal :=
  act s fun s => if (s.link k.val).state = .measure then trainMessageDo k m s else s

/-- LINK_MEASURED (R308): 256 echoes have come. -/
def execLinkMeasured (k : Link) (s : State) : Host.Outcome State Fault Refusal :=
  act s fun s =>
    if (s.link k.val).state = .measure ∧ 256 ≤ (s.link k.val).probes then s.linkNext k.val .exchange else s

/-- The credit limits that a partner's weights give (R303, R304). -/
def creditLimits (weights : List Nat) : List (Nat × Nat) :=
  ((List.range 16).foldl (fun m v => Sparse.set (fun _ => 0) m v (256 * weights.getD v 0)) []) ++ [(16, 256)]

/-- What a link records of its partner at EXCHANGE (R307). -/
def LinkSt.record (l : LinkSt) (m : ExchangeMsg) : LinkSt :=
  { l with partnerEpoch := some m.epoch, partnerSerial := m.serial, partnerLink := m.linkIndex, partnerHw := m.headwater,
           partnerValid := true, limits := if l.limits.isEmpty then creditLimits m.weights else l.limits }

/-- EXCHANGE completes (R309, R310): a new partner epoch starts afresh and fails the link's users; the link is UP, and the
transmitter replays from the partner's last ACK. -/
def exchangeDo (k : Link) (m : ExchangeMsg) (s : State) : State :=
  let new := (s.link k.val).partnerEpoch.any (· != m.epoch)
  let s := if new then (s.modLink k.val fun l => { l.fresh with era := l.era + 1 }).voidUsers k.val else s
  let s := s.modLink k.val fun l =>
    let l := (l.record m).takeAck m.lastAck.toNat s.clock
    { l with state := .up, since := s.clock, resend := l.replay.map (·.seq), ackClock := s.clock }
  s.raise (.link k) 8

/-- LINK_EXCHANGE_DONE (R310). -/
def execLinkExchangeDone (k : Link) (m : ExchangeMsg) (s : State) : Host.Outcome State Fault Refusal :=
  act s fun s => if (s.link k.val).state = .exchange then exchangeDo k m s else s

/-- The bound of a link's present state in ns (R307); none where it does not train. -/
def trainBound (l : LinkSt) : Option Nat :=
  match l.kind, l.state with
  | _, .down | _, .up | _, .failed => none
  | .recovery, _ => some 100000
  | _, .detect => some 20000000
  | .initial, .equalise => some 340000000
  | .initial, .align => some 30000000
  | .initial, .measure => some 5000000
  | .initial, .exchange => some 5000000
  | .retrain, .equalise => some 400000
  | .retrain, .align => some 60000
  | .retrain, .measure => some 20000
  | .retrain, .exchange => some 20000

/-- Whether n ns have passed since clock t; a core clock is 10/21 ns. -/
def nsSince (s : State) (t n : Nat) : Bool := decide (n * 21 ≤ (s.clock - t) * 10)

/-- Whether a link has missed the bound of its state (R307). -/
def trainTimeoutOk (k : Link) (s : State) : Bool := (trainBound (s.link k.val)).any fun n => nsSince s (s.link k.val).since n

/-- LINK_TRAIN_TIMEOUT (R307): initial training starts again from DETECT; RECOVERY and a retrain fail the link. -/
def execLinkTrainTimeout (k : Link) (s : State) : Host.Outcome State Fault Refusal :=
  act s fun s =>
    if trainTimeoutOk k s then
      if (s.link k.val).kind = .initial then s.enterLink k.val .detect .initial else s.linkFail k.val
    else s

/-! ### Beat numbers over links (R38, R39, R42, R50, R524, R525) -/

/-- A BEAT flit waits at the egress of link k. -/
def State.queueBeat (s : State) (k : Nat) : State := s.modLink k fun l => { l with beats := l.beats + 1 }

/-- The payload of a BEAT flit that leaves now (R524). -/
def beatPayload (s : State) : List Byte :=
  leBytes 8 s.beatNum ++ leBytes 2 (s.subBeat % 2 ^ 14) ++ [BitVec.ofNat 8 (boolBit s.beat.origin), 0#8] ++
    leBytes 4 (s.reg 0x154).toNat

/-- Whether link k is to send its comparison of this beat (R42). -/
def beatSendOk (k : Link) (s : State) : Bool :=
  s.linkUp k.val && s.beat.origin && s.beatNum % 256 == 0 && (s.link k.val).lastBeat != some s.beatNum

/-- A BEAT flit of the comparison is queued (R42). -/
def beatSendDo (k : Link) (s : State) : State :=
  (s.queueBeat k.val).modLink k.val fun l => { l with lastBeat := some s.beatNum }

/-- BEAT_MESSAGE_SEND (R42). -/
def execBeatMessageSend (k : Link) (s : State) : Host.Outcome State Fault Refusal :=
  act s fun s => if beatSendOk k s then beatSendDo k s else s

/-- The number of the present beat by the transfer rule (R38), from V and s of a message that arrived at clock `at_`. -/
def transferRule (s : State) (V sub lambda at_ : Nat) : Nat :=
  let p : Int := max 1 (s.beat.pLock / 256)
  let r : Int := if s.beat.counted then (at_ : Int) - s.beat.edgeClock else 0
  unsignedOf 64 ((V : Int) + (((sub : Int) + lambda - r + p / 2) / p))

/-- The census parent link (R523). -/
def parentLink (s : State) : Nat := s.regF 0x14C 12 8
/-- Whether this device is a member of the census it holds (R523). -/
def censusMember (s : State) : Bool := s.regBit 0x148 31

/-- A census message waits at the egress of link k (R298, R521); the layout of its payload is open. -/
def State.sendCensus (s : State) (k : Nat) (m : CensusMsg) : State :=
  let f := s.freeBytes 240
  (f.2.modLink k fun l =>
    { l with system := l.system ++
        [{ type := 4, vc := 16, part := 0, stream := 0, msg := 0, last := true, rxBuf := 0, payload := f.1 }] }).emit
    (.census (Fin.ofNat 32 k) m)

/-- A member sends READY toward the headwater once its beat number is set or it waits for it (R521, R525). -/
def State.sendReady (s : State) : State :=
  match s.census.gatherLink with
  | none => s
  | some g =>
    if s.regF 0x14C 3 0 == 3 && !s.census.readySent && (s.beat.origin || s.regBit 0x14C 4) then
      { s with census := { s.census with readySent := true } }.sendCensus g (.ready (s.reg 0x154) false Config.serial)
    else s

/-- The beat number of a neighbour is taken, and goes on to the census children (R39, R524, R525). -/
def State.takeBeat (s : State) (v : Nat) : State :=
  let s := s.modBeat fun b => { b with num := BitVec.ofNat 64 v, origin := true, takeNumber := false }
  let s := s.setRegF 0x14C 4 4 0
  (s.census.children.foldl State.queueBeat s).sendReady

/-- Whether a relocked device takes its number from link k (R50): the lowest link whose partner is known to have its origin. -/
def relockFrom (s : State) (k : Nat) : Bool :=
  s.beat.takeNumber && !s.boot.headwater &&
    (List.range k).all fun i => !(s.linkUp i && (s.link i).partnerOrigin)

/-- The comparison of R42: a mismatch is reported, and the number stays. -/
def State.compareBeat (s : State) (k v : Nat) : State :=
  let bad := decide (v ≠ s.beatNum)
  let s := s.modLink k fun l => { l with mismatch := bad }
  if bad then (s.beatEvent 0x20).moraine .linkMismatch (linkPage k) [k] else s

/-- A BEAT flit that came on link k is taken up (R42, R50, R524, R525). -/
def State.useBeat (s : State) (k : Nat) (f : RxFlit) : State :=
  let org := bitOf (leAt f.payload 10 1) 0
  let v := transferRule s (w64At f.payload 0) (bitsOf (leAt f.payload 8 2) 13 0) (s.link k).lambda f.at_
  let s := s.modLink k fun l => { l with partnerOrigin := org }
  if s.beat.state = .locked then
    if org && relockFrom s k then s.takeBeat v
    else if !s.beat.origin && org && censusMember s && k == parentLink s then s.takeBeat v
    else if s.beat.origin then s.compareBeat k v else s
  else if censusMember s && k == parentLink s && !s.beat.origin then (s.setRegF 0x14C 4 4 1).sendReady else s

/-- BEAT_MESSAGE (R524): the oldest BEAT flit that link k has received. -/
def execBeatMessage (k : Link) (s : State) : Host.Outcome State Fault Refusal :=
  act s fun s =>
    match s.readFlit k.val 3 16 with
    | (some f, s) => s.useBeat k.val f
    | (none, s) => s

end Sys2Proof.Machine
end

