-- ==== Sys2Proof/Machine/Laps.lean ====
section
/-! DEFINITION. Laps: the retention of a COLLECT stage's input (R321), its laps (R323 to R327), and the ring messages it
sends and receives (R329 to R331, R334). -/

namespace Sys2Proof.Machine

/-- The collect page of vale g. -/
def collPage (g : Nat) : Page := .collect (Fin.ofNat 128 g)

/-- The COLLECT stage of the command in slot k changed. -/
def State.modColl (s : State) (k : Nat) (f : CollSt → CollSt) : State := s.modCmd k fun c => { c with coll := c.coll.map f }

/-- Rail r of a stage; fresh before its first lap. -/
def CollSt.rail (x : CollSt) (r : Nat) : RailSt := (x.rails[r]?).getD RailSt.fresh

/-! ### Numerics (R326, R327) -/

/-- The codes of w bytes each in a byte string. -/
def codesIn (w : Nat) (bs : List Byte) : List Nat := (List.range (bs.length / w)).map fun i => leAt bs (w * i) w

/-- An input element in FP32, exactly (R326, R75). -/
def collWiden (fmt x : Nat) : Word := if fmt = 10 then BitVec.ofNat 32 x else (opCvt fmt 10 (BitVec.ofNat 32 x)).w

/-- combine(a, b) (R326). -/
def collCombine (red : Nat) (a b : Word) : LaneRes := if red = 0 then opFadd a b else if red = 1 then opFmax a b else opFmin a b

/-- The conversion of a final value (R326); to FP32 it copies, a NaN made canonical as R202 says of CVT. DEDUCED. -/
def collNarrow (fmt : Nat) (a : Word) : LaneRes := opCvt 10 fmt a

/-- The bytes of results in an element width. -/
def resBytes (w : Nat) (rs : List LaneRes) : List Byte := rs.flatMap fun r => leBytes w r.w.toNat

/-- What combine and the conversions raise (R327). -/
def State.collRaise (s : State) (k : Nat) (rs : List LaneRes) : State :=
  let f := rs.foldl (fun f r => f ||| r.flags) 0#4
  let n := (rs.map (·.sat)).foldl (· + ·) 0
  match s.cmd k with
  | none => s
  | some c =>
    let s := if f = 0#4 then s else (s.accrue (.elem (Fin.ofNat 128 c.vale)) f 0).modCmd k fun c => c.accrue f 0
    s.elemSat k c n

/-! ### Where pieces lie (R320, R321) -/

/-- The first retained element of piece (r, j). -/
def Cmd.retainAt (c : Cmd) (r j : Nat) : Nat := if c.isGather then c.ownStart r else (c.piece r j).1
/-- The first output element of piece (r, j). -/
def Cmd.outAt (c : Cmd) (r j : Nat) : Nat := if c.isScatter then c.ownStart r else (c.piece r j).1

/-- own(j) of R323: n elements of the retained piece (r, j) from its element e on, in FP32. -/
def State.ownWords (s : State) (c : Cmd) (r j e n : Nat) : List Word :=
  (codesIn c.inBytes (s.getStore c.vale (c.retainBase + (c.retainAt r j + e) * c.inBytes) (n * c.inBytes))).map
    (collWiden c.inFmt)

/-- Output bytes of piece (r, j) from its element e on. -/
def State.outPiece (s : State) (c : Cmd) (r j e : Nat) (bs : List Byte) : State :=
  s.putStore c.vale (c.outBase + (c.outAt r j + e) * c.outBytes) bs

/-! ### Sending (R329) -/

/-- The stream number of a stage's messages (R233). -/
def collStream (k : Nat) (c : Cmd) : Nat := 2 ^ 24 * c.vale + 2 ^ 15 * k + c.collIn

/-- The MSG word of a ring message (R329). -/
def ringMsg (c : Cmd) (lap : Bool) (r att j : Nat) : Nat :=
  boolBit lap * 2 ^ 30 + 2 ^ 27 * r + 2 ^ 25 * (att % 4) + 2 ^ 12 * j + c.collSeq % 4096

/-- Bytes of piece (r, j) go to the egress of rail r; `ends`: they end the message. -/
def State.sendRing (s : State) (k : Nat) (c : Cmd) (att r j : Nat) (lap : Bool) (bs : List Byte) (ends : Bool) : State :=
  let ps := flitPayloads (bs.length / 240 + 1) bs
  let fs := ps.mapIdx fun i p =>
    { type := 1, vc := c.peerVc r, part := c.part.val, stream := collStream k c, msg := ringMsg c lap r att j,
      last := ends && i + 1 == ps.length, rxBuf := r, payload := p : OutFlit }
  s.modLink (c.linkOut r) fun l => { l with data := l.data ++ fs }

/-! ### The laps (R323 to R325) -/

/-- The messages that a lap receives on a rail. -/
def Cmd.lapSteps (c : Cmd) : Nat := if c.isShift then (if c.members = 1 then 0 else 1) else c.members - 1

/-- The piece that a rail receives next (R323 to R325). -/
def Cmd.nextPiece (c : Cmd) (t : RailSt) : Nat :=
  if c.isShift then 0
  else if t.gather then (c.pos + 2 * c.members - 1 - t.step) % c.members
  else (c.pos + 2 * c.members - 2 - t.step) % c.members

/-- The bytes of an element in the messages of a lap: partials travel as FP32 (R326). -/
def Cmd.lapBytes (c : Cmd) (gather : Bool) : Nat := if gather || c.isShift then c.outBytes else 4

/-- Piece (r, pos) of a stage converted to OUT_FMT from FP32 words and written out (R323, R324). -/
def State.narrowOut (s : State) (k : Nat) (c : Cmd) (r j e : Nat) (ws : List Word) : State :=
  let rs := ws.map (collNarrow c.outFmt)
  (s.collRaise k rs).outPiece c r j e (resBytes c.outBytes rs)

/-- A piece has landed in the output whole. -/
def CollSt.land (x : CollSt) (r j : Nat) : CollSt := { x with landed := x.landed ++ [(r, j)] }

/-- A rail changed. -/
def State.modRail (s : State) (k r : Nat) (f : RailSt → RailSt) : State :=
  s.modColl k fun x => { x with rails := x.rails.modify r f }

/-- The all-gather lap of a rail begins: the own output piece goes out (R324). -/
def State.gatherBegin (s : State) (k : Nat) (c : Cmd) (att r : Nat) : State :=
  let n := c.pieceSize r c.pos * c.outBytes
  let s := if c.members = 1 ∨ n = 0 then s
    else s.sendRing k c att r c.pos true (s.getStore c.vale (c.outBase + c.outAt r c.pos * c.outBytes) n) true
  s.modRail k r fun t => { t with gather := true, sent := true, step := 0 }

/-- A rail's first lap begins: its own piece is converted or sent (R323 to R325). A ring of one shifts to itself. DEDUCED. -/
def State.railBegin (s : State) (k : Nat) (c : Cmd) (att r : Nat) : State :=
  let one := c.members == 1
  if c.isShift then
    let n := c.pieceSize r 0
    let rs := (s.ownWords c r 0 0 n).map (collNarrow c.outFmt)
    let bs := resBytes c.outBytes rs
    let s := s.collRaise k rs
    let s := if one then (s.outPiece c r 0 0 bs).modColl k fun x => x.land r 0
      else if n = 0 then s else s.sendRing k c att r 0 false bs true
    s.modRail k r fun t => { t with sent := true }
  else if c.isGather then
    let s := s.narrowOut k c r c.pos 0 (s.ownWords c r c.pos 0 (c.pieceSize r c.pos))
    (s.modColl k fun x => x.land r c.pos).gatherBegin k c att r
  else if one then
    let s := s.narrowOut k c r c.pos 0 (s.ownWords c r c.pos 0 (c.pieceSize r c.pos))
    (s.modColl k fun x => x.land r c.pos).modRail k r fun t => { t with sent := true }
  else
    let j := (c.pos + c.members - 1) % c.members
    let n := c.pieceSize r j
    let s := if n = 0 then s
      else s.sendRing k c att r j false ((s.ownWords c r j 0 n).flatMap fun w => leBytes 4 w.toNat) true
    s.modRail k r fun t => { t with sent := true }

/-- A rail goes on as far as it can without a message: it begins, passes over empty pieces (R322), begins its all-gather
lap, or is done. Fuel bounds the steps. -/
def State.railGo : Nat → Nat → Nat → State → State
  | 0, _, _, s => s
  | f + 1, k, r, s =>
    match s.cmd k with
    | none => s
    | some c =>
      match c.coll with
      | none => s
      | some x =>
        let t := x.rail r
        if t.done then s
        else if !t.sent then State.railGo f k r (s.railBegin k c x.attempt r)
        else if c.lapSteps ≤ t.step then
          if c.isReduce && !t.gather then State.railGo f k r (s.gatherBegin k c x.attempt r)
          else s.modRail k r fun t => { t with done := true }
        else if c.pieceSize r (c.nextPiece t) = 0 then State.railGo f k r (s.modRail k r fun t => { t with step := t.step + 1 })
        else s

/-- A rail goes on. -/
def State.railRun (s : State) (k r : Nat) : State :=
  match s.cmd k with
  | none => s
  | some c => State.railGo (2 * c.members + 4) k r s

/-! ### Retention (R321) and the first lap -/

/-- Whether a member's COLLECT stage has its turn on the vale (R228, R332). -/
def collTurn (s : State) (k : Nat) (c : Cmd) : Bool :=
  s.running c && s.stageTurn k c && (s.earlier k c).all fun e => e.2.dispatched.isNone || !e.2.hasColl || e.2.coll.any (·.ended)

/-- The input elements that can be retained now: whole elements of the input queue, as far as they are wanted. -/
def retainNow (c : Cmd) (x : CollSt) : Nat := min ((c.queue c.collIn).held / (2 * c.inBytes)) (c.retainElems - x.retained)

/-- Whether a COLLECT stage can take up its links (R330), or retain elements (R321). -/
def collectStartOk (k : Nat) (s : State) : Bool :=
  match s.cmd k with
  | none => false
  | some c =>
    match c.coll with
    | none => false
    | some x =>
      collTurn s k c && !x.ended && !c.cutShort &&
        (if x.state = .linkWait then !s.vcBusy k c else decide (0 < retainNow c x) || (x.retained == 0 && c.retainElems == 0))

/-- A COLLECT stage leaves LINK_WAIT, or retains what its queue holds (R321, R330, R347). -/
def collectStartDo (k : Nat) (s : State) : State :=
  match s.cmd k with
  | none => s
  | some c =>
    match c.coll with
    | none => s
    | some x =>
      let s := s.setReg (pageBase (collPage c.vale) + 0x44) (BitVec.ofNat 32 c.collSeq)
      if x.state = .linkWait then s.modColl k fun x => { x with state := .retain }
      else
        let n := retainNow c x
        let q := c.queue c.collIn
        let bs := s.qBytes q (q.head / 2) (n * c.inBytes)
        let s := s.putStore c.vale (c.retainBase + x.retained * c.inBytes) bs
        s.modCmd k fun c =>
          { c.modQueue c.collIn (fun q => q.advance (2 * n * c.inBytes)) with coll := some { x with retained := x.retained + n } }

/-- COLLECT_STAGE_START (R321); the stage takes up what its queue holds each time. -/
def execCollectStageStart (k : Slot) (s : State) : Host.Outcome State Fault Refusal :=
  act s fun s => if collectStartOk k.val s then collectStartDo k.val s else s

/-- Whether a stage's first lap starts (R321): its last input element has been retained, and this member has started the
attempt. -/
def lapStartOk (k : Nat) (s : State) : Bool :=
  match s.cmd k with
  | none => false
  | some c => c.coll.any fun x =>
      s.running c && x.state == .retain && x.started && !x.ended && decide (c.retainElems ≤ x.retained)

/-- The first lap starts on every rail (R323); with SHIFT a rail may have received before (R325). -/
def lapStartDo (k : Nat) (s : State) : State :=
  match s.cmd k with
  | none => s
  | some c =>
    let s := s.modColl k fun x => { x with state := .laps, rails := (List.range c.rails).map x.rail }
    ((List.range c.rails).foldl (fun s r => s.railRun k r) s).collFeed k

/-- LAP_START (R323). -/
def execLapStart (k : Slot) (s : State) : Host.Outcome State Fault Refusal :=
  act s fun s => if lapStartOk k.val s then lapStartDo k.val s else s

/-! ### Receiving (R313, R331) -/

/-- What the check of R331 comes to for a flit. -/
inductive RingCheck where
  | held | stale | error | accept
deriving DecidableEq, Repr

/-- The flits of ring messages that the stage can take now: in its laps; with SHIFT also while it retains (R325). -/
def CollSt.receives (c : Cmd) (x : CollSt) : Bool := x.state == .laps || (c.isShift && x.state == .retain && x.started)

/-- The check of a flit at the head of receive buffer b of a held VC (R331). -/
def ringCheck (c : Cmd) (x : CollSt) (k b : Nat) (f : RxFlit) : RingCheck :=
  let d := (c.collSeq % 4096 + 4096 - bitsOf f.msg 11 0) % 4096
  let att := bitsOf f.msg 26 25
  if d = 0 ∧ (!x.started ∨ x.attempt < att) then .held
  else if 2049 ≤ d then .held
  else if (d ≠ 0 ∧ d ≤ 2047) ∨ (d = 0 ∧ att < x.attempt) then .stale
  else if d ≠ 0 then .error
  else if x.unclean ∨ x.state = .retryWait ∨ x.state = .failed ∨ x.state = .inDoubt then .held
  else
    let t := x.rail b
    let expected := bitsOf f.msg 29 27 == b && decide (b < c.rails) && c.linkIn b == k && !t.done &&
      bitOf f.msg 30 == t.gather && bitsOf f.msg 24 12 == c.nextPiece t
    if !expected then (if x.state = .retain ∧ !c.isShift then .held else .error)
    else if CollSt.receives c x then .accept else .held

/-- The stage of this device that holds the VC of partition n inbound on link k (R330). -/
def ringHolder (s : State) (k n : Nat) : Option (Nat × Cmd × CollSt) :=
  (s.ofPart n).findSome? fun e =>
    match e.2.coll with
    | some x =>
      if x.holdsVc && e.2.members != 1 && (List.range e.2.rails).any fun r => e.2.linkIn r == k then some (e.1, e.2, x) else none
    | none => none

/-- The ring flit at the head of receive buffer b of partition n's VC on link k (R297, R329). -/
def ringFront (s : State) (k n b : Nat) : Option RxFlit :=
  (s.link k).rx.find? fun f => f.type == 1 && f.vc == n && f.rxBuf == b && !bitOf f.msg 31

/-- A flit leaves the receive buffer of link k, and its slot counts as freed (R305). -/
def State.dropFlit (s : State) (k : Nat) (f : RxFlit) : State :=
  s.modLink k fun l => { l with rx := l.rx.erase f, freed := if sequenced f.type then vcStep l.freed f.vc else l.freed }

/-- Whether an accepted flit breaks its message: a length that does not fit the piece, or a LAST out of place. -/
def ringBroken (c : Cmd) (r : Nat) (t : RailSt) (f : RxFlit) : Bool :=
  let w := c.lapBytes t.gather
  let whole := c.pieceSize r (c.nextPiece t) * w
  let n := f.payload.length
  n % w != 0 || decide (whole < t.got + n) || f.last != (t.got + n == whole)

/-- Whether a rail's data goes to LINK_BUF transfers (R325). -/
def Cmd.railToBuf (c : Cmd) (r : Nat) : Bool :=
  c.isShift && (List.range c.fetch.length).any fun x => xSrc (c.entry x) == 4 && xQ (c.entry x) == r

/-- The bytes of an accepted flit take effect (R323 to R325): combined and sent on, or written out and sent on. -/
def State.ringData (s : State) (k : Nat) (c : Cmd) (x : CollSt) (r : Nat) (t : RailSt) (f : RxFlit) : State :=
  let j := c.nextPiece t
  let e := t.got / c.lapBytes t.gather
  let bs := f.payload
  if c.isShift then
    if c.railToBuf r then s.modColl k fun x =>
      { x with linkBuf := x.linkBuf.filter (·.1 != r) ++
                 [(r, (((x.linkBuf.find? fun e => e.1 == r).map (·.2)).getD []) ++ bs)] }
    else s.outPiece c r j e bs
  else if t.gather then
    let s := s.outPiece c r j e bs
    if t.step + 2 < c.members then s.sendRing k c x.attempt r j true bs f.last else s
  else
    let own := s.ownWords c r j e (bs.length / 4)
    let rs := (codesIn 4 bs).zipWith (fun a b => collCombine c.collReduce (BitVec.ofNat 32 a) b) own
    let s := s.collRaise k rs
    if j = c.pos then s.narrowOut k c r j e (rs.map (·.w)) else s.sendRing k c x.attempt r j false (resBytes 4 rs) f.last

/-- Whether a message's end puts a piece into the output. -/
def Cmd.lands (c : Cmd) (r : Nat) (t : RailSt) : Bool :=
  if c.isShift then !c.railToBuf r else t.gather || c.nextPiece t == c.pos

/-- An accepted flit at rail r: its bytes take effect; LAST ends the message, and the rail goes on. -/
def State.ringAccept (s : State) (k : Nat) (c : Cmd) (x : CollSt) (r : Nat) (f : RxFlit) : State :=
  let t := x.rail r
  let s := s.ringData k c x r t f
  let s := s.modColl k fun x =>
    let x := { x with progress := s.beatNum, rails := (List.range c.rails).map x.rail }
    let x := if f.last && c.lands r t then x.land r (c.nextPiece t) else x
    { x with rails := x.rails.modify r fun t =>
        if f.last then { t with step := t.step + 1, got := 0 }
        else { t with got := t.got + f.payload.length, era := if t.got = 0 then f.era else t.era } }
  let s := if x.state = .laps then s.railRun k r else s
  s.collFeed k

/-- The attempt stops at this member: what it has queued and not sent is withdrawn (R334, R340). -/
def State.collWithdraw (s : State) (k : Nat) (c : Cmd) : State :=
  (List.range c.rails).foldl (fun s r =>
    s.modLink (c.linkOut r) fun l => { l with data := l.data.filter fun f => f.stream != collStream k c || f.type != 1 }) s

/-- ARRIVE_TOKEN gains one, exactly once for an attempt that the member has started (R343). -/
def State.collArrive (s : State) (k : Nat) : State :=
  match s.cmd k with
  | none => s
  | some c =>
    if c.coll.any fun x => x.started && !x.arrived then
      (s.modColl k fun x => { x with arrived := true }).signal c.part.val c.arriveToken
    else s

/-- A member's verdict becomes unclean: it stops its laps, and its verdict is ready (R334, R343). -/
def State.collSpoil (s : State) (k : Nat) : State :=
  match s.cmd k with
  | none => s
  | some c =>
    let s := (s.collWithdraw k c).modColl k fun x =>
      { x with unclean := true, state := .closing, close := { x.close with verdict := some false, readyBeat := s.beatNum } }
    s.collArrive k

/-- What taking flits came to: whether a stage's verdict became ready. -/
abbrev Taken := Option Nat × State

/-- A flit is an error of its message (R331). -/
def State.ringError (s : State) (lk : Nat) (f : RxFlit) (k : Nat) (c : Cmd) : Taken :=
  (some k, ((s.dropFlit lk f).count (collPage c.vale) 0x54 1).collSpoil k)

/-- The flits of one message are taken from receive buffer b of VC n on link lk, as far as they have come (R331): one
stale flit or one error alone. Fuel bounds them. -/
def State.ringTake : Nat → Nat → Nat → Nat → State → Taken
  | 0, _, _, _, s => (none, s)
  | fuel + 1, lk, n, b, s =>
    match ringFront s lk n b, ringHolder s lk n with
    | some f, some (k, c, x) =>
      if !s.running c then (none, s)
      else
        match ringCheck c x lk b f with
        | .held => (none, s)
        | .stale => (none, (s.dropFlit lk f).count (collPage c.vale) 0x50 1)
        | .error => s.ringError lk f k c
        | .accept =>
          let t := x.rail b
          if ringBroken c b t f then s.ringError lk f k c
          else if t.got ≠ 0 ∧ t.era ≠ f.era then (some k, (s.dropFlit lk f).collSpoil k)
          else
            let s := (s.dropFlit lk f).ringAccept k c x b f
            if f.last then (none, s) else State.ringTake fuel lk n b s
    | _, _ => (none, s)

/-- Whether the flit at the head of receive buffer b can be dealt with now. -/
def ringReady (s : State) (lk n b : Nat) : Bool :=
  match ringFront s lk n b, ringHolder s lk n with
  | some f, some (_, c, x) => s.running c && ringCheck c x lk b f != .held
  | _, _ => false

/-- A ring DATA message (R331) on VC n of link lk: of the first receive buffer whose head can be dealt with. An
uncorrectable error in the receive buffer makes the verdict unclean (R334, R592). -/
def ringPieceTake (lk n : Nat) (r : MemRead) (s : State) : Taken :=
  match (List.range 8).find? (ringReady s lk n) with
  | none => (none, s)
  | some b =>
    match r, ringFront s lk n b, ringHolder s lk n with
    | .uncorrectable, some f, some (k, _, _) => (some k, ((s.dropFlit lk f).modCmd k fun c => c.addVoid 1).collSpoil k)
    | _, _, _ => State.ringTake ((s.link lk).rx.length + 1) lk n b s

end Sys2Proof.Machine
end

