-- ==== Sys2Proof/Machine/Turns.lean ====
section
/-! DEFINITION. Turns: layout descriptors (R362 to R364), the start of a Switchback job (R365 to R367), the blocks it sends,
lands and forwards (R368 to R371), its layers (R370), and how it ends (R373, R375). -/

namespace Sys2Proof.Machine

/-! ### Layout descriptors (R362, R363) -/

/-- N_TENSORS. -/
def lyTensors (d : List Byte) : Nat := bitsOf (w32At d 0) 31 16
/-- N_LAYERS. -/
def lyLayers (d : List Byte) : Nat := bitsOf (w32At d 4) 15 0
/-- GROUP. -/
def lyGroup (d : List Byte) : Nat := bitsOf (w32At d 4) 28 16
/-- Entry i of a layout descriptor. -/
def lyEntry (d : List Byte) (i : Nat) : List Byte := (d.drop (64 + 64 * i)).take 64

/-- TAG of an entry. -/
def tTag (e : List Byte) : Nat := bitsOf (w32At e 0) 23 0
/-- FMT of an entry. -/
def tFmt (e : List Byte) : Nat := bitsOf (w32At e 0) 27 24
/-- ORDER of an entry: column-major. -/
def tColMajor (e : List Byte) : Bool := bitOf (w32At e 0) 28
/-- PLACE of an entry: vale stores. -/
def tVales (e : List Byte) : Bool := bitOf (w32At e 0) 29
/-- CARRY_HIST of an entry. -/
def tCarry (e : List Byte) : Bool := bitOf (w32At e 0) 30
/-- LAYER of an entry. -/
def tLayer (e : List Byte) : Nat := bitsOf (w32At e 4) 15 0
/-- ROWS of an entry. -/
def tRows (e : List Byte) : Nat := w32At e 8
/-- COLS of an entry. -/
def tCols (e : List Byte) : Nat := w32At e 0x0C
/-- BLK_R of an entry. -/
def tBlkR (e : List Byte) : Nat := bitsOf (w32At e 0x10) 15 0
/-- BLK_C of an entry. -/
def tBlkC (e : List Byte) : Nat := bitsOf (w32At e 0x10) 31 16
/-- RP of an entry. -/
def tRP (e : List Byte) : Nat := bitsOf (w32At e 0x14) 15 0
/-- CP of an entry. -/
def tCP (e : List Byte) : Nat := bitsOf (w32At e 0x14) 31 16
/-- RANK0 of an entry. -/
def tRank0 (e : List Byte) : Nat := bitsOf (w32At e 0x18) 12 0
/-- REPL of an entry. -/
def tRepl (e : List Byte) : Nat := bitsOf (w32At e 0x18) 28 16
/-- REPL_STRIDE of an entry. -/
def tStride (e : List Byte) : Nat := bitsOf (w32At e 0x1C) 12 0
/-- FIRST of an entry. -/
def tFirst (e : List Byte) : Nat := bitsOf (w32At e 0x20) 6 0
/-- SPREAD of an entry. -/
def tSpread (e : List Byte) : Nat := bitsOf (w32At e 0x20) 23 16
/-- REGION of an entry. -/
def tRegion (e : List Byte) : Nat := w64At e 0x28
/-- The bits of an element. -/
def tBits (e : List Byte) : Nat := codeWidth (tFmt e)
/-- The bytes of a block. -/
def tBytes (e : List Byte) : Nat := tBlkR e * tBlkC e * tBits e / 8
/-- NBR, the block rows (R363). -/
def tNbr (e : List Byte) : Nat := ceilDiv (tRows e) (tBlkR e)
/-- NBC, the block columns (R363). -/
def tNbc (e : List Byte) : Nat := ceilDiv (tCols e) (tBlkC e)
/-- The block rows of a full row part. -/
def tPartR (e : List Byte) : Nat := ceilDiv (tNbr e) (tRP e)
/-- The block columns of a full column part. -/
def tPartC (e : List Byte) : Nat := ceilDiv (tNbc e) (tCP e)
/-- The row part and the column part of block (bi, bj) (R363). -/
def tPart (e : List Byte) (bi bj : Nat) : Nat × Nat := (bi / tPartR e, bj / tPartC e)
/-- LB_C, the width in blocks of column part v. -/
def tWidth (e : List Byte) (v : Nat) : Nat := min (tPartC e) (tNbc e - v * tPartC e)
/-- The height in blocks of row part u. -/
def tHeight (e : List Byte) (u : Nat) : Nat := min (tPartR e) (tNbr e - u * tPartR e)
/-- The local index of block (bi, bj) (R363). -/
def tLocal (e : List Byte) (bi bj : Nat) : Nat :=
  let p := tPart e bi bj
  (bi - p.1 * tPartR e) * tWidth e p.2 + (bj - p.2 * tPartC e)
/-- The ranks that hold part (u, v), the lowest first (R363). -/
def tHolders (e : List Byte) (u v : Nat) : List Nat := (List.range (tRepl e)).map fun k => tRank0 e + u * tCP e + v + k * tStride e

/-- Where a block lies: a device address of the partition, or a vale store. -/
inductive BlkPlace where
  | dev (a : Nat)
  | store (g o : Nat)
deriving DecidableEq, Repr

/-- Where block (bi, bj) lies within a holding rank (R363). The spec places a block in a stack at an offset from BASE and does
not say how a device address names a stack; the model takes the stack's DPA base as part of the offset. DESIGN CHOICE. -/
def blkPlace (base : Nat) (e : List Byte) (bi bj : Nat) : BlkPlace :=
  let i := tLocal e bi bj
  let unit := tFirst e + i % tSpread e
  let ofs := tRegion e + i / tSpread e * tBytes e
  if tVales e then .store unit ofs else .dev ((base + 2 ^ 36 * unit + ofs) % 2 ^ 64)

/-- The reserved fields of a layout entry (R362). -/
def lyResv : List (Nat × Nat × Nat) :=
  [(0x00, 31, 31), (0x04, 31, 16), (0x18, 31, 29), (0x18, 15, 13), (0x1C, 31, 13), (0x20, 31, 24), (0x20, 15, 7), (0x24, 31, 0)] ++
    wordsOf 0x30 0x40

/-- Whether a layout entry is invalid (R362): reserved fields, formats, block bytes, ranges. Parts and sizes of zero count as
invalid. DEDUCED. -/
def badTensor (layers group : Nat) (e : List Byte) : Bool :=
  let units := if tVales e then 128 else 20
  anySet e lyResv || !(decide (tFmt e ≤ 10)) || decide (layers ≤ tLayer e) || tRows e == 0 || tCols e == 0 ||
    outside (tBlkR e * tBlkC e * tBits e) (8 * 4096) (8 * 2 ^ 20) || tBlkR e * tBlkC e * tBits e % 512 != 0 ||
    (tBits e == 4 || tFmt e == 9) && tBlkC e % 2 == 1 || tRP e == 0 || tCP e == 0 || outside (tRepl e) 1 8192 ||
    outside (tSpread e) 1 units || decide (units < tFirst e + tSpread e) ||
    decide (group ≤ tRank0 e + (tRP e - 1) * tCP e + (tCP e - 1) + (tRepl e - 1) * tStride e)

/-- Whether a layout descriptor as read is invalid (R362, R367). -/
def badLayout (d : List Byte) : Bool :=
  bitsOf (w32At d 0) 7 0 != 1 || anySet d ([(0x00, 15, 8), (0x04, 31, 29)] ++ wordsOf 0x08 0x40) || lyTensors d == 0 ||
    lyLayers d == 0 || outside (lyGroup d) 1 8192 ||
    (List.range (lyTensors d)).any fun i => badTensor (lyLayers d) (lyGroup d) (lyEntry d i)

/-- The blocks of a tensor. -/
def tBlocks (e : List Byte) : List (Nat × Nat) := (List.range (tNbr e)).flatMap fun bi => (List.range (tNbc e)).map fun bj => (bi, bj)

/-- The source blocks that cover destination block (bi, bj) (R364): first and last row, first and last column of blocks. -/
def srcCover (se de : List Byte) (bi bj : Nat) : (Nat × Nat) × (Nat × Nat) :=
  let r1 := min (tRows de) ((bi + 1) * tBlkR de)
  let c1 := min (tCols de) ((bj + 1) * tBlkC de)
  ((bi * tBlkR de / tBlkR se, (r1 - 1) / tBlkR se), (bj * tBlkC de / tBlkC se, (c1 - 1) / tBlkC se))

/-- Whether every element of a destination block lies in one source part (R364). -/
def onePart (se de : List Byte) (b : Nat × Nat) : Bool :=
  let c := srcCover se de b.1 b.2
  tPart se c.1.1 c.2.1 == tPart se c.1.2 c.2.2

/-- The ranks that hold every element of a destination block in the source layout, the lowest first (R368). -/
def srcHolders (se de : List Byte) (bi bj : Nat) : List Nat :=
  let c := srcCover se de bi bj
  let p := tPart se c.1.1 c.2.1
  tHolders se p.1 p.2

/-- The ranks that hold a destination block. -/
def dstHolders (de : List Byte) (bi bj : Nat) : List Nat := let p := tPart de bi bj; tHolders de p.1 p.2

/-- Whether two layout descriptors correspond (R364). -/
def correspond (a b : List Byte) : Bool :=
  lyTensors a == lyTensors b && lyLayers a == lyLayers b && lyGroup a == lyGroup b &&
    (List.range (lyTensors b)).all fun i =>
      let se := lyEntry a i
      let de := lyEntry b i
      tRows se == tRows de && tCols se == tCols de && tLayer se == tLayer de && (tBlocks de).all (onePart se de)

/-! ### The turn descriptor, the routes, the ring record (R365, R368, R317) -/

/-- SET's partition and set aside, the fields of the turn descriptor: RANK. -/
def TurnJob.rank (j : TurnJob) : Nat := bitsOf (w32At j.desc 0) 28 16
/-- The attempts allowed. -/
def TurnJob.attempts (j : TurnJob) : Nat := bitsOf (w32At j.desc 0) 31 30 + 1
/-- LAYER_TOKEN. -/
def TurnJob.layerToken (j : TurnJob) : Nat := bitsOf (w32At j.desc 4) 11 0
/-- SRC_BASE. -/
def TurnJob.srcBase (j : TurnJob) : Nat := w64At j.desc 0x08
/-- DST_BASE. -/
def TurnJob.dstBase (j : TurnJob) : Nat := w64At j.desc 0x18
/-- BUDGET. -/
def TurnJob.budget (j : TurnJob) : Nat := w32At j.desc 0x38
/-- CLOSE_TIMEOUT. -/
def TurnJob.closeTimeout (j : TurnJob) : Nat := bitsOf (w32At j.desc 0x3C) 31 16
/-- LAP_TIMEOUT. -/
def TurnJob.lapTimeout (j : TurnJob) : Nat := bitsOf (w32At j.desc 0x3C) 15 0
/-- N_TENSORS. -/
def TurnJob.tensors (j : TurnJob) : Nat := lyTensors j.dst
/-- Source entry i. -/
def TurnJob.se (j : TurnJob) (i : Nat) : List Byte := lyEntry j.src i
/-- Destination entry i. -/
def TurnJob.de (j : TurnJob) (i : Nat) : List Byte := lyEntry j.dst i

/-- The route entry of rank d (R368). -/
def TurnJob.route (j : TurnJob) (d : Nat) : Nat := leAt j.routes (8 * d) 8
/-- The links of a route entry. -/
def routeLinks (e : Nat) : List Nat := ((List.range 4).take (bitsOf e 31 30 + 1)).map fun i => bitsOf e (8 * i + 4) (8 * i)
/-- PEER_VC of a route entry. -/
def routeVc (e : Nat) : Nat := bitsOf e 35 32
/-- Whether a route entry is invalid: a reserved bit is set. -/
def badRoute (e : Nat) : Bool :=
  bitsOf e 7 5 != 0 || bitsOf e 15 13 != 0 || bitsOf e 23 21 != 0 || bitOf e 29 || bitsOf e 63 36 != 0

/-- The reserved fields of a turn descriptor (R365). -/
def turnResv : List (Nat × Nat × Nat) := [(0x00, 29, 29), (0x00, 15, 8), (0x04, 31, 12)] ++ wordsOf 0x48 0x80

/-- The reserved fields of a ring record, rail 0 alone in use (R317). -/
def turnRingResv : List (Nat × Nat × Nat) :=
  [(0x00, 31, 29), (0x00, 15, 13), (0x04, 31, 16), (0x08, 31, 0), (0x0C, 31, 0), (0x10, 31, 20), (0x10, 15, 13), (0x10, 7, 5)]

/-- Whether the ring record of a turn is invalid (R317). -/
def badRing (r : List Byte) : Bool :=
  anySet r turnRingResv || outside (bitsOf (w32At r 0) 12 0) 1 8192 || decide (bitsOf (w32At r 0) 12 0 ≤ bitsOf (w32At r 0) 28 16) ||
    decide (bitsOf (w32At r 4) 15 0 < 16)

/-- Whether a turn descriptor itself is invalid (R365). -/
def badTurn (d : List Byte) : Bool :=
  bitsOf (w32At d 0) 7 0 != 1 || anySet d turnResv || bitsOf (w32At d 0x3C) 31 16 == 0 || bitsOf (w32At d 0x3C) 15 0 == 0

/-! ### The blocks of this device (R368, R371) -/

/-- The destination blocks of tensor i that this device is to hold. -/
def TurnJob.mine (j : TurnJob) (i : Nat) : List (Nat × Nat) :=
  (tBlocks (j.de i)).filter fun b => (dstHolders (j.de i) b.1 b.2).contains j.rank

/-- Whether a destination block of rank d moves within its device (R368). -/
def TurnJob.isLocal (j : TurnJob) (i d : Nat) (b : Nat × Nat) : Bool := (srcHolders (j.se i) (j.de i) b.1 b.2).contains d

/-- The blocks of tensor i that this device sends, each with its destination rank, in order of the local index (R371). -/
def TurnJob.sendsOf (j : TurnJob) (i : Nat) : List (Nat × Nat × Nat × Nat) :=
  let e := j.de i
  (List.range (tPartR e * tPartC e)).flatMap fun li => (List.range (tRP e)).flatMap fun u => (List.range (tCP e)).flatMap fun v =>
    if li < tHeight e u * tWidth e v then
      let b := (u * tPartR e + li / tWidth e v, v * tPartC e + li % tWidth e v)
      ((tHolders e u v).filter fun d =>
        !j.isLocal i d b && (srcHolders (j.se i) e b.1 b.2).head? == some j.rank).map fun d => (i, b.1, b.2, d)
    else []

/-- Everything this device sends, in order (R371): tensor, block, rank. -/
def TurnJob.sends (j : TurnJob) : List (Nat × Nat × Nat × Nat) :=
  (List.range (lyLayers j.dst)).flatMap fun l =>
    ((List.range j.tensors).filter fun i => tLayer (j.de i) == l).flatMap j.sendsOf

/-! ### The conversion of a block (R368, R369) -/

/-- Bytes of a block as this device holds it; none where they cannot be read. -/
def State.readBlock (s : State) (n : Nat) (p : BlkPlace) (len : Nat) : Option (List Byte) × State :=
  match p with
  | .dev a => match s.readPda n a len with
    | (.ok bs, s) => (some bs, s)
    | (_, s) => (none, s)
  | .store g o => if s.storeOk n g && decide (o + len ≤ 2 ^ 25) then (some (s.bytes (storeAddr g o) len), s) else (none, s)

/-- The codebook entries that a tag's record gives for a tensor column (R142). -/
def State.codebook (s : State) (n tag fmt col : Nat) : List Val :=
  let rc := s.peek n (scaleAddr s n tag) 128
  (s.peek n (tableAddr rc (tableSize fmt) (col / 128)) (tableSize fmt)).map fun b => valOfCode 0 b.toNat

/-- An element of a source block in a destination format (R368): its code, the wide value to be folded where there is a
conversion to a narrow format, whether it saturated. Scales play no part in it. DEDUCED. -/
def State.convert (s : State) (n : Nat) (se de : List Byte) (col x : Nat) : Nat × Option Word × Bool :=
  let sf := tFmt se
  let df := tFmt de
  if sf = df then (x, none, false)
  else
    let v := if sf = 8 ∨ sf = 9 then (s.codebook n (tTag se) sf col).getD x .nan else valOfCode sf x
    let wide := BitVec.ofNat 32 (fp32.round v.exact).code
    let r := if df = 8 ∨ df = 9 then quantCodebook (s.codebook n (tTag de) df col) v else toCode df v.exact
    (r.code, if df = 10 then none else some wide, r.saturates && !(df == 8 || df == 9))

/-- Codes packed in a width in bits. -/
def packCodes (width : Nat) : List Nat → List Byte
  | [] => []
  | [x] => leBytes (max 1 (width / 8)) x
  | x :: y :: r => if width = 4 then BitVec.ofNat 8 (x % 16 + y % 16 * 16) :: packCodes width r
      else leBytes (width / 8) x ++ packCodes width (y :: r)

/-- The place of element (r, c) in a block's order. -/
def blkIndex (e : List Byte) (r c : Nat) : Nat := if tColMajor e then c * tBlkR e + r else r * tBlkC e + c

/-- The elements of a block in its order: their rows and columns. -/
def blkOrder (e : List Byte) : List (Nat × Nat) :=
  (List.range (tBlkR e * tBlkC e)).map fun i => if tColMajor e then (i % tBlkR e, i / tBlkR e) else (i / tBlkC e, i % tBlkC e)

/-- The source blocks that cover a destination block, as they read. -/
def State.coverBlocks (s : State) (j : TurnJob) (i : Nat) (b : Nat × Nat) : Option (List ((Nat × Nat) × List Byte)) × State :=
  let se := j.se i
  let c := srcCover se (j.de i) b.1 b.2
  let bs := (List.range (c.1.2 + 1 - c.1.1)).flatMap fun x => (List.range (c.2.2 + 1 - c.2.1)).map fun y => (c.1.1 + x, c.2.1 + y)
  bs.foldl (fun acc q =>
    match acc.1 with
    | none => acc
    | some out =>
      match acc.2.readBlock j.part.val (blkPlace j.srcBase se q.1 q.2) (tBytes se) with
      | (some bytes, s) => (some (out ++ [(q, bytes)]), s)
      | (none, s) => (none, s)) (some [], s)

/-- The floor die folds values into a tag on behalf of a turn (R127, R130). -/
def State.foldFor (s : State) (n tag : Nat) (xs : List Word) : State :=
  let a := scaleAddr s n tag
  if xs.isEmpty || !s.pdaOk n a 128 true then s
  else
    match s.readPda n a 128 with
    | (.ok bs, s) => s.poke n a (recFold xs bs)
    | (_, s) => s

/-- The Switchback page of a pass die. -/
def swbPage (n : Nat) : Page := .swb (Fin.ofNat 4 n)

/-- A destination block of tensor i as it is made of the source blocks that cover it (R368): transposed, converted, folded.
`die`: the engine that does it. -/
def State.shapeBlock (s : State) (j : TurnJob) (die i : Nat) (b : Nat × Nat) (src : List ((Nat × Nat) × List Byte)) :
    List Byte × State :=
  let se := j.se i
  let de := j.de i
  let out := (blkOrder de).map fun q =>
    let R := b.1 * tBlkR de + q.1
    let C := b.2 * tBlkC de + q.2
    if tRows de ≤ R ∨ tCols de ≤ C then (0, none, false)
    else
      let bytes := ((src.find? fun x => x.1 == (R / tBlkR se, C / tBlkC se)).map (·.2)).getD []
      s.convert j.part.val se de C (packedAt bytes (tBits se) (blkIndex se (R % tBlkR se) (C % tBlkC se)))
  let s := s.foldFor j.part.val (tTag de) (out.filterMap fun x => x.2.1)
  let k := (out.filter fun x => x.2.2).length
  (packCodes (tBits de) (out.map (·.1)), if k = 0 then s else s.accrue (swbPage die) 0#4 k)

/-- A destination block as the sender makes it (R368); none where its source cannot be read. -/
def State.makeBlock (s : State) (j : TurnJob) (die i : Nat) (b : Nat × Nat) : Option (List Byte) × State :=
  match s.coverBlocks j i b with
  | (none, s) => (none, s)
  | (some src, s) => let r := s.shapeBlock j die i b src; (some r.1, r.2)

/-! ### The start of a job (R366, R367) -/

/-- Whether the part executes the TURN at the head of the queue (R357, R366). -/
def turnOk (n : PartId) (s : State) : Bool := vopOk n 7 s

/-- A TURN comes to the head and waits for its job slot (R366); a broken slot or table ends it at once (R359). -/
def turnDo (n : PartId) (s : State) : State :=
  let a := vqSlot s n.val
  let o := s.peek n.val a 32
  if vopBad o then s.vopFinish n.val o ⟨1, none⟩
  else if !s.pdaOk n.val (vtHeader s n.val 0) 4096 true then s.vopFinish n.val o ⟨8, none⟩
  else s.modPart n.val fun p => { p with turnWait := some a }

/-- TURN (R366). -/
def execTurn (n : PartId) (s : State) : Host.Outcome State Fault Refusal :=
  act s fun s => if turnOk n s then turnDo n s else s

/-- A free Switchback job slot; the spec does not say which is taken, the model takes the lowest. DESIGN CHOICE. -/
def freeTurn (s : State) : Option Nat := (List.range 8).find? fun t => (s.turn t).isNone

/-- What a turn's tables read as: the descriptor, both layouts, the ring record, the routes. -/
def State.readLayout (s : State) (n a : Nat) : Option (List Byte) × State :=
  match s.readPda n a 64 with
  | (.ok h, s) => match s.readPda n (a + 64) (64 * lyTensors h) with
    | (.ok es, s) => (some (h ++ es), s)
    | (_, s) => (none, s)
  | (_, s) => (none, s)

/-- Whether a destination block can be written where it lies (R367). -/
def State.placeOk (s : State) (n len : Nat) (p : BlkPlace) : Bool :=
  match p with
  | .dev a => s.pdaOk n a len true
  | .store g o => s.storeOk n g && decide (o + len ≤ 2 ^ 25)

/-- A job before its checks. -/
def newTurn (n : PartId) (set opAddr signal : Nat) (desc src dst ring routes : List Byte) (beat : Nat) : TurnJob :=
  { part := n, set := set, opAddr := opAddr, signal := signal, desc := desc, src := src, dst := dst, routes := routes,
    ring := ring, epoch := 0, record := 0, start := beat, state := .moving, attempt := 0, unclean := false, landed := [],
    layers := 0, sent := 0, forwards := 0, progress := beat, reported := false, close := CloseSt.fresh }

/-- The checks of R367. -/
def turnChecks (s : State) (j : TurnJob) : Bool :=
  let n := bitsOf (w32At j.ring 0) 12 0
  !badTurn j.desc && !badLayout j.src && !badLayout j.dst && correspond j.src j.dst && !badRing j.ring &&
    lyGroup j.dst == n && j.rank == bitsOf (w32At j.ring 0) 28 16 &&
    ((List.range (lyGroup j.dst)).all fun d => !badRoute (j.route d)) &&
    (List.range j.tensors).all fun i =>
      (j.mine i).all fun b => s.placeOk j.part.val (tBytes (j.de i)) (blkPlace j.dstBase (j.de i) b.1 b.2)

/-- The tables of a turn descriptor at ARG; none where an address is refused. -/
def State.readTurn (s : State) (n : PartId) (a : Nat) (o : List Byte) : Option TurnJob × State :=
  let arg := w64At o 8
  match s.readPda n.val arg 128 with
  | (.ok d, s) =>
    match s.readLayout n.val (w64At d 0x10) with
    | (some src, s) =>
      match s.readLayout n.val (w64At d 0x20) with
      | (some dst, s) =>
        match s.readPda n.val (w64At d 0x30) 48 with
        | (.ok ring, s) =>
          match s.readPda n.val (w64At d 0x28) (8 * lyGroup dst) with
          | (.ok routes, s) =>
            (some (newTurn n (vopSet o) a (bitsOf (w32At o 0x14) 11 0) d src dst ring routes s.beatNum), s)
          | (_, s) => (none, s)
        | (_, s) => (none, s)
      | (none, s) => (none, s)
    | (none, s) => (none, s)
  | (_, s) => (none, s)

/-- CTL of a scale record without its history (R367). -/
def State.dropHistory (s : State) (n tag : Nat) : State :=
  let a := scaleAddr s n tag + 8
  s.poke32 n a (putBits (s.peek32 n a) 22 13 0)

/-- The waiting TURN leaves the head of the queue. -/
def State.turnLeaves (s : State) (n : Nat) : State := (s.modPart n fun p => { p with turnWait := none }).vqAdvance n

/-- The waiting TURN fails (R359). -/
def State.turnRefused (s : State) (n a status : Nat) : State := ((s.vopWrite n a ⟨status, none⟩).turnLeaves n).vqHalt n status

/-- A turn starts in a free slot (R367): the LANDING version, the histories, RESULT_EPOCH. -/
def State.turnBegin (s : State) (t : Nat) (a : Nat) (j : TurnJob) (v : Nat) : State :=
  let n := j.part.val
  let s := s.startVersion n j.set v 1 j.dstBase (w64At j.desc 0x20)
  let e := verEpoch s n j.set v
  let s := ((List.range j.tensors).filter fun i => !tCarry (j.de i)).foldl (fun s i => s.dropHistory n (tTag (j.de i))) s
  ((s.poke32 n (a + 0x1C) e).turnLeaves n).setTurn t (some { j with epoch := e, record := v })

/-- Whether a waiting TURN can go on: a slot is free and START_BEAT has come (R365, R366). -/
def turnStartOk (n : PartId) (s : State) : Bool :=
  (freeTurn s).isSome && !s.holding &&
    match (s.part n.val).turnWait with
    | none => false
    | some a => decide (s.peek64 n.val (w64At (s.peek n.val a 32) 8 + 0x40) ≤ s.beatNum)

/-- The checks of the waiting TURN run, and its job starts (R359, R367). -/
def turnStartDo (n : PartId) (s : State) : State :=
  match (s.part n.val).turnWait, freeTurn s with
  | some a, some t =>
    let o := s.peek n.val a 32
    if w64At o 8 % 64 ≠ 0 then s.turnRefused n.val a 1
    else
      match s.readTurn n a o with
      | (none, s) => s.turnRefused n.val a 8
      | (some j, s) =>
        if !turnChecks s j then s.turnRefused n.val a 1
        else if (List.range 4).any fun v => verState s n.val j.set v == 1 then s.turnRefused n.val a 2
        else
          match s.pick (freeRecords s n.val j.set) with
          | (none, s) => s.turnRefused n.val a 6
          | (some v, s) => s.turnBegin t a j v
  | _, _ => s

/-- TURN_JOB_START (R367). -/
def execTurnJobStart (n : PartId) (s : State) : Host.Outcome State Fault Refusal :=
  act s fun s => if turnStartOk n s then turnStartDo n s else s

/-! ### Verdicts and layers (R369, R370, R372) -/

/-- The verdict of a turn's attempt becomes unclean, and is ready (R372). -/
def State.turnSpoil (s : State) (t : Nat) : State :=
  (s.modTurn t fun j =>
    if j.state = .moving then
      { j with unclean := true, state := .closing, close := { j.close with verdict := some false, readyBeat := s.beatNum } }
    else { j with unclean := true })

/-- Whether every block of layer l that this device is to hold has landed. -/
def TurnJob.layerDone (j : TurnJob) (l : Nat) : Bool :=
  ((List.range j.tensors).filter fun i => tLayer (j.de i) == l).all fun i =>
    (j.mine i).all fun b => j.landed.contains (i, b.1, b.2)

/-- The history of a source tag goes to its destination tag (R370): AMAX_HIST, HIST_N, HIST_POS, SEEDED, SCALE. -/
def State.carryHistory (s : State) (n src dst : Nat) : State :=
  let a := scaleAddr s n src
  let b := scaleAddr s n dst
  let ctl := putBits (s.peek32 n (b + 8)) 22 13 (bitsOf (s.peek32 n (a + 8)) 22 13)
  ((s.poke n (b + 0x40) (s.peek n (a + 0x40) 64)).poke32 n (b + 8) ctl).poke32 n b (s.peek32 n a)

/-- A layer is counted (R370). -/
def State.countLayer (s : State) (t : Nat) (j : TurnJob) : State :=
  let n := j.part.val
  let a := verAddr s n j.set j.record + 4
  let s := s.poke32 n a (putBits (s.peek32 n a) 31 16 (j.layers + 1))
  let s := s.signal n j.layerToken
  let s := ((List.range j.tensors).filter fun i => tLayer (j.de i) == j.layers && tCarry (j.de i)).foldl
    (fun s i => s.carryHistory n (tTag (j.se i)) (tTag (j.de i))) s
  s.modTurn t fun j => { j with layers := j.layers + 1 }

/-- The layers that are complete are counted in ascending order (R370); the last makes the verdict ready (R372). Fuel bounds
them. -/
def State.countLayers : Nat → Nat → State → State
  | 0, _, s => s
  | f + 1, t, s =>
    match s.turn t with
    | none => s
    | some j =>
      if j.layers < lyLayers j.dst then
        if j.layerDone j.layers then State.countLayers f t (s.countLayer t j) else s
      else if j.state = .moving ∧ !j.unclean then
        s.modTurn t fun j => { j with state := .closing, close := { j.close with verdict := some true, readyBeat := s.beatNum } }
      else s

/-- The pass die at whose Switchback engine a block lands that did not come by link: that of its stack or vale. -/
def placeDie (dpaOf : Nat → Nat) : BlkPlace → Nat
  | .store g _ => g / 32 % 4
  | .dev a => dpaOf a

/-- The pass die beside the stack that a partition's address lies in. -/
def State.dieOf (s : State) (n a : Nat) : Nat :=
  match s.walk n a true with
  | .ok d _ => (match dpaStack d with | some st => if st < 16 then st / 4 else st - 16 | none => (dpaStaging d).getD 0)
  | _ => 0

/-- A block's bytes are written where they belong; false where the write fails. -/
def State.writeBlockAt (s : State) (n : Nat) (p : BlkPlace) (bs : List Byte) : Bool × State :=
  match p with
  | .dev a => match s.writePda n a bs with
    | (.ok _, s) => (true, s)
    | (_, s) => (false, s)
  | .store g o => (true, if s.storeOk n g then s.setBytes (storeAddr g o) bs else s)

/-- A block is not written (R369): counted, reported, and the verdict is unclean. -/
def State.blockError (s : State) (t die : Nat) : State := ((s.count (swbPage die) 0x50 1).raise (swbPage die) 2).turnSpoil t

/-- A block lands (R369, R370); one that has landed before is discarded. -/
def State.landBlock (s : State) (t die : Nat) (j : TurnJob) (i : Nat) (b : Nat × Nat) (bs : List Byte) : State :=
  if j.landed.contains (i, b.1, b.2) then s
  else
    match s.writeBlockAt j.part.val (blkPlace j.dstBase (j.de i) b.1 b.2) bs with
    | (false, s) => s.blockError t die
    | (true, s) =>
      let s := (s.count (swbPage die) 0x48 1).modTurn t fun j =>
        { j with landed := j.landed ++ [(i, b.1, b.2)], progress := s.beatNum }
      State.countLayers (lyLayers j.dst + 1) t s

/-- Whether a job's blocks can land now: it has not ended, and no hold pauses it (R371). -/
def turnLands (s : State) (j : TurnJob) : Bool := !s.holding && j.state != .failed

/-- Whether a local block can land (R368). -/
def localOk (t : TurnSlot) (i bi bj : Nat) (s : State) : Bool :=
  match s.turn t.val with
  | none => false
  | some j => turnLands s j && j.state == .moving && decide (i < j.tensors) && (j.mine i).contains (bi, bj) &&
      j.isLocal i j.rank (bi, bj) && !j.landed.contains (i, bi, bj)

/-- A local block is read, converted and written (R368, R369). -/
def localDo (t : TurnSlot) (i bi bj : Nat) (r : MemRead) (s : State) : State :=
  match s.turn t.val with
  | none => s
  | some j =>
    let p := blkPlace j.dstBase (j.de i) bi bj
    let die := placeDie (s.dieOf j.part.val) p
    match s.makeBlock j die i (bi, bj), r with
    | (some bs, s), .clean => s.landBlock t.val die j i (bi, bj) bs
    | (some bs, s), .corrected => s.landBlock t.val die j i (bi, bj) bs
    | (_, s), _ => s.blockError t.val die

/-! ### Blocks over links (R368, R369, R371) -/

/-- The stream number of a job's blocks (R233): class 1, the pass die, the job slot. -/
def turnStream (k t : Nat) : Nat := 2 ^ 31 + 2 ^ 24 * (k / 8) + 2 ^ 15 * t

/-- The MSG word of a linked block (R369). -/
def blockMsg (d set : Nat) : Nat := 2 ^ 31 + 2 ^ 18 * d + 2 ^ 14 * set

/-- The 32-byte header of a linked block (R369). -/
def blockHeader (epoch i : Nat) (b : Nat × Nat) (bs : List Byte) : List Byte :=
  leBytes 4 epoch ++ leBytes 4 i ++ leBytes 4 b.1 ++ leBytes 4 b.2 ++ td128Bytes bs

/-- The links of a route that are UP (R368). -/
def upLinks (s : State) (e : Nat) : List Nat := (routeLinks e).filter s.linkUp

/-- A message of a job goes to the egress of link k (R369); the spec names no receive buffer for blocks, the model takes 0.
DESIGN CHOICE. -/
def State.queueMessage (s : State) (k t : Nat) (part vc msg : Nat) (bs : List Byte) : State :=
  let ps := flitPayloads (bs.length / 240 + 1) bs
  let fs := ps.mapIdx fun i p =>
    ({ type := 1, vc := vc, part := part, stream := turnStream k t, msg := msg, last := i + 1 == ps.length, rxBuf := 0,
       payload := p } : OutFlit)
  s.modLink k fun l => { l with data := l.data ++ fs }

/-- The link that the job's next block goes to (R368): round-robin over the route's links that are UP. -/
def nextSend (s : State) (j : TurnJob) : Option ((Nat × Nat × Nat × Nat) × Nat) :=
  match j.sends[j.sent]? with
  | none => none
  | some b =>
    let ls := upLinks s (j.route b.2.2.2)
    let q := ((j.sends.take j.sent).filter fun x => x.2.2.2 == b.2.2.2).length
    (ls[q % ls.length]?).map fun k => (b, k)

/-- A job puts its next block to its link, unless one of its blocks waits there; a block whose source cannot be read makes
the verdict unclean (R369, R371). -/
def State.feedOne (s : State) (t : Nat) : Option State :=
  match s.turn t with
  | none => none
  | some j =>
    if j.state != .moving then none
    else
      match nextSend s j with
      | none => none
      | some (b, k) =>
        if (s.link k).data.any fun f => f.stream == turnStream k t then none
        else
          match s.makeBlock j (k / 8) b.1 (b.2.1, b.2.2.1) with
          | (none, s) => some (s.turnSpoil t)
          | (some bs, s) =>
            let s := s.queueMessage k t j.part.val (routeVc (j.route b.2.2.2)) (blockMsg b.2.2.2 j.set)
              (blockHeader j.epoch b.1 (b.2.1, b.2.2.1) bs ++ bs)
            some (s.modTurn t fun j => { j with sent := j.sent + 1 })

/-- A job feeds its links as far as they are free of its blocks. Fuel bounds the blocks. -/
def State.feed : Nat → Nat → State → State
  | 0, _, s => s
  | f + 1, t, s =>
    match s.feedOne t with
    | none => s
    | some s => State.feed f t s

/-- Every running turn feeds its links (R371); a hold pauses them. -/
def State.feedTurns (s : State) : State := if s.holding then s else (List.range 8).foldl (fun s t => State.feed 33 t s) s

/-- The last flit of a block has left link k (R381, R372). -/
def State.blockLeft (s : State) (k : Nat) (f : OutFlit) : State :=
  if f.type = 1 ∧ bitOf f.msg 31 ∧ f.last then
    let t := bitsOf f.stream 23 15
    (s.count (swbPage (k / 8)) 0x44 1).modTurn t fun j => { j with progress := s.beatNum }
  else s

/-- The running turn of a partition on a set, with its slot. -/
def turnOf (s : State) (n set : Nat) : Option (Nat × TurnJob) :=
  (List.range 8).findSome? fun t =>
    match s.turn t with
    | some j => if j.part.val == n && j.set == set then some (t, j) else none
    | none => none

/-- What a block's epoch says of it: its turn runs here, is yet to start, or is over. DEDUCED. -/
inductive BlockAge where
  | now | early | past
deriving DecidableEq, Repr

/-- The age of a block of a set by its epoch. -/
def blockAge (s : State) (n set epoch : Nat) : BlockAge :=
  match turnOf s n set with
  | some (_, j) => if epoch = j.epoch then .now else if epoch < j.epoch then .past else .early
  | none => if lastEpoch s n set < epoch then .early else .past

/-- The first flit on VC n of link k of a Switchback block that can be dealt with now, with what has arrived of its message;
the head of a message whose turn has not started here stays. -/
def blockFront (s : State) (k n : Nat) : Option (RxFlit × Option BlockIn) :=
  let l := s.link k
  let fs := l.rx.filter fun f => f.type == 1 && f.vc == n && bitOf f.msg 31
  fs.findSome? fun f =>
    match l.blocks.find? fun b => b.vc == n && b.msg == f.msg with
    | some b => some (f, some b)
    | none => if blockAge s n (bitsOf f.msg 17 14) (leAt f.payload 0 4) = .early then none else some (f, none)

/-- A whole linked block at its destination (R369). -/
def State.arriveBlock (s : State) (k t : Nat) (j : TurnJob) (b : BlockIn) (r : MemRead) : State :=
  let die := k / 8
  let i := leAt b.bytes 4 2
  let q := (w32At b.bytes 8, w32At b.bytes 0x0C)
  let data := b.bytes.drop 32
  let known := decide (i < j.tensors) && (j.mine i).contains q && data.length == tBytes (j.de i)
  if b.broken || r == .uncorrectable || !known || leAt b.bytes 0x10 16 != leNat (td128Bytes data) then s.blockError t die
  else s.landBlock t die j i q data

/-- A block for another rank goes on by this device's own route (R368). -/
def State.forwardBlock (s : State) (k t : Nat) (j : TurnJob) (d : Nat) (b : BlockIn) : State :=
  let e := j.route d
  let ls := upLinks s e
  match ls[j.forwards % ls.length]? with
  | none => s
  | some o =>
    let s := s.queueMessage o t j.part.val (routeVc e) b.msg b.bytes
    (s.count (swbPage (k / 8)) 0x4C 1).modTurn t fun j => { j with forwards := j.forwards + 1 }

/-- The last flit of a block has come on link k (R368, R369). -/
def State.blockCame (s : State) (k n : Nat) (b : BlockIn) (r : MemRead) : State :=
  match turnOf s n (bitsOf b.msg 17 14) with
  | none => s
  | some (t, j) =>
    let d := bitsOf b.msg 30 18
    if b.drop || leAt b.bytes 0 4 != j.epoch then s
    else if d = j.rank then s.arriveBlock k t j b r else s.forwardBlock k t j d b

/-- What has arrived of a message after one flit more. -/
def BlockIn.add (f : RxFlit) (n : Nat) (drop : Bool) (b : Option BlockIn) : BlockIn :=
  match b with
  | some b => { b with bytes := b.bytes ++ f.payload, broken := b.broken || b.era != f.era }
  | none => { vc := n, msg := f.msg, era := f.era, bytes := f.payload, broken := false, drop := drop }

/-- The flits of one linked block are read on VC n of link k as far as they have come. Fuel bounds them. -/
def State.blockTake : Nat → Nat → Nat → MemRead → State → State
  | 0, _, _, _, s => s
  | fuel + 1, k, n, r, s =>
    match blockFront s k n with
    | none => s
    | some (f, old) =>
      let past := blockAge s n (bitsOf f.msg 17 14) (leAt f.payload 0 4) == .past
      let b := BlockIn.add f n past old
      let s := s.modLink k fun l =>
        { l with rx := l.rx.erase f, freed := vcStep l.freed f.vc,
                 blocks := (l.blocks.filter fun x => !(x.vc == n && x.msg == f.msg)) ++ (if f.last then [] else [b]) }
      if f.last then s.blockCame k n b r else State.blockTake fuel k n r s

/-! ### The end of a turn (R373, R375) -/

/-- STATUS of a turn's operation is written in its slot (R359). -/
def State.turnStatus (s : State) (j : TurnJob) (status : Nat) : State :=
  let a := j.opAddr + 0x18
  s.poke32 j.part.val a (putBits (s.peek32 j.part.val a) 3 0 status)

/-- A job's blocks at the egress of the links are withdrawn. -/
def State.turnWithdraw (s : State) (t : Nat) : State :=
  (List.range 32).foldl (fun s k =>
    if (s.link k).data.any fun f => f.stream == turnStream k t then
      s.modLink k fun l => { l with data := l.data.filter fun f => f.stream != turnStream k t }
    else s) s

/-- The turn publishes (R373). -/
def State.turnPublish (s : State) (t : Nat) (j : TurnJob) : State :=
  let s := s.makeCurrent j.part.val j.set j.record
  ((s.turnStatus j 0).signal j.part.val j.signal).setTurn t none

/-- The turn ends without publishing (R375): a version that nothing refers to becomes FREE at once (R351). DEDUCED. -/
def State.turnAbandon (s : State) (t : Nat) (j : TurnJob) : State :=
  let n := j.part.val
  let s := (s.turnWithdraw t).setVerState n j.set j.record 4
  let s := if verRefs s n j.set j.record = 0 then s.freeVersion n j.set j.record else s
  let s := (s.turnStatus j 7).setTurn t none
  (s.raise (swbPage 0) 4).moraine .turnFailed (swbPage 0) [t, j.epoch]

/-- Whether a turn is past its budget and not yet reported (R376). -/
def budgetOk (t : TurnSlot) (s : State) : Bool :=
  (s.turn t.val).any fun j => !j.reported && decide (j.start + j.budget ≤ s.beatNum)

/-- A turn is reported over budget (R376). -/
def budgetDo (t : TurnSlot) (s : State) : State :=
  let s := s.modTurn t.val fun j => { j with reported := true }
  ((s.count (swbPage 0) 0x54 1).raise (swbPage 0) 1).moraine .overBudget (swbPage 0) [t.val]

/-- TURN_BUDGET_EXPIRY (R376). -/
def execTurnBudgetExpiry (t : TurnSlot) (s : State) : Host.Outcome State Fault Refusal :=
  act s fun s => if budgetOk t s then budgetDo t s else s

end Sys2Proof.Machine
end

