-- ==== Sys2Proof/Machine/Closes.lean ====
section
/-! DEFINITION. Closes: the ring close of collectives and turns (R334 to R338, R372), its outcomes (R339 to R341, R373 to R375),
retries, and the rows of chapters 12 and 13 that make a verdict ready. -/

namespace Sys2Proof.Machine

/-! ### Members (R317, R335, R372) -/

/-- What the close reads of a member: N, its position, partition, RETRY_GAP, attempts allowed, SEQ, attempt, its rails as
(LINK_IN, LINK_OUT, PEER_VC), CLOSE_TIMEOUT, whether it has started the attempt, whether it waits for the close, whether
the attempt is still open at it (an OUTCOME acts), whether it runs, and its close. -/
structure RingInfo where
  n : Nat
  pos : Nat
  part : Nat
  gap : Nat
  attempts : Nat
  seq : Nat
  attempt : Nat
  rails : List (Nat × Nat × Nat)
  timeout : Nat
  started : Bool
  closing : Bool
  opened : Bool
  runs : Bool
  close : CloseSt
deriving DecidableEq, Repr

/-- The close of a command's COLLECT stage; none once the stage has ended. -/
def ringOfCmd (s : State) (c : Cmd) : Option RingInfo :=
  match c.coll with
  | none => none
  | some x =>
    if x.ended then none
    else some
      { n := c.members, pos := c.pos, part := c.part.val, gap := c.retryGap, attempts := c.attempts, seq := c.collSeq % 4096,
        attempt := x.attempt, rails := (List.range c.rails).map fun r => (c.linkIn r, c.linkOut r, c.peerVc r),
        timeout := c.closeTimeout, started := x.started, closing := x.state == .closing,
        opened := !(x.state == .retryWait || x.state == .failed), runs := s.running c, close := x.close }

/-- The close of a turn (R372): rail 0 of its ring record; the spec names no SEQ for it, the model takes the epoch's low
bits. DESIGN CHOICE. -/
def ringOfTurn (s : State) (j : TurnJob) : RingInfo :=
  { n := bitsOf (w32At j.ring 0) 12 0, pos := bitsOf (w32At j.ring 0) 28 16, part := j.part.val, gap := bitsOf (w32At j.ring 4) 15 0,
    attempts := j.attempts, seq := j.epoch % 4096, attempt := j.attempt,
    rails := [(bitsOf (w32At j.ring 0x10) 12 8, bitsOf (w32At j.ring 0x10) 4 0, bitsOf (w32At j.ring 0x10) 19 16)],
    timeout := j.closeTimeout, started := true, closing := j.state == .closing,
    opened := !(j.state == .retryWait || j.state == .failed), runs := !s.holding, close := j.close }

/-- The close of a member. -/
def State.ringOf (s : State) : Member → Option RingInfo
  | .cmd k => (s.cmd k.val).bind (ringOfCmd s)
  | .turn t => (s.turn t.val).map (ringOfTurn s)

/-- The close of a member changed. -/
def State.modClose (s : State) (m : Member) (f : CloseSt → CloseSt) : State :=
  match m with
  | .cmd k => s.modColl k.val fun x => { x with close := f x.close }
  | .turn t => s.modTurn t.val fun j => { j with close := f j.close }

/-! ### Close flits (R335) -/

/-- The MSG word of a close flit (R335). -/
def closeMsg (kind : Nat) (result final : Bool) (attempt part seq : Nat) : Nat :=
  2 ^ 30 * kind + boolBit result * 2 ^ 29 + boolBit final * 2 ^ 28 + 2 ^ 25 * (attempt % 4) + 2 ^ 16 * (part % 16) + seq % 4096

/-- A close flit waits at the egress of link k. -/
def State.queueClose (s : State) (k msg : Nat) (payload : List Byte) : State :=
  s.modLink k fun l =>
    { l with system := l.system ++
        [{ type := 2, vc := 16, part := 0, stream := 0, msg := msg, last := true, rxBuf := 0, payload := payload }] }

/-- A member sends GATHER on rail 0 (R336). -/
def State.sendGather (s : State) (m : Member) (i : RingInfo) (result : Bool) : State :=
  match i.rails with
  | [] => s
  | r :: _ => (s.queueClose r.2.1 (closeMsg 0 result false i.attempt r.2.2 i.seq) []).modClose m fun c =>
      { c with sent := some s.beatNum, held := none }

/-- An OUTCOME goes out on every rail whose link is UP (R337). -/
def State.sendOutcome (s : State) (i : RingInfo) (attempt : Nat) (o : Outcome3) (payload : List Byte) : State :=
  (i.rails.filter fun r => s.linkUp r.2.1).foldl (fun s r =>
    s.queueClose r.2.1 (closeMsg 1 (o == .clean) (o == .finalFault) attempt r.2.2 i.seq) payload) s

/-! ### Outcomes (R339 to R341, R344, R373 to R375) -/

/-- A command whose stages have all ended completes (R224, R339). -/
def State.completeNow (s : State) (k : Nat) : State := if completeOk k s then completeDo k s else s

/-- A clean attempt of a metered command whose close waited for a late member carries UPSTREAM (R333). -/
def lateClose (s : State) (c : Cmd) (x : CollSt) : Bool :=
  s.metered c.part.val && c.window.any fun w => decide (w.2 ≤ s.beatNum) && decide (x.close.readyBeat < w.2)

/-- A CLEAN outcome at a collective's member (R339). -/
def State.collClean (s : State) (k : Nat) (c : Cmd) (x : CollSt) : State :=
  let s := if lateClose s c x then s.modCmd k fun c => c.addVoid 7 else s
  let s := s.signal c.part.val c.closeToken
  (s.modColl k fun x => { x with ended := true }).completeNow k

/-- The flits of an attempt that still wait in the receive buffers are discarded (R340). -/
def State.dropHeld (s : State) (c : Cmd) (attempt : Nat) : State :=
  (List.range c.rails).foldl (fun s r =>
    ((s.link (c.linkIn r)).rx.filter fun f =>
      f.type == 1 && f.vc == c.part.val && f.rxBuf == r && !bitOf f.msg 31 && bitsOf f.msg 11 0 == c.collSeq % 4096 &&
        bitsOf f.msg 26 25 == attempt).foldl (fun s f => s.dropFlit (c.linkIn r) f) s) s

/-- The void cause of a faulted first attempt in a metered partition (R333): the one the member knows; else one of MEM_UE,
FENCE and LINK, which the spec leaves open. -/
def State.faultVoid (s : State) (k : Nat) (c : Cmd) : State :=
  if !s.metered c.part.val || c.voids.any fun v => v == 1 || v == 2 || v == 3 then s
  else
    match s.pick [1, 2, 3] with
    | (some v, s) => s.modCmd k fun c => c.addVoid v
    | (none, s) => s

/-- An attempt faults at a collective's member (R340, R343): it stops, and the fault is reported. -/
def State.collFault (s : State) (k : Nat) (c : Cmd) (attempt : Nat) : State :=
  let s := ((s.collWithdraw k c).collArrive k).dropHeld c attempt
  let s := if attempt = 0 then s.faultVoid k c else s
  ((s.count (collPage c.vale) 0x4C 1).raise (collPage c.vale) 1).moraine .attemptFault (collPage c.vale) [c.collSeq, attempt]

/-- An OUTCOME acts at a collective's member (R339 to R341); a member that has started no attempt takes no CLEAN one. -/
def State.collOutcome (s : State) (k : Nat) (o : Outcome3) (attempt retry : Nat) : State :=
  match s.cmd k with
  | none => s
  | some c =>
    match c.coll with
    | none => s
    | some x =>
      match o with
      | .clean => if x.started then s.collClean k c x else s
      | .fault =>
        (s.collFault k c attempt).modColl k fun x =>
          { x with state := .retryWait, attempt := attempt, close := { x.close with retryBeat := retry } }
      | .finalFault =>
        let s := (s.collFault k c attempt).modColl k fun x => { x with state := .failed, attempt := attempt }
        (s.raise (collPage c.vale) 4).moraine .collFailed (collPage c.vale) [c.collSeq, attempt]

/-- An OUTCOME acts at a turn's member (R373 to R375). -/
def State.turnOutcome (s : State) (t : Nat) (o : Outcome3) (retry : Nat) : State :=
  match s.turn t with
  | none => s
  | some j =>
    match o with
    | .clean => s.turnPublish t j
    | .fault => (s.turnWithdraw t).modTurn t fun j => { j with state := .retryWait, close := { j.close with retryBeat := retry } }
    | .finalFault => s.turnAbandon t j

/-- An OUTCOME acts at a member. -/
def State.outcome (s : State) (m : Member) (o : Outcome3) (attempt retry : Nat) : State :=
  match m with
  | .cmd k => s.collOutcome k.val o attempt retry
  | .turn t => s.turnOutcome t.val o retry

/-! ### The decision of position 0 (R336, R337) -/

/-- Whether a FAULT is final (R336): the last attempt allowed, or a ring link not UP. -/
def faultIsFinal (s : State) (i : RingInfo) : Bool :=
  decide (i.attempts ≤ i.attempt + 1) || (i.n != 1 && i.rails.any fun r => !s.linkUp r.1 || !s.linkUp r.2.1)

/-- The decision is recorded (R337): LAST_OUTCOME of a collective's vale, and a Moraine record. -/
def State.recordDecision (s : State) (m : Member) (i : RingInfo) (o : Outcome3) : State :=
  let pay := [i.seq, boolBit (o == .clean), boolBit (o == .finalFault), i.attempt]
  match m with
  | .cmd k =>
    match s.cmd k.val with
    | none => s
    | some c =>
      let w := fields [(31, 31, 1), (30, 30, boolBit (o == .clean)), (29, 29, boolBit (o == .finalFault)), (28, 27, i.attempt),
        (11, 0, i.seq)]
      (s.setReg (pageBase (collPage c.vale) + 0x58) w).moraine .closeDecided (collPage c.vale) pay
  | .turn _ => s.moraine .closeDecided (swbPage 0) pay

/-- Position 0 decides (R336, R337): the outcome is sent, recorded, and acts here. -/
def State.decideClose (s : State) (m : Member) (i : RingInfo) (result : Bool) : State :=
  let o : Outcome3 := if result then .clean else if faultIsFinal s i then .finalFault else .fault
  let retry := s.beatNum + i.gap
  let s := if i.n = 1 then s else s.sendOutcome i i.attempt o (if o = .fault then leBytes 8 retry else [])
  (s.recordDecision m i o).outcome m o i.attempt retry

/-- A member's verdict is ready (R336): a ring of one decides; position 0 sends GATHER; another forwards the GATHER it holds. -/
def State.verdictReady (s : State) (m : Member) : State :=
  match s.ringOf m with
  | none => s
  | some i =>
    match i.close.verdict with
    | none => s
    | some v =>
      if i.n = 1 then s.decideClose m i v
      else if i.pos = 0 then (if i.close.sent.isSome then s else s.sendGather m i v)
      else
        match i.close.held with
        | some r => s.sendGather m i (r && v)
        | none => s

/-- The member of a slot. -/
def cmdMember (k : Nat) : Member := .cmd (Fin.ofNat 512 k)

/-- What taking flits led to goes on to the close. -/
def Taken.finish (t : Taken) : State :=
  match t.1 with
  | some k => t.2.verdictReady (cmdMember k)
  | none => t.2

/-! ### The rows of the laps (R331, R334, R343) -/

/-- RING_PIECE (R331). -/
def execRingPiece (k : Link) (n : PartId) (r : MemRead) (s : State) : Host.Outcome State Fault Refusal :=
  act s fun s => (ringPieceTake k.val n.val r s).finish

/-- Whether an attempt's last lap has ended on every rail (R343). -/
def arriveOk (k : Nat) (s : State) : Bool :=
  match s.cmd k with
  | none => false
  | some c => s.running c && c.coll.any fun x => x.state == .laps && !x.arrived && x.rails.all (·.done)

/-- ARRIVE_TOKEN steps, and the verdict is ready: clean (R334, R343). -/
def arriveDo (k : Nat) (s : State) : State :=
  let s := (s.collArrive k).modColl k fun x =>
    { x with state := .closing, close := { x.close with verdict := some true, readyBeat := s.beatNum } }
  s.verdictReady (cmdMember k)

/-- ARRIVE (R343). -/
def execArrive (k : Slot) (s : State) : Host.Outcome State Fault Refusal :=
  act s fun s => if arriveOk k.val s then arriveDo k.val s else s

/-- Whether a member has gone LAP_TIMEOUT beats without progress (R334, R372). -/
def lapTimeoutOk (m : Member) (s : State) : Bool :=
  match m with
  | .cmd k =>
    (match s.cmd k.val with
     | none => false
     | some c => s.running c && c.coll.any fun x =>
        (x.state == .linkWait || x.state == .retain || x.state == .laps) && x.started && !x.ended && !x.arrived &&
          decide (x.progress + c.lapTimeout ≤ s.beatNum))
  | .turn t => (s.turn t.val).any fun j => j.state == .moving && !s.holding && decide (j.progress + j.lapTimeout ≤ s.beatNum)

/-- The verdict becomes unclean (R334, R372). -/
def lapTimeoutDo (m : Member) (s : State) : State :=
  (match m with
   | .cmd k => s.collSpoil k.val
   | .turn t => s.turnSpoil t.val).verdictReady m

/-- LAP_TIMEOUT (R334). -/
def execLapTimeout (m : Member) (s : State) : Host.Outcome State Fault Refusal :=
  act s fun s => if lapTimeoutOk m s then lapTimeoutDo m s else s

/-! ### The rows of the close (R336 to R340) -/

/-- The members that a close flit on link k can be for: partition, SEQ, and rails that come in by this link. -/
def membersAt (s : State) (k part seq : Nat) (rail0 : Bool) : List (Member × RingInfo) :=
  let on := fun (i : RingInfo) =>
    i.part == part && i.seq == seq && i.n != 1 && (if rail0 then i.rails.take 1 else i.rails).any fun r => r.1 == k
  (((s.ofPart part).filterMap fun e => (ringOfCmd s e.2).map fun i => (cmdMember e.1, i)) ++
    ((List.range 8).filterMap fun t => (s.turn t).map fun j => (Member.turn (Fin.ofNat 8 t), ringOfTurn s j))).filter
    fun e => on e.2

/-- Whether a command that has no COLLECT stage yet will be a member that a close flit is for. -/
def awaited (s : State) (k part seq : Nat) : Bool :=
  (s.ofPart part).any fun e => e.2.hasColl && e.2.coll.isNone && e.2.collSeq % 4096 == seq &&
    (List.range e.2.rails).any fun r => e.2.linkIn r == k

/-- What becomes of a close flit now. -/
inductive CloseCheck where
  | stays
  | discard
  | act (m : Member) (i : RingInfo)
deriving DecidableEq, Repr

/-- What becomes of a GATHER (R336): one for an attempt gone by is discarded; one for an attempt or a stage to come stays. -/
def gatherCheck (s : State) (k : Nat) (f : RxFlit) : CloseCheck :=
  match membersAt s k (bitsOf f.msg 19 16) (bitsOf f.msg 11 0) true with
  | [] => .stays
  | (m, i) :: _ =>
    let att := bitsOf f.msg 26 25
    if !i.runs || !i.started || i.attempt < att then .stays
    else if att < i.attempt || !i.opened then .discard
    else if i.pos = 0 then (if i.closing && i.close.sent.isSome then .act m i else .stays)
    else if i.close.held.isSome || i.close.sent.isSome then .discard
    else .act m i

/-- A GATHER acts (R336): position 0 decides; another member holds it, or forwards it with its verdict. -/
def State.takeGather (s : State) (m : Member) (i : RingInfo) (result : Bool) : State :=
  if i.pos = 0 then s.decideClose m i result
  else (s.modClose m fun c => { c with held := some result }).verdictReady m

/-- What becomes of an OUTCOME (R337): the first for an open attempt acts; a copy, or one that no command waits for, is
discarded. -/
def outcomeCheck (s : State) (k : Nat) (f : RxFlit) : CloseCheck :=
  let part := bitsOf f.msg 19 16
  let seq := bitsOf f.msg 11 0
  let att := bitsOf f.msg 26 25
  match membersAt s k part seq false with
  | [] => if awaited s k part seq then .stays else .discard
  | (m, i) :: _ =>
    if !i.runs then .stays
    else if !i.started then (if bitOf f.msg 29 || att < i.attempt || !i.opened then .discard else .act m i)
    else if i.attempt < att then .stays
    else if att < i.attempt || !i.opened || i.pos = 0 then .discard
    else .act m i

/-- An OUTCOME acts and is forwarded, but by position N − 1 (R337). -/
def State.takeOutcome (s : State) (m : Member) (i : RingInfo) (f : RxFlit) : State :=
  let o : Outcome3 := if bitOf f.msg 29 then .clean else if bitOf f.msg 28 then .finalFault else .fault
  let att := bitsOf f.msg 26 25
  let s := if i.pos + 1 = i.n then s else s.sendOutcome i att o f.payload
  s.outcome m o att (leAt f.payload 0 8)

/-- The first close flit of a KIND in link k's buffer that does not stay, with what becomes of it. -/
def closeFront (s : State) (k kind : Nat) (check : State → Nat → RxFlit → CloseCheck) : Option (RxFlit × CloseCheck) :=
  ((s.link k).rx.filter fun f => f.type == 2 && bitsOf f.msg 31 30 == kind).findSome? fun f =>
    match check s k f with
    | .stays => none
    | c => some (f, c)

/-- CLOSE_GATHER (R336). -/
def closeGatherDo (k : Nat) (s : State) : State :=
  match closeFront s k 0 gatherCheck with
  | some (f, .act m i) => (s.dropFlit k f).takeGather m i (bitOf f.msg 29)
  | some (f, _) => s.dropFlit k f
  | none => s

/-- CLOSE_GATHER (R336). -/
def execCloseGather (k : Link) (s : State) : Host.Outcome State Fault Refusal := act s (closeGatherDo k.val)

/-- An OUTCOME in link k's buffer is acted on (R337). -/
def closeOutcomeDo (k : Nat) (s : State) : State :=
  match closeFront s k 1 outcomeCheck with
  | some (f, .act m i) => (s.dropFlit k f).takeOutcome m i f
  | some (f, _) => s.dropFlit k f
  | none => s

/-- CLOSE_OUTCOME (R337). -/
def execCloseOutcome (k : Link) (s : State) : Host.Outcome State Fault Refusal := act s (closeOutcomeDo k.val)

/-- Whether no GATHER has returned to position 0 within CLOSE_TIMEOUT (R336). -/
def closeTimeoutOk (m : Member) (s : State) : Bool :=
  (s.ringOf m).any fun i =>
    i.runs && i.pos == 0 && i.closing && i.close.sent.any fun b => decide (b + i.timeout ≤ s.beatNum)

/-- Position 0 decides FAULT (R336). -/
def closeTimeoutDo (m : Member) (s : State) : State :=
  match s.ringOf m with
  | none => s
  | some i => s.decideClose m i false

/-- CLOSE_TIMEOUT (R336). -/
def execCloseTimeout (m : Member) (s : State) : Host.Outcome State Fault Refusal :=
  act s fun s => if closeTimeoutOk m s then closeTimeoutDo m s else s

/-- Whether no OUTCOME has come within CLOSE_TIMEOUT of a member's verdict (R338). -/
def outcomeTimeoutOk (m : Member) (s : State) : Bool :=
  (s.ringOf m).any fun i =>
    i.runs && i.pos != 0 && i.n != 1 && i.closing && i.close.verdict.isSome && decide (i.close.readyBeat + i.timeout ≤ s.beatNum)

/-- The member is IN_DOUBT (R338, R372). -/
def outcomeTimeoutDo (m : Member) (s : State) : State :=
  match m with
  | .cmd k =>
    (match s.cmd k.val with
     | none => s
     | some c => ((s.modColl k.val fun x => { x with state := .inDoubt }).raise (collPage c.vale) 2).moraine .inDoubt
        (collPage c.vale) [c.collSeq])
  | .turn t => ((s.modTurn t.val fun j => { j with state := .inDoubt }).raise (swbPage 0) 8).moraine .inDoubt (swbPage 0) [t.val]

/-- OUTCOME_TIMEOUT (R338). -/
def execOutcomeTimeout (m : Member) (s : State) : Host.Outcome State Fault Refusal :=
  act s fun s => if outcomeTimeoutOk m s then outcomeTimeoutDo m s else s

/-! ### Retries (R340, R345, R374) -/

/-- Whether RETRY_BEAT has come for a member. -/
def retryOk (m : Member) (s : State) : Bool :=
  match m with
  | .cmd k =>
    (match s.cmd k.val with
     | none => false
     | some c => s.running c && c.coll.any fun x => x.state == .retryWait && decide (x.close.retryBeat ≤ s.beatNum))
  | .turn t => (s.turn t.val).any fun j => j.state == .retryWait && !s.holding && decide (j.close.retryBeat ≤ s.beatNum)

/-- A collective's member starts its next attempt (R340); one that was reissued joins only with its input retained (R345). -/
def State.collRetry (s : State) (k : Nat) : State :=
  match s.cmd k with
  | none => s
  | some c =>
    let busy := s.vcBusy k c
    let s := s.modColl k fun x =>
      if x.started || decide (c.retainElems ≤ x.retained) then
        { x with attempt := x.attempt + 1, started := true, arrived := false, rails := [], landed := [], linkBuf := [],
                 unclean := false, progress := s.beatNum, close := CloseSt.fresh,
                 state := if busy then .linkWait else .retain }
      else { x with attempt := x.attempt + 1, close := CloseSt.fresh, state := .retain }
    if lapStartOk k s then lapStartDo k s else s

/-- A turn's member starts its next attempt (R374): it sends every block again; counted layers stay counted. -/
def State.turnRetry (s : State) (t : Nat) : State :=
  match s.turn t with
  | none => s
  | some j =>
    let s := s.modTurn t fun j =>
      { j with attempt := j.attempt + 1, state := .moving, unclean := false, sent := 0, progress := s.beatNum, close := CloseSt.fresh }
    State.countLayers (lyLayers j.dst + 1) t s

/-- A member starts its next attempt; a turn with every layer counted has its verdict ready. -/
def retryDo (m : Member) (s : State) : State :=
  match m with
  | .cmd k => s.collRetry k.val
  | .turn t => (s.turnRetry t.val).verdictReady m

/-- RETRY_START (R340). -/
def execRetryStart (m : Member) (s : State) : Host.Outcome State Fault Refusal :=
  act s fun s => if retryOk m s then retryDo m s else s

/-! ### Resolutions (R344, R375, R382) -/

/-- The stage on vale g that is in doubt or has failed, with its command and slot. -/
def stuckColl (s : State) (g : Nat) : Option (Nat × Cmd × CollSt) :=
  (s.ofVale g).findSome? fun e =>
    match e.2.coll with
    | some x => if !x.ended && (x.state == .inDoubt || x.state == .failed) then some (e.1, e.2, x) else none
    | none => none

/-- COLL_RESOLVE CLEAN (R344): only in doubt. -/
def resolveCleanDo (g : Vale) (s : State) : State :=
  match stuckColl s g.val with
  | some (k, c, x) => if x.state = .inDoubt then s.collClean k c x else s
  | none => s

/-- COLL_RESOLVE_CLEAN (R344). -/
def execCollResolveClean (g : Vale) (s : State) : Host.Outcome State Fault Refusal := actBar .pf s (resolveCleanDo g)

/-- COLL_RESOLVE ABORT (R344): the stage ends without its token; the command completes with STATUS DONE. -/
def resolveAbortDo (g : Vale) (s : State) : State :=
  match stuckColl s g.val with
  | some (k, _, _) =>
    (s.modCmd k fun c => { c.closeOutQ with coll := c.coll.map fun x => { x with ended := true } }).completeNow k
  | none => s

/-- COLL_RESOLVE_ABORT (R344). -/
def execCollResolveAbort (g : Vale) (s : State) : Host.Outcome State Fault Refusal := actBar .pf s (resolveAbortDo g)

/-- TURN_RESOLVE CLEAN (R382): only in doubt. -/
def turnCleanDo (t : TurnSlot) (s : State) : State :=
  match s.turn t.val with
  | some j => if j.state = .inDoubt then s.turnPublish t.val j else s
  | none => s

/-- TURN_RESOLVE_CLEAN (R382). -/
def execTurnResolveClean (t : TurnSlot) (s : State) : Host.Outcome State Fault Refusal := actBar .pf s (turnCleanDo t)

/-- TURN_RESOLVE ABORT (R375). -/
def turnAbortDo (t : TurnSlot) (s : State) : State :=
  match s.turn t.val with
  | some j => if j.state = .inDoubt ∨ j.state = .failed then s.turnAbandon t.val j else s
  | none => s

/-- TURN_RESOLVE_ABORT (R375). -/
def execTurnResolveAbort (t : TurnSlot) (s : State) : Host.Outcome State Fault Refusal := actBar .pf s (turnAbortDo t)

/-! ### The blocks of a turn (R368, R369) -/

/-- The verdicts of turns that the landing of blocks has made ready go on to their close. -/
def State.turnsReady (s : State) : State :=
  (List.range 8).foldl (fun s t =>
    match s.turn t with
    | some j => if j.state = .closing ∧ j.close.sent.isNone then s.verdictReady (.turn (Fin.ofNat 8 t)) else s
    | none => s) s

/-- SWITCHBACK_BLOCK (R369): the flits of one linked block on VC n of link k, as far as they have come. -/
def execSwitchbackBlock (k : Link) (n : PartId) (r : MemRead) (s : State) : Host.Outcome State Fault Refusal :=
  act s fun s => if s.holding then s else (State.blockTake ((s.link k.val).rx.length + 1) k.val n.val r s).turnsReady

/-- LOCAL_BLOCK_LANDED (R368). -/
def execLocalBlockLanded (t : TurnSlot) (i bi bj : Nat) (r : MemRead) (s : State) : Host.Outcome State Fault Refusal :=
  act s fun s => if localOk t i bi bj s then (localDo t i bi bj r s).turnsReady else s

end Sys2Proof.Machine
end

