-- ==== Sys2Proof/Machine/Arbiter.lean ====
section
/-! DEFINITION. Arbiter: the grant of one granule at a shared port (R230 to R235), and the egress of a link (R306). Background
requests of tier 3 are not held in the state. -/

namespace Sys2Proof.Machine

/-! ### Floor credit (R234) -/

/-- The model's number of a port. -/
def portCode : Port → Nat
  | .stack s => s.val
  | .d2d p side out => 100 + p.val * 8 + side.val * 2 + boolBit out
  | .staging n => 300 + n.val
  | .link k => 400 + k.val
  | .pcie b => 500 + boolBit b
  | .crossbar g b => 600 + 2 * g.val + boolBit b

/-- What the credit counter of partition n at a port gains each clock, in 1/5376 byte (R234). -/
def creditGain (s : State) (n : Nat) (p : Port) : Nat := portFloor s n p * (portRate p).1 * (21 / (portRate p).2)

/-- A granule in the same unit. -/
def creditGranule (p : Port) : Nat := 5376 * granule p

/-- The credit of partition n at a port now (R234): it has grown since its last grant, or since the partition's creation, up
to 4,096 clocks' worth. -/
def creditNow (s : State) (n : Nat) (p : Port) : Nat :=
  let e := Sparse.get (fun _ => (0, 0)) s.credits (1024 * n + portCode p)
  let t0 := (s.part n).since
  let base := if e.2 ≤ t0 then (0, t0) else e
  min (4096 * creditGain s n p) (base.1 + creditGain s n p * (s.clock - base.2))

/-- Whether partition n holds floor credit for a granule (R231, R234). -/
def hasCredit (s : State) (n : Nat) (p : Port) : Bool :=
  (s.part n).mode != .free && decide (creditGranule p ≤ creditNow s n p)

/-- A tier-1 grant takes one granule of credit (R234). -/
def State.takeCredit (s : State) (n : Nat) (p : Port) : State :=
  let left := creditNow s n p - creditGranule p
  { s with credits := Sparse.set (fun _ => (0, 0)) s.credits (1024 * n + portCode p) (left, s.clock) }

/-! ### Requests (R231 to R233) -/

/-- A request at a port: its partition, whether it may be in tier 1, its run-dry offset, its stream number. -/
structure Request where
  part : Nat
  floors : Bool
  dry : Nat
  stream : Nat
deriving DecidableEq, Repr

/-- The tier of a request (R231). -/
def tierOf (s : State) (p : Port) (r : Request) : Nat := if r.floors && hasCredit s r.part p then 1 else 2

/-- Whether one request is granted before another (R231). -/
def before (s : State) (p : Port) (a b : Request) : Bool :=
  let x := tierOf s p a
  let y := tierOf s p b
  decide (x < y) || (x == y && (decide (a.dry < b.dry) || (a.dry == b.dry && decide (a.stream < b.stream))))

/-- The request that a port grants (R231). -/
def winner (s : State) (p : Port) (rs : List Request) : Option Request :=
  rs.foldl (fun best r => match best with
    | none => some r
    | some b => if before s p r b then some r else some b) none

/-- The run-dry offset of a stream without a rate, under a deadline beat (R232). -/
def dryByDeadline (s : State) (deadline : Nat) : Nat :=
  if deadline = 0 then 0xFFFFFFFF else ((deadline - s.beatNum) * (s.beat.pLock / 256) - s.subBeat) % 2 ^ 32

/-- The run-dry offset of transfer entry x of a command (R232). -/
def dryOf (s : State) (c : Cmd) (x : Nat) : Nat :=
  let e := c.entry x
  if xRate e = 0 then dryByDeadline s c.deadline
  else
    let room := if x < c.fetch.length then (match xInto e with | some i => (c.queue i).held / 2 | none => 0)
      else if xSrc e = 0x0B then s.qRoom c (c.queue (8 + xQ e)) / 2 else 0
    room * 16 / xRate e % 2 ^ 32

/-- The queue field of a transfer's stream number (R233); transfers of lines and of banks have no queue and take 0. DEDUCED. -/
def streamQueue (e : List Byte) : Nat := if xSrc e = 0x0B then 8 + xQ e else if xDst e = 8 ∨ xDst e = 9 then xQ e else 0

/-- The stream number of a command's transfer (R233). -/
def streamNo (k : Nat) (c : Cmd) (e : List Byte) : Nat := 2 ^ 24 * c.vale + 2 ^ 15 * k + streamQueue e

/-- Whether transfer x of the command in slot k asks for a granule at a port now. -/
def asksAt (s : State) (c : Cmd) (x : Nat) (p : Port) : Bool :=
  match c.xferAt x with
  | none => false
  | some t => t.started && !t.done && t.stop.isNone && decide (t.pos < xTotal (c.entry x)) &&
      (farPorts s c (c.entry x) (decide (x < c.fetch.length)) t.pos).contains p

/-- The requests at a port of the commands in flight (R230); an early fetch of a metered partition is in tier 2 alone
(R226). -/
def requestsAt (s : State) (p : Port) : List Request :=
  (s.inFlight.filter fun e => !s.holding && !(s.vale e.2.vale).fenced).flatMap fun e =>
    ((List.range (e.2.fetch.length + e.2.store.length)).filter fun x => asksAt s e.2 x p).map fun x =>
      { part := e.2.part.val, floors := e.2.dispatched.isSome || !s.metered e.2.part.val, dry := dryOf s e.2 x,
        stream := streamNo e.1 e.2 (e.2.entry x) }

/-- A port grants a request: credit for tier 1, and the port shows whom it served (R231, R234). -/
def State.grantTo (s : State) (p : Port) (r : Request) : State :=
  let t := tierOf s p r
  let s := if t = 1 then s.takeCredit r.part p else s
  { s with granted := Sparse.set (fun _ => (0, 0)) s.granted (portCode p) (t, r.stream) }

/-! ### The egress of a link (R304, R306) -/

/-- Whether a link's transmitter holds a credit for a VC (R304). -/
def vcCredit (l : LinkSt) (v : Nat) : Bool :=
  decide ((vcCount l.sent v + 4096 - vcCount l.credited v) % 4096 < vcCount l.limits v)

/-- The request of a DATA flit: a ring's streams under its command's deadline, a turn's under START + BUDGET, in tier 2
alone in a metered partition (R371). -/
def flitRequest (s : State) (f : OutFlit) : Request :=
  let slot := bitsOf f.stream 23 15
  if f.stream < 2 ^ 31 then
    { part := f.part, floors := true, dry := dryByDeadline s (((s.cmd slot).map Cmd.deadline).getD 0), stream := f.stream }
  else
    { part := f.part, floors := !s.metered f.part, stream := f.stream,
      dry := dryByDeadline s (((s.turn slot).map fun t => t.start + w32At t.desc 0x38).getD 0) }

/-- The DATA flits that can leave: the first of each stream whose VC holds a credit. -/
def dataReady (l : LinkSt) : List OutFlit :=
  l.data.foldl (fun out f =>
    if out.any (fun g => g.stream == f.stream) || !vcCredit l f.vc then out else out ++ [f]) []

/-- A sequenced flit leaves link k: it takes the next number and a credit, and stays for replay (R300, R304, R316). -/
def State.sendSequenced (s : State) (k : Nat) (f : OutFlit) : State :=
  let q := (s.link k).txSeq
  let s := s.sendFlit k f q
  (s.modLink k fun l =>
    { l with txSeq := (q + 1) % 4096, sent := vcStep l.sent f.vc, replay := l.replay ++ [⟨q, f⟩],
             ackClock := if l.replay.isEmpty then s.clock else l.ackClock,
             system := if sequenced f.type && f.type != 1 then l.system.erase f else l.system,
             data := if f.type = 1 then l.data.erase f else l.data }).count64 (linkPage k) 0x64 1 |>.blockLeft k f

/-- An IDLE flit (R298). -/
def idleFlit : OutFlit := { type := 0, vc := 16, part := 0, stream := 0, msg := 0, last := false, rxBuf := 0, payload := [] }

/-- The DATA flit that wins at link k (R231). -/
def dataWinner (s : State) (k : Nat) : Option (OutFlit × Request) :=
  let p : Port := .link (Fin.ofNat 32 k)
  let fs := dataReady (s.link k)
  match winner s p (fs.map (flitRequest s)) with
  | none => none
  | some r => (fs.find? fun f => f.stream == r.stream).map fun f => (f, r)

/-- One flit leaves link k (R306): BEAT flits, replays, SYSTEM flits, DATA flits, IDLE. -/
def State.egress (s : State) (k : Nat) : State :=
  let l := s.link k
  if l.beats ≠ 0 then
    (s.modLink k fun l => { l with beats := l.beats - 1 }).sendFlit k { idleFlit with type := 3, payload := beatPayload s } 0
  else
    match l.resend with
    | q :: rest =>
      match l.replay.find? fun t => t.seq == q with
      | some t => (s.modLink k fun l => { l with resend := rest }).sendFlit k t.flit q
      | none => s.modLink k fun l => { l with resend := rest }
    | [] =>
      if 512 ≤ l.replay.length then s.sendFlit k idleFlit 0
      else
        match (if vcCredit l 16 then l.system else []) with
        | f :: _ => s.sendSequenced k f
        | [] =>
          match dataWinner s k with
          | some (f, r) => (s.sendSequenced k f).grantTo (.link (Fin.ofNat 32 k)) r
          | none => s.sendFlit k idleFlit 0

/-! ### The command -/

/-- One granule is granted at a port (R231): at a link, one flit leaves. -/
def granuleGrantDo (p : Port) (s : State) : State :=
  match p with
  | .link k => if s.linkUp k.val then s.feedTurns.turnsReady.egress k.val else s
  | p =>
    match winner s p (requestsAt s p) with
    | some r => s.grantTo p r
    | none => s

/-- GRANULE_GRANT (R231). -/
def execGranuleGrant (p : Port) (s : State) : Host.Outcome State Fault Refusal := act s (granuleGrantDo p)

end Sys2Proof.Machine
end

