-- ==== Sys2Proof/Machine/Moraine.lean ====
section
/-! DEFINITION. Moraine: the journal (R553 to R558), the settings (R550), slot headers (R538, R539) and the mailbox commands
(R547, R548, R552). -/

namespace Sys2Proof.Machine

/-! ### Who is served -/

/-- Whether the MP runs: it is powered, not in reset and in service; a thermal trip leaves it its power (R572). -/
def State.mpLive (s : State) : Bool := s.boot.powered && !s.boot.resetLow && !s.boot.dead

/-! ### Records (R553, R555, R556) -/

/-- A record of 64 bytes (R553, R554). -/
def morBytes (seq boot : Nat) (e : MorEntry) : List Byte :=
  let k := morNumber e.event
  let head := 0xD7 + 2 ^ 8 * morClass e.event + 2 ^ 16 * (Config.morCode k).toNat + 2 ^ 24 * (Config.morSev k).toNat + 2 ^ 28
  let body := leBytes 4 head ++ leBytes 4 seq ++ leBytes 8 e.beat.toNat ++ leBytes 4 boot ++ leBytes 4 e.ms.toNat ++
    leBytes 4 e.source.toNat ++ ((e.payload.map fun w => leBytes 4 w.toNat).flatten ++ List.replicate 32 0#8).take 32
  body ++ leBytes 4 (crc32 body)

/-- Whether 64 bytes are a valid record (R553). -/
def morValid (bs : List Byte) : Bool :=
  bitsOf (w32At bs 0) 7 0 == 0xD7 && bitsOf (w32At bs 0) 31 28 == 1 && w32At bs 0x3C == crc32 (bs.take 0x3C)

/-- What a record of the Moraine reads as that nothing has written: zeros. DESIGN CHOICE. -/
def morDefault : Nat → List Byte := fun _ => List.replicate 64 0#8

/-- Record i of the Moraine (R558). -/
def Mp.record (m : Mp) (i : Nat) : List Byte := Sparse.get morDefault m.records i

/-- Record i of the Moraine replaced. -/
def Mp.setRecord (m : Mp) (i : Nat) (bs : List Byte) : Mp := { m with records := Sparse.set morDefault m.records i bs }

/-- An entry enters the queue without the limit of an interval; one that finds it full is lost and counted (R556). -/
def State.queueEntry (s : State) (e : MorEntry) : State :=
  if s.mp.queue.length < 1024 then { s with mp := { s.mp with queue := s.mp.queue ++ [e] } }
  else { s with mp := { s.mp with dropped := s.mp.dropped + 1 } }.count .mp 0x8C 1

/-- A record of the MP itself. -/
def State.ownEntry (s : State) (ev : MorEvent) (payload : List Nat) : MorEntry :=
  { event := ev, source := blkId .mp, beat := s.beat.num, ms := BitVec.ofNat 32 s.bootMs,
    payload := payload.map (BitVec.ofNat 32) }

/-- A copy of a record goes to the next free first-fault record (R555). -/
def State.firstFault (s : State) (ev : MorEvent) (bs : List Byte) : State :=
  if 2 ≤ (Config.morSev (morNumber ev)).toNat ∧ s.mp.ffCount < 256 then
    { s with mp := s.mp.setRecord s.mp.ffCount bs }.raise .mp 2
  else s

/-- Events lost while the queue was full are recorded once it has room (R556). -/
def State.recordDropped (s : State) : State :=
  if 0 < s.mp.dropped ∧ s.mp.queue.length < 1024 then
    let e := s.ownEntry .dropped [s.mp.dropped]
    { s with mp := { s.mp with queue := s.mp.queue ++ [e], dropped := 0 } }
  else s

/-- Whether the MP writes its next record: the first of every boot is BOOT_START (R557). -/
def moraineWriteOk (s : State) : Bool := s.mpLive && s.boot.startRecorded

/-- The MP writes the first record of its queue (R555, R556). -/
def moraineWriteDo (s : State) : State :=
  match s.mp.queue with
  | [] => s
  | e :: rest =>
    let bs := morBytes (s.mp.seq % 2 ^ 32) s.boot.count e
    let s := { s with mp := { (s.mp.setRecord s.mp.head bs) with queue := rest, seq := s.mp.seq + 1 } }
    (s.firstFault e.event bs).recordDropped

/-- MORAINE_WRITE (R556). -/
def execMoraineWrite (s : State) : Host.Outcome State Fault Refusal :=
  .next (if moraineWriteOk s then moraineWriteDo s else s)

/-- Whether an interval of 256 beats ends now (R468, R556). -/
def intervalEndOk (s : State) : Bool := s.live && s.beat.counted && s.subBeat == 0 && s.beatNum % 256 == 0

/-- The records that the interval's excess gives: one for each pair over MOR_LIMIT (R556). -/
def suppressedEntries (s : State) : List MorEntry :=
  (s.mp.queued.filter fun e => morLimit s.mp < e.2 && Config.morSev (morNumber e.1) != 3#2).map fun e =>
    s.ownEntry .suppressed [morClass e.1, (Config.morCode (morNumber e.1)).toNat, e.2 - morLimit s.mp]

/-- The end of an interval (R556). -/
def intervalEndDo (s : State) : State :=
  let s := (suppressedEntries s).foldl State.queueEntry s
  { s with mp := { s.mp with queued := [] } }

/-- MORAINE_INTERVAL_END (R556). -/
def execMoraineIntervalEnd (s : State) : Host.Outcome State Fault Refusal :=
  .next (if intervalEndOk s then intervalEndDo s else s)

/-- The words of MOR_DATA or MB_DATA, from an offset of the MP page on. -/
def State.putData (s : State) (o : Nat) (ws : List Nat) : State :=
  (List.range 16).foldl (fun s i => s.setReg (0x3F00000 + o + 4 * i) (BitVec.ofNat 32 (ws.getD i 0))) s

/-- A write to MOR_IDX latches the record it names (R558). -/
def morIdxDo (v : BitVec 32) (s : State) : State :=
  let s := s.storeReg 0x3F00080 v
  let bs := s.mp.record (s.regF 0x3F00080 17 0)
  s.putData 0xC0 ((List.range 16).map fun i => w32At bs (4 * i))

/-- MOR_IDX_WRITE (R558). -/
def execMorIdxWrite (v : BitVec 32) (s : State) : Host.Outcome State Fault Refusal := actMp s (morIdxDo v)

/-! ### Settings (R550) -/

/-- The keys of the settings; thresholds apply to sensors 1 to 47 (R537, R550). -/
def settingKey (k : Nat) : Bool := (decide (1 ≤ k) && decide (k ≤ 5)) || (decide (0x102 ≤ k) && decide (k < 0x160))

/-- A setting of a copy replaced. -/
def SettingsCopy.put (c : SettingsCopy) (k v : Nat) : SettingsCopy :=
  { c with values := Sparse.set settingDefault c.values k v }

/-- The settings format that a slot's image writes (R539). -/
def Mp.settingsFmt (m : Mp) (slot : Nat) : Nat := bitsOf (m.slotWord slot 0x50) 31 16
/-- The oldest settings format that a slot's image reads (R539). -/
def Mp.settingsMin (m : Mp) (slot : Nat) : Nat := bitsOf (m.slotWord slot 0x54) 15 0

/-- A change of a setting goes to the copy that is not in force, with a higher write count (R550). -/
def Mp.writeSetting (m : Mp) (fmt k v : Nat) : Mp :=
  let old := m.settings
  let new := { (old.put k v) with
    format := if m.settingsA.isNone && m.settingsB.isNone then fmt else old.format, writes := old.writes + 1 }
  if m.inA then { m with settingsB := some new } else { m with settingsA := some new }

/-- The MP writes a setting. -/
def State.writeSetting (s : State) (k v : Nat) : State :=
  { s with mp := s.mp.writeSetting (s.mp.settingsFmt s.bootSlot) k v }

/-! ### Slot headers and activation (R538, R539, R547) -/

/-- The fields of a slot header (R539). -/
structure Header where
  len : Nat
  state : Nat
  stamp : List Byte
  rev : Nat
  fmt : Nat
  min : Nat
deriving DecidableEq, Repr

/-- The 128 bytes of a header with its CRC (R539); what no field holds stays erased. -/
def headerBytes (h : Header) : List Byte :=
  let a := leBytes 4 0x4D445648 ++ leBytes 4 h.len
  let b := leBytes 4 0xFFFFFFFF ++ (h.stamp ++ List.replicate 64 0#8).take 64 ++ leBytes 2 h.rev ++ leBytes 2 h.fmt ++
    leBytes 2 h.min ++ List.replicate 38 0xFF#8
  a ++ leBytes 4 (0xFFFFFFFC + h.state) ++ b ++ leBytes 4 (crc32 (a ++ b))

/-- The header of a slot as its fields (R539). -/
def Mp.header (m : Mp) (slot : Nat) : Header :=
  { len := m.slotWord slot 4, state := m.slotState slot, stamp := m.flashBytes (slotBase slot + 0x10) 64,
    rev := bitsOf (m.slotWord slot 0x50) 15 0, fmt := m.settingsFmt slot, min := m.settingsMin slot }

/-- A slot's header is erased, with its activation log. -/
def Mp.eraseHeader (m : Mp) (slot : Nat) : Mp := m.eraseFlash (slotBase slot) (slotBase slot + 0x1000)

/-- A slot's header is written whole after an erase, with an empty log. -/
def Mp.writeHeader (m : Mp) (slot : Nat) (h : Header) : Mp := (m.eraseHeader slot).setFlash (slotBase slot) (headerBytes h)

/-- The ACT_SEQ that an activation programs (R547): the booted slot's plus 1, with 0xFFFF_FFFF treated as 0. DEDUCED. -/
def nextAct (a : Nat) : Nat := if a = 0xFFFFFFFF then 1 else (a + 1) % 2 ^ 32

/-- An activation log entry (R539). -/
def actEntry (a : Nat) : List Byte := leBytes 4 a ++ leBytes 4 (crc32 (leBytes 4 a))

/-- An entry that a reset tore while it was programmed: some of its bits are still erased, and it is not valid (R547). -/
def tornEntry (e free : List Byte) : List Byte :=
  let t := (e.zip free).map fun p => p.1 ||| p.2
  if w32At t 4 == crc32 (t.take 4) then List.replicate 8 0xFF#8 else t

/-- The MP programs an activation of a slot (R547): the first erased log entry; without one the header is written again
first. A reset tears the entry, or the rewrite. -/
def State.activateSlot (s : State) (slot : Nat) (torn : Bool) : State :=
  let m := s.mp
  let act := actEntry (nextAct (m.actSeq s.bootSlot).1)
  let i := (m.actSeq slot).2
  let f := s.freeBytes 8
  if i < 496 then
    let at_ := slotBase slot + 0x80 + 8 * i
    if torn then { f.2 with mp := m.setFlash at_ (tornEntry act f.1) } else { s with mp := m.setFlash at_ act }
  else if torn then { s with mp := m.eraseHeader slot }
  else { s with mp := (m.writeHeader slot { m.header slot with state := 0 }).setFlash (slotBase slot + 0x80) act }

/-- Whether an image is being staged into a slot (R543, R545). -/
def State.staging (s : State) (slot : Nat) : Bool :=
  slot == 1 - s.bootSlot && s.mp.update.any fun u => u.offer.isSome && !u.passed

/-! ### Mailbox commands (R552) -/

/-- MB_ARG0 and MB_ARG1. -/
def State.mbArg (s : State) (i : Nat) : Nat := (s.reg (0x3F00044 + 4 * i)).toNat

/-- A mailbox command ends with its result and its data (R552): it runs whole in one step. DESIGN CHOICE. -/
def State.mbEnd (s : State) (result : Nat) (ws : List Nat) : State :=
  ((s.putData 0x100 ws).setReg 0x3F0004C (BitVec.ofNat 32 result)).raise .mp 1

/-- An entry of the census table as MB_DATA shows it (R552). -/
def censusData (s : State) (i : Nat) : List Nat :=
  match (if s.boot.headwater then s.census.table[i]? else none) with
  | none => [0, 0, 0, (s.reg 0x154).toNat]
  | some e =>
    [bitsOf e.serial.toNat 31 0, bitsOf e.serial.toNat 63 32,
      2 ^ 31 + boolBit e.reported * 2 ^ 30 + boolBit e.member * 2 ^ 29 + e.depth * 2 ^ 16 + e.id, (s.reg 0x154).toNat]

/-- CENSUS_READ (R552). -/
def censusReadDo (s : State) : State := s.mbEnd 0 (censusData s (s.mbArg 0))

/-- ACTIVATE_SLOT (R548, R545): the slot must be VERIFIED, and not being staged. -/
def activateSlotDo (torn : Bool) (s : State) : State :=
  let slot := s.mbArg 0 % 2
  if s.mp.selectable slot && !s.staging slot then
    if torn then s.activateSlot slot true else (s.activateSlot slot false).mbEnd 0 []
  else s.mbEnd 3 []

/-- FF_CLEAR (R555). -/
def ffClearDo (s : State) : State :=
  if s.mbArg 0 = s.mp.ffCount then
    { s with mp := { s.mp with records := s.mp.records.filter fun e => 256 ≤ e.1 } }.mbEnd 0 []
  else s.mbEnd 3 []

/-- SETTING_READ (R552). -/
def settingReadDo (s : State) : State :=
  if settingKey (s.mbArg 0) then s.mbEnd 0 [s.mp.settings.value (s.mbArg 0)] else s.mbEnd 2 []

/-- SETTING_WRITE (R550, R552). -/
def settingWriteDo (s : State) : State :=
  if settingKey (s.mbArg 0) then (s.writeSetting (s.mbArg 0) (s.mbArg 1)).mbEnd 0 [] else s.mbEnd 2 []

/-- The shape of a mailbox command that FAILED does not serve (R533): no command starts. -/
def mbDo (f : State → State) (s : State) : State := if s.boot.phase = 15 then s else f s

/-- CENSUS_READ (R552). -/
def execCensusRead (s : State) : Host.Outcome State Fault Refusal := actMp s (mbDo censusReadDo)
/-- ACTIVATE_SLOT (R548). -/
def execActivateSlot (torn : Bool) (s : State) : Host.Outcome State Fault Refusal := actMp s (mbDo (activateSlotDo torn))
/-- FF_CLEAR (R555). -/
def execFfClear (s : State) : Host.Outcome State Fault Refusal := actMp s (mbDo ffClearDo)
/-- SETTING_READ (R552). -/
def execSettingRead (s : State) : Host.Outcome State Fault Refusal := actMp s settingReadDo
/-- SETTING_WRITE (R550). -/
def execSettingWrite (s : State) : Host.Outcome State Fault Refusal := actMp s settingWriteDo

/-- A write of MB_CMD by its OP (R552, R560). -/
def mbCmdDo (op : Nat) (s : State) : State :=
  if op = 1 then mbDo censusReadDo s else if op = 2 then mbDo (activateSlotDo false) s
  else if op = 3 then mbDo ffClearDo s else if op = 4 then settingReadDo s else if op = 5 then settingWriteDo s
  else s.mbEnd 1 []

/-! ### Resets of the management path (R535, R545) -/

/-- The PCIe VDM endpoint resets (R535): its EID is that of the settings again (R534), its SPDM
connection is over. -/
def State.resetVdm (s : State) : State := 
  { s with mp := { s.mp with eidPcie := BitVec.ofNat 8 (s.mp.settings.value 1), spdmPcie := 0 } }

/-- A host-interface reset ends update mode during transfer; staged chunks stay (R545). -/
def State.endTransfer (s : State) : State :=
  { s with mp := { s.mp with update := s.mp.update.filter fun u => u.verifying || u.passed } }

end Sys2Proof.Machine
end

