-- ==== Sys2Proof/Machine/Learning.lean ====
section
/-! DEFINITION. Learning: the update queue (R391, R392, R397), clipping and the optimiser step (R393 to R400), and the 8-bit
moments (R388 to R390). -/

namespace Sys2Proof.Machine

/-! ### Arithmetic of the floor update unit (R388, R390, R394, R395) -/

/-- a b c as one exact outcome (R73). -/
def mul3 (a b c : Val) : Exact :=
  match Val.mul a b with
  | .nan => .nan
  | .invalid => if c = .nan then .nan else .invalid
  | .inf n => Val.mul (.inf n) c
  | .fin n m e _ => Val.mul (.fin n m e) c

/-- The value of a BF16 code. -/
def bval (x : Nat) : Val := valOfCode 2 x

/-- A result and what it raised, as the unit gathers them. -/
structure Gather where
  flags : Flags
  sat : Nat
deriving DecidableEq, Repr

/-- Nothing raised. -/
def Gather.none : Gather := ⟨0#4, 0⟩
/-- What lane results raised. -/
def Gather.of (rs : List LaneRes) : Gather := rs.foldl (fun g r => ⟨g.flags ||| r.flags, g.sat + r.sat⟩) Gather.none
/-- Two together. -/
def Gather.add (a b : Gather) : Gather := ⟨a.flags ||| b.flags, a.sat + b.sat⟩

/-- The hyperparameters (R393), FP32 words in the order LR, WDLR, B1, A1, B2, A2, EPS, GSCALE, MAX_NORM. -/
structure Hyper where
  lr : Word
  wdlr : Word
  b1 : Word
  a1 : Word
  b2 : Word
  a2 : Word
  eps : Word
  gscale : Word
  maxNorm : Word
deriving DecidableEq, Repr

/-- The hyperparameters of a block as read. -/
def hyperOf (bs : List Byte) : Hyper :=
  let w := fun (o : Nat) => BitVec.ofNat 32 (w32At bs o)
  ⟨w 0x00, w 0x04, w 0x08, w 0x0C, w 0x10, w 0x14, w 0x18, w 0x1C, w 0x20⟩

/-- The gradient factor k, or none for NONFINITE (R394), with the flags of its operations. A quotient by zero is that of FDIV
(R197). DEDUCED. -/
def clipFactor (clip : Bool) (h : Hyper) (sumsq : Word) : Option Word × Gather :=
  let s := fval sumsq
  if !clip then
    let k := opFmul 0x3F800000#32 h.gscale
    (some k.w, Gather.of [k])
  else
    match s with
    | .nan => (none, Gather.none)
    | .inf _ => (none, Gather.none)
    | .fin _ _ _ =>
      if Val.lt s (.fin false 0 0) then (none, Gather.none)
      else
        let n := LaneRes.fp (Val.sqrt s)
        let small := fval n.w != .nan && fval h.maxNorm != .nan && !Val.lt (fval h.maxNorm) (fval n.w)
        let c := if small then LaneRes.plain 0x3F800000#32 else opFdiv h.maxNorm n.w
        let k := opFmul c.w h.gscale
        (some k.w, Gather.of [n, c, k])

/-- The new state of an element before its moments and weight are stored (R395): m1, v1, x, with what it raised. `opt`: 0 ADAMW,
1 MSGD, 2 SGD. -/
def updateElem (opt : Nat) (nesterov : Bool) (h : Hyper) (k w g m v : Word) : (Word × Word × Word) × Gather :=
  let f := fval
  let g' := opFmul g k
  let m1 := LaneRes.fp (Exact.sum [Val.mul (f h.b1) (f m), Val.mul (f h.a1) (f g'.w)])
  let v1 := LaneRes.fp (Exact.sum [Val.mul (f h.b2) (f v), mul3 (f h.a2) (f g'.w) (f g'.w)])
  let rt := LaneRes.fp (Val.sqrt (f v1.w))
  let den := opFadd rt.w h.eps
  let da := opFdiv m1.w den.w
  let nes := LaneRes.fp (Exact.sum [Val.mul (f h.b1) (f m1.w), (f g'.w).exact])
  let d := if opt = 0 then da.w else if opt = 1 then (if nesterov then nes.w else m1.w) else g'.w
  let x := LaneRes.fp (Exact.sum [(f w).exact, Val.mul (f h.lr).neg (f d), Val.mul (f h.wdlr).neg (f w)])
  let used := if opt = 0 then [m1, v1, rt, den, da] else if opt = 1 then (if nesterov then [m1, nes] else [m1]) else []
  ((m1.w, v1.w, x.w), Gather.of ([g'] ++ used ++ [x]))

/-- The smallest e with a ≤ k 2^e, clamped to [-133, 127] (R390). -/
def scaleExp2 (a : Val) (k : Nat) : Int :=
  match a with
  | .fin false m g => min (max (leastExp a (.fin false k 0) 4 ((Nat.log2 m : Int) + g - Nat.log2 k - 2)) (-133)) 127
  | .fin true _ _ => -133
  | .inf true => -133
  | _ => 127

/-- The BF16 code of 2^e for e from -133 to 127. -/
def bfPow2 (e : Int) : Nat := if -126 ≤ e then (e + 127).toNat * 128 else 2 ^ (e + 133).toNat

/-- The largest of values by order; zero of none. -/
def largest (vs : List Val) : Val :=
  match vs with
  | [] => .fin false 0 0
  | v :: r => r.foldl (fun a x => if Val.lt a x then x else a) v

/-- |x| of a value. -/
def Val.mag : Val → Val
  | .nan => .nan
  | .inf _ => .inf false
  | .fin _ m e => .fin false m e

/-- A value divided by 2^e, exactly. -/
def Val.scaleBy (v : Val) (e : Int) : Val := match v with | .fin n m g => .fin n m (g - e) | x => x

/-- The scale and the codes of a block of first moments (R390). -/
def storeFirst (ms : List Word) : Nat × List Nat × Gather :=
  let vs := ms.map fval
  let a := largest ((vs.filter fun v => match v with | .fin _ _ _ => true | _ => false).map Val.mag)
  let nan := vs.any (· == .nan)
  let g0 : Gather := ⟨Flags.when nan Flags.invalid, 0⟩
  if a.isZero then (0, ms.map fun _ => 0, g0)
  else
    let e := scaleExp2 a 127
    let qs := vs.map fun v => Val.toInt (-128) 127 (v.scaleBy e)
    (bfPow2 e, qs.map fun q => unsignedOf 8 q.1,
     qs.foldl (fun g q => ⟨g.flags ||| q.2, g.sat + boolBit (q.2.getLsbD 2)⟩) g0)

/-- The entries of MOM2 (R389). -/
def mom2Vals : List Val := (List.range 256).map fun c => fval (mom2Entry c)

/-- The scale and the codes of a block of second moments (R390); a code that the clamp limits is a saturation event. -/
def storeSecond (ws : List Word) : Nat × List Nat × Gather :=
  let vs := ws.map fval
  let a := largest (vs.filter (· != .nan))
  let nan := vs.any (· == .nan)
  let g0 : Gather := ⟨Flags.when nan Flags.invalid, 0⟩
  if a.isZero then (0, ws.map fun _ => 0, g0)
  else
    let e := scaleExp2 a 1
    let qs := vs.map fun v => (quantCodebook mom2Vals (v.scaleBy e), Val.lt (.fin false 1 0) (v.scaleBy e))
    (bfPow2 e, qs.map fun q => q.1.code, qs.foldl (fun g q => ⟨g.flags ||| q.1.flags, g.sat + boolBit q.2⟩) g0)

/-- A first moment from its code and scale (R388). -/
def loadFirst (q scale : Nat) : LaneRes := .fp (Val.mul (Val.ofInt (signedOf 8 q)) (bval scale))
/-- A second moment from its code and scale (R388). -/
def loadSecond (c scale : Nat) : LaneRes := .fp (Val.mul (fval (mom2Entry c)) (bval scale))

/-! ### The operation slot and the segments (R391, R393, R396) -/

/-- OP of an update queue slot. -/
def uopCode (o : List Byte) : Nat := bitsOf (w32At o 0) 3 0
/-- OSLOT. -/
def uopSlot (o : List Byte) : Nat := bitsOf (w32At o 0) 7 4
/-- JOB. -/
def uopJob (o : List Byte) : Nat := bitsOf (w32At o 0) 12 8
/-- OPT. -/
def uopOpt (o : List Byte) : Nat := bitsOf (w32At o 0) 15 13
/-- NESTEROV. -/
def uopNesterov (o : List Byte) : Bool := bitOf (w32At o 0) 16
/-- GFMT: the bytes of a gradient. -/
def uopGrad (o : List Byte) : Nat := if bitOf (w32At o 0) 17 then 2 else 4
/-- CLIP_EN. -/
def uopClip (o : List Byte) : Bool := bitOf (w32At o 0) 18
/-- N_SEG. -/
def uopSegs (o : List Byte) : Nat := bitsOf (w32At o 0x10) 15 0

/-- The reserved fields of a slot (R391). -/
def uopResv : List (Nat × Nat × Nat) :=
  [(0x00, 31, 19), (0x10, 31, 16), (0x1C, 31, 12), (0x30, 31, 4), (0x38, 31, 4)]

/-- Segment entry i of a list. -/
def segAt (bs : List Byte) (i : Nat) : List Byte := (bs.drop (64 * i)).take 64
/-- COUNT of a segment. -/
def segCount (e : List Byte) : Nat := w32At e 0x38
/-- The regions of a segment under OPT and GFMT: address and bytes; W, M1, M2, S1, S2, G (R396). -/
def segRegions (o e : List Byte) : List (Nat × Nat) :=
  let n := segCount e
  let b := ceilDiv n 128
  let opt := uopOpt o
  [(w64At e 0x00, 2 * n), (w64At e 0x28, uopGrad o * n)] ++
    (if opt < 2 then [(w64At e 0x08, n), (w64At e 0x18, 2 * b)] else []) ++
    if opt = 0 then [(w64At e 0x10, n), (w64At e 0x20, 2 * b)] else []

/-- Whether a segment breaks the format (R396): reserved fields, an address not a multiple of 64, one that OPT does not use,
COUNT 0. -/
def badSeg (o e : List Byte) : Bool :=
  let opt := uopOpt o
  anySet e [(0x34, 31, 16), (0x3C, 31, 0)] || segCount e == 0 ||
    ([0x00, 0x08, 0x10, 0x18, 0x20, 0x28].any fun a => w64At e a % 64 != 0) ||
    (opt != 0 && (w64At e 0x10 != 0 || w64At e 0x20 != 0)) || (opt == 2 && (w64At e 0x08 != 0 || w64At e 0x18 != 0))

/-- Whether the hyperparameter block has an unused field set (R393). -/
def badHyper (o h : List Byte) : Bool :=
  let opt := uopOpt o
  anySet h (wordsOf 0x24 0x40) || (opt != 0 && anySet h (wordsOf 0x10 0x1C)) || (opt == 2 && anySet h (wordsOf 0x08 0x10))

/-- Whether a STEP's slot breaks the format (R391); NESTEROV outside MSGD counts as a non-zero unused field. DEDUCED. -/
def badStep (o : List Byte) : Bool :=
  anySet o uopResv || uopCode o != 1 || decide (2 < uopOpt o) || (uopNesterov o && uopOpt o != 1) || uopSegs o == 0 ||
    w64At o 0x08 % 64 != 0 || w64At o 0x20 % 64 != 0 || (uopClip o && w64At o 0x28 % 4 != 0)

/-- The stack that holds a segment whole (R396); none where a region is refused, lies in no stack, or spans two. -/
def segStack (s : State) (n : Nat) (o e : List Byte) : Option Nat :=
  match (segRegions o e).foldl (fun out r => match out, stacksOf s n r.1 r.2 with
    | some xs, some ys => some (xs ++ ys)
    | _, _ => none) (some []) with
  | some (x :: xs) => if xs.all (· == x) then some x else none
  | _ => none

/-! ### The update of a block (R395, R398) -/

/-- What a STEP carries from block to block: its flags, its unwritten blocks, the next block's number. -/
structure StepRun where
  flags : Flags
  ue : Nat
  block : Nat
deriving DecidableEq, Repr

/-- A STEP's constants: partition, slot, hyperparameters, gradient factor, t, key, the blocks that read uncorrectable. -/
structure StepCtx where
  n : Nat
  o : List Byte
  h : Hyper
  k : Word
  t : Nat
  key : CgKey
  bad : List Nat
deriving DecidableEq, Repr

/-- The FUU page of a stack. -/
def fuuPage (st : Nat) : Page := .fuu (Fin.ofNat 20 st)

/-- The bytes of a region's block; none where they read uncorrectable or are refused. An unused region has none. -/
def State.stepRead (s : State) (n a len : Nat) (used : Bool) : Option (List Byte) × State :=
  if !used then (some [], s)
  else match s.readPda n a len with
    | (.ok bs, s) => (some bs, s)
    | (_, s) => (none, s)

/-- A block is not written (R398). -/
def State.stepUe (s : State) (st addr : Nat) : State :=
  let pg := fuuPage st
  ((s.count pg 0x50 1).setReg64 (pageBase pg + 0x54) addr).raise pg 1

/-- Block j of a segment is updated on stack st (R395): len elements from element 128 j on. -/
def State.stepBlock (s : State) (c : StepCtx) (e : List Byte) (st j : Nat) (r : StepRun) : StepRun × State :=
  let first := 128 * j
  let len := min 128 (segCount e - first)
  let opt := uopOpt c.o
  let gb := uopGrad c.o
  let aW := w64At e 0x00 + 2 * first
  let rW := s.stepRead c.n aW (2 * len) true
  let rG := rW.2.stepRead c.n (w64At e 0x28 + gb * first) (gb * len) true
  let rM := rG.2.stepRead c.n (w64At e 0x08 + first) len (opt < 2)
  let rV := rM.2.stepRead c.n (w64At e 0x10 + first) len (opt == 0)
  let rS := rV.2.stepRead c.n (w64At e 0x18 + 2 * j) 2 (opt < 2)
  let rT := rS.2.stepRead c.n (w64At e 0x20 + 2 * j) 2 (opt == 0)
  let s := rT.2
  let lost : StepRun × State := ({ r with ue := r.ue + 1, block := r.block + 1 }, s.stepUe st aW)
  if c.bad.contains r.block then
    (lost.1, match s.pdaDpa c.n aW with | some d => (s.met .uncorrectable d).stepUe st aW | none => lost.2)
  else
    match rW.1, rG.1, rM.1, rV.1, rS.1, rT.1 with
    | some W, some G, some M, some V, some S, some T =>
      let ms := (List.range len).map fun i => if opt < 2 then loadFirst (leAt M i 1) (leAt S 0 2) else .plain 0#32
      let vs := (List.range len).map fun i => if opt = 0 then loadSecond (leAt V i 1) (leAt T 0 2) else .plain 0#32
      let up := (List.range len).map fun i =>
        let w := BitVec.ofNat 32 (leAt W (2 * i) 2 * 2 ^ 16)
        let g := if gb = 4 then BitVec.ofNat 32 (w32At G (4 * i)) else BitVec.ofNat 32 (leAt G (2 * i) 2 * 2 ^ 16)
        updateElem opt (uopNesterov c.o) c.h c.k w g ((ms.getD i (.plain 0#32)).w) ((vs.getD i (.plain 0#32)).w)
      let ws := (List.range len).map fun i =>
        let x := ((up.map fun u => u.1.2.2).getD i 0#32)
        stochRound x (cg c.key (cgCounter domRound 0 c.t 0 (bitsOf (w64At e 0x30) 47 0 + first + i)))
      let f1 := storeFirst (up.map fun u => u.1.1)
      let f2 := storeSecond (up.map fun u => u.1.2.1)
      let g := ((Gather.of (ms ++ vs)).add (up.foldl (fun a u => a.add u.2) Gather.none)).add
        (ws.foldl (fun a w => a.add ⟨w.flags, boolBit w.saturates⟩) Gather.none)
      let g := if opt < 2 then g.add f1.2.2 else g
      let g := if opt = 0 then g.add f2.2.2 else g
      let s := s.poke c.n aW (ws.flatMap fun w => leBytes 2 w.code)
      let s := if opt < 2 then (s.poke c.n (w64At e 0x08 + first) (f1.2.1.map (BitVec.ofNat 8))).poke c.n (w64At e 0x18 + 2 * j)
        (leBytes 2 f1.1) else s
      let s := if opt = 0 then (s.poke c.n (w64At e 0x10 + first) (f2.2.1.map (BitVec.ofNat 8))).poke c.n (w64At e 0x20 + 2 * j)
        (leBytes 2 f2.1) else s
      ({ r with flags := r.flags ||| g.flags, block := r.block + 1 },
       (s.accrue (fuuPage st) g.flags g.sat).count64 (fuuPage st) 0x48 1)
    | _, _, _, _, _, _ => lost

/-- A segment is updated block by block (R399). -/
def State.stepSeg (c : StepCtx) (e : List Byte) (acc : StepRun × State) : StepRun × State :=
  match segStack acc.2 c.n c.o e with
  | none => acc
  | some st => (List.range (ceilDiv (segCount e) 128)).foldl (fun acc j => acc.2.stepBlock c e st j acc.1) acc

/-! ### The update queue (R391, R392, R397) -/

/-- UQ_DOORBELL (R391). -/
def execUqDoorbell (n : PartId) (tail : BitVec 32) (s : State) : Host.Outcome State Fault Refusal :=
  actBar (.vf n) s fun s => s.ringBell n.val 0x4008 0x400C tail.toNat

/-- UQ_CTL.RESUME (R397): the halt ends; HALT_STATUS stays. -/
def uqResumeDo (n : PartId) (s : State) : State :=
  if s.pageOn n.val then s.setRegF (partBase n.val + 0x4018) 0 0 0 else s

/-- UQ_RESUME (R397). -/
def execUqResume (n : PartId) (s : State) : Host.Outcome State Fault Refusal := actBar (.vf n) s (uqResumeDo n)

/-- The address of the slot at the head of the update queue. -/
def uqSlot (s : State) (n : Nat) : Nat := s.ringBase (partBase n + 0x4000) + 64 * s.regF (partBase n + 0x4010) 11 0

/-- Whether a push of partition n's REFERENCE regions runs (R479). -/
def State.pushes (s : State) (n : Nat) : Bool :=
  s.terrace.pushing && s.terrace.regions.any fun r => r.kind == .reference && r.part == n

/-- Whether the part executes the update operation at the head now (R391, R397, R400). -/
def uqReady (s : State) (n : Nat) : Bool :=
  let b := partBase n
  let o := s.peek n (uqSlot s n) 64
  s.pageOn n && !s.holding && !s.pushes n && !s.queueEmpty (b + 0x400C) (b + 0x4010) && !s.regBit (b + 0x4018) 0 &&
    (s.part n).step.isNone && s.waitOk n (w32At o 0x14) && s.waitOk n (w32At o 0x18)

/-- The address of UQ_STEPk. -/
def uqStepAddr (n k : Nat) : Nat := partBase n + 0x4040 + 4 * k

/-- The head of the update queue moves on. -/
def State.uqAdvance (s : State) (n : Nat) : State :=
  let b := partBase n
  s.setRegF (b + 0x4010) 11 0 ((s.regF (b + 0x4010) 11 0 + 1) % s.ringSlots (b + 0x4008))

/-- An update operation ends (R397): its results, the head, its signal or the halt. -/
def State.uqFinish (s : State) (n : Nat) (p : StepOp) : State :=
  let s := s.poke32 n (p.addr + 0x30) (putBits (s.peek32 n (p.addr + 0x30)) 3 0 p.status)
  let s := (s.poke32 n (p.addr + 0x34) p.used).poke32 n (p.addr + 0x38)
    (putBits (s.peek32 n (p.addr + 0x38)) 3 0 p.flags.toNat)
  let s := (s.poke32 n (p.addr + 0x3C) p.ueBlocks).uqAdvance n
  if p.status = 0 then s.signal n (bitsOf (w32At p.slot 0x1C) 11 0)
  else
    let a := partBase n + 0x4018
    s.setReg a (setField (setField (s.reg a) 0 0 1) 7 4 p.status)

/-- SET_STEP (R392); what STEP_USED takes is open. -/
def setStepDo (n : PartId) (s : State) : State :=
  let a := uqSlot s n.val
  let o := s.peek n.val a 64
  let f := s.freeWord
  let bad := anySet o uopResv
  let s := if bad then f.2 else f.2.setReg (uqStepAddr n.val (uopSlot o)) (BitVec.ofNat 32 (w32At o 4))
  s.uqFinish n.val { addr := a, slot := o, status := if bad then 1 else 0, used := f.1.toNat, flags := 0#4, ueBlocks := 0 }

/-- SET_STEP (R392). -/
def execSetStep (n : PartId) (s : State) : Host.Outcome State Fault Refusal :=
  act s fun s => if uqReady s n.val && uopCode (s.peek n.val (uqSlot s n.val) 64) == 2 then setStepDo n s else s

/-- How the checks of a STEP come out before anything is written (R393, R394, R397): a status, or its constants and segments.
Tables that read uncorrectable give MEM_UE. DEDUCED. -/
def State.stepChecks (s : State) (n : Nat) (o : List Byte) (bad : List Nat) :
    Except (Nat × Flags) (StepCtx × Gather × List (List Byte)) × State :=
  let t := ((s.reg (uqStepAddr n (uopSlot o))).toNat + 1) % 2 ^ 32
  if badStep o then (.error (1, 0#4), s)
  else
    match s.readPda n (w64At o 0x08) (64 * uopSegs o) with
    | (.access, s) => (.error (2, 0#4), s)
    | (.ue, s) => (.error (4, 0#4), s)
    | (.ok list, s) =>
      let segs := (List.range (uopSegs o)).map (segAt list)
      match s.readPda n (w64At o 0x20) 64 with
      | (.access, s) => (.error (if segs.any (badSeg o) then 1 else 2, 0#4), s)
      | (.ue, s) => (.error (4, 0#4), s)
      | (.ok hy, s) =>
        if segs.any (badSeg o) || badHyper o hy then (.error (1, 0#4), s)
        else if segs.any fun e => (segStack s n o e).isNone then (.error (2, 0#4), s)
        else
          let q : Got × State := if uopClip o then s.readPda n (w64At o 0x28) 4 else (.ok [], s)
          match q with
          | (.access, s) => (.error (2, 0#4), s)
          | (.ue, s) => (.error (4, 0#4), s)
          | (.ok sq, s) =>
            match clipFactor (uopClip o) (hyperOf hy) (BitVec.ofNat 32 (w32At sq 0)) with
            | (none, g) => (.error (3, g.flags), s)
            | (some k, g) =>
              (.ok ({ n := n, o := o, h := hyperOf hy, k := k, t := t,
                      key := cgKey (s.partKey n) (s.jobKey n (uopJob o)), bad := bad }, g, segs), s)

/-- The stacks whose FUUs a STEP uses show it, or do so no more (R406). -/
def State.showFuu (s : State) (n : Nat) (busy : Bool) (sts : List Nat) : State :=
  sts.foldl (fun s st => s.setReg (pageBase (fuuPage st) + 0x40) (if busy then fields [(7, 4, n), (0, 0, 1)] else 0#32)) s

/-- What a STEP does after its checks (R392 to R399): it has its status, or it works through every segment. -/
def stepGo (n : PartId) (a : Nat) (o : List Byte) (used : Nat) :
    Except (Nat × Flags) (StepCtx × Gather × List (List Byte)) × State → State
  | (.error (st, f), s) =>
    s.modPart n.val fun p => { p with step := some { addr := a, slot := o, status := st, used := used, flags := f, ueBlocks := 0 } }
  | (.ok (c, g, segs), s) =>
    let sts := (segs.filterMap (segStack s n.val o)).eraseDups
    let s := sts.foldl (fun s st => s.accrue (fuuPage st) g.flags g.sat) (s.showFuu n.val true sts)
    let r := segs.foldl (fun acc e => State.stepSeg c e acc) (({ flags := g.flags, ue := 0, block := 0 } : StepRun), s)
    r.2.modPart n.val fun p =>
      { p with step := some { addr := a, slot := o, status := if r.1.ue = 0 then 0 else 4, used := used, flags := r.1.flags,
                              ueBlocks := r.1.ue } }

/-- STEP (R392 to R399): its checks, then every segment; its end comes with STEP_END. -/
def stepDo (n : PartId) (bad : List Nat) (s : State) : State :=
  let a := uqSlot s n.val
  let o := s.peek n.val a 64
  let used := ((s.reg (uqStepAddr n.val (uopSlot o))).toNat + 1) % 2 ^ 32
  stepGo n a o used ((s.setRegF (partBase n.val + 0x4018) 1 1 1).stepChecks n.val o bad)

/-- Whether the STEP row takes the operation at the head: a STEP, or a reserved OP, which it refuses. -/
def stepOk (n : PartId) (s : State) : Bool := uqReady s n.val && uopCode (s.peek n.val (uqSlot s n.val) 64) != 2

/-- STEP (R395); `ue`: the blocks of the operation, counted over its segments, whose reads report an uncorrectable error. -/
def execFuuStep (n : PartId) (ue : List Nat) (s : State) : Host.Outcome State Fault Refusal :=
  act s fun s => if stepOk n s then stepDo n ue s else s

/-- A STEP ends (R392, R397). -/
def stepEndDo (n : PartId) (p : StepOp) (s : State) : State :=
  let s := if p.status = 0 ∨ p.status = 4 then s.setReg (uqStepAddr n.val (uopSlot p.slot)) (BitVec.ofNat 32 p.used) else s
  let mine := (List.range 20).filter fun st => s.reg (pageBase (fuuPage st) + 0x40) == fields [(7, 4, n.val), (0, 0, 1)]
  let s := (s.showFuu n.val false mine).modPart n.val fun q => { q with step := none }
  (s.setRegF (partBase n.val + 0x4018) 1 1 0).uqFinish n.val p

/-- STEP_END (R397); a hold pauses the STEP (R400). -/
def execStepEnd (n : PartId) (s : State) : Host.Outcome State Fault Refusal :=
  act s fun s =>
    match (s.part n.val).step with
    | some p => if s.holding then s else stepEndDo n p s
    | none => s

end Sys2Proof.Machine
end

