-- ==== Sys2Proof/Machine/Generation.lean ====
section
/-! DEFINITION. Generation: the request queue and its operations (R407 to R419), prefix and adapter entries (R429 to R436),
and the ratio controller (R424 to R428). -/

namespace Sys2Proof.Machine

/-! ### The common tail of table entries (R434, R435) -/

/-- The period of a beat (R434). -/
def period (beat : Nat) : Nat := beat / 2 ^ 21

/-- REFS of an entry (R434). -/
def entRefs (s : State) (n a : Nat) : Nat := bitsOf (s.peek32 n (a + 0x18)) 23 0
/-- REFS of an entry written. -/
def State.setEntRefs (s : State) (n a x : Nat) : State :=
  s.poke32 n (a + 0x18) (putBits (s.peek32 n (a + 0x18)) 23 0 x)

/-- Whether a use in period p clears bucket i (R434): a period from last + 1 to p lies in it. -/
def bucketClears (last p i : Nat) : Bool :=
  decide (last < p) && (decide (8 ≤ p - last) || (List.range (p - last)).any fun d => (last + 1 + d) % 8 == i)

/-- One use of the entry at an address (R434). -/
def State.useEntry (s : State) (n a : Nat) : State :=
  let p := period s.beatNum
  let last := s.peek64 n (a + 0x28)
  let s := (List.range 8).foldl (fun s i =>
    let b := if bucketClears last p i then 0 else leNat (s.peek n (a + 0x30 + 2 * i) 2)
    s.poke n (a + 0x30 + 2 * i) (leBytes 2 (if i = p % 8 then min (b + 1) 65535 else b))) s
  s.poke64 n (a + 0x28) p

/-- The use count of an entry as eviction compares it (R435). -/
def useCount (s : State) (n a : Nat) : Nat :=
  let p := period s.beatNum
  let last := s.peek64 n (a + 0x28)
  (((List.range 8).filter fun d => decide (d ≤ p) && decide (p - d ≤ last)).map fun d =>
    leNat (s.peek n (a + 0x30 + 2 * ((p - d) % 8)) 2)).foldl (· + ·) 0

/-- The entry that eviction chooses among candidates (R435): the smallest use count, then the lowest LOAD_SEQ. -/
def evictee (s : State) (n : Nat) (cands : List Nat) : Option Nat :=
  let worse := fun (a b : Nat) =>
    let ca := useCount s n a
    let cb := useCount s n b
    decide (cb < ca) || (ca == cb && decide (s.peek64 n (b + 0x20) < s.peek64 n (a + 0x20)))
  cands.find? fun a => cands.all fun b => !worse a b

/-- An entry takes the next number of its partition's load counter (R434). -/
def State.takeLoadSeq (s : State) (n a : Nat) : State :=
  (s.poke64 n (a + 0x20) (s.part n).loadSeq).modPart n fun p => { p with loadSeq := p.loadSeq + 1 }

/-! ### The request queue (R409 to R412) -/

/-- RQ_DOORBELL (R409). -/
def execRqDoorbell (n : PartId) (tail : BitVec 32) (s : State) : Host.Outcome State Fault Refusal :=
  actBar (.vf n) s fun s => s.ringBell n.val 0x5008 0x500C tail.toNat

/-- The address of the slot at the head of the request queue. -/
def rqSlot (s : State) (n : Nat) : Nat := s.ringBase (partBase n + 0x5000) + 32 * s.regF (partBase n + 0x5010) 11 0

/-- Whether the part takes the request operation at the head now (R409, R412). -/
def rqReady (s : State) (n : Nat) : Bool :=
  let b := partBase n
  s.pageOn n && !s.holding && !s.queueEmpty (b + 0x500C) (b + 0x5010) && (s.part n).rqCopy.isNone &&
    s.waitOk n (w32At (s.peek n (rqSlot s n) 32) 0x10)

/-- OP of a request operation (R409). -/
def rqCode (o : List Byte) : Nat := bitsOf (w32At o 0) 3 0
/-- SLOT or COUNT of a request operation. -/
def rqIdx (o : List Byte) : Nat := bitsOf (w32At o 4) 15 0
/-- ARG of a request operation. -/
def rqArg (o : List Byte) : Nat := w64At o 8

/-- Whether a request operation breaks its format (R409 to R411): a reserved bit or OP, a SLOT beyond the table. -/
def rqBad (s : State) (n : Nat) (o : List Byte) : Bool :=
  let c := rqCode o
  anySet o [(0x00, 31, 5), (0x14, 31, 12), (0x18, 31, 4)] || c == 0 || decide (6 < c) ||
    ((c == 1 || c == 2 || c == 4 || c == 6) && decide (s.regF (partBase n + 0x5020) 14 0 ≤ rqIdx o)) ||
    (c == 3 && outside (rqIdx o) 1 4096)

/-- Whether the row of an OP takes the operation at the head; OPEN's row takes one whose OP is reserved too. -/
def rqOk (n : PartId) (op : Nat) (s : State) : Bool :=
  let c := rqCode (s.peek n.val (rqSlot s n.val) 32)
  rqReady s n.val && (c == op || (op == 1 && (c == 0 || decide (6 < c))))

/-- What a request operation answers: its status, its result where it has one. -/
structure RqEnd where
  status : Nat
  result : Option Nat
deriving DecidableEq, Repr

/-- A request operation ends (R411): RESULT and STATUS, then SIGNAL whatever the status. What RESULT is for an operation
that has none is open. -/
def State.rqFinish (s : State) (n a signal : Nat) (r : RqEnd) : State :=
  let f := s.freeWord
  let e : Nat × State := match r.result with | some x => (x, s) | none => (f.1.toNat, f.2)
  let s := e.2.poke32 n (a + 0x1C) e.1
  (s.poke32 n (a + 0x18) (putBits (s.peek32 n (a + 0x18)) 3 0 r.status)).signal n signal

/-- The head of the request queue moves on. -/
def State.rqAdvance (s : State) (n : Nat) : State :=
  let b := partBase n
  s.setRegF (b + 0x5010) 11 0 ((s.regF (b + 0x5010) 11 0 + 1) % s.ringSlots (b + 0x5008))

/-- The address of request record r (R407). -/
def recAddr (s : State) (n r : Nat) : Nat := s.reg64 (partBase n + 0x5018) + 128 * r
/-- STATE of a request record (R407): 0 FREE, 1 WAITING, 2 DECODE, 3 FINISHED, 4 DROPPED. -/
def recState (s : State) (n a : Nat) : Nat := bitsOf (s.peek32 n (a + 4)) 2 0
/-- A field of word 0x04 of a request record written. -/
def State.setRecBits (s : State) (n a hi lo x : Nat) : State :=
  s.poke32 n (a + 4) (putBits (s.peek32 n (a + 4)) hi lo x)

/-- Before each request operation: records whose count table lay in a vale that was lost are marked (R419). -/
def State.markLost (s : State) (n : Nat) : State :=
  let lost := (s.part n).lostVales
  if lost = [] then s
  else
    let s := (List.range (s.regF (partBase n + 0x5020) 14 0)).foldl (fun s r =>
      let a := recAddr s n r
      if recState s n a != 0 && lost.contains (bitsOf (s.peek32 n (a + 0x58)) 31 25) then s.setRecBits n a 5 5 1 else s) s
    s.modPart n fun p => { p with lostVales := [] }

/-- The shape of a request operation: the marks of R419, the format, then its own effect, which answers its end, or a
copy that it waits for (R412). -/
def State.rqOp (s : State) (n : Nat) (f : List Byte → State → (RqEnd ⊕ RqCopy) × State) : State :=
  let a := rqSlot s n
  let o := s.peek n a 32
  let s := s.markLost n
  if rqBad s n o then (s.rqAdvance n).rqFinish n a (bitsOf (w32At o 0x14) 11 0) ⟨1, if rqCode o = 1 then some 0 else none⟩
  else
    match f o s with
    | (.inl r, s) => (s.rqAdvance n).rqFinish n a (bitsOf (w32At o 0x14) 11 0) r
    | (.inr c, s) => (s.rqAdvance n).modPart n fun p => { p with rqCopy := some c }

/-! ### The KV page map (R414, R415) -/

/-- W of a request: the words of a layer in its map. -/
def mapWidth (s : State) (n a : Nat) : Nat := ceilDiv (s.peek32 n (a + 0x0C)) 64
/-- KV_LAYERS of a partition. -/
def kvLayers (s : State) (n : Nat) : Nat := s.regF (partBase n + 0x5028) 15 0
/-- The address of the map word of page j of layer l (R414). -/
def mapAddr (s : State) (n a l j : Nat) : Nat := s.peek64 n (a + 0x50) + 4 * (l * mapWidth s n a + j)
/-- The map word of page j of layer l. -/
def mapWord (s : State) (n a l j : Nat) : Nat := s.peek32 n (mapAddr s n a l j)
/-- Whether a map word names no page (R414). -/
def noPage (w : Nat) : Bool := bitsOf w 31 30 == 3
/-- Whether the whole map of a request lies in the partition's pages. -/
def mapOk (s : State) (n a : Nat) : Bool :=
  s.pdaOk n (s.peek64 n (a + 0x50)) (4 * (kvLayers s n * mapWidth s n a)) true

/-- The map words of every live request: the pages in use. -/
def usedPages (s : State) (n : Nat) : List Nat :=
  ((List.range (s.regF (partBase n + 0x5020) 14 0)).map fun r =>
    let a := recAddr s n r
    if recState s n a = 0 then []
    else ((List.range (kvLayers s n * mapWidth s n a)).map fun i => s.peek32 n (s.peek64 n (a + 0x50) + 4 * i)).filter
      fun w => !noPage w).flatten

/-- The word of the lowest free page for layer l (R415), in use being `used`. -/
def takePage (s : State) (n l : Nat) (used : List Nat) : Option Nat :=
  let gs := s.usable n
  let cold := ((List.range (s.regF (partBase n + 0x5038) 30 0)).map (2 ^ 30 + ·)).find? fun w => !used.contains w
  match gs[l % gs.length]? with
  | none => cold
  | some g =>
    (((List.range (s.regF (partBase n + 0x502C) 12 0)).map (2 ^ 23 * g + ·)).find? fun w => !used.contains w) <|> cold

/-- The pages taken for some missing pages of a map, in order: the words by address; none when one cannot be had. -/
def takePages (s : State) (n a : Nat) : List (Nat × Nat) → List Nat → Option (List (Nat × Nat))
  | [], _ => some []
  | (l, j) :: ps, used =>
    match takePage s n l used with
    | none => none
    | some w => (takePages s n a ps (used ++ [w])).map fun r => (mapAddr s n a l j, w) :: r

/-- GROW (R415). -/
def growOp (n : Nat) (o : List Byte) (s : State) : (RqEnd ⊕ RqCopy) × State :=
  let a := recAddr s n (rqIdx o)
  let k := rqArg o % 2 ^ 32
  let len := s.peek32 n (a + 0x48)
  if !s.pdaOk n a 128 true then (.inl ⟨5, none⟩, s)
  else if recState s n a != 1 && recState s n a != 2 then (.inl ⟨2, none⟩, s)
  else if s.peek32 n (a + 0x0C) < len + k then (.inl ⟨4, none⟩, s)
  else if !mapOk s n a then (.inl ⟨5, none⟩, s)
  else
    let js := (List.range (ceilDiv (len + k) 64)).filter fun j => decide (len / 64 ≤ j) && decide (k ≠ 0)
    let miss := ((List.range (kvLayers s n)).map fun l => js.map fun j => (l, j)).flatten.filter fun p =>
      noPage (mapWord s n a p.1 p.2)
    match takePages s n a miss (usedPages s n) with
    | none => (.inl ⟨3, none⟩, s)
    | some ws => (.inl ⟨0, none⟩, ws.foldl (fun s w => s.poke32 n w.1 w.2) s)

/-- GROW (R410, R415). -/
def execGrow (n : PartId) (s : State) : Host.Outcome State Fault Refusal :=
  act s fun s => if rqOk n 2 s then s.rqOp n.val (growOp n.val) else s

/-! ### Adapters and prefix entries (R429 to R433) -/

/-- The adapter table entries of partition n (R432). -/
def adapters (s : State) (n : Nat) : List Nat :=
  let b := partBase n
  (List.range (s.regF (b + 0x5048) 10 0)).map fun i => s.reg64 (b + 0x5040) + 64 * i
/-- RESIDENT of an adapter entry. -/
def adapterIn (s : State) (n a : Nat) : Bool := bitOf (s.peek32 n a) 31
/-- The adapter entry with an id, non-zero (R432). -/
def findAdapter (s : State) (n id : Nat) : Option Nat := (adapters s n).find? fun a => s.peek32 n a % 2 ^ 16 == id
/-- The lowest free adapter slot (R433), the residents of `xs` occupying theirs. -/
def freeAdapterSlot (s : State) (n : Nat) (xs : List Nat) : Option Nat :=
  let held := (xs.filter fun a => adapterIn s n a).map fun a => s.peek32 n (a + 4) % 2 ^ 8
  (List.range (s.regF (partBase n + 0x5054) 8 0)).find? fun i => !held.contains i

/-- The prefix table slots of partition n (R430). -/
def prefixes (s : State) (n : Nat) : List Nat :=
  let b := partBase n
  (List.range (s.regF (b + 0x5068) 12 0)).map fun i => s.reg64 (b + 0x5060) + 64 * i
/-- VALID of a prefix slot. -/
def prefixIn (s : State) (n a : Nat) : Bool := bitOf (s.peek32 n (a + 8)) 31
/-- The valid prefix entry with a handle and a set. -/
def findPrefix (s : State) (n handle set : Nat) : Option Nat :=
  (prefixes s n).find? fun a => prefixIn s n a && s.peek64 n a == handle && s.peek32 n (a + 8) % 16 == set
/-- The prefix entry that OPEN finds (R429). -/
def hitPrefix (s : State) (n handle set epoch : Nat) : Option Nat :=
  (prefixes s n).find? fun a => prefixIn s n a && s.peek64 n a == handle && s.peek32 n (a + 8) % 16 == set &&
    s.peek32 n (a + 0x0C) == epoch

/-- How OPEN gets its adapter (R433). -/
inductive AdapterPlan where
  | none
  | resident (a : Nat)
  | load (a slot : Nat) (evict : Option Nat)
  | fail (status : Nat)
deriving DecidableEq, Repr

/-- What OPEN does about adapter `id` (R411, R433). -/
def adapterPlan (s : State) (n id : Nat) : AdapterPlan :=
  let b := partBase n
  if id = 0 then .none
  else
    match findAdapter s n id with
    | none => .fail 1
    | some a =>
      let bytes := s.peek32 n (a + 0x10)
      if adapterIn s n a then .resident a
      else if s.regF (b + 0x5058) 31 0 < bytes then .fail 1
      else
        let ok := fun (i : Nat) => s.pdaOk n (s.peek64 n (a + 8)) bytes false &&
          s.pdaOk n (s.reg64 (b + 0x504C) + i * s.regF (b + 0x5058) 31 0) bytes true
        match freeAdapterSlot s n (adapters s n) with
        | some i => if ok i then .load a i Option.none else .fail 5
        | none =>
          match evictee s n ((adapters s n).filter fun e => adapterIn s n e && entRefs s n e == 0) with
          | none => .fail 3
          | some v =>
            let i := s.peek32 n (v + 4) % 2 ^ 8
            if ok i then .load a i (some v) else .fail 5

/-- The adapter of an OPEN taken (R433, R434): one more reference, one use; a load evicts and claims its slot. -/
def State.takeAdapter (s : State) (n : Nat) (p : AdapterPlan) : State :=
  match p with
  | .resident a => (s.setEntRefs n a (entRefs s n a + 1)).useEntry n a
  | .load a i ev =>
    let s := match ev with | some v => s.poke32 n v (putBits (s.peek32 n v) 31 31 0) | none => s
    let s := (s.poke32 n a (putBits (s.peek32 n a) 31 31 1)).poke32 n (a + 4) (putBits (s.peek32 n (a + 4)) 7 0 i)
    ((s.setEntRefs n a 1).takeLoadSeq n a).useEntry n a
  | _ => s

/-- Why OPEN cannot pin, or the version it pins or runs on with its epoch (R436). -/
def openVersion (s : State) (n a : Nat) : Except Nat (Option Nat × Nat) :=
  let set := s.peek32 n (a + 8) % 16
  if !s.pdaOk n (vtHeader s n 0) 4096 true then .error 5
  else if !bitOf (s.peek32 n (a + 8)) 4 then .ok (none, s.peek32 n (vtHeader s n set))
  else if (lookupKey (pinKey set (s.peek32 n a)) (s.part n).pins).isSome then .error 2
  else
    match selVersion s n set false 0 with
    | none => .error 2
    | some v =>
      if 4096 ≤ (s.part n).pins.length ∨ verRefs s n set v = 0xFFFFFF then .error 3
      else .ok (some v, verEpoch s n set v)

/-- The map words of a prefix hit (R429). -/
def hitWords (s : State) (n a e : Nat) : List (Nat × Nat) :=
  let k := s.peek32 n (e + 0x10) / 64
  ((List.range (kvLayers s n)).map fun l => (List.range k).map fun j =>
    (mapAddr s n a l j, 2 ^ 31 + (s.peek32 n (e + 0x14) + l * k + j) % 2 ^ 30)).flatten

/-- OPEN's record, pin and prefix (R410, R429, R436); `hit` is its prefix entry. -/
def State.openRecord (s : State) (n a : Nat) (ver : Option Nat × Nat) (hit : Option Nat) : State :=
  let set := s.peek32 n (a + 8) % 16
  let s : State := match ver.1 with
    | some v => (s.ref n set v).modPart n fun p => { p with pins := p.pins ++ [(pinKey set (s.peek32 n a), v)] }
    | none => s
  let len := match hit with | some e => s.peek32 n (e + 0x10) | none => 0
  let s : State := match hit with
    | some e =>
      let s := (hitWords s n a e).foldl (fun (s : State) w => s.poke32 n w.1 w.2) s
      (s.setEntRefs n e (entRefs s n e + 1)).useEntry n e
    | none => s
  let s := ((s.poke32 n (a + 0x34) 0).poke32 n (a + 0x4C) 0).poke32 n (a + 0x48) len
  let s := (s.poke32 n (a + 0x68) ver.2).poke32 n (a + 0x6C) len
  (s.setRecBits n a 5 3 (boolBit hit.isSome * 2)).setRecBits n a 2 0 1

/-- OPEN (R410, R429, R433, R436). -/
def openOp (n : Nat) (o : List Byte) (s : State) : (RqEnd ⊕ RqCopy) × State :=
  let b := partBase n
  let a := recAddr s n (rqIdx o)
  let fail := fun (st : Nat) => ((.inl ⟨st, some 0⟩ : RqEnd ⊕ RqCopy), s)
  if !s.pdaOk n a 128 true then fail 5
  else if recState s n a != 0 then fail 2
  else
    let plan := adapterPlan s n (bitsOf (s.peek32 n (a + 8)) 31 16)
    match plan, openVersion s n a with
    | .fail st, _ => fail st
    | _, .error st => fail st
    | _, .ok ver =>
      let handle := s.peek64 n (a + 0x18)
      let hit := if handle = 0 then none else hitPrefix s n handle (s.peek32 n (a + 8) % 16) ver.2
      let len := match hit with | some e => s.peek32 n (e + 0x10) | none => 0
      if s.peek32 n (a + 0x0C) < len then fail 4
      else if hit.isSome && !mapOk s n a then fail 5
      else
        let s := (s.takeAdapter n plan).openRecord n a ver hit
        match plan with
        | .load e i _ =>
          (.inr { addr := rqSlot s n, save := false, status := 0, result := len,
                  signal := bitsOf (w32At o 0x14) 11 0, src := [s.peek64 n (e + 8)],
                  dst := [s.reg64 (b + 0x504C) + i * s.regF (b + 0x5058) 31 0], bytes := s.peek32 n (e + 0x10) }, s)
        | _ => (.inl ⟨0, some len⟩, s)

/-- OPEN (R410). -/
def execReqOpen (n : PartId) (s : State) : Host.Outcome State Fault Refusal :=
  act s fun s => if rqOk n 1 s then s.rqOp n.val (openOp n.val) else s

/-- The copy of an OPEN or of a RETIRE lands, and the operation ends (R412). -/
def State.copyLanded (s : State) (n : Nat) (save : Bool) (put : RqCopy → State → State) : State :=
  match (s.part n).rqCopy with
  | none => s
  | some c =>
    if c.save != save || s.holding then s
    else
      let s := (put c s).modPart n fun p => { p with rqCopy := none }
      s.rqFinish n c.addr c.signal ⟨c.status, if save then none else some c.result⟩

/-- The bytes of an adapter's copy. -/
def adapterLands (n : Nat) (c : RqCopy) (s : State) : State := s.poke n (c.dst.headD 0) (s.peek n (c.src.headD 0) c.bytes)

/-- ADAPTER_COPY_LANDED (R433). -/
def execAdapterCopyLanded (n : PartId) (s : State) : Host.Outcome State Fault Refusal :=
  act s fun s => s.copyLanded n.val false (adapterLands n.val)

/-! ### COMMIT (R417 to R419, R437, R438) -/

/-- Word i of the count table of the record at a (R418): memory, or the spill region. A vale that the partition cannot use
reads zero (R21). -/
def countWord (s : State) (n a i : Nat) : Nat :=
  let w := s.peek32 n (a + 0x58)
  if i < 8192 then
    if s.storeOk n (bitsOf w 31 25) then leNat (s.bytes (storeAddr (bitsOf w 31 25) (bitsOf w 24 0 + 4 * i)) 4) else 0
  else s.peek32 n (s.peek64 n (a + 0x60) + 4 * (i - 8192))

/-- A word of a count table written. -/
def State.setCountWord (s : State) (n a i x : Nat) : State :=
  let w := s.peek32 n (a + 0x58)
  if i < 8192 then
    if s.storeOk n (bitsOf w 31 25) then s.setBytes (storeAddr (bitsOf w 31 25) (bitsOf w 24 0 + 4 * i)) (leBytes 4 x) else s
  else s.poke32 n (s.peek64 n (a + 0x60) + 4 * (i - 8192)) x

/-- A token counted (R418). -/
def State.countToken (s : State) (n a t : Nat) : State :=
  let len := s.peek32 n (a + 0x4C)
  match (List.range len).find? fun i => bitsOf (countWord s n a i) 31 14 == t with
  | some i =>
    let c := bitsOf (countWord s n a i) 13 0
    s.setCountWord n a i (2 ^ 14 * t + min (c + 1) 16383)
  | none => (s.setCountWord n a len (2 ^ 14 * t + 1)).poke32 n (a + 0x4C) (len + 1)

/-- NTOK of a COMMIT entry. -/
def ceTokens (e : List Byte) : List Nat :=
  (List.range (bitsOf (w32At e 0) 23 20)).map fun i => bitsOf (w32At e (0x0C + 4 * i)) 17 0

/-- Whether a COMMIT entry breaks its format (R411, R417). -/
def ceBad (s : State) (n : Nat) (e : List Byte) : Bool :=
  anySet e ([(0x00, 31, 24), (0x00, 19, 18), (0x08, 31, 0)] ++ (List.range 9).map fun i => (0x0C + 4 * i, 31, 18)) ||
    decide (9 < bitsOf (w32At e 0) 23 20) || decide (s.regF (partBase n + 0x5020) 14 0 ≤ bitsOf (w32At e 0) 15 0)

/-- The status that skips a COMMIT entry, 0 for none (R411, R417). -/
def ceSkip (s : State) (n : Nat) (e : List Byte) : Nat :=
  let a := recAddr s n (bitsOf (w32At e 0) 15 0)
  let end_ := s.peek32 n (a + 0x48) + w32At e 4
  if ceBad s n e then 1
  else if !s.pdaOk n a 128 true then 5
  else if recState s n a != 1 && recState s n a != 2 then 2
  else if decide (s.peek32 n (a + 0x0C) < end_) || (List.range (kvLayers s n)).any fun l =>
      (List.range (ceilDiv end_ 64)).any fun j => noPage (mapWord s n a l j) then 4
  else 0

/-- A COMMIT entry applied (R417, R419, R434, R438). -/
def State.commitEntry (s : State) (n : Nat) (e : List Byte) : State :=
  let w := w32At e 0
  let a := recAddr s n (bitsOf w 15 0)
  let deadline := s.peek64 n (a + 0x10)
  let late := decide (deadline ≠ 0) && decide (deadline < s.beatNum)
  let s := s.poke32 n (a + 0x48) (s.peek32 n (a + 0x48) + w32At e 4)
  let s := s.poke32 n (a + 0x34) (s.peek32 n (a + 0x34) + bitsOf w 23 20)
  let s := if bitOf (s.peek32 n (a + 4)) 5 then s else (ceTokens e).foldl (fun s t => s.countToken n a t) s
  let s := if bitOf w 17 && recState s n a == 1 then s.setRecBits n a 2 0 2 else s
  let s := if late then s.setRecBits n a 3 3 1 else s
  let s := if bitOf w 16 then s.setRecBits n a 2 0 3
    else if late && !bitOf (s.peek32 n (a + 8)) 5 then s.setRecBits n a 2 0 4 else s
  let s := match findAdapter s n (bitsOf (s.peek32 n (a + 8)) 31 16) with
    | some x => if bitsOf (s.peek32 n (a + 8)) 31 16 = 0 then s else s.useEntry n x
    | none => s
  if late && s.metered n then
    s.moraine .lateCommit (.partcfg (Fin.ofNat 16 n))
      [n, s.peek32 n a, deadline % 2 ^ 32, deadline / 2 ^ 32, s.beatNum % 2 ^ 32, s.beatNum / 2 ^ 32]
  else s

/-- The entries of a COMMIT in list order: the skipped ones, the status of the first, and the state after (R417). -/
def State.commitAll (s : State) (n : Nat) : List (List Byte) → Nat × Nat → (Nat × Nat) × State
  | [], out => (out, s)
  | e :: es, out =>
    match ceSkip s n e with
    | 0 => (s.commitEntry n e).commitAll n es out
    | k => s.commitAll n es (out.1 + 1, if out.2 = 0 then k else out.2)

/-- COMMIT (R417). -/
def commitOp (n : Nat) (o : List Byte) (s : State) : (RqEnd ⊕ RqCopy) × State :=
  match s.readPda n (rqArg o) (48 * rqIdx o) with
  | (.ok bs, s) =>
    let r := s.commitAll n ((List.range (rqIdx o)).map fun i => (bs.drop (48 * i)).take 48) (0, 0)
    (.inl ⟨r.1.2, some r.1.1⟩, r.2)
  | (_, s) => (.inl ⟨5, none⟩, s)

/-- COMMIT (R410, R417). -/
def execCommit (n : PartId) (s : State) : Host.Outcome State Fault Refusal :=
  act s fun s => if rqOk n 3 s then s.rqOp n.val (commitOp n.val) else s

/-! ### RETIRE, PREFIX_DROP, RECOUNT (R410, R419, R430) -/

/-- The prefix pool pages of the valid entries. -/
def prefixUsed (s : State) (n : Nat) : List (Nat × Nat) :=
  ((prefixes s n).filter fun a => prefixIn s n a).map fun a =>
    (s.peek32 n (a + 0x14), kvLayers s n * (s.peek32 n (a + 0x10) / 64))

/-- The lowest run of `count` free pages of the prefix pool (R430). -/
def prefixRun (s : State) (n count : Nat) : Option Nat :=
  let used := prefixUsed s n
  (List.range (s.regF (partBase n + 0x5074) 30 0 + 1 - count)).find? fun i =>
    used.all fun u => decide (u.2 = 0) || decide (i + count ≤ u.1) || decide (u.1 + u.2 ≤ i)

/-- A prefix slot made invalid. -/
def State.dropPrefix (s : State) (n a : Nat) : State := s.poke32 n (a + 8) (putBits (s.peek32 n (a + 8)) 31 31 0)

/-- A slot and a run for a save, evicting by R435 until both are there (R430); fuel bounds the evictions. -/
def State.roomFor (s : State) (n count : Nat) : Nat → Option (Nat × Nat) × State
  | 0 => (none, s)
  | f + 1 =>
    let fits := decide (count ≤ s.regF (partBase n + 0x5074) 30 0)
    match (prefixes s n).find? fun a => !prefixIn s n a, if fits then prefixRun s n count else none with
    | some a, some i => (some (a, i), s)
    | _, _ =>
      match evictee s n ((prefixes s n).filter fun a => prefixIn s n a && entRefs s n a == 0) with
      | none => (none, s)
      | some v => (s.dropPrefix n v).roomFor n count f

/-- A prefix entry written for the record at a (R430). -/
def State.writePrefix (s : State) (n a e handle k first : Nat) : State :=
  let s := s.poke n e (List.replicate 64 0#8)
  let s := (s.poke64 n e handle).poke32 n (e + 8) (2 ^ 31 + s.peek32 n (a + 8) % 16)
  let s := ((s.poke32 n (e + 0x0C) (s.peek32 n (a + 0x68))).poke32 n (e + 0x10) (64 * k)).poke32 n (e + 0x14) first
  s.takeLoadSeq n e

/-- The save of a RETIRE (R430): its status, and the pages to copy, from and to. -/
def State.savePrefix (s : State) (n a : Nat) (o : List Byte) : (Nat × List (Nat × Nat)) × State :=
  let pages := bitsOf (w32At o 4) 31 16
  let k := if pages = 0 then s.peek32 n (a + 0x48) / 64 else pages
  let L := kvLayers s n
  if s.peek32 n (a + 0x48) < 64 * k then ((4, []), s)
  else if k = 0 then ((0, []), s)
  else
    let old := findPrefix s n (rqArg o) (s.peek32 n (a + 8) % 16)
    if old.any fun e => entRefs s n e != 0 then ((6, []), s)
    else
      let s := match old with | some e => s.dropPrefix n e | none => s
      match s.roomFor n (L * k) ((prefixes s n).length + 1) with
      | (none, s) => ((3, []), s)
      | (some (e, i), s) =>
        let s := s.writePrefix n a e (rqArg o) k i
        ((0, ((List.range L).map fun l => (List.range k).map fun j => (mapWord s n a l j, i + l * k + j)).flatten), s)

/-- RETIRE frees the record and releases its pin, adapter and prefix references (R410, R430). -/
def State.retireRecord (s : State) (n a : Nat) : State :=
  let w := s.peek32 n (a + 8)
  let key := pinKey (w % 16) (s.peek32 n a)
  let s := match (if bitOf w 4 then lookupKey key (s.part n).pins else none) with
    | some v => (s.modPart n fun p => { p with pins := dropKey key p.pins }).unref n (w % 16) v
    | none => s
  let s := match (if bitsOf w 31 16 = 0 then none else findAdapter s n (bitsOf w 31 16)) with
    | some e => s.setEntRefs n e (entRefs s n e - 1)
    | none => s
  let hit := if bitOf (s.peek32 n (a + 4)) 4 then
      hitPrefix s n (s.peek64 n (a + 0x18)) (w % 16) (s.peek32 n (a + 0x68)) else none
  let s := match hit with | some e => s.setEntRefs n e (entRefs s n e - 1) | none => s
  s.setRecBits n a 2 0 0

/-- RETIRE (R410, R430). -/
def retireOp (n : Nat) (o : List Byte) (s : State) : (RqEnd ⊕ RqCopy) × State :=
  let b := partBase n
  let a := recAddr s n (rqIdx o)
  if !s.pdaOk n a 128 true then (.inl ⟨5, none⟩, s)
  else if recState s n a == 0 then (.inl ⟨2, none⟩, s)
  else if !bitOf (w32At o 0) 4 then (.inl ⟨0, none⟩, s.retireRecord n a)
  else
    let r := s.savePrefix n a o
    let s := r.2.retireRecord n a
    if r.1.2 = [] then (.inl ⟨r.1.1, none⟩, s)
    else
      let pb := s.regF (b + 0x5024) 20 0
      (.inr { addr := rqSlot s n, save := true, status := r.1.1, result := 0, signal := bitsOf (w32At o 0x14) 11 0,
              src := r.1.2.map (·.1), dst := r.1.2.map fun p => s.reg64 (b + 0x506C) + p.2 * pb, bytes := pb }, s)

/-- RETIRE (R410). -/
def execRetire (n : PartId) (s : State) : Host.Outcome State Fault Refusal :=
  act s fun s => if rqOk n 4 s then s.rqOp n.val (retireOp n.val) else s

/-- The bytes of the page that a map word names (R414). -/
def pageBytes (s : State) (n w k : Nat) : List Byte :=
  let b := partBase n
  match bitsOf w 31 30 with
  | 0 =>
    let g := bitsOf w 29 23
    if s.storeOk n g then s.bytes (storeAddr g (4096 * s.regF (b + 0x502C) 28 16 + bitsOf w 22 0 * k)) k
    else List.replicate k 0#8
  | 1 => s.peek n (s.reg64 (b + 0x5030) + bitsOf w 29 0 * k) k
  | 2 => s.peek n (s.reg64 (b + 0x506C) + bitsOf w 29 0 * k) k
  | _ => List.replicate k 0#8

/-- The pages of a prefix save. -/
def prefixLands (n : Nat) (c : RqCopy) (s : State) : State :=
  (c.src.zip c.dst).foldl (fun s p => s.poke n p.2 (pageBytes s n p.1 c.bytes)) s

/-- PREFIX_SAVE_LANDED (R430). -/
def execPrefixSaveLanded (n : PartId) (s : State) : Host.Outcome State Fault Refusal :=
  act s fun s => s.copyLanded n.val true (prefixLands n.val)

/-- PREFIX_DROP (R410, R411). -/
def prefixDropOp (n : Nat) (o : List Byte) (s : State) : (RqEnd ⊕ RqCopy) × State :=
  let es := (prefixes s n).filter fun a => prefixIn s n a && s.peek64 n a == rqArg o
  if es.any fun e => entRefs s n e != 0 then (.inl ⟨6, none⟩, s)
  else (.inl ⟨0, none⟩, es.foldl (fun s e => s.dropPrefix n e) s)

/-- PREFIX_DROP (R410). -/
def execPrefixDrop (n : PartId) (s : State) : Host.Outcome State Fault Refusal :=
  act s fun s => if rqOk n 5 s then s.rqOp n.val (prefixDropOp n.val) else s

/-- RECOUNT (R419). -/
def recountOp (n : Nat) (o : List Byte) (s : State) : (RqEnd ⊕ RqCopy) × State :=
  let a := recAddr s n (rqIdx o)
  let k := rqArg o % 2 ^ 32
  if !s.pdaOk n a 128 true then (.inl ⟨5, none⟩, s)
  else if !bitOf (s.peek32 n (a + 4)) 5 || recState s n a == 0 then (.inl ⟨2, none⟩, s)
  else if s.peek32 n (a + 0x0C) < k then (.inl ⟨4, none⟩, s)
  else if !s.storeOk n (bitsOf (s.peek32 n (a + 0x58)) 31 25) then (.inl ⟨5, none⟩, s)
  else (.inl ⟨0, none⟩, (s.poke32 n (a + 0x4C) k).setRecBits n a 5 5 0)

/-- RECOUNT (R419). -/
def execRecount (n : PartId) (s : State) : Host.Outcome State Fault Refusal :=
  act s fun s => if rqOk n 6 s then s.rqOp n.val (recountOp n.val) else s

/-! ### The ratio controller (R424 to R428) -/

/-- EN of the ratio controller goes from 0 to 1 (R424): the lowest vales form the prefill set. -/
def State.rcStart (s : State) (n : Nat) : State :=
  let l := (s.reg (partBase n + 0x5084)).toNat
  let gs := s.usable n
  let P := min (max (bitsOf l 27 20) (bitsOf l 6 0)) (gs.length - bitsOf l 14 8)
  let s := s.modPart n fun p => { p with rc := Rc.reset }
  (List.range gs.length).foldl (fun s i => s.modVale (gs.getD i 0) fun v => { v with set := if i < P then 1 else 2 }) s

/-- The write that turns the controller on (R424). -/
def rcEnableDo (n : PartId) (s : State) : State :=
  let a := partBase n.val + 0x5080
  if s.pageOn n.val && !s.regBit a 0 then (s.setRegF a 0 0 1).rcStart n.val else s

/-- RC_ENABLE (R424): a write of 1 to RC_CTL.EN that leaves the other fields as they are. -/
def execRcEnable (n : PartId) (s : State) : Host.Outcome State Fault Refusal := actBar (.vf n) s (rcEnableDo n)

/-- S of R425: the smallest slack of a decoding request that has a deadline. -/
def rcSlack (s : State) (n : Nat) : Int :=
  let ds := ((s.requestsIn n 2).map fun r => s.peek64 n (recAddr s n r + 0x10)).filter (· != 0)
  ds.foldl (fun (m : Int) (d : Nat) => min m ((d : Int) - (s.beatNum : Int))) (2 ^ 31 - 1)

/-- Whether the controller evaluates now (R425): at a beat edge with BEAT_NUM[11:0] at 0, once. -/
def rcEvaluateOk (n : PartId) (s : State) : Bool :=
  s.pageOn n.val && s.regBit (partBase n.val + 0x5080) 0 && s.beat.everLocked && s.beat.counted && s.subBeat == 0 &&
    s.beatNum % 4096 == 0 && (s.part n.val).rc.last != some s.beatNum

/-- What an evaluation decides (R425, R426). -/
def rcDecide (s : State) (n : Nat) (r : Rc) : Rc :=
  let b := partBase n
  let q := (s.requestsIn n 1).length
  let sl := rcSlack s n
  let pre := setVales s n 1
  let dec := setVales s n 2
  if r.pending.isSome then r
  else if 0 < r.hold then { r with hold := r.hold - 1 }
  else if s.regF (b + 0x5088) 30 16 ≤ q ∧ (s.regF (b + 0x508C) 31 16 : Int) ≤ sl ∧
      s.regF (b + 0x5084) 14 8 < dec.length then
    { r with pending := dec.head?.map fun g => { toPrefill := true, vale := g } }
  else if (sl < (s.regF (b + 0x508C) 15 0 : Int) ∨ q ≤ s.regF (b + 0x5088) 14 0) ∧
      s.regF (b + 0x5084) 6 0 < pre.length then
    { r with pending := pre.getLast?.map fun g => { toPrefill := false, vale := g } }
  else r

/-- An evaluation (R425). -/
def rcEvaluateDo (n : PartId) (s : State) : State :=
  let r := { rcDecide s n.val (s.part n.val).rc with last := some s.beatNum }
  s.modPart n.val fun p => { p with rc := r }

/-- RC_EVALUATE (R425). -/
def execRcEvaluate (n : PartId) (s : State) : Host.Outcome State Fault Refusal :=
  act s fun s => if rcEvaluateOk n s then rcEvaluateDo n s else s

/-- A pending move that has fallen due applies (R426). -/
def rcMoveDo (n : PartId) (m : RcMove) (s : State) : State :=
  let b := partBase n.val
  let s := s.modVale m.vale fun v => { v with set := if m.toPrefill then 1 else 2 }
  let h := s.regF (b + 0x5084) 19 16
  let s := s.modPart n.val fun p => { p with rc := { p.rc with pending := none, due := false, hold := h } }
  (s.count (.part n) 0x5094 1).moraine .rcMove (.partcfg n) [boolBit m.toPrefill, m.vale]

/-- RC_MOVE_APPLY (R426). -/
def execRcMoveApply (n : PartId) (s : State) : Host.Outcome State Fault Refusal :=
  act s fun s =>
    match (s.part n.val).rc.pending with
    | some m => if (s.part n.val).rc.due then rcMoveDo n m s else s
    | none => s

end Sys2Proof.Machine
end

