-- ==== Sys2Proof/Machine/Residency.lean ====
section
/-! DEFINITION. Residency: page grants (R442 to R444), invalidation of cached translations (R448), the patrol scrub and the
targeted refresh of the floor dies (R454, R455), and model residency (R457 to R462). -/

namespace Sys2Proof.Machine

/-! ### Page grants (R442 to R444) -/

/-- The entry of a page in the grant table changed. -/
def State.modGrant (s : State) (p : Nat) (f : Grant → Grant) : State := s.setGrant p (f (s.grant p))

/-- Whether partition m is the writer of a page or one of its readers. -/
def grantHolder (g : Grant) (m : Nat) : Bool := g.writer.map Fin.val == some m || bitOf g.readers m

/-- Whether a page refuses a grant to partition n with CONFLICT (R443). -/
def grantConflict (s : State) (n : Nat) (write : Bool) (p : Nat) : Bool :=
  let g := s.grant p
  if write then (List.range 16).any fun m => m != n && grantHolder g m
  else g.writer.any fun m => m.val != n

/-- ERR of a run of pages: that of the first page that fails (R443). -/
def grantErr (conflict : Nat → Bool) (first count : Nat) : Nat :=
  match (List.range count).find? fun i => !pageGrantable (first + i) || conflict (first + i) with
  | none => 0
  | some i => if pageGrantable (first + i) then 2 else 1

/-- The operation of the MEM page ends (R443, R463). -/
def State.grantDone (s : State) (err : Nat) : State :=
  ({ s with grantOp := none }.setRegF 0x11048 3 0 err).raise .mem 1

/-- Partition n becomes a reader of a page, and its writer where `write` (R443). -/
def grantTo (n : PartId) (write : Bool) (g : Grant) : Grant :=
  { writer := if write then some n else g.writer,
    readers := if bitOf g.readers n.val then g.readers else g.readers + 2 ^ n.val }

/-- GRANT_WRITE or GRANT_READ on COUNT + 1 pages from GRANT_PAGE (R443, R444). -/
def grantDo (n : PartId) (write : Bool) (count : BitVec 16) (s : State) : State :=
  if s.grantOp.isSome then s
  else
    let first := s.regF 0x11040 20 0
    let k := count.toNat + 1
    let e := grantErr (grantConflict s n.val write) first k
    let s := if e = 0 then (List.range k).foldl (fun s i => s.modGrant (first + i) (grantTo n write)) s else s
    s.grantDone e

/-- GRANT_WRITE (R443). -/
def execGrantWrite (n : PartId) (count : BitVec 16) (s : State) : Host.Outcome State Fault Refusal :=
  actBar .pf s (grantDo n true count)

/-- GRANT_READ (R443). -/
def execGrantRead (n : PartId) (count : BitVec 16) (s : State) : Host.Outcome State Fault Refusal :=
  actBar .pf s (grantDo n false count)

/-- WITHDRAW (R443, R444): its checks; then BUSY stays until its end. -/
def withdrawDo (n : PartId) (count : BitVec 16) (s : State) : State :=
  if s.grantOp.isSome then s
  else
    let first := s.regF 0x11040 20 0
    let k := count.toNat + 1
    let e := grantErr (fun _ => false) first k
    if e = 0 then { s with grantOp := some { withdraw := true, first := first, count := k, part := n } } else s.grantDone e

/-- WITHDRAW (R443). -/
def execWithdraw (n : PartId) (count : BitVec 16) (s : State) : Host.Outcome State Fault Refusal :=
  actBar .pf s (withdrawDo n count)

/-- Partition n is neither writer nor reader of a page (R443). -/
def grantFrom (n : PartId) (g : Grant) : Grant :=
  { writer := if g.writer = some n then none else g.writer,
    readers := if bitOf g.readers n.val then g.readers - 2 ^ n.val else g.readers }

/-- A withdrawal ends (R444): no command of the model leaves an access translated and not completed. -/
def withdrawEndDo (o : GrantOp) (s : State) : State :=
  ((List.range o.count).foldl (fun s i => s.modGrant (o.first + i) (grantFrom o.part)) s).grantDone 0

/-- WITHDRAW_END (R444). -/
def execWithdrawEnd (s : State) : Host.Outcome State Fault Refusal :=
  act s fun s =>
    match s.grantOp with
    | some o => if s.holding then s else withdrawEndDo o s
    | none => s

/-! ### TLB_INV (R448) -/

/-- The entries of a translation cache that stay after an invalidation of a page, or of all. -/
def tlbKeep (page : Option Nat) (ts : List Trans) : List Trans :=
  match page with
  | none => []
  | some p => ts.filter fun t => t.page != p

/-- A write of TLB_INV_HI (R448, R465): GO starts the invalidation of one virtual page or of all. -/
def tlbInvDo (n : PartId) (hi : BitVec 32) (s : State) : State :=
  let p := s.part n.val
  if !s.pageOn n.val || p.tlbInv.isSome || !bitOf hi.toNat 31 then s
  else
    let lo := s.regF (partBase n.val + 0x6010) 31 21
    let page := if bitOf hi.toNat 30 then none else some (2048 * bitsOf hi.toNat 15 0 + lo)
    s.modPart n.val fun p => { p with tlbInv := some page, tlb := tlbKeep page p.tlb }

/-- TLB_INV (R448). -/
def execTlbInv (n : PartId) (hi : BitVec 32) (s : State) : Host.Outcome State Fault Refusal :=
  actBar (.vf n) s (tlbInvDo n hi)

/-- TLB_INV_END (R448). -/
def execTlbInvEnd (n : PartId) (s : State) : Host.Outcome State Fault Refusal :=
  act s fun s => if s.holding then s else s.modPart n.val fun p => { p with tlbInv := none }

/-! ### The floor dies (R454, R455) -/

/-- Whether the scrub of a stack runs (R454). -/
def scrubOk (st : Stack) (s : State) : Bool := s.regBit (pageBase (.floor st) + 0x40) 8

/-- The scrub reads its next block (R452 to R454, R456). -/
def scrubDo (st : Stack) (r : MemRead) (s : State) : State :=
  let b := pageBase (.floor st)
  let blk := s.regF (b + 0x44) 29 0
  let a := 2 ^ 36 * st.val + 64 * blk
  let s := if s.blockBad a then s.uncorrectable a true
    else match r with | .clean => s | .corrected => s.corrected a | .uncorrectable => s.uncorrectable a true
  let s := s.setRegF (b + 0x44) 29 0 (blk + 1)
  if blk + 1 < 2 ^ 30 then s
  else (s.count (.floor st) 0x48 1).modFloor st.val fun f => { f with corrected := [] }

/-- SCRUB_STEP (R454). -/
def execScrubStep (st : Stack) (r : MemRead) (s : State) : Host.Outcome State Fault Refusal :=
  act s fun s => if scrubOk st s then scrubDo st r s else s

/-- TARGETED_REFRESH (R455): a row's activations in a refresh window have passed ACT_LIMIT. -/
def execTargetedRefresh (st : Stack) (activations : Nat) (s : State) : Host.Outcome State Fault Refusal :=
  act s fun s =>
    if s.regF (pageBase (.floor st) + 0x60) 23 0 < activations then s.count (.floor st) 0x68 1 else s

/-! ### Model residency (R457 to R462) -/

/-- The address of residency entry i (R457). -/
def resAddr (s : State) (n i : Nat) : Nat := s.reg64 (partBase n + 0x6020) + 128 * i
/-- RS_COUNT. -/
def resCount (s : State) (n : Nat) : Nat := s.regF (partBase n + 0x6028) 10 0
/-- RESIDENT of an entry. -/
def resIn (s : State) (n a : Nat) : Bool := bitOf (s.peek32 n a) 31
/-- LOADING of an entry. -/
def resLoading (s : State) (n a : Nat) : Bool := bitOf (s.peek32 n a) 30
/-- The tail of R434 of an entry. -/
def resTail (a : Nat) : Nat := a + 0x40

/-- A residency operation ends (R458). -/
def State.resEnd (s : State) (n status signal : Nat) : State :=
  let s := s.modPart n fun p => { p with res := none }
  (s.setRegF (partBase n + 0x603C) 3 0 status).signal n signal

/-- FORMAT of an entry (R457, R462). -/
def resBad (s : State) (n i : Nat) : Bool :=
  let e := s.peek n (resAddr s n i) 128
  decide (resCount s n ≤ i) || anySet e ([(0x00, 29, 29)] ++ wordsOf 0x30 0x58) || w32At e 0 % 2 ^ 16 == 0

/-- The shape of a residency operation (R458): the checks of the entry, then its effect, which answers its status, or none
where it goes on. -/
def resRun (n : PartId) (i signal : Nat) (f : Nat → State → Option Nat × State) (s : State) : State :=
  if !decide (i < resCount s n.val) then s.resEnd n.val 1 signal
  else if !s.pdaOk n.val (resAddr s n.val i) 128 true then s.resEnd n.val 5 signal
  else if resBad s n.val i then s.resEnd n.val 1 signal
  else
    match f (resAddr s n.val i) s with
    | (some st, s) => s.resEnd n.val st signal
    | (none, s) => s

/-- A write to RES_CMD (R458, R475): discarded while BUSY; during a hold the operation waits for its end. -/
def resWrite (n : PartId) (op i signal : Nat) (f : Nat → State → Option Nat × State) (s : State) : State :=
  if !s.pageOn n.val || (s.part n.val).res.isSome then s
  else if s.holding then
    let s := s.modPart n.val fun p => { p with res := some { entry := i, signal := signal } }
    { s with terrace := { s.terrace with deferred := s.terrace.deferred ++ [.residency n op i signal] } }
  else resRun n i signal f s

/-- RESIDENT or LOADING of an entry written. -/
def State.setResBit (s : State) (n a i : Nat) (v : Bool) : State := s.poke32 n a (putBits (s.peek32 n a) i i (boolBit v))

/-- HOLD (R458). -/
def holdOp (n : Nat) (a : Nat) (s : State) : Option Nat × State :=
  if !resIn s n a then (some 2, s)
  else (some 0, (s.setEntRefs n (resTail a) (entRefs s n (resTail a) + 1)).useEntry n (resTail a))

/-- HOLD (R458). -/
def execResHold (n : PartId) (entry : Fin 1024) (signal : Fin 4096) (s : State) : Host.Outcome State Fault Refusal :=
  actBar (.vf n) s (resWrite n 3 entry.val signal.val (holdOp n.val))

/-- RELEASE (R458). -/
def releaseOp (n : Nat) (a : Nat) (s : State) : Option Nat × State :=
  if !resIn s n a || entRefs s n (resTail a) == 0 then (some 2, s)
  else (some 0, s.setEntRefs n (resTail a) (entRefs s n (resTail a) - 1))

/-- RELEASE (R458). -/
def execResRelease (n : PartId) (entry : Fin 1024) (signal : Fin 4096) (s : State) : Host.Outcome State Fault Refusal :=
  actBar (.vf n) s (resWrite n 4 entry.val signal.val (releaseOp n.val))

/-- EVICT (R458, R461). -/
def evictOp (n : Nat) (a : Nat) (s : State) : Option Nat × State :=
  if !resIn s n a then (some 2, s)
  else if entRefs s n (resTail a) != 0 then (some 4, s)
  else (some 0, s.setResBit n a 31 false)

/-- EVICT (R461). -/
def execEvict (n : PartId) (entry : Fin 1024) (signal : Fin 4096) (s : State) : Host.Outcome State Fault Refusal :=
  actBar (.vf n) s (resWrite n 2 entry.val signal.val (evictOp n.val))

/-- The runs of residency pool pages in use: first page and number. -/
def resRuns (s : State) (n : Nat) : List (Nat × Nat) :=
  (((List.range (resCount s n)).map (resAddr s n)).filter fun a => resIn s n a || resLoading s n a).map fun a =>
    ((s.peek64 n (a + 0x28) - s.reg64 (partBase n + 0x602C)) / 2 ^ 21, s.peek32 n (a + 4))

/-- The lowest run of `count` free pages of the residency pool (R459). -/
def poolRun (s : State) (n count : Nat) : Option Nat :=
  let used := resRuns s n
  if s.regF (partBase n + 0x6034) 26 0 < count then none
  else (List.range (s.regF (partBase n + 0x6034) 26 0 + 1 - count)).find? fun i =>
    used.all fun u => decide (u.2 = 0) || decide (i + count ≤ u.1) || decide (u.1 + u.2 ≤ i)

/-- A run, evicting by R435 until there is one (R459); fuel bounds the evictions. -/
def State.resRoom (s : State) (n count : Nat) : Nat → Option Nat × State
  | 0 => (none, s)
  | f + 1 =>
    match poolRun s n count with
    | some i => (some i, s)
    | none =>
      let cands := ((List.range (resCount s n)).map fun i => resTail (resAddr s n i)).filter fun t =>
        resIn s n (t - 0x40) && entRefs s n t == 0
      match evictee s n cands with
      | none => (none, s)
      | some t => (s.setResBit n (t - 0x40) 31 false).resRoom n count f

/-- Whether the layouts of a LOAD pass (R457, R459): as a turn's, but that the backing copy's GROUP is 1. -/
def loadLayoutsOk (rank : Nat) (src dst : List Byte) : Bool :=
  !badLayout src && !badLayout dst && lyGroup src == 1 && decide (rank < lyGroup dst) &&
    lyTensors src == lyTensors dst && lyLayers src == lyLayers dst &&
    (List.range (lyTensors dst)).all fun i =>
      let se := lyEntry src i
      let de := lyEntry dst i
      tRows se == tRows de && tCols se == tCols de && tLayer se == tLayer de && (tBlocks de).all (onePart se de)

/-- Both layouts of an entry as they read. -/
def State.loadLayouts (s : State) (n a : Nat) : Option (List Byte × List Byte) × State :=
  match s.readLayout n (s.peek64 n (a + 0x10)) with
  | (some src, s) =>
    match s.readLayout n (s.peek64 n (a + 0x18)) with
    | (some dst, s) => (some (src, dst), s)
    | (none, s) => (none, s)
  | (none, s) => (none, s)

/-- The start of a LOAD (R459, steps 1 to 3). -/
def loadOp (n : Nat) (i signal : Nat) (a : Nat) (s : State) : Option Nat × State :=
  if resIn s n a || resLoading s n a then (some 2, s)
  else
    match s.loadLayouts n a with
    | (none, s) => (some 5, s)
    | (some (src, dst), s) =>
      if !loadLayoutsOk (bitsOf (s.peek32 n a) 28 16) src dst then (some 1, s)
      else
        match s.resRoom n (s.peek32 n (a + 4)) (resCount s n + 1) with
        | (none, s) => (some 3, s)
        | (some r, s) =>
          let s := (s.setResBit n a 30 true).poke64 n (a + 0x28) (s.reg64 (partBase n + 0x602C) + 2 ^ 21 * r)
          (none, s.modPart n fun p => { p with res := some { entry := i, signal := signal } })

/-- LOAD (R459). -/
def execLoad (n : PartId) (entry : Fin 1024) (signal : Fin 4096) (s : State) : Host.Outcome State Fault Refusal :=
  actBar (.vf n) s (resWrite n 1 entry.val signal.val (loadOp n.val entry.val signal.val))

/-- A residency operation that waited for the end of a hold runs (R475). -/
def resDeferred (n : PartId) (op i signal : Nat) (s : State) : State :=
  let s := s.modPart n.val fun p => { p with res := none }
  resRun n i signal (match op with
    | 1 => loadOp n.val i signal
    | 2 => evictOp n.val
    | 3 => holdOp n.val
    | _ => releaseOp n.val) s

/-- The work of a LOAD in a turn's terms: its rank, BASE as destination base. -/
def loadJob (n : PartId) (s : State) (a : Nat) (src dst : List Byte) : TurnJob :=
  let desc := leBytes 4 (2 ^ 16 * bitsOf (s.peek32 n.val a) 28 16) ++ leBytes 20 0 ++ leBytes 8 (s.peek64 n.val (a + 0x28))
  newTurn n 0 0 0 desc src dst [] [] s.beatNum

/-- How a LOAD goes at a point: on, waiting for a translation, or failed with a status. -/
inductive LoadAt where
  | on
  | waits
  | failed (status : Nat)
deriving DecidableEq, Repr

/-- How a translation bears on a LOAD (R241, R447, R459). -/
def loadWalk (s : State) (n a len : Nat) (write : Bool) : LoadAt :=
  let pages := (List.range ((a + len - 1) / 2 ^ 21 + 1 - a / 2 ^ 21)).map fun i => max a (2 ^ 21 * (a / 2 ^ 21 + i))
  pages.foldl (fun out p =>
    match out, s.walk n p write with
    | .on, .ok _ _ => .on
    | .on, .fault _ => .waits
    | .on, .refused => .failed 5
    | .on, .tableUe _ => .failed 7
    | x, _ => x) .on

/-- The backing copy's block q of a tensor (R459): its offset from SRC_BASE. -/
def backingOfs (se : List Byte) (q : Nat × Nat) : Nat := tRegion se + tLocal se q.1 q.2 * tBytes se

/-- A block of the backing copy read (R459, R460). -/
def State.readBacking (s : State) (n base : Nat) (se : List Byte) (q : Nat × Nat) (src : LoadSource) :
    (LoadAt × List Byte) × State :=
  let o := backingOfs se q
  let len := tBytes se
  match src with
  | .host image => ((.on, (image.drop o).take len ++ List.replicate (len - (image.length - o)) 0#8), s)
  | .hostFailed => ((.failed 8, []), s)
  | .deviceRead r =>
    match loadWalk s n (base + o) len false with
    | .on =>
      let s := match s.pdaDpa n (base + o) with | some d => s.met r d | none => s
      match s.readPda n (base + o) len with
      | (.ok bs, s) => ((if r = .uncorrectable then .failed 7 else .on, bs), s)
      | (.ue, s) => ((.failed 7, []), s)
      | (.access, s) => ((.failed 5, []), s)
    | x => ((x, []), s)

/-- The source blocks of a destination block of a LOAD. -/
def State.backingCover (s : State) (n base : Nat) (se de : List Byte) (b : Nat × Nat) (src : LoadSource) :
    (LoadAt × List ((Nat × Nat) × List Byte)) × State :=
  let c := srcCover se de b.1 b.2
  let qs := (List.range (c.1.2 + 1 - c.1.1)).flatMap fun x => (List.range (c.2.2 + 1 - c.2.1)).map fun y => (c.1.1 + x, c.2.1 + y)
  qs.foldl (fun acc q =>
    match acc.1.1 with
    | .on =>
      match acc.2.readBacking n base se q src with
      | ((.on, bs), s) => ((.on, acc.1.2 ++ [(q, bs)]), s)
      | ((x, _), s) => ((x, []), s)
    | _ => acc) ((.on, []), s)

/-- One destination block of a LOAD lands (R459, R460): `k` is its number in the digest list. -/
def State.landLoad (s : State) (n base list : Nat) (j : TurnJob) (i k : Nat) (b : Nat × Nat) (src : LoadSource) :
    LoadAt × State :=
  match s.backingCover n base (j.se i) (j.de i) b src with
  | ((.on, cover), s) =>
    let p := blkPlace j.dstBase (j.de i) b.1 b.2
    let at_ := match p with | .dev a => loadWalk s n a (tBytes (j.de i)) true | .store _ _ => .on
    match at_ with
    | .on =>
      if !s.placeOk n (tBytes (j.de i)) p then (.failed 5, s)
      else
        let r := s.shapeBlock j (placeDie (s.dieOf n) p) i b cover
        let s := (r.2.writeBlockAt n p r.1).2
        if list ≠ 0 ∧ s.peek n (list + 16 * k) 16 ≠ td128Bytes r.1 then (.failed 6, s) else (.on, s)
    | x => (x, s)
  | ((x, _), s) => (x, s)

/-- The destination blocks of a LOAD in order of tensor and local index (R460). -/
def TurnJob.loadOrder (j : TurnJob) : List (Nat × Nat × Nat) :=
  (List.range j.tensors).flatMap fun i =>
    let bs := j.mine i
    ((List.range bs.length).flatMap fun x => bs.filter fun b => tLocal (j.de i) b.1 b.2 == x).map fun b => (i, b.1, b.2)

/-- Every block of a LOAD lands, until one fails or waits. -/
def State.loadBlocks (s : State) (n base list : Nat) (j : TurnJob) (src : LoadSource) : LoadAt × State :=
  (j.loadOrder.zip (List.range j.loadOrder.length)).foldl (fun acc x =>
    match acc.1 with
    | .on => acc.2.landLoad n base list j x.1.1 x.2 x.1.2 src
    | _ => acc) (.on, s)

/-- A LOAD succeeds (R434, R458, R459). -/
def State.loadOk (s : State) (n a : Nat) : State :=
  ((s.setResBit n a 31 true).setResBit n a 30 false |>.takeLoadSeq n (resTail a)).useEntry n (resTail a)

/-- Whether the operand fits the backing copy: host memory or device memory (R457). -/
def loadSourceOk (base : Nat) (src : LoadSource) : Bool :=
  match src with
  | .deviceRead _ => !bitOf base 63
  | .host _ => bitOf base 63
  | .hostFailed => true

/-- The end of a LOAD (R459, R460); a transfer that waits for a translation keeps it from ending. -/
def loadEndDo (n : PartId) (o : ResOp) (src : LoadSource) (s : State) : State :=
  let a := resAddr s n.val o.entry
  let base := s.peek64 n.val (a + 8)
  if s.holding || !loadSourceOk base src then s
  else
    match s.loadLayouts n.val a with
    | (none, s) => (s.setResBit n.val a 30 false).resEnd n.val 5 o.signal
    | (some (sl, dl), t) =>
      match t.loadBlocks n.val (base % 2 ^ 63) (t.peek64 n.val (a + 0x20)) (loadJob n t a sl dl) src with
      | (.on, t) => (t.loadOk n.val a).resEnd n.val 0 o.signal
      | (.failed st, t) => (t.setResBit n.val a 30 false).resEnd n.val st o.signal
      | (.waits, _) => s

/-- LOAD_END (R460). -/
def execLoadEnd (n : PartId) (src : LoadSource) (s : State) : Host.Outcome State Fault Refusal :=
  act s fun s => match (s.part n.val).res with | some o => loadEndDo n o src s | none => s

end Sys2Proof.Machine
end

