-- ==== Sys2Proof/Machine/Terraces.lean ====
section
/-! DEFINITION. Terraces: the terrace hold (R471 to R478), its push (R479), and the restore (R483). -/

namespace Sys2Proof.Machine

/-! ### Requests (R471, R490) -/

/-- TERRACE_CTL.NOW (R471): discarded during a hold. -/
def terraceNowDo (s : State) : State :=
  if s.holding then s else { s with health := { s.health with nowDue := some (if s.beat.counted then s.beat.edgeClock + 1 else 0) } }

/-- TERRACE_NOW (R471). -/
def execTerraceNow (s : State) : Host.Outcome State Fault Refusal := actBar .pf s terraceNowDo

/-- TERRACE_CTL.INVALIDATE (R490): discarded during a hold or a push. -/
def terraceInvalidateDo (s : State) : State :=
  if s.holding || s.terrace.pushing then s else { s with terrace := { s.terrace with state := .empty } }

/-- TERRACE_INVALIDATE (R490). -/
def execTerraceInvalidate (s : State) : Host.Outcome State Fault Refusal := actBar .pf s terraceInvalidateDo

/-! ### What a hold saves (R472, R478) -/

/-- The cells of a range of memory, by offset. -/
def cellsOf (s : State) (lo len : Nat) : List (Nat × Byte) :=
  (s.mem.filter fun c => decide (lo ≤ c.1) && decide (c.1 < lo + len)).map fun c => (c.1 - lo, c.2)

/-- The cells of a byte string. -/
def cellsOfBytes (bs : List Byte) : List (Nat × Byte) :=
  ((List.range bs.length).zip bs).filter fun c => c.2 != 0#8

/-- Two words the spec leaves open, as one number of 64 bits. -/
def State.freeLong (s : State) : Nat × State :=
  ((Config.freeWord s.free).toNat + 2 ^ 32 * (Config.freeWord (s.free + 1)).toNat, { s with free := s.free + 2 })

/-- An empty region of a kind. -/
def Region.new (kind : RegionKind) (part unit : Nat) (owned : Bool) : Region :=
  { kind := kind, status := .saved, part := part, owned := owned, unit := unit, length := 0, src := 0, dst := 0,
    cells := [], regs := [], vale := none, rc := none, digest := [] }

/-- A region's place in the terrace, which the spec does not give. -/
def State.placed (s : State) (r : Region) : Region × State := let d := s.freeLong; ({ r with dst := d.1 }, d.2)

/-- A region whose bytes the spec does not lay out: its length and digest are open. -/
def State.opaqueRegion (s : State) (r : Region) : Region × State :=
  let l := s.freeLong
  let d := l.2.freeWords4
  d.2.placed { r with length := l.1, digest := d.1 }

/-- The five regions of vale g (R472); those of a fenced vale are not copied (R476). -/
def State.valeRegions (s : State) (g : Nat) : List Region × State :=
  let v := s.vale g
  let new := fun k => Region.new k ((v.owner.map Fin.val).getD 0) g v.owner.isSome
  if v.fenced then
    ([.valeStore, .operandCache, .accBanks, .program, .valeState].map fun k => { new k with status := .fenced }, s)
  else
    let r1 := s.placed { new .valeStore with length := 2 ^ 25, cells := cellsOf s (storeAddr g 0) (2 ^ 25) }
    let r2 := r1.2.placed { new .operandCache with length := 2 ^ 20, cells := cellsOf s (cacheAddr g 0) (2 ^ 20) }
    let r3 := r2.2.placed { new .accBanks with length := 2 ^ 19, cells := cellsOf s (bankAddr g 0 0 0) (2 ^ 19) }
    let r4 := r3.2.placed { new .program with length := 4096, cells := cellsOf s (progAddr g 0) 4096 }
    let r5 := r4.2.opaqueRegion { new .valeState with vale := some v }
    ([r1.1, r2.1, r3.1, r4.1, r5.1], r5.2)

/-- The registers that a partition's region holds (R472): PARTCFG, tokens, step counters, those of the ratio controller. -/
def partSaved (n a : Nat) : Bool :=
  let b := partBase n
  (decide (pcfg n + 0x48 ≤ a) && decide (a < pcfg n + 0x1000)) ||
    (decide (tokenAddr n 0 ≤ a) && decide (a < tokenAddr n 4096)) ||
    (decide (b + 0x4040 ≤ a) && decide (a < b + 0x4080)) || (decide (b + 0x5080 ≤ a) && decide (a < b + 0x5098))

/-- The region of partition n's state, and that of its scale table (R472). -/
def State.partRegions (s : State) (n : Nat) : List Region × State :=
  let r := s.opaqueRegion { Region.new .partState n 0 true with
    regs := s.regs.filter fun e => partSaved n e.1, rc := some (s.part n).rc }
  let len := 128 * s.regF (pcfg n + 0x7C) 16 0
  let a := s.reg64 (pcfg n + 0x80)
  let q := (r.2.placed { Region.new .scaleTable n 0 true with length := len, cells := cellsOfBytes (s.peek n a len) })
  ([r.1, q.1], q.2)

/-- The terrace list of partition n as it reads (R479): entries of 32 bytes. -/
def terraceList (s : State) (n : Nat) : List (List Byte) :=
  let a := s.reg64 (pcfg n + 0xD0)
  (List.range (min (s.regF (pcfg n + 0xD8) 8 0) 256)).map fun i => s.peek n (a + 32 * i) 32

/-- The regions of a terrace list (R479); `used`: the bytes of COPY regions so far. -/
def State.listRegions (s : State) (n : Nat) : List (List Byte) → Nat → (List Region × Nat) × State
  | [], used => (([], used), s)
  | e :: es, used =>
    let k := bitsOf (w32At e 0) 3 0
    let a := w64At e 8
    let len := w64At e 0x10
    if k = 1 then
      let fits := decide (used + len ≤ 2 ^ 27)
      let r := Region.new .copy n 0 true
      let p :=
        if fits then
          match s.readPda n a len with
          | (.ok bs, s) => s.placed { r with length := len, src := a, cells := cellsOfBytes bs }
          | (_, s) => s.placed { r with length := len, src := a, status := .ueSource }
        else ({ r with length := len, src := a, status := .truncated }, s)
      let q := p.2.listRegions n es (if fits then used + len else used)
      ((p.1 :: q.1.1, q.1.2), q.2)
    else if k = 2 then
      let q := s.listRegions n es used
      (({ Region.new .reference n 0 true with length := len, src := a } :: q.1.1, q.1.2), q.2)
    else s.listRegions n es used

/-- The partitions that are ACTIVE. -/
def activeParts (s : State) : List Nat := (List.range 16).filter fun n => (s.part n).mode == .active

/-- Every region of a terrace (R472, R478). The order of the index is not given: vales ascending, then partitions ascending, each
with its state, its scale table and its list. DESIGN CHOICE. -/
def State.terraceRegions (s : State) : List Region × State :=
  let vs := (List.range 128).foldl (fun (acc : List Region × State) g =>
    let r := acc.2.valeRegions g; (acc.1 ++ r.1, r.2)) ([], s)
  let ps := (activeParts s).foldl (fun (acc : (List Region × Nat) × State) n =>
    let r := acc.2.partRegions n
    let q := r.2.listRegions n (terraceList s n) acc.1.2
    ((acc.1.1 ++ r.1 ++ q.1.1, q.1.2), q.2)) ((vs.1, 0), vs.2)
  (ps.1.1, ps.2)

/-- The command entries (R477, R478): every command in flight. -/
def terraceCommands (s : State) : List (List Byte) :=
  s.inFlight.map fun e =>
    leBytes 4 e.2.id ++ leBytes 4 (e.2.part.val + 2 ^ 4 * e.2.job + 2 ^ 9 * e.1 + 2 ^ 18 * e.2.vale +
      boolBit e.2.dispatched.isSome * 2 ^ 25) ++ leBytes 8 0

/-- BOUND_REV, CG_REV, TABLE_REV, FUU_REV (R477). -/
def revisions (s : State) : List Nat :=
  [Config.boundRev.toNat, s.regF 0xA4 15 0, s.regF (pageBase (.elem 0) + 0x48) 15 0, s.regF (pageBase (.fuu 0) + 0x44) 15 0]

/-! ### The hold (R473 to R476) -/

/-- Whether a hold starts now (R471): an update has asked for it, or the beat edge after a NOW has come. -/
def holdStartOk (s : State) : Bool :=
  !s.holding && (s.terrace.riskDue || s.health.nowDue.any fun b => s.beat.counted && decide (b ≤ s.beat.edgeClock))

/-- A hold starts (R473, R477): everything stops, the terrace is overwritten. -/
def holdStartDo (s : State) : State :=
  let risk := s.terrace.riskDue
  let r := s.terraceRegions
  let t := s.terrace
  let u : Terrace :=
    { t with state := .writing, cause := if risk then 1 else 2, seq := t.seq + 1#32, beatStart := s.beat.num,
             beatEnd := 0#64, risk := s.regF 0x103044 15 0, revs := revisions s,
             parts := ((activeParts s).map (2 ^ ·)).foldl (· + ·) 0, regions := r.1, commands := terraceCommands s,
             riskDue := false, hold := some s.clock, pushing := false }
  let s := { r.2 with terrace := u, health := { r.2.health with nowDue := none } }
  (s.setReg64 0x1030C8 s.beat.num.toNat).raise .health 4

/-- TERRACE_HOLD_START (R473). -/
def execTerraceHoldStart (s : State) : Host.Outcome State Fault Refusal :=
  act s fun s => if holdStartOk s then holdStartDo s else s

/-- A region as the hold leaves it (R476): what its save or its write met. -/
def badRegion (bad : List (Nat × RegionFault)) (i : Nat) (r : Region) : Region :=
  if r.kind = .reference ∨ r.status ≠ .saved then r
  else
    match bad.find? fun e => e.1 == i with
    | some (_, .source) => { r with status := .ueSource }
    | some (_, .dest) => { r with status := .ueDest }
    | none => r

/-- The cause of the fence of a vale whose region could not be read (R476, R485); none for a region of no vale. -/
def regionFence (r : Region) : Option (Nat × Nat) :=
  if r.status ≠ .ueSource then none
  else
    match r.kind with
    | .valeStore => some (r.unit, 1)
    | .accBanks => some (r.unit, 2)
    | .operandCache => some (r.unit, 3)
    | .valeState => some (r.unit, 4)
    | .program => some (r.unit, 5)
    | _ => none

/-- Metered commands whose window overlaps the hold get the void cause TERRACE (R61, R475). -/
def State.voidHeld (s : State) (lo hi : Nat) : State :=
  s.inFlight.foldl (fun s e =>
    if s.metered e.2.part.val && e.2.admitted && e.2.window.any fun w => decide (w.1 ≤ hi) && decide (lo < w.2) then
      s.modCmd e.1 fun c => c.addVoid 6
    else s) s

/-- What a hold put off takes effect (R475). -/
def State.applyDeferred (s : State) : Deferred → State
  | .prg n i code => prgDo n i code s
  | .resume n i => faultResumeDo n i s
  | .finish n i => faultEndDo n i s
  | .residency n op i signal => resDeferred n op i signal s

/-- Whether a push follows a hold (R479). -/
def pushDue (s : State) : Bool :=
  s.reg 0x1030DC != 0#32 && s.terrace.regions.any fun r => r.kind == .reference

/-- A hold ends (R473 to R476, R479). -/
def holdEndDo (bad : List (Nat × RegionFault)) (start : Nat) (s : State) : State :=
  let t := s.terrace
  let rs := t.regions.mapIdx (badRegion bad)
  let s := { s with terrace := { t with regions := rs, state := .valid, beatEnd := s.beat.num, hold := none } }
  let s := (s.setReg 0x1030D0 (BitVec.ofNat 32 (s.clock - start))).raise .health 8
  let s := if rs.any fun r => r.status == .ueSource || r.status == .ueDest then s.moraine .holdEnded .health [] else s
  let s := (rs.filterMap regionFence).foldl (fun s e => s.fenceLater e.1 e.2) s
  let due := s.terrace.fencesDue
  let s := { s with terrace := { s.terrace with fencesDue := [] } }
  let s := (List.range 144).foldl (fun s u => match due.find? fun e => e.1 == u with
    | some e => s.fenceUnit e.1 e.2
    | none => s) s
  let s := s.voidHeld t.beatStart.toNat s.beatNum
  let s := { s with terrace := { s.terrace with deferred := [] } }
  let s := t.deferred.foldl State.applyDeferred s
  if pushDue s then { s with terrace := { s.terrace with pushing := true } } else s

/-- TERRACE_HOLD_END (R473). -/
def execTerraceHoldEnd (bad : List (Nat × RegionFault)) (s : State) : Host.Outcome State Fault Refusal :=
  act s fun s => match s.terrace.hold with | some c => holdEndDo bad c s | none => s

/-! ### The push (R479) -/

/-- The regions of a terrace pushed in index order, from an offset of the host buffer on. -/
def State.pushRegions (s : State) (host size : Nat) : List Region → Nat → List Region × State
  | [], _ => ([], s)
  | r :: rs, o =>
    if r.kind ≠ .reference then let q := s.pushRegions host size rs o; (r :: q.1, q.2)
    else
      match (if o + r.length ≤ size then s.readPda r.part r.src r.length else (.access, s)) with
      | (.ok bs, s) =>
        let q := (s.emit (.hostWrite .pf (s.pasid 0) (s.fn 0).relaxed (host + o) bs)).pushRegions host size rs (o + r.length)
        ({ r with status := .pushed, dst := o, digest := td128 bs } :: q.1, q.2)
      | (_, s) => let q := s.pushRegions host size rs o; ({ r with status := .pushFailed } :: q.1, q.2)

/-- Whether a push can end now. -/
def pushEndOk (s : State) : Bool := s.terrace.pushing && !s.holding

/-- The push ends (R479). -/
def pushEndDo (s : State) : State :=
  let q := s.pushRegions (s.reg64 0x1030D4) (2 ^ 20 * s.regF 0x1030DC 31 0) s.terrace.regions 0
  let s := { q.2 with terrace := { q.2.terrace with regions := q.1, pushing := false } }
  s.raise .health 16

/-- TERRACE_PUSH_END (R479). -/
def execTerracePushEnd (s : State) : Host.Outcome State Fault Refusal :=
  act s fun s => if pushEndOk s then pushEndDo s else s

/-! ### The restore (R483) -/

/-- RESTORE_STAT written. -/
def State.restoreStat (s : State) (result parts : Nat) : State := s.setReg 0x1030E4 (fields [(27, 24, result), (15, 0, parts)])

/-- TERRACE_CTL.RESTORE (R483): accepted only while every partition is FREE. -/
def restoreDo (s : State) : State :=
  if s.holding || s.terrace.restoring then s
  else if (List.range 16).all fun n => (s.part n).mode == .free then
    { s with terrace := { s.terrace with restoring := true } }
  else s.restoreStat 3 0

/-- RESTORE (R483). -/
def execRestore (s : State) : Host.Outcome State Fault Refusal := actBar .pf s restoreDo

/-- The regions of partition n that a terrace copied. -/
def copiedRegions (t : Terrace) (n : Nat) : List Region :=
  t.regions.filter fun r => r.part == n && r.owned && r.kind != .reference

/-- The vales of partition n in a terrace. -/
def terraceVales (t : Terrace) (n : Nat) : List Nat :=
  ((copiedRegions t n).filter fun r => r.kind == .valeStore).map (·.unit)

/-- Whether partition n can be restored (R483). -/
def restorable (s : State) (n : Nat) : Bool :=
  ((copiedRegions s.terrace n).all fun r => r.status == .saved) && (s.part n).mode == .free &&
    (terraceVales s.terrace n).all fun g => !(s.vale g).fenced && (s.vale g).owner.isNone

/-- Cells put back at a memory address. -/
def State.putCells (s : State) (lo len : Nat) (cs : List (Nat × Byte)) : State :=
  cs.foldl (fun s c => s.setByte (lo + c.1) c.2) (s.clearRange lo (lo + len))

/-- A region written back (R483). Of the vale state, what a command not re-run leaves: element registers and column sums.
DEDUCED. -/
def State.putRegion (s : State) (r : Region) : State :=
  let g := r.unit
  match r.kind with
  | .valeStore => s.putCells (storeAddr g 0) r.length r.cells
  | .operandCache => s.putCells (cacheAddr g 0) r.length r.cells
  | .accBanks => s.putCells (bankAddr g 0 0 0) r.length r.cells
  | .program => s.putCells (progAddr g 0) r.length r.cells
  | .valeState =>
    match r.vale with
    | none => s
    | some v => s.modVale g fun w =>
        { w with set := v.set, elem := { w.elem with lanes := v.elem.lanes },
                 arrays := v.arrays.map fun a => (a.1, { ArraySt.reset with colSums := a.2.colSums }) }
  | .partState => match r.rc with | some x => s.modPart r.part fun p => { p with rc := x } | none => s
  | .scaleTable => s.poke r.part (s.reg64 (pcfg r.part + 0x80)) (regionBytes r)
  | .copy => s.poke r.part r.src (regionBytes r)
  | .reference => s

/-- The registers of partition n's region put back, its queues at their reset values (R483). -/
def State.putPartRegs (s : State) (n : Nat) (saved : List (Nat × Word)) : State :=
  let b := partBase n
  let s := s.clearRegs (pcfg n + 0x48) (pcfg n + 0x1000)
  let s := (List.range 32).foldl (fun s j => s.clearRegs (b + 0x1000 + 0x40 * j) (b + 0x1014 + 0x40 * j)) s
  let s := [0x2000, 0x3000, 0x4000, 0x5000].foldl (fun s o => s.clearRegs (b + o) (b + o + 0x14)) s
  let s := (s.clearRegs (b + 0x4040) (b + 0x4080)).clearRegs (b + 0x5080) (b + 0x5098)
  saved.foldl (fun s e => s.setReg e.1 e.2) s

/-- Partition n after the check of its beat table (R483): created and its regions put back, or left as it was. -/
def State.restoreWith (s : State) (n : PartId) (rs : List Region) (gs : List Nat) (saved : List (Nat × Word)) :
    Except Nat BeatTable × State → Bool × State
  | (.error _, _) => (false, s)
  | (.ok b, t) =>
    let t := t.createPart n gs b
    let t := saved.foldl (fun t e => t.setReg e.1 e.2) t
    (true, rs.foldl State.putRegion t)

/-- Partition n restored (R279, R483): it enters ACTIVE as CREATE does, which a failing beat table prevents. -/
def State.restorePart (s : State) (n : PartId) : Bool × State :=
  let rs := copiedRegions s.terrace n.val
  let gs := terraceVales s.terrace n.val
  let saved := (rs.map (·.regs)).flatten
  s.restoreWith n rs gs saved ((s.putPartRegs n.val saved).checkedTable n.val (fun g => gs.contains g) none)

/-- The restore of every partition in turn: the mask of those restored (R483). -/
def State.restoreAll (s : State) : Nat × State :=
  (List.range 16).foldl (fun (acc : Nat × State) n =>
    if bitOf s.terrace.parts n && restorable acc.2 n then
      let r := acc.2.restorePart (Fin.ofNat 16 n)
      (if r.1 then acc.1 + 2 ^ n else acc.1, r.2)
    else acc) (0, s)

/-- The restore ends (R483). -/
def restoreEndDo (s : State) : State :=
  let s := { s with terrace := { s.terrace with restoring := false } }
  let out : (Nat × Nat) × State :=
    if s.terrace.state ≠ .valid then ((1, 0), s)
    else if s.terrace.revs ≠ revisions s then ((2, 0), s)
    else let r := s.restoreAll; ((if r.1 = s.terrace.parts then 0 else 4, r.1), r.2)
  let s := (out.2.restoreStat out.1.1 out.1.2).raise .health 32
  s.moraine .restoreDone .health [(s.reg 0x1030E4).toNat]

/-- RESTORE_END (R483). -/
def execRestoreEnd (s : State) : Host.Outcome State Fault Refusal :=
  act s fun s => if s.terrace.restoring && !s.holding then restoreEndDo s else s

end Sys2Proof.Machine
end

