-- ==== Sys2Proof/Machine/Host.lean ====
section
/-! DEFINITION. Host: the device-memory aperture (R495, R496), resets from the host side (R497, R498, R512), MSI-X masking
(R500) and ATS invalidation (R503). -/

namespace Sys2Proof.Machine

/-! ### BAR2 (R495, R496) -/

/-- The DPA that offset x of BAR2 addresses. -/
def barDpa (s : State) (x : Nat) : Nat := s.reg64 0x100 + x

/-- The 64-byte blocks of grantable memory that n bytes from a DPA touch. -/
def barBlocks (a n : Nat) : List Nat :=
  if n = 0 then []
  else ((List.range ((a + n - 1) / 64 + 1 - a / 64)).map (· + a / 64)).filter fun b => dpaGrantable (b * 64)

/-- A read of the aperture: zeros outside grantable memory; EP set where it meets an uncorrectable block, and what its data
then is is open. -/
def bar2Read (a n : Nat) (s : State) : State :=
  match (barBlocks a n).filter fun b => s.blockBad (b * 64) with
  | [] => s.emit (.bar2Data ((List.range n).map fun i => if dpaGrantable (a + i) then s.byte (a + i) else 0#8) false)
  | bad =>
    let s := bad.foldl (fun s b => s.uncorrectable (b * 64) false) s
    let f := s.freeBytes n
    f.2.emit (.bar2Data f.1 true)

/-- A write of the aperture, block by block; bytes outside grantable memory are discarded. Fuel bounds the blocks. -/
def bar2Write : Nat → Nat → List Byte → State → State
  | 0, _, _, s => s
  | _ + 1, _, [], s => s
  | f + 1, a, bs, s =>
    let k := 64 - a % 64
    bar2Write f (a + k) (bs.drop k) (if dpaGrantable a then (s.writeBlock a (bs.take k)).2 else s)

/-- A BAR2 access; what reaches past the BAR's 64 GiB is no access to it. -/
def bar2Do (ofs : Nat) (op : Bar2Op) (s : State) : State :=
  match op with
  | .read n => if ofs + n ≤ 2 ^ 36 then bar2Read (barDpa s ofs) n s else s
  | .write bs => if ofs + bs.length ≤ 2 ^ 36 then bar2Write (bs.length / 64 + 2) (barDpa s ofs) bs s else s

/-- BAR2_ACCESS (R495). -/
def execBar2Access (ofs : Nat) (op : Bar2Op) (s : State) : Host.Outcome State Fault Refusal := actBar .pf s (bar2Do ofs op)

/-! ### Resets from the host side (R497, R498, R512) -/

/-- Every host transfer of partition n ends, as Response Failure ends one (R242, R497). -/
def State.endHostXfers (s : State) (n : Nat) : State :=
  (s.ofPart n).foldl (fun s e =>
    (List.range (e.2.fetch.length + e.2.store.length)).foldl (fun s x =>
      match e.2.xferAt x with
      | some t => if xHost (e.2.entry x) && t.started && !t.done && !t.zeros then s.endXfer e.1 x else s
      | none => s) s) s

/-- A function's configuration space and MSI-X table reset (R497, R498). -/
def State.resetFn (s : State) (f : Nat) : State :=
  let s := s.modFn f fun _ => FnState.reset
  { s with msix := s.msix.filter fun e => e.1 / 4096 != f }

/-- The reset of the function of partition n (R497). -/
def State.flrVf (s : State) (n : Nat) : State :=
  let s := if (s.part n).mode = .active then s.beginDestroy n else s
  let s := (s.endHostXfers n).modPart n fun p => { p with prgs := [], cqMessage := false, fqMessage := false }
  s.resetFn (n + 1)

/-- VF_FLR (R497). -/
def execVfFlr (n : PartId) (s : State) : Host.Outcome State Fault Refusal := act s fun s => ((s.flrVf n.val).hifEvent 1).resetVdm

/-- The host interface resets (R498): every VF as by its FLR, AP_BASE, the PF's MSI-X table, and a bit of HIF_EVT; the
VDM endpoint resets, and an update's transfer ends (R535, R545). -/
def State.resetHost (s : State) (bit : Nat) : State :=
  let s := (List.range 16).foldl State.flrVf s
  let s := { s with msix := s.msix.filter fun e => e.1 / 4096 != 0 }
  ((((s.setReg 0x100 0#32).setReg 0x104 0#32).hifEvent bit).resetVdm).endTransfer

/-- PF_FLR (R498). -/
def execPfFlr (s : State) : Host.Outcome State Fault Refusal :=
  act s fun s => (s.modFn 0 fun _ => FnState.reset).resetHost 4

/-- HOT_RESET (R498). -/
def execHotReset (s : State) : Host.Outcome State Fault Refusal :=
  act s fun s => (s.modFn 0 fun _ => FnState.reset).resetHost 4

/-- The host link goes down (R498, R512). -/
def linkDownDo (s : State) : State :=
  let s := { s with boot := { s.boot with hostTrained := s.boot.hostTrained + 1 } }
  (s.modFn 0 fun _ => FnState.reset).resetHost 2

/-- PCIE_LINK_DOWN (R498). -/
def execPcieLinkDown (s : State) : Host.Outcome State Fault Refusal := act s linkDownDo

/-- PERST (R512): as a link-down event. -/
def execPerst (s : State) : Host.Outcome State Fault Refusal := act s linkDownDo

/-! ### MSI-X and ATS (R500, R503) -/

/-- The vectors of a function (R499). -/
def vectorsOf (f : Nat) : Nat := if f = 0 then 256 else 112

/-- A vector whose PBA bit is set sends its message if nothing masks it (R500). -/
def State.sendPending (s : State) (f v : Nat) : State :=
  let e := s.msixOf f v
  let st := s.fn f
  if e.pending && !e.masked && !st.fnMask && st.msixOn && !st.d3 then
    (s.modMsix f v fun e => { e with pending := false }).sendMsix f v
  else s

/-- A vector's mask bit is cleared (R500). -/
def msixUnmaskDo (fn : Fn) (v : Nat) (s : State) : State :=
  if v < vectorsOf (fnNum fn) then (s.modMsix (fnNum fn) v fun e => { e with masked := false }).sendPending (fnNum fn) v
  else s

/-- MSIX_UNMASK (R500). -/
def execMsixUnmask (fn : Fn) (vector : Nat) (s : State) : Host.Outcome State Fault Refusal :=
  actBar fn s (msixUnmaskDo fn vector)

/-- An ATS Invalidation Request (R503): no request of the model stays issued, so its completion follows. -/
def atsInvalidateDo (fn : Fn) (pasid page pages : Nat) (s : State) : State :=
  let f := fnNum fn
  if !(s.fn f).ats then s
  else
    (s.modFn f fun st => { st with atsCache := st.atsCache.filter fun e =>
      !(e.1 == pasid && decide (page ≤ e.2) && decide (e.2 < page + pages)) }).emit (.invalidationDone fn pasid page)

/-- ATS_INVALIDATION (R503). -/
def execAtsInvalidation (fn : Fn) (pasid page pages : Nat) (s : State) : Host.Outcome State Fault Refusal :=
  act s (atsInvalidateDo fn pasid page pages)

end Sys2Proof.Machine
end

