-- ==== Sys2Proof/Machine/Census.lean ====
section
/-! DEFINITION. Census: the fabric census (R521 to R529). The layout of a census flit is not in the spec: what a message says is
the command's operand, and its flit must have come. -/

namespace Sys2Proof.Machine

/-! ### Messages -/

/-- The links in state UP. -/
def linksUp (s : State) : List Nat := (List.range 32).filter s.linkUp

/-- The number of the census this device holds (R521). -/
def censusNum (s : State) : BitVec 32 := s.reg 0x154

/-- A change of the census. -/
def State.modCensus (s : State) (f : Census → Census) : State := { s with census := f s.census }

/-- FABRIC_STAT.STATE (R532). -/
def State.fabricState (s : State) (x : Nat) : State := s.setRegF 0x14C 3 0 x

/-- A member or a device left out reports where the census took it (R529). -/
def State.fabricEvent (s : State) (x : Nat) : State := (s.fabricState x).raise .device 8

/-- A census message that has come on link k is read; a device outside READY takes no part in a census (R518, R521). -/
def onCensus (k : Link) (f : State → State) (s : State) : State :=
  match s.readFlit k.val 4 16 with
  | (some _, s) => if s.ready then f s else s
  | (none, s) => s

/-- A message of the census that this device holds; another is discarded (R521). -/
def ofCensus (num : BitVec 32) (f : State → State) (s : State) : State := if num = censusNum s then f s else s

/-- A message goes down the gather links toward a serial, by the link its REPORT came on (R521). -/
def State.sendDown (s : State) (serial : BitVec 64) (m : CensusMsg) : State :=
  match s.census.routes.find? (·.1 == serial) with
  | some r => s.sendCensus r.2 m
  | none => s

/-- A message goes on toward the headwater (R521). -/
def State.sendUp (s : State) (m : CensusMsg) : State :=
  match s.census.gatherLink with
  | some g => s.sendCensus g m
  | none => s

/-! ### CALL (R521, R527, R528) -/

/-- This device's REPORT (R521). -/
def ownReport (s : State) : CensusReport :=
  { serial := Config.serial, bootStat := viewReg s 0x140,
    links := (List.range 32).map fun k =>
      { link := Fin.ofNat 32 k, state := BitVec.ofNat 4 (linkCode (s.link k)),
        partnerSerial := (s.link k).partnerSerial, partnerLink := (s.link k).partnerLink } }

/-- Whether the headwater may start a census (R521, R527). -/
def censusStartOk (s : State) : Bool := s.ready && s.boot.headwater && !s.census.running

/-- The headwater starts a census (R521, R532). -/
def censusStartDo (s : State) : State :=
  let num := censusNum s + 1#32
  let s := s.setReg 0x154 num
  let s := s.modCensus fun c => { Census.reset with
    running := true, gathering := true, startClock := s.clock, expect := s.regF 0x15C 13 0, window := s.regF 0x160 15 0,
    reports := [ownReport s], calls := c.calls, table := c.table }
  let s := s.fabricState 1
  (linksUp s).foldl (fun s k => s.sendCensus k (.call num Config.serial)) s

/-- CENSUS_START (R527). -/
def execCensusStart (s : State) : Host.Outcome State Fault Refusal :=
  actBar .pf s fun s => if censusStartOk s then censusStartDo s else s

/-- The headwater's first census starts 3,500 ms after the release, or at READY (R521). -/
def autoStartOk (s : State) : Bool := censusStartOk s && decide (3500 ≤ s.bootMs) && censusNum s == 0#32

/-- CENSUS_AUTO_START (R521). -/
def execCensusAutoStart (s : State) : Host.Outcome State Fault Refusal :=
  act s fun s => if autoStartOk s then censusStartDo s else s

/-- CALL goes on, on every UP link but the one it came on. -/
def State.forwardCall (s : State) (k : Nat) (m : CensusMsg) : State :=
  ((linksUp s).filter (· != k)).foldl (fun s j => s.sendCensus j m) s

/-- Two headwaters (R528, R529). -/
def State.censusConflict (s : State) : State :=
  (({ s with census := { s.census with conflict := true } } : State).fabricEvent 6).moraine .censusConflict .device []

/-- A device takes the first CALL of a census (R521). -/
def State.takeCall (s : State) (k : Nat) (num : BitVec 32) (m : CensusMsg) : State :=
  let s := s.setReg 0x154 num
  let s := s.modCensus fun c => { Census.reset with calls := c.calls, gatherLink := some k }
  let s := (s.fabricState 1).forwardCall k m
  (s.sendCensus k (.report num (ownReport s))).fabricState 2

/-- A CALL (R521, R528): this headwater's own that came back, and one that has come before, are discarded. -/
def callDo (k : Link) (num : BitVec 32) (head : BitVec 64) (s : State) : State :=
  if (s.boot.headwater && head == Config.serial) || s.census.calls.contains (num, head) then s
  else
    let two := s.boot.headwater || s.census.calls.any (·.2 != head)
    let s := s.modCensus fun c => { c with calls := c.calls ++ [(num, head)] }
    if two then (if s.boot.headwater then s else s.forwardCall k.val (.call num head)).censusConflict
    else s.takeCall k.val num (.call num head)

/-- CENSUS_CALL (R521). -/
def execCensusCall (k : Link) (num : BitVec 32) (head : BitVec 64) (s : State) : Host.Outcome State Fault Refusal :=
  act s (onCensus k (callDo k num head))

/-! ### GATHER (R521, R522) -/

/-- A REPORT (R521, R522): the headwater accepts it until the close; another device sends it on. -/
def reportDo (k : Link) (num : BitVec 32) (r : CensusReport) (s : State) : State :=
  let s := s.modCensus fun c => { c with routes := (c.routes.filter (·.1 != r.serial)) ++ [(r.serial, k.val)] }
  if s.boot.headwater then
    if s.census.gathering && !s.census.reports.any (·.serial == r.serial) then
      s.modCensus fun c => { c with reports := c.reports ++ [r] }
    else s
  else s.sendUp (.report num r)

/-- CENSUS_REPORT (R521). -/
def execCensusReport (k : Link) (num : BitVec 32) (r : CensusReport) (s : State) : Host.Outcome State Fault Refusal :=
  act s (onCensus k (ofCensus num (reportDo k num r)))

/-- Whether the gather closes (R522). -/
def gatherCloseOk (s : State) : Bool :=
  s.census.gathering &&
    ((s.census.expect != 0 && decide (s.census.expect ≤ s.census.reports.length)) ||
      decide (2100000 * s.census.window ≤ s.clock - s.census.startClock))

/-! ### The IDs (R523) -/

/-- A device the headwater's search has reached (R523): its REPORT, its ID, its depth, its census parent link, and the
device and the link it was reached from. -/
structure Reached where
  report : CensusReport
  id : Nat
  depth : Nat
  parentLink : Nat
  parent : BitVec 64
  out : Nat
deriving DecidableEq, Repr

/-- What a REPORT says of link k where it is UP. -/
def upEnd (r : CensusReport) (k : Nat) : Option ReportLink := r.links.find? fun l => l.link.val == k && l.state == 6#4

/-- The partner on link k of a device where that link is an edge, with the partner's end (R523). -/
def edgeAt (rs : List CensusReport) (d : CensusReport) (k : Nat) : Option (CensusReport × Nat) :=
  match upEnd d k with
  | none => none
  | some l =>
    match rs.find? fun r => r.serial == l.partnerSerial with
    | none => none
    | some e =>
      match upEnd e l.partnerLink.toNat with
      | none => none
      | some b => if b.partnerSerial = d.serial ∧ b.partnerLink.toNat = k then some (e, l.partnerLink.toNat) else none

/-- The search looks along link k of a device it has taken (R523). -/
def visit (rs : List CensusReport) (d : Reached) (fs : List Reached) (k : Nat) : List Reached :=
  match edgeAt rs d.report k with
  | none => fs
  | some e =>
    if fs.any fun f => f.report.serial == e.1.serial then fs
    else fs ++ [{ report := e.1, id := fs.length, depth := d.depth + 1, parentLink := e.2, parent := d.report.serial, out := k }]

/-- The devices in the order of their IDs (R523): the headwater first; each is taken in turn. -/
def assignIds (rs : List CensusReport) (head : CensusReport) : List Reached :=
  (List.range rs.length).foldl (fun fs i => match fs[i]? with
    | none => fs
    | some d => (List.range 32).foldl (visit rs d) fs)
    [{ report := head, id := 0, depth := 0, parentLink := 0, parent := head.serial, out := 0 }]

/-- The serials that a partner named (R523). -/
def namedSerials (rs : List CensusReport) : List (BitVec 64) :=
  (rs.flatMap fun r => (r.links.filter fun l => l.partnerSerial != 0#64).map (·.partnerSerial)).eraseDups.filter fun x =>
    !rs.any (·.serial == x)

/-- The census table (R523): what reported, then what a partner named. -/
def censusTable (rs : List CensusReport) (fs : List Reached) : List CensusEntry :=
  (rs.map fun r => match fs.find? fun f => f.report.serial == r.serial with
    | some f => { serial := r.serial, reported := true, member := true, depth := f.depth, id := f.id }
    | none => { serial := r.serial, reported := true, member := false, depth := 0, id := 0 }) ++
  (namedSerials rs).map fun x => { serial := x, reported := false, member := false, depth := 0, id := 0 }

/-- This device's own census fields (R523, R532). -/
def State.takeId (s : State) (a : CensusAssign) : State :=
  let s := (s.setReg 0x148 (fields [(31, 31, 1), (12, 0, a.id.toNat)])).setReg 0x150 (fields [(13, 0, a.size.toNat)])
  (s.setRegF 0x14C 28 16 a.depth.toNat).setRegF 0x14C 12 8 a.parentLink.toNat

/-- The ASSIGN of a device (R523). -/
def assignOf (fs : List Reached) (f : Reached) : CensusAssign :=
  { serial := f.report.serial, id := BitVec.ofNat 13 f.id, depth := BitVec.ofNat 13 f.depth,
    parentLink := BitVec.ofNat 5 f.parentLink, size := BitVec.ofNat 14 fs.length }

/-- LEFT_OUT goes to every UP link of the headwater to a device that is no member (R521). -/
def State.leaveOut (s : State) (fs : List Reached) : State :=
  ((linksUp s).filter fun k => !fs.any fun f => f.report.serial == (s.link k).partnerSerial).foldl
    (fun s k => s.sendCensus k (.leftOut (censusNum s))) s

/-- The headwater is ready with its fabric: READY goes down to every member (R521). -/
def State.fabricReady (s : State) : State :=
  let s := (s.fabricEvent 4).modCensus fun c => { c with running := false }
  (s.census.table.filter fun e => e.member && e.serial != Config.serial).foldl
    (fun s e => s.sendDown e.serial (.ready (censusNum s) true e.serial)) s

/-- Whether every member has sent READY. -/
def allReady (s : State) : Bool :=
  s.census.table.all fun e => !e.member || e.serial == Config.serial || s.census.ready.contains e.serial

/-- The headwater assigns the IDs (R521, R523, R524). -/
def State.assignAll (s : State) : State :=
  let rs := s.census.reports
  let fs := assignIds rs (rs.headD (ownReport s))
  let kids := (fs.filter fun f => f.id != 0 && f.parent == Config.serial).map (·.out)
  let s := s.modCensus fun c => { c with table := censusTable rs fs, children := kids }
  let own : CensusAssign := ⟨Config.serial, 0#13, 0#13, 0#5, BitVec.ofNat 14 fs.length⟩
  let s := (s.takeId own).fabricState 3
  let s := (fs.drop 1).foldl (fun s f => s.sendDown f.report.serial (.assign (censusNum s) (assignOf fs f))) s
  let s := { s with beat := { s.beat with origin := true } }
  (kids.foldl State.queueBeat s).leaveOut fs

/-- The gather closes (R522, R528): a headwater in conflict sends no ASSIGN. -/
def gatherCloseDo (s : State) : State :=
  let s := s.modCensus fun c => { c with gathering := false }
  if s.census.conflict then
    s.modCensus fun c => { c with running := false, table := censusTable c.reports [] }
  else
    let s := s.assignAll
    if allReady s then s.fabricReady else s

/-- GATHER_CLOSE (R522). -/
def execGatherClose (s : State) : Host.Outcome State Fault Refusal :=
  act s fun s => if gatherCloseOk s then gatherCloseDo s else s

/-! ### ASSIGN, LEFT_OUT, READY (R521, R523 to R525, R529) -/

/-- A choice for each link of a list, by the free values; which links lead to census children, or to devices that are no
members, is nowhere told to a member. -/
def State.chooseLinks (s : State) : List Nat → List Nat × State
  | [] => ([], s)
  | k :: ks =>
    let b := s.freeBool
    let r := b.2.chooseLinks ks
    (if b.1 then k :: r.1 else r.1, r.2)

/-- A member takes its ASSIGN (R523); which of its links lead to children or to devices left out is open. -/
def State.takeAssign (s : State) (a : CensusAssign) : State :=
  let s := (s.takeId a).fabricState 3
  let r := s.chooseLinks ((linksUp s).filter (· != a.parentLink.toNat))
  let q := r.2.chooseLinks ((linksUp s).filter fun k => k != a.parentLink.toNat && !r.1.contains k)
  let s := q.2.modCensus fun c => { c with children := r.1 }
  (q.1.foldl (fun s k => s.sendCensus k (.leftOut (censusNum s))) s).sendReady

/-- An ASSIGN (R523): this device's own, or one that goes on. -/
def assignDo (num : BitVec 32) (a : CensusAssign) (s : State) : State :=
  if s.boot.headwater then s
  else if a.serial = Config.serial then s.takeAssign a else s.sendDown a.serial (.assign num a)

/-- CENSUS_ASSIGN (R523). -/
def execCensusAssign (k : Link) (num : BitVec 32) (a : CensusAssign) (s : State) : Host.Outcome State Fault Refusal :=
  act s (onCensus k (ofCensus num (assignDo num a)))

/-- LEFT_OUT (R529): it leaves a member as it is, and a device left out already. -/
def leftOutDo (s : State) : State :=
  let x := s.regF 0x14C 3 0
  if s.boot.headwater || (3 ≤ x && x ≤ 5) then s else (s.fabricEvent 5).moraine .leftOut .device []

/-- CENSUS_LEFT_OUT (R529). -/
def execCensusLeftOut (k : Link) (num : BitVec 32) (s : State) : Host.Outcome State Fault Refusal :=
  act s (onCensus k (ofCensus num leftOutDo))

/-- READY on its way up: the headwater gathers it (R521). -/
def readyUpDo (num : BitVec 32) (serial : BitVec 64) (s : State) : State :=
  if s.boot.headwater then
    let s := s.modCensus fun c => { c with ready := if c.ready.contains serial then c.ready else c.ready ++ [serial] }
    if s.census.running && !s.census.gathering && allReady s then s.fabricReady else s
  else s.sendUp (.ready num false serial)

/-- READY on its way down: this member's own, or one that goes on (R521, R529). -/
def readyDownDo (num : BitVec 32) (serial : BitVec 64) (s : State) : State :=
  if serial = Config.serial then (if s.regF 0x14C 3 0 = 3 then s.fabricEvent 4 else s)
  else s.sendDown serial (.ready num true serial)

/-- CENSUS_READY (R521). -/
def execCensusReady (k : Link) (num : BitVec 32) (down : Bool) (serial : BitVec 64) (s : State) : Host.Outcome State Fault Refusal :=
  act s (onCensus k (ofCensus num (if down then readyDownDo num serial else readyUpDo num serial)))

end Sys2Proof.Machine
end

