-- ==== Sys2Proof/Machine/Boot.lean ====
section
/-! DEFINITION. Boot: module reset (R510, R511, R519), local boot (R513 to R518, R540, R551, R557), the supply (R566), the
thermal trip (R572, R573) and the failure of a pass die (R28). -/

namespace Sys2Proof.Machine

/-! ### Module reset -/

/-- The first address above the stacks (R440). -/
def stackEnd : Nat := 20 * 2 ^ 36

/-- The record that the MP may have been writing is torn (R510): whether, and what its slot then holds, is open. -/
def State.tearRecord (s : State) : State :=
  if s.mp.queue.isEmpty then s
  else
    let b := s.freeBool
    if b.1 then
      let f := b.2.freeBytes 64
      { f.2 with mp := f.2.mp.setRecord f.2.mp.head f.1 }
    else b.2

/-- A floor die after module reset: what it keeps are its repair candidates and repaired rows (R456). -/
def keptFloors (fs : List (Nat × FloorSt)) : List (Nat × FloorSt) :=
  (fs.map fun e => (e.1, { FloorSt.reset with spared := e.2.spared, candidates := e.2.candidates })).filter fun e =>
    e.2 != FloorSt.reset

/-- A terrace after module reset: what it holds, with nothing under way (R513). -/
def keptTerrace (t : Terrace) : Terrace :=
  { t with riskDue := false, hold := none, pushing := false, restoring := false, fencesDue := [], deferred := [] }

/-- What the MP keeps across a reset (R538, R550, R558). -/
def keptMp (m : Mp) : Mp :=
  { Mp.reset with flash := m.flash, settingsA := m.settingsA, settingsB := m.settingsB, records := m.records, seq := m.seq }

/-- Every block stops and holds its state at module reset (R510, R519); the stacks stay in self-refresh (R513). -/
def State.moduleReset (s : State) : State :=
  let s := s.tearRecord
  { State.reset with
    pending := s.pending, clock := s.clock, free := s.free, out := s.out, mem := s.mem.filter fun c => c.1 < stackEnd,
    bad := s.bad.filter fun c => c.1 < stackEnd / 64, floors := keptFloors s.floors, terrace := keptTerrace s.terrace,
    boot := { s.boot with phase := 1, dead := false, hostTrained := s.boot.hostTrained + 1 }, mp := keptMp s.mp, pins := s.pins }

/-- Every output goes idle; FAULT_N and THERM_N are asserted while the part is tripped (R562, R572). -/
def State.idlePins (s : State) : State :=
  let hot := s.boot.tripped && s.boot.powered
  ((s.setPin .alert false).setPin .fault hot).setPin .therm hot

/-- RESET_N goes low for ns nanoseconds, or stays low for as many (R510, R573). -/
def resetAssertDo (ns : Nat) (s : State) : State :=
  if ns < 1000 then s
  else
    let s := if s.boot.resetLow then s else s.moduleReset
    let cleared := s.boot.tripCleared || (s.boot.tripped && decide (10000 ≤ ns))
    { s with boot := { s.boot with resetLow := true, tripCleared := cleared } }.idlePins

/-- RESET_ASSERT (R510). -/
def execResetAssert (ns : Nat) (s : State) : Host.Outcome State Fault Refusal := .next (resetAssertDo ns s)

/-- The release of RESET_N (R510, R511, R573): the strap is sampled and local boot starts, but for a trip that stays
latched. -/
def resetReleaseDo (headwater : Bool) (s : State) : State :=
  let b := s.boot
  if !b.resetLow then s
  else if b.tripped && !b.tripCleared then { s with boot := { b with resetLow := false, powered := true } }.idlePins
  else
    let s := { s with boot := { b with
      powered := true, resetLow := false, tripped := false, tripCleared := false, phase := 1, releaseClock := s.clock,
      headwater := headwater, count := b.count + 1, startRecorded := false, slotTried := 0, verify := 3 } }
    (if b.tripped then s.setRegF 0x184 30 30 1 else s).idlePins

/-- RESET_RELEASE (R511). -/
def execResetRelease (headwater : Bool) (s : State) : Host.Outcome State Fault Refusal := .next (resetReleaseDo headwater s)

/-! ### Boot records and failure (R518, R557) -/

/-- A change of the boot state. -/
def State.modBoot (s : State) (f : Boot → Boot) : State := { s with boot := f s.boot }

/-- BOOT_START becomes the first record of the boot (R557). -/
def State.recordStart (s : State) (warm : Bool) : State :=
  let torn := !morValid (s.mp.record s.mp.head)
  let e := s.ownEntry .bootStart [s.boot.slotTried, s.boot.verify, boolBit warm, boolBit torn]
  { s with mp := { s.mp with queue := e :: s.mp.queue }, boot := { s.boot with startRecorded := true } }

/-- The part enters FAILED (R518); its links, which train only at LINKS, are still DOWN. -/
def State.bootFail (s : State) (cause : Nat) : State :=
  let s := (s.modBoot fun b => { b with phase := 15 }).setRegF 0x140 15 12 cause
  let s := s.setPin .fault true
  let s := if s.boot.startRecorded then s else s.recordStart false
  s.moraine .bootFailed .mp [cause]

/-! ### FLASH (R515, R540, R550, R551) -/

/-- The slot that boots, with the verification result (R515, R540, R557): none when neither passes, with the last slot
tried. -/
def bootChoice (m : Mp) (pass : Nat → Bool) : Option (Nat × Nat) × Nat :=
  match m.selected with
  | none => (none, 0)
  | some a =>
    if pass a then (some (a, 0), a)
    else if m.headerValid (1 - a) then (if pass (1 - a) then (some (1 - a, 1), 1 - a) else (none, 1 - a))
    else (none, a)

/-- Settings in a format the image does not read are replaced by the defaults (R551). -/
def State.settingsReset (s : State) (slot : Nat) : State :=
  let m := s.mp
  let c := m.settings
  let fmt := m.settingsFmt slot
  if (m.settingsA.isSome || m.settingsB.isSome) && (decide (c.format < m.settingsMin slot) || decide (fmt < c.format)) then
    let new : SettingsCopy := { format := fmt, writes := c.writes + 1, values := [] }
    let s := { s with mp := { m with settingsA := some new, settingsB := some new } }
    (s.moraine .settingsReset .mp [c.format, fmt]).raise .mp 8
  else s

/-- The settings as applied at boot, and the static EIDs (R534, R550). -/
def State.applySettings (s : State) : State :=
  let c := s.mp.settings
  { s with mp := { s.mp with
      bootSettings := c, eidPcie := BitVec.ofNat 8 (c.value 1), eidI3c := BitVec.ofNat 8 (c.value 2) } }

/-- The end of FLASH (R514, R515): which slots pass their check is the command's operand. -/
def flashDone (slotA slotB : Bool) (s : State) : State :=
  match bootChoice s.mp fun k => if k = 0 then slotA else slotB with
  | (none, tried) => (s.modBoot fun b => { b with slotTried := tried, verify := 2 }).bootFail 1
  | (some (slot, verify), _) =>
    let s := s.modBoot fun b => { b with slotTried := slot, verify := verify, phase := 3 }
    (((s.setRegF 0x140 8 8 slot).setRegF 0x140 9 9 verify).settingsReset slot).applySettings

/-! ### STACKS (R456, R513, R516) -/

/-- Every stack is zeroed, and its terrace with it (R513). -/
def State.coldStart (s : State) : State :=
  { s with mem := s.mem.filter fun c => stackEnd ≤ c.1, bad := s.bad.filter fun c => stackEnd / 64 ≤ c.1,
           terrace := Terrace.reset }

/-- The pending repairs of a stack move their rows to spare rows while it has some (R456, R516); a candidate that finds none
is reported. -/
def State.repairStack (s : State) (st : Nat) : State :=
  let f := s.floor st
  let k := min f.candidates.length ((Config.spareRows st).toNat - f.spared.length)
  let s := s.modFloor st fun f => { f with spared := f.spared ++ f.candidates.take k, candidates := f.candidates.drop k }
  if f.candidates.length = k then s
  else (s.setRegF (pageBase (floorPage st) + 0x5C) 15 0 (f.candidates.length - k)).raise (floorPage st) 2

/-- Whether the start is warm: every stack found its marker, which holds the previous boot count (R513). -/
def warmStart (marker : List Bool) (s : State) : Bool :=
  s.boot.marker == some (s.boot.count - 1) && s.boot.count != 0 && (List.range 20).all fun st => marker.getD st false

/-- The end of STACKS (R513, R517, R518): which markers are valid and which stacks failed is the command's operand. -/
def stacksDone (marker : List Bool) (failed : List Stack) (s : State) : State :=
  if failed.any fun st => 16 ≤ st.val then s.bootFail 2
  else
    let warm := warmStart marker s
    let s := if warm then s else s.coldStart
    let s := (List.range 16).foldl (fun s p => if failed.any (·.val == p) then s.fencePlain p 8 else s) s
    let s := (List.range 20).foldl State.repairStack s
    let s := s.setRegF 0x140 10 10 (boolBit warm)
    (s.recordStart warm).modBoot fun b => { b with phase := 4, marker := some b.count }

/-! ### PROCESSORS, LINKS (R514, R517, R518) -/

/-- The end of PROCESSORS: vales that failed their self-test are fenced (R517), and the links train. -/
def processorsDone (badVales : List Vale) (passFailed : Bool) (s : State) : State :=
  if passFailed then s.bootFail 3
  else
    let s := (List.range 128).foldl (fun s g => if badVales.any (·.val == g) then s.fenceVale g 6 else s) s
    let s := s.modBoot fun b => { b with phase := 5 }
    ((List.range 32).filter s.linkEn).foldl State.linkTrain s

/-- A boot phase ends with its result, where it is the phase that runs (R514). -/
def bootPhaseDo (r : BootResult) (s : State) : State :=
  match r, s.boot.phase with
  | .rom ok, 1 => if ok then s.modBoot fun b => { b with phase := 2 } else s.bootFail 4
  | .flash a b, 2 => flashDone a b s
  | .stacks m f, 3 => stacksDone m f s
  | .processors b p, 4 => processorsDone b p s
  | .links, 5 => s.modBoot fun b => { b with phase := 6 }
  | _, _ => s

/-- BOOT_PHASE_DONE (R514). -/
def execBootPhaseDone (r : BootResult) (s : State) : Host.Outcome State Fault Refusal := act s (bootPhaseDo r)

/-! ### Power, trips and failures (R28, R508, R566, R572) -/

/-- The supply fails (R566): what the part does below its operating range is not specified; it stops, its outputs are
idle, and what it held is gone at its next start. -/
def powerLossDo (s : State) : State :=
  { s with boot := { s.boot with powered := false, marker := none },
           terrace := { s.terrace with hold := none } }.idlePins

/-- POWER_LOSS (R566). -/
def execPowerLoss (s : State) : Host.Outcome State Fault Refusal := .next (powerLossDo s)

/-- A trip comparator fires (R572, R573): the part stops and loses its stacks' contents; the MP, where it runs, writes a
record. -/
def thermalTripDo (die reading : Nat) (s : State) : State :=
  if !s.boot.powered then s
  else
    let s := if s.mpLive && !s.boot.tripped then s.moraine .tripped .mp [die, reading] else s
    (s.modBoot fun b => { b with tripped := true, tripCleared := false, marker := none }).idlePins

/-- THERMAL_TRIP (R572). -/
def execThermalTrip (die : Fin 20) (reading : Nat) (s : State) : Host.Outcome State Fault Refusal :=
  .next (thermalTripDo die.val reading s)

/-- A pass die or the management processor fails (R28, R508): the whole device is out of service. -/
def passFailDo (s : State) : State :=
  (s.emit (.aer .pf .uncorrectableInternal)).modBoot fun b => { b with dead := true, marker := none }

/-- PASS_DIE_FAILURE (R28). -/
def execPassDieFailure (d : PassFail) (s : State) : Host.Outcome State Fault Refusal :=
  act s fun s => match d with | .pass _ => passFailDo s | .mp => passFailDo s

end Sys2Proof.Machine
end

