-- ==== Sys2Proof/Machine/Sensors.lean ====
section
/-! DEFINITION. Sensors: the samples of the MP (R536), the thermal warning (R571), and the sensor events of PLDM (R537). -/

namespace Sys2Proof.Machine

/-! ### Samples (R536) -/

/-- Whether the firmware of the MP runs: it is past FLASH, or in FAILED (R514, R518). -/
def State.mpServes (s : State) : Bool := s.mpLive && decide (3 ≤ s.boot.phase)

/-- The address of SENS of a sensor (R559). -/
def sensAddr (id : Nat) : Nat := 0x3F00200 + 4 * id
/-- A sensor's reading as its register holds it. -/
def State.sensor (s : State) (id : Nat) : Int := signedOf 24 (s.regF (sensAddr id) 23 0)
/-- A sensor's reading is shown. -/
def State.setSensor (s : State) (id : Nat) (v : Int) : State :=
  s.setReg (sensAddr id) (fields [(31, 31, 1), (23, 0, unsignedOf 24 v)])

/-- The hottest of the junction readings 1 to 20, and the lowest-numbered die that has it (R536, R574). -/
def hottestOf (xs : List Int) : Nat × Int :=
  ((List.range 20).drop 1).foldl (fun best i => if best.2 < xs.getD i 0 then (i, xs.getD i 0) else best) (0, xs.getD 0 0)

/-- The sensors as one sample finds them: 43, 46 and 48 are computed (R536). The power in W is the product of readings in 10 mV
and 10 mA, rounded down. -/
def sampleValues (s : State) (xs : List Int) : List Int :=
  (List.range 48).map fun i =>
    if i = 42 then (hottestOf xs).2
    else if i = 45 then xs.getD 43 0 * xs.getD 44 0 / 10000
    else if i = 47 then (s.regF 0x103044 15 0 : Int)
    else xs.getD i 0

/-- The health monitor takes a sample (R467). -/
def Health.sample (h : Health) (hot : Int) (ripple : Nat) : Health :=
  if h.sampled then { h with hottest := max h.hottest hot, ripple := max h.ripple ripple }
  else { h with hottest := hot, ripple := ripple, sampled := true }

/-- THERM_N and the thermal registers after a sample (R571, R574); readings are in 0.125 °C. -/
def State.thermSample (s : State) (unit : Nat) (hot : Int) : State :=
  let warn : Int := s.regF 0x180 7 0
  let hyst : Int := s.regF 0x180 15 8
  let en := s.regBit 0x180 16
  let s := (s.setRegF 0x184 23 16 (unsignedOf 8 (hot / 8))).setRegF 0x184 4 0 unit
  if en && decide (8 * warn ≤ hot) then ((s.setPin .therm true).setRegF 0x184 31 31 1).raise .device 16
  else if !en || decide (hot < 8 * (warn - hyst)) then (s.setPin .therm false).setRegF 0x184 31 31 0
  else s

/-! ### PLDM sensor events (R537) -/

/-- A threshold of a sensor: 1 warning, 2 critical; none where it is not set (R550). -/
def State.threshold (s : State) (id lvl : Nat) : Option Int :=
  let v := s.mp.settings.value (0x100 + 2 * id + (lvl - 1))
  if v = Config.settingNone.toNat then none else some (signedOf 32 v)

/-- The level of a reading: how many of its sensor's thresholds it has reached, 2 at the critical one. -/
def State.sensorLevel (s : State) (id : Nat) (v : Int) : Nat :=
  if (s.threshold id 2).any fun t => t ≤ v then 2 else if (s.threshold id 1).any fun t => t ≤ v then 1 else 0

/-- The event state of a sensor. -/
def sensorEvent (m : Mp) (id : Nat) : SensorEvent :=
  Sparse.get (fun _ => { level := 0, changed := false, window := none }) m.events id
/-- The event state of a sensor replaced. -/
def State.setSensorEvent (s : State) (id : Nat) (e : SensorEvent) : State :=
  { s with mp := { s.mp with
      events := Sparse.set (fun _ => { level := 0, changed := false, window := none }) s.mp.events id e } }

/-- Whether a transport reaches the MP (R533, R572): over PCIe not while the part is tripped. -/
def State.mctpUp (s : State) (t : Transport) : Bool := s.mpServes && (t == .i3c || !s.boot.tripped)

/-- The receiver of events (R537, R550): bit 8 of the setting is the transport, 1 for I3C. DESIGN CHOICE. -/
def State.receiver (s : State) : Option Transport :=
  let v := s.mp.settings.value 4
  if v = Config.settingNone.toNat then none else some (if bitOf v 8 then .i3c else .pcie)

/-- A sensorEvent goes to the receiver (R537), and the sensor's 100 ms begin. -/
def State.sendSensor (s : State) (id level : Nat) : State :=
  match s.receiver with
  | some t =>
    let s := s.setSensorEvent id { level := level, changed := false, window := some s.clock }
    if s.mctpUp t then s.emit (.response t .sensorEvent [BitVec.ofNat 8 id, BitVec.ofNat 8 level]) else s
  | none => s.setSensorEvent id { level := level, changed := false, window := none }

/-- 100 ms in core clocks. -/
def eventWindow : Nat := 210000000

/-- Whether the 100 ms since a sensor's last event still run. -/
def windowOpen (s : State) (e : SensorEvent) : Bool := e.window.any fun t => decide (s.clock < t + eventWindow)

/-- A sample of a sensor that has thresholds (R537): a crossing sends an event, or waits for the end of the 100 ms. -/
def State.sensorCross (s : State) (id : Nat) (v : Int) : State :=
  let e := sensorEvent s.mp id
  let level := s.sensorLevel id v
  if level = e.level then s
  else if windowOpen s e then s.setSensorEvent id { e with level := level, changed := true }
  else s.sendSensor id level

/-- The sample of all sensors (R536, R537, R571). -/
def sensorSampleDo (readings : List (BitVec 24)) (s : State) : State :=
  let xs := readings.map fun r => signedOf 24 r.toNat
  let vs := sampleValues s xs
  let hot := hottestOf xs
  let s := (List.range 48).foldl (fun s i => s.setSensor (i + 1) (vs.getD i 0)) s
  let s := { s with health := s.health.sample (hot.2 / 8) (xs.getD 46 0).toNat }
  let s := if s.live then s.thermSample hot.1 hot.2 else s
  (List.range 47).foldl (fun s i => s.sensorCross (i + 1) (vs.getD i 0)) s

/-- SENSOR_SAMPLE (R536): the measured sensors by ID; those the MP computes it computes. -/
def execSensorSample (readings : List (BitVec 24)) (s : State) : Host.Outcome State Fault Refusal :=
  .next (if s.mpServes then sensorSampleDo readings s else s)

/-- Whether the 100 ms of a sensor have ended (R537). -/
def eventWindowOk (id : Nat) (s : State) : Bool :=
  let e := sensorEvent s.mp id
  s.mpServes && e.window.isSome && !windowOpen s e

/-- The end of a sensor's 100 ms: a crossing inside them is reported with the state as it now is (R537). -/
def eventWindowDo (id : Nat) (s : State) : State :=
  let e := sensorEvent s.mp id
  if e.changed then s.sendSensor id e.level else s.setSensorEvent id { e with window := none }

/-- PLDM_EVENT_WINDOW (R537). -/
def execPldmEventWindow (sensor : Nat) (s : State) : Host.Outcome State Fault Refusal :=
  .next (if eventWindowOk sensor s then eventWindowDo sensor s else s)

end Sys2Proof.Machine
end

