-- ==== Sys2Proof/Machine/Management.lean ====
section
/-! DEFINITION. Management: MCTP control and PLDM (R534, R537), firmware update (R542 to R547) and SPDM (R549). The framing of
the messages is the DMTF's; an answer's payload here holds the values that the spec's rules give it, in the order named. -/

namespace Sys2Proof.Machine

/-! ### The shape of a management request -/

/-- A request over a transport that reaches the MP (R533, R535). -/
def onMctp (t : Transport) (s : State) (f : State → State) : Host.Outcome State Fault Refusal :=
  .next (if s.mctpUp t then f s else s)

/-- A request of a service that FAILED keeps on I3C only (R533). -/
def onI3cInFailed (t : Transport) (s : State) (f : State → State) : Host.Outcome State Fault Refusal :=
  .next (if s.mctpUp t && (s.boot.phase != 15 || t == .i3c) then f s else s)

/-- The MP answers. -/
def State.reply (s : State) (t : Transport) (r : Reply) (payload : List Byte) : State := s.emit (.response t r payload)

/-! ### MCTP control and PLDM monitoring (R534, R537) -/

/-- The bus owner assigns the EID (R534). -/
def setEndpointDo (t : Transport) (eid : Byte) (s : State) : State :=
  let m := s.mp
  let s := { s with mp := match t with | .pcie => { m with eidPcie := eid } | .i3c => { m with eidI3c := eid } }
  s.reply t .ok [eid]

/-- The EID of a transport's endpoint (R534). -/
def State.eid (s : State) (t : Transport) : Byte := match t with | .pcie => s.mp.eidPcie | .i3c => s.mp.eidI3c

/-- SET_ENDPOINT_ID (R534). -/
def execSetEndpointId (t : Transport) (eid : Byte) (s : State) : Host.Outcome State Fault Refusal :=
  onMctp t s (setEndpointDo t eid)

/-- MCTP_CONTROL (R534): what the answer holds is DSP0236's; that code 2 asks for the EID is PRESUMED. -/
def execMctpControl (t : Transport) (code : Byte) (s : State) : Host.Outcome State Fault Refusal :=
  onMctp t s fun s => s.reply t .ok (if code = 2 then [code, s.eid t] else [code])

/-- The answer to GetPDR. -/
def getPdrDo (t : Transport) (handle : Nat) (s : State) : State :=
  match Config.pdr handle with
  | some bs => s.reply t .ok bs
  | none => s.reply t .error []

/-- GET_PDR (R537). -/
def execGetPdr (t : Transport) (handle : Nat) (s : State) : Host.Outcome State Fault Refusal := onMctp t s (getPdrDo t handle)

/-- GET_PDR_REPOSITORY_INFO (R537). -/
def execGetPdrRepositoryInfo (t : Transport) (s : State) : Host.Outcome State Fault Refusal :=
  onMctp t s fun s => s.reply t .ok (Config.fixedAnswer 0)

/-- The answer to GetSensorReading: the last completed sample (R536). -/
def getReadingDo (t : Transport) (id : Nat) (s : State) : State :=
  if 1 ≤ id ∧ id ≤ 48 ∧ s.regBit (sensAddr id) 31 then s.reply t .ok (leBytes 3 (s.regF (sensAddr id) 23 0))
  else s.reply t .error []

/-- GET_SENSOR_READING (R537). -/
def execGetSensorReading (t : Transport) (sensor : Nat) (s : State) : Host.Outcome State Fault Refusal :=
  onMctp t s (getReadingDo t sensor)

/-- The sensors that have thresholds (R537). -/
def hasThresholds (id : Nat) : Bool := decide (1 ≤ id) && decide (id ≤ 47)

/-- The answer to GetSensorThresholds. -/
def getThresholdsDo (t : Transport) (id : Nat) (s : State) : State :=
  if hasThresholds id then
    s.reply t .ok (leBytes 4 (s.mp.settings.value (0x100 + 2 * id)) ++ leBytes 4 (s.mp.settings.value (0x101 + 2 * id)))
  else s.reply t .error []

/-- GET_SENSOR_THRESHOLDS (R537). -/
def execGetSensorThresholds (t : Transport) (sensor : Nat) (s : State) : Host.Outcome State Fault Refusal :=
  onMctp t s (getThresholdsDo t sensor)

/-- SetSensorThresholds writes two settings (R537, R550). -/
def setThresholdsDo (t : Transport) (id : Nat) (warn crit : BitVec 32) (s : State) : State :=
  if hasThresholds id then
    ((s.writeSetting (0x100 + 2 * id) warn.toNat).writeSetting (0x101 + 2 * id) crit.toNat).reply t .ok []
  else s.reply t .error []

/-- SET_SENSOR_THRESHOLDS (R537). -/
def execSetSensorThresholds (t : Transport) (sensor : Nat) (warn crit : BitVec 32) (s : State) :
    Host.Outcome State Fault Refusal := onMctp t s (setThresholdsDo t sensor warn crit)

/-- SetEventReceiver writes a setting (R537, R550). -/
def setReceiverDo (t : Transport) (eid : Byte) (s : State) : State :=
  (s.writeSetting 4 (eid.toNat + boolBit (t == .i3c) * 256)).reply t .ok []

/-- SET_EVENT_RECEIVER (R537). -/
def execSetEventReceiver (t : Transport) (eid : Byte) (s : State) : Host.Outcome State Fault Refusal :=
  onMctp t s (setReceiverDo t eid)

/-- GET_TID (R537). -/
def execGetTid (t : Transport) (s : State) : Host.Outcome State Fault Refusal :=
  onMctp t s fun s => s.reply t .ok (Config.fixedAnswer 1)

/-! ### Firmware update (R542 to R547) -/

/-- The slot that did not boot (R542). -/
def State.otherSlot (s : State) : Nat := 1 - s.bootSlot

/-- The update mode replaced. -/
def State.setUpdate (s : State) (u : Option UpdateSt) : State := { s with mp := { s.mp with update := u } }

/-- RequestUpdate (R542, R545): refused while the part is in update mode. -/
def requestUpdateDo (t : Transport) (agent : Byte) (maxTransfer : Nat) (s : State) : State :=
  if s.mp.update.isSome then s.reply t .alreadyInUpdateMode []
  else if maxTransfer = 0 then s.reply t .error []
  else
    let u : UpdateSt :=
      { transport := t, agent := agent, maxTransfer := maxTransfer, learned := false, offer := none, next := 0,
        lastClock := s.clock, verifying := false, passed := false }
    (s.setUpdate (some u)).reply t .ok []

/-- REQUEST_UPDATE (R542). -/
def execRequestUpdate (t : Transport) (agent : Byte) (maxTransfer : Nat) (s : State) : Host.Outcome State Fault Refusal :=
  onI3cInFailed t s (requestUpdateDo t agent maxTransfer)

/-- A message of the update agent in update mode; another's is answered with an error. -/
def byAgent (t : Transport) (agent : Byte) (f : UpdateSt → State → State) (s : State) : State :=
  match s.mp.update with
  | some u =>
    if u.transport = t ∧ u.agent = agent then
      let u := { u with lastClock := s.clock }
      f u (s.setUpdate (some u))
    else s.reply t .error []
  | none => s.reply t .error []

/-- Whether a component is the part's one component: classification Firmware (0x000A in DSP0267, PRESUMED), identifier 0x0001
(R542). -/
def isComponent (classification ident : Nat) : Bool := classification == 0x000A && ident == 1

/-- PassComponentTable (R542). -/
def passTableDo (t : Transport) (classification ident : Nat) (u : UpdateSt) (s : State) : State :=
  if isComponent classification ident then (s.setUpdate (some { u with learned := true })).reply t .ok []
  else s.reply t .error []

/-- PASS_COMPONENT_TABLE (R542). -/
def execPassComponentTable (t : Transport) (agent : Byte) (classification ident : Nat) (s : State) :
    Host.Outcome State Fault Refusal :=
  onI3cInFailed t s (byAgent t agent (passTableDo t classification ident))

/-- STAMP of an offer (R539). -/
def stampOf (o : Offer) : List Byte := (leBytes 4 o.stamp.toNat ++ o.version ++ List.replicate 64 0#8).take 64

/-- Where an image begins in a slot (R538). -/
def imageBase (slot : Nat) : Nat := slotBase slot + 0x10000

/-- The first chunk of an image that is not staged (R538, R543). -/
def Mp.firstUnstaged (m : Mp) (slot len : Nat) : Option Nat :=
  (List.range (ceilDiv len 8192)).find? fun c =>
    bitOf (m.flashByte (slotBase slot + 0x1000 + c / 8)).toNat (c % 8)

/-- A chunk's bitmap bit is cleared (R544). -/
def Mp.stageChunk (m : Mp) (slot c : Nat) : Mp :=
  let a := slotBase slot + 0x1000 + c / 8
  m.setFlash a [m.flashByte a &&& ~~~(BitVec.ofNat 8 (2 ^ (c % 8)))]

/-- Whether an offer resumes the staging of a slot (R543). -/
def Mp.resumes (m : Mp) (slot : Nat) (o : Offer) : Bool :=
  m.headerValid slot && m.slotState slot == 2 && (m.header slot).len == o.imageLen && (m.header slot).stamp == stampOf o

/-- A slot begins afresh (R543): image area, bitmap and header erased, a new header with STATE STAGING. -/
def Mp.stageFresh (m : Mp) (slot : Nat) (o : Offer) : Mp :=
  let b := slotBase slot
  ((m.eraseFlash (b + 0x10000) (b + 0x3F00000)).eraseFlash (b + 0x1000) (b + 0x1400)).writeHeader slot
    { len := o.imageLen, state := 2, stamp := stampOf o, rev := 0xFFFF, fmt := 0xFFFF, min := 0xFFFF }

/-- The bytes the part requests next (R542): at most 1,024, never across a chunk boundary. -/
def pieceLen (u : UpdateSt) (len : Nat) : Nat :=
  min (min u.maxTransfer 1024) (min (8192 - u.next % 8192) (len - u.next))

/-- The part requests the data at an offset (R542, R543), or, where every chunk is staged, ends the transfer and verifies
the slot (R546). -/
def State.requestFrom (s : State) (u : UpdateSt) (o : Offer) (c : Option Nat) : State :=
  match c with
  | some c =>
    let u := { u with offer := some o, next := 8192 * c }
    (s.setUpdate (some u)).reply u.transport .requestData (leBytes 4 u.next ++ leBytes 4 (pieceLen u o.imageLen))
  | none =>
    (s.setUpdate (some { u with offer := some o, next := o.imageLen, verifying := true })).reply u.transport
      .transferComplete []

/-- Whether an offer can be staged: the component, and an image that fits its area with its signature (R538, R542). -/
def offerOk (o : Offer) : Bool :=
  isComponent o.classification.toNat o.ident.toNat && decide (512 ≤ o.imageLen) && decide (o.imageLen ≤ 0x3EE0000) &&
    decide (o.version.length ≤ 60)

/-- UpdateComponent (R543). -/
def updateComponentDo (t : Transport) (o : Offer) (u : UpdateSt) (s : State) : State :=
  if u.offer.isSome || !offerOk o then s.reply t .error []
  else
    let slot := s.otherSlot
    let go := s.mp.resumes slot o
    let s := if go then s else { s with mp := s.mp.stageFresh slot o }
    let c := s.mp.firstUnstaged slot o.imageLen
    let s := s.moraine .stagingChoice .mp [boolBit (!go), c.getD (ceilDiv o.imageLen 8192)]
    (s.reply t .ok []).requestFrom u o c

/-- UPDATE_COMPONENT (R543). -/
def execUpdateComponent (t : Transport) (agent : Byte) (offer : Offer) (s : State) : Host.Outcome State Fault Refusal :=
  onI3cInFailed t s (byAgent t agent (updateComponentDo t offer))

/-- A piece is programmed (R544); a chunk whose last byte it holds is staged. -/
def programPiece (data : List Byte) (o : Offer) (u : UpdateSt) (s : State) : State :=
  let slot := s.otherSlot
  let s := { s with mp := s.mp.setFlash (imageBase slot + u.next) data }
  let next := u.next + data.length
  if next % 8192 = 0 ∨ next = o.imageLen then
    let s := { s with mp := s.mp.stageChunk slot (u.next / 8192) }
    s.requestFrom u o (s.mp.firstUnstaged slot o.imageLen)
  else
    let u := { u with next := next }
    (s.setUpdate (some u)).reply u.transport .requestData (leBytes 4 next ++ leBytes 4 (pieceLen u o.imageLen))

/-- A response to RequestFirmwareData (R544): the bytes that were requested, on the agent's transport. -/
def firmwareDataDo (t : Transport) (data : List Byte) (s : State) : State :=
  match s.mp.update with
  | none => s
  | some u =>
    match u.offer with
    | none => s
    | some o =>
      if u.transport = t ∧ !u.verifying ∧ !u.passed ∧ data.length = pieceLen u o.imageLen then
        let u := { u with lastClock := s.clock }
        programPiece data o u s
      else s

/-- FIRMWARE_DATA (R544). -/
def execFirmwareData (t : Transport) (data : List Byte) (s : State) : Host.Outcome State Fault Refusal :=
  onI3cInFailed t s (firmwareDataDo t data)

/-- The end of the verification of the staged slot (R541, R546). Where the image holds FW_REV and the settings formats, the spec
does not say: the header takes free values. -/
def verifyEndDo (ok : Bool) (u : UpdateSt) (s : State) : State :=
  let slot := s.otherSlot
  if ok then
    let a := s.freeWord
    let b := a.2.freeWord
    let s := b.2
    let h := { s.mp.header slot with
      state := 0, rev := fieldOf a.1 15 0, fmt := fieldOf a.1 31 16, min := fieldOf b.1 15 0 }
    let s := { s with mp := s.mp.writeHeader slot h }.setUpdate (some { u with verifying := false, passed := true })
    ((s.raise .mp 4).reply u.transport .verifyComplete [0#8]).reply u.transport .applyComplete [0#8]
  else
    let s := { s with mp := s.mp.eraseHeader slot }.setUpdate (some { u with verifying := false, offer := none })
    (s.moraine .verifyEnd .mp []).reply u.transport .verifyComplete [1#8]

/-- SLOT_VERIFY_END (R546): whether the image passed is the command's operand. -/
def execSlotVerifyEnd (ok : Bool) (s : State) : Host.Outcome State Fault Refusal :=
  .next (match s.mp.update with
    | some u => if s.mpServes && u.verifying then verifyEndDo ok u s else s
    | none => s)

/-- ActivateFirmware (R545, R547): NOT_READY while the slot is being staged. -/
def activateDo (t : Transport) (torn : Bool) (_ : UpdateSt) (s : State) : State :=
  let slot := s.otherSlot
  if s.staging slot then s.reply t .notReady []
  else if !s.mp.selectable slot then s.reply t .error []
  else if torn then s.activateSlot slot true
  else ((s.activateSlot slot false).setUpdate none).reply t .ok []

/-- ACTIVATE_FIRMWARE (R547). -/
def execActivateFirmware (t : Transport) (agent : Byte) (torn : Bool) (s : State) : Host.Outcome State Fault Refusal :=
  onI3cInFailed t s (byAgent t agent (activateDo t torn))

/-- The state code of GetStatus (DSP0267's, PRESUMED). -/
def updateCode : Option UpdateSt → Nat
  | none => 0
  | some u =>
    if u.passed then 6 else if u.verifying then 4 else if u.offer.isSome then 3 else if u.learned then 2 else 1

/-- GET_STATUS (R542). -/
def execGetStatus (t : Transport) (s : State) : Host.Outcome State Fault Refusal :=
  onI3cInFailed t s fun s => s.reply t .ok [BitVec.ofNat 8 (updateCode s.mp.update)]

/-- Update mode ends; the chunks that are staged stay so (R545). -/
def cancelDo (t : Transport) (_ : UpdateSt) (s : State) : State := (s.setUpdate none).reply t .ok []

/-- CANCEL_UPDATE_COMPONENT (R545). -/
def execCancelUpdateComponent (t : Transport) (agent : Byte) (s : State) : Host.Outcome State Fault Refusal :=
  onI3cInFailed t s (byAgent t agent (cancelDo t))

/-- CANCEL_UPDATE (R545). -/
def execCancelUpdate (t : Transport) (agent : Byte) (s : State) : Host.Outcome State Fault Refusal :=
  onI3cInFailed t s (byAgent t agent (cancelDo t))

/-- QUERY_DEVICE_IDENTIFIERS (R542). -/
def execQueryDeviceIdentifiers (t : Transport) (s : State) : Host.Outcome State Fault Refusal :=
  onI3cInFailed t s fun s => s.reply t .ok (Config.fixedAnswer 2)

/-- The component's parameters: identifier, and STAMP of the booted and of the other slot (R539, R542). -/
def firmwareParameters (s : State) : List Byte :=
  leBytes 2 1 ++ (s.mp.header s.bootSlot).stamp ++ (s.mp.header s.otherSlot).stamp

/-- GET_FIRMWARE_PARAMETERS (R542). -/
def execGetFirmwareParameters (t : Transport) (s : State) : Host.Outcome State Fault Refusal :=
  onI3cInFailed t s fun s => s.reply t .ok (firmwareParameters s)

/-- 120 s in core clocks (R545). -/
def updateLimit : Nat := 252000000000

/-- Whether no message of the update agent has come for 120 s (R545). -/
def updateTimeoutOk (s : State) : Bool :=
  s.mpServes && s.mp.update.any fun u => decide (u.lastClock + updateLimit ≤ s.clock)

/-- UPDATE_TIMEOUT (R545). -/
def execUpdateTimeout (s : State) : Host.Outcome State Fault Refusal :=
  .next (if updateTimeoutOk s then (s.setUpdate none).moraine .updateTimeout .mp [] else s)

/-! ### SPDM (R549) -/

/-- How far the SPDM connection of a transport has been negotiated: 1 version, 2 capabilities, 3 algorithms. -/
def State.spdm (s : State) : Transport → Nat
  | .pcie => s.mp.spdmPcie
  | .i3c => s.mp.spdmI3c

/-- A connection's progress. -/
def State.setSpdm (s : State) (t : Transport) (k : Nat) : State :=
  { s with mp := match t with | .pcie => { s.mp with spdmPcie := k } | .i3c => { s.mp with spdmI3c := k } }

/-- An SPDM request that needs the connection negotiated as far as k (DSP0274, PRESUMED). -/
def spdmFrom (t : Transport) (k : Nat) (f : State → State) (s : State) : State :=
  if k ≤ s.spdm t then f s else s.reply t .error []

/-- GET_VERSION (R549). -/
def execGetVersion (t : Transport) (s : State) : Host.Outcome State Fault Refusal :=
  onI3cInFailed t s fun s => (s.setSpdm t 1).reply t .ok (Config.fixedAnswer 3)

/-- GET_CAPABILITIES (R549). -/
def execGetCapabilities (t : Transport) (s : State) : Host.Outcome State Fault Refusal :=
  onI3cInFailed t s (spdmFrom t 1 fun s => (s.setSpdm t 2).reply t .ok (Config.fixedAnswer 4))

/-- NEGOTIATE_ALGORITHMS (R549). -/
def execNegotiateAlgorithms (t : Transport) (s : State) : Host.Outcome State Fault Refusal :=
  onI3cInFailed t s (spdmFrom t 2 fun s => (s.setSpdm t 3).reply t .ok (Config.fixedAnswer 5))

/-- GET_DIGESTS (R549): of the one certificate chain, in slot 0. -/
def execGetDigests (t : Transport) (s : State) : Host.Outcome State Fault Refusal :=
  onI3cInFailed t s (spdmFrom t 3 fun s => s.reply t .ok (Config.sha512 Config.certChain))

/-- The answer to GET_CERTIFICATE (R549). -/
def getCertificateDo (t : Transport) (slot ofs len : Nat) (s : State) : State :=
  if slot = 0 then s.reply t .ok ((Config.certChain.drop ofs).take len) else s.reply t .error []

/-- GET_CERTIFICATE (R549). -/
def execGetCertificate (t : Transport) (slot ofs len : Nat) (s : State) : Host.Outcome State Fault Refusal :=
  onI3cInFailed t s (spdmFrom t 3 (getCertificateDo t slot ofs len))

/-- The answer to CHALLENGE (R549): the chain's digest and a signature over it and the nonce. -/
def challengeDo (t : Transport) (slot : Nat) (nonce : List Byte) (s : State) : State :=
  if slot = 0 then
    let d := Config.sha512 Config.certChain
    s.reply t .ok (d ++ Config.signature (d ++ nonce))
  else s.reply t .error []

/-- CHALLENGE (R549). -/
def execChallenge (t : Transport) (slot : Nat) (nonce : List Byte) (s : State) : Host.Outcome State Fault Refusal :=
  onI3cInFailed t s (spdmFrom t 3 (challengeDo t slot nonce))

/-- The image of a slot, signature included (R539). -/
def Mp.image (m : Mp) (slot : Nat) : List Byte := m.flashBytes (imageBase slot) (m.header slot).len

/-- A measurement (R549): its digest, and the trailing bytes of its block; none where there is no such index. -/
def measurement (s : State) (i : Nat) : Option (List Byte) :=
  if i = 1 then some (Config.sha512 (Config.measuredImage 1))
  else if i = 2 then some (Config.sha512 (s.mp.image s.bootSlot))
  else if i = 3 then some (Config.sha512 (Config.measuredImage 3) ++ leBytes 4 (regDefault (pageBase (.elem 0) + 0x48)).toNat)
  else if i = 4 then some (Config.sha512 (Config.measuredImage 4) ++ leBytes 4 Config.boundRev.toNat)
  else if i = 5 then
    let c := s.mp.bootSettings
    some (Config.sha512 (Config.settingsImage c.format c.writes c.values))
  else if i = 6 then
    some (if s.mp.selectable s.otherSlot then Config.sha512 (s.mp.image s.otherSlot) else List.replicate 64 0#8)
  else none

/-- The measurements that an index asks for: 0xFF for all, 0 for their number (DSP0274, PRESUMED). -/
def measurements (s : State) (i : Nat) : Option (List Byte) :=
  if i = 0 then some [6#8]
  else if i = 0xFF then some (((List.range 6).filterMap fun k => measurement s (k + 1)).flatten)
  else measurement s i

/-- The answer to GET_MEASUREMENTS (R549). -/
def getMeasurementsDo (t : Transport) (index : Nat) (signed : Bool) (nonce : List Byte) (s : State) : State :=
  match measurements s index with
  | some m => s.reply t .ok (if signed then m ++ Config.signature (m ++ nonce) else m)
  | none => s.reply t .error []

/-- GET_MEASUREMENTS (R549). -/
def execGetMeasurements (t : Transport) (index : Nat) (signed : Bool) (nonce : List Byte) (s : State) :
    Host.Outcome State Fault Refusal :=
  onI3cInFailed t s (spdmFrom t 3 (getMeasurementsDo t index signed nonce))

end Sys2Proof.Machine
end

