-- ==== Sys2Proof/Machine/Tests.lean ====
section
/-! DEFINITION. Tests: background tests: their request, their placement, their pieces and their end (R291 to R294). -/

namespace Sys2Proof.Machine

/-! ### Placement (R292) -/

/-- The earliest beat from a on at which len beats fit an entry of a kind on a unit, under one table from its ANCHOR on. -/
def BeatTable.bgNext (t : BeatTable) (kind u len a : Nat) : Option Nat :=
  let a := max a t.anchor
  let o := t.offset a
  let T := max 1 t.period
  ((t.entries.filter fun e => teKind e == kind && teNames e u && decide (len ≤ teLen e)).map fun e =>
    if teStart e ≤ o ∧ o + len ≤ teStart e + teLen e then a else a + (teStart e + T - o - 1) % T + 1).foldl
    (fun best x => match best with | none => some x | some y => some (min x y)) none

/-- The earliest beat from a on at which len beats lie in a window of a kind on a unit under the governing tables (R286). -/
def Part.bgNext (p : Part) (kind u len a : Nat) : Option Nat :=
  let fits := fun (b : Nat) => p.inBg kind u b (b + len)
  match (p.table.bind fun t => t.bgNext kind u len a).filter fits with
  | some b => some b
  | none => (p.next.bind fun t => t.bgNext kind u len a).filter fits

/-- The beats of n one-beat pieces, each in a VALE_BG window (R291, R292). -/
def Part.bgPieces (p : Part) (g : Nat) : Nat → Nat → Option (List Nat)
  | 0, _ => some []
  | n + 1, a =>
    match p.bgNext 1 g 1 a with
    | none => none
    | some b => (p.bgPieces g n (b + 1)).map (b :: ·)

/-- The metered partitions with a weight on link k. -/
def meteredOn (s : State) (k : Nat) : List Nat := (List.range 16).filter fun n => s.metered n && linkWeight s n k != 0

/-- The earliest beat from a on that suits every one of some partitions for a retrain of link k; fuel bounds the beats. -/
def commonNext (s : State) (k : Nat) (ns : List Nat) : Nat → Nat → Option Nat
  | 0, _ => none
  | f + 1, a =>
    let bs := ns.map fun n => (s.part n).bgNext 2 k 2048 a
    if bs.any (·.isNone) then none
    else
      let m := (bs.filterMap id).foldl max a
      if m = a then some a else commonNext s k ns f m

/-- The start beats of a test's pieces (R292): the earliest placement from beat a on. -/
def placement (s : State) (code target a : Nat) : Option (List Nat) :=
  if code = 6 then (commonNext s target (meteredOn s target) 1048577 a).map fun b => [b]
  else if code = 2 ∨ code = 5 then some [a]
  else
    let pieces := if code = 1 then (List.range 8).map (a + ·) else [a]
    match (s.vale target).owner with
    | none => some pieces
    | some n =>
      if !s.metered n.val then some pieces
      else if code = 1 then (s.part n.val).bgPieces target 8 a
      else ((s.part n.val).bgNext 1 target (testBeats code) a).map fun b => [b]

/-! ### The request (R291, R294) -/

/-- The targets that a test's numbers allow (R291). -/
def targetCount (code : Nat) : Nat := if code = 2 then 16 else if code = 5 ∨ code = 6 then 32 else 128

/-- What a test acts on: a vale, a plain's echo unit, a link. -/
def targetKind (code : Nat) : Nat := if code = 2 then 1 else if code = 5 ∨ code = 6 then 2 else 0

/-- Whether a target has a test. -/
def targetBusy (s : State) (code target : Nat) : Bool :=
  s.tests.any fun e => e.2.any fun t => targetKind t.code == targetKind code && t.target == target

/-- The tickets not in use. -/
def freeTickets (s : State) : List Nat := (List.range 16).filter fun i => (s.test i).isNone

/-- The placement of a request that starts in time (R292). -/
def timely (s : State) (code target : Nat) : Option (List Nat) :=
  (placement s code target (s.beatNum + 16)).filter fun bs => bs.head?.any fun b => decide (b ≤ s.beatNum + 1048576)

/-- The results that a request earns for failing (R294). -/
def bgFailures (s : State) (code target : Nat) : List Nat :=
  if targetCount code ≤ target then [4]
  else (if targetBusy s code target then [1] else []) ++ (if (timely s code target).isNone then [2] else []) ++
    if (freeTickets s).isEmpty then [3] else []

/-- BG_RESP is written. -/
def State.bgRespond (s : State) (result ticket : Nat) : State := s.setReg 0xC4 (fields [(11, 8, result), (3, 0, ticket)])

/-- A request is evaluated (R291, R292, R294): the spec does not say which of several failures a refusal names, nor which
ticket an accepted test gets, nor what TICKET and BG_START show after a refusal; they stay. -/
def bgRequest (code : Nat) (target : Fin 128) (s : State) : State :=
  match s.pick (bgFailures s code target.val) with
  | (some r, s) => s.bgRespond r (s.regF 0xC4 3 0)
  | (none, s) =>
    match s.pick (freeTickets s), timely s code target.val with
    | (some i, s), some (b :: bs) =>
      let s := s.setTest i (some { code := code, target := target.val, starts := b :: bs, until_ := none })
      (s.bgRespond 0 i).setReg64 0xC8 b
    | _, _ => s

/-- VALE_SCAN (R291). -/
def execValeScan (target : Fin 128) (s : State) : Host.Outcome State Fault Refusal := actBar .pf s (bgRequest 1 target)
/-- ECHO_CHECK (R291). -/
def execEchoCheck (target : Fin 128) (s : State) : Host.Outcome State Fault Refusal := actBar .pf s (bgRequest 2 target)
/-- ARRAY_PATTERN (R291). -/
def execArrayPattern (target : Fin 128) (s : State) : Host.Outcome State Fault Refusal := actBar .pf s (bgRequest 3 target)
/-- STORE_PATTERN (R291). -/
def execStorePattern (target : Fin 128) (s : State) : Host.Outcome State Fault Refusal := actBar .pf s (bgRequest 4 target)
/-- LINK_MARGIN (R291). -/
def execLinkMargin (target : Fin 128) (s : State) : Host.Outcome State Fault Refusal := actBar .pf s (bgRequest 5 target)
/-- LINK_RETRAIN (R291). -/
def execLinkRetrain (target : Fin 128) (s : State) : Host.Outcome State Fault Refusal := actBar .pf s (bgRequest 6 target)

/-! ### Pieces and the end (R292 to R294) -/

/-- Whether a test is destructive to a vale (R291). -/
def BgTest.destroys (t : BgTest) : Bool := t.code == 3 || t.code == 4

/-- Whether a test's next piece starts: its beat has come, the piece before it is over, and a destructive vale test finds
its vale at a command boundary (R254, R292). -/
def bgStartOk (i : Nat) (s : State) : Bool :=
  (s.test i).any fun t =>
    t.starts.head?.any (fun b => decide (b ≤ s.beatNum)) && !t.until_.any (fun u => decide (s.beatNum < u)) && !s.holding &&
      (!t.destroys || (s.ofVale t.target).all fun e => e.2.dispatched.isNone)

/-- A retrain of link k starts (R307, R311): from UP, which it leaves, or from FAILED. -/
def State.retrainLink (s : State) (k : Nat) : State :=
  if s.linkUp k then (s.enterLink k .equalise .retrain).linkReport k 1
  else if (s.link k).state = .failed then s.enterLink k .equalise .retrain
  else s

/-- A piece of a test starts (R292, R293, R307): a destructive test takes its vale, a retrain its link. -/
def bgStartDo (i : Nat) (s : State) : State :=
  match s.test i with
  | none => s
  | some t =>
    let s := s.setTest i (some { t with starts := t.starts.tail, until_ := some (s.beatNum + testBeats t.code) })
    if t.destroys then s.modVale t.target fun v => { v with test := true }
    else if t.code = 6 then s.retrainLink t.target
    else s

/-- BG_TEST_START (R292). -/
def execBgTestStart (ticket : Fin 16) (s : State) : Host.Outcome State Fault Refusal :=
  act s fun s => if bgStartOk ticket.val s then bgStartDo ticket.val s else s

/-- Whether a test's last piece is over. -/
def bgEndOk (i : Nat) (s : State) : Bool :=
  (s.test i).any fun t => t.starts.isEmpty && t.until_.any fun u => decide (u ≤ s.beatNum)

/-- What a failed test takes out of service (R28, R293). -/
def State.failTest (s : State) (t : BgTest) : State :=
  match targetKind t.code with
  | 0 => if s.holding then s.fenceLater t.target 6 else s.fenceVale t.target 6
  | 1 => echoFailDo (Fin.ofNat 16 t.target) s
  | _ => s.linkFail t.target

/-- A test ends (R293, R294). -/
def bgEndDo (i : Nat) (failed : Bool) (s : State) : State :=
  match s.test i with
  | none => s
  | some t =>
    let s := s.setTest i none
    let s := if t.destroys then ((s.loseTables t.target).zeroVale t.target).modVale t.target fun v => { v with test := false } else s
    let s := if failed then s.failTest t else s
    let s := s.setReg 0xD0 (fields [(31, 31, 1), (27, 24, t.code), (8, 8, boolBit failed), (3, 0, i)])
    (s.raise .device 2).moraine .testEnd .device [t.code, t.target, boolBit failed, i]

/-- BG_TEST_END (R294). -/
def execBgTestEnd (ticket : Fin 16) (failed : Bool) (s : State) : Host.Outcome State Fault Refusal :=
  act s fun s => if bgEndOk ticket.val s then bgEndDo ticket.val failed s else s

end Sys2Proof.Machine
end

