-- ==== Sys2Proof/Machine/HostWrite.lean ====
section
/-! DEFINITION. HostWrite: a host write of a register (R7 to R12, R507): each register whose write is an operation of its own does
that operation, whichever command brings the write; every other register stores its fields. -/

namespace Sys2Proof.Machine

/-- f, where a bit of the written value is 1. -/
def onBit (v : Word) (i : Nat) (f : State → State) (s : State) : State := if fieldOf v i i = 1 then f s else s

/-! ### Pages of PF BAR0 -/

/-- BLK_CTL (R581, R584 to R586): EN is stored; FENCE is applied and SOFT_RST then discarded. -/
def writeBlkCtl (pg : Page) (v : Word) (s : State) : State :=
  let s := s.storeFields (pageBase pg + 8) v fun r => r.lo == 0
  if fieldOf v 2 2 = 1 ∧ pageHasFence pg then hostFenceDo pg s else onBit v 1 (softResetDo pg) s

/-- BEAT_CTL (R53): the change of BEAT_EN, then RELOCK, then REARM. -/
def writeBeatCtl (v : Word) (s : State) : State :=
  let s := s.storeFields 0x40 v fun r => r.lo == 1
  onBit v 3 rearmDo (onBit v 2 relockDo (beatEnDo (fieldOf v 0 0 == 1) s))

/-- BG_REQ (R294): a reserved test code is discarded. -/
def writeBgReq (v : Word) (s : State) : State :=
  let code := fieldOf v 27 24
  if 1 ≤ code ∧ code ≤ 6 then bgRequest code (Fin.ofNat 128 (fieldOf v 22 16)) s else s

/-- The DEVICE page. -/
def writeDevice (o : Nat) (v : Word) (s : State) : State :=
  if o = 0x40 then writeBeatCtl v s
  else if o = 0xC0 then writeBgReq v s
  else if o = 0x158 then onBit v 0 (fun s => if censusStartOk s then censusStartDo s else s) s
  else s.storeReg o v

/-- PCFG_CMD (R276, R278): a reserved OP is discarded. -/
def writePcfgCmd (n : PartId) (v : Word) (s : State) : State :=
  let g : Vale := Fin.ofNat 128 (fieldOf v 22 16)
  match fieldOf v 3 0 with
  | 1 => pcfgOp n 1 0 (createOp n) s
  | 2 => pcfgOp n 2 0 (destroyOp n) s
  | 3 => pcfgOp n 3 g.val (addValeOp n g) s
  | 4 => pcfgOp n 4 g.val (releaseValeOp n g) s
  | 5 => pcfgOp n 5 0 (btLoadOp n) s
  | _ => s

/-- GRANT_CMD (R443, R463): a reserved OP is discarded. -/
def writeGrantCmd (v : Word) (s : State) : State :=
  let n : PartId := Fin.ofNat 16 (fieldOf v 11 8)
  let count := BitVec.ofNat 16 (fieldOf v 31 16)
  match fieldOf v 3 0 with
  | 1 => grantDo n true count s
  | 2 => grantDo n false count s
  | 3 => withdrawDo n count s
  | _ => s

/-- TURN_RESOLVE (R382): it acts in pass 0's page only. -/
def writeTurnResolve (n : Pass) (v : Word) (s : State) : State :=
  let t : TurnSlot := Fin.ofNat 8 (fieldOf v 6 4)
  if n.val ≠ 0 then s
  else
    match fieldOf v 1 0 with
    | 1 => turnCleanDo t s
    | 2 => turnAbortDo t s
    | _ => s

/-- TERRACE_CTL (R471, R483, R490): INVALIDATE, RESTORE and NOW of one write in that order. DESIGN CHOICE. -/
def writeTerraceCtl (v : Word) (s : State) : State :=
  onBit v 0 terraceNowDo (onBit v 2 restoreDo (onBit v 1 terraceInvalidateDo s))

/-- HM_CTL (R469, R470, R490): ALERT_N follows ALERT_EN. -/
def writeHmCtl (v : Word) (s : State) : State := onBit v 0 hmClearDo (s.storeReg 0x103040 v).driveAlert

/-- COLL_RESOLVE (R344, R347). -/
def writeCollResolve (g : Vale) (v : Word) (s : State) : State :=
  match fieldOf v 1 0 with
  | 1 => resolveCleanDo g s
  | 2 => resolveAbortDo g s
  | _ => s

/-- LINK_CTL (R316). -/
def writeLinkCtl (k : Link) (v : Word) (s : State) : State :=
  linkEnDo k (fieldOf v 0 0 == 1) (s.storeFields (pageBase (.link k) + 0x40) v fun r => r.lo != 0)

/-- A register of a page of PF BAR0, its common header apart. -/
def writePf (pg : Page) (o : Nat) (v : Word) (s : State) : State :=
  let a := pageBase pg + o
  match pg with
  | .device => writeDevice o v s
  | .partcfg n => if o = 0x40 then writePcfgCmd n v s else s.storeReg a v
  | .mem => if o = 0x44 then writeGrantCmd v s else s.storeReg a v
  | .swb n => if o = 0x58 then (if s.resetting pg then s else writeTurnResolve n v s) else s.storeReg a v
  | .health => if o = 0x40 then writeHmCtl v s else if o = 0xC0 then writeTerraceCtl v s else s.storeReg a v
  | .seq g => if o = 0x40 then onBit v 0 (seqCntClrDo g) s else s.storeReg a v
  | .elem g => if o = 0x40 then onBit v 1 (elemCntClrDo g) (onBit v 0 (pmFlushDo g) s) else s.storeReg a v
  | .stream g => if o = 0x40 then onBit v 2 (strmCntClrDo g) (s.storeReg a v) else s.storeReg a v
  | .array g i =>
    if o = 0x40 then onBit v 1 (arrCntClrDo g i) (s.storeReg a v)
    else if 0x50 ≤ o ∧ o < 0x60 then satWatchTagDo g i (Fin.ofNat 4 ((o - 0x50) / 4)) v s
    else s.storeReg a v
  | .collect g => if o = 0x48 then (if s.resetting pg then s else writeCollResolve g v s) else s.storeReg a v
  | .link k => if o = 0x40 then writeLinkCtl k v s else s.storeReg a v
  | .mp => if o = 0x40 then mbCmdDo (fieldOf v 7 0) s else if o = 0x80 then morIdxDo v s else s.storeReg a v
  | .pass _ | .plain _ | .echo _ | .floor _ | .fuu _ | .part _ => s.storeReg a v

/-! ### The partition page -/

/-- JOB_CTL (R271, R272): CANCEL, then RESUME, of one write. DESIGN CHOICE. -/
def writeJobCtl (n : PartId) (j : Job) (v : Word) (s : State) : State :=
  onBit v 0 (jobResumeDo n j) (onBit v 1 (jobCancelDo n j) s)

/-- A job block's register (R273, R274). -/
def writeJob (n : PartId) (o : Nat) (v : Word) (s : State) : State :=
  let j : Job := Fin.ofNat 32 ((o - 0x1000) / 0x40)
  if o % 0x40 = 0x0C then sqDoorbellDo n j v s
  else if o % 0x40 = 0x14 then writeJobCtl n j v s
  else s.storeReg (partBase n.val + o) v

/-- FAULT_RESUME (R451). -/
def writeFaultResume (n : PartId) (v : Word) (s : State) : State :=
  let i := v.toNat
  if !s.pageOn n.val then s
  else if i < 2048 then s.deferOr (.resume n i) (faultResumeDo n i)
  else if 2 ^ 31 ≤ i then s.deferOr (.finish n (i - 2 ^ 31)) (faultEndDo n (i - 2 ^ 31))
  else s

/-- RES_CMD (R458): a reserved OP is discarded. -/
def writeResCmd (n : PartId) (v : Word) (s : State) : State :=
  let e := fieldOf v 9 0
  let g := fieldOf v 27 16
  match fieldOf v 15 12 with
  | 1 => resWrite n 1 e g (loadOp n.val e g) s
  | 2 => resWrite n 2 e g (evictOp n.val) s
  | 3 => resWrite n 3 e g (holdOp n.val) s
  | 4 => resWrite n 4 e g (releaseOp n.val) s
  | _ => s

/-- RC_CTL (R424, R439): EN going from 0 to 1 divides the vales. -/
def writeRcCtl (n : PartId) (v : Word) (s : State) : State :=
  let a := partBase n.val + 0x5080
  let on := s.regBit a 0
  let s := s.storeReg a v
  if !on && s.regBit a 0 then s.rcStart n.val else s

/-- TLB_INV_LO (R465) waits for the GO of TLB_INV_HI. -/
def writeTlbLo (n : PartId) (v : Word) (s : State) : State :=
  if s.pageOn n.val then s.setRegF (partBase n.val + 0x6010) 31 21 (fieldOf v 31 21) else s

/-- A completion queue register (R267, R274). -/
def writeCq (n : PartId) (r : CqReg) (v : Word) (s : State) : State := if cqConfigOk n r v s then cqConfigDo n r v s else s

/-- DG_CTL (R482, R492). -/
def writeDgCtl (n : PartId) (v : Word) (s : State) : State :=
  if digestGoOk n s then digestGoDo n (Fin.ofNat 4096 (fieldOf v 27 16)) s else s

/-- TOKENt (R258, R274): a command whose waits it satisfies latches its bindings (R354). -/
def writeToken (n : PartId) (o : Nat) (v : Word) (s : State) : State :=
  if s.pageOn n.val then (s.storeReg (partBase n.val + o) v).latchBindings n.val else s

/-- A register of the partition page, its common header apart (R273, R380, R404, R439, R465, R492). -/
def writePart (n : PartId) (o : Nat) (v : Word) (s : State) : State :=
  if 0x1000 ≤ o ∧ o < 0x1800 then writeJob n o v s
  else if 0x8000 ≤ o ∧ o < 0xC000 then writeToken n o v s
  else
    match o with
    | 0x2000 => writeCq n .baseLo v s
    | 0x2004 => writeCq n .baseHi v s
    | 0x2008 => writeCq n .size v s
    | 0x2010 => cqHeadDo n v s
    | 0x2018 => writeFaultResume n v s
    | 0x300C => s.ringBell n.val 0x3008 0x300C v.toNat
    | 0x3014 => onBit v 0 (vqResumeDo n) s
    | 0x400C => s.ringBell n.val 0x4008 0x400C v.toNat
    | 0x4014 => onBit v 0 (uqResumeDo n) s
    | 0x500C => s.ringBell n.val 0x5008 0x500C v.toNat
    | 0x5080 => writeRcCtl n v s
    | 0x6010 => writeTlbLo n v s
    | 0x6014 => tlbInvDo n v s
    | 0x6038 => writeResCmd n v s
    | 0x7018 => onBit v 0 (writeDgCtl n v) s
    | _ => s.storeReg (partBase n.val + o) v

/-! ### All registers -/

/-- A write of one 32-bit register (R7, R583). -/
def writeReg (pg : Page) (o : Nat) (v : Word) (s : State) : State :=
  if o = 0x08 then writeBlkCtl pg v s
  else if o = 0x18 then (if hasIrq pg then s.raise pg (forcedBits pg v) else s)
  else if o < 0x40 then s.storeReg (pageBase pg + o) v
  else
    match pg with
    | .part n => writePart n o v s
    | _ => writePf pg o v s

/-- Where a function's MSI-X table lies in its BAR0 (R494). -/
def msixBase : Fn → Nat
  | .pf => 0x3F80000
  | .vf _ => 0xF0000

/-- A write of a word of an MSI-X table entry (R494, R500). -/
def writeMsix (fn : Fn) (x : Nat) (v : Word) (s : State) : State :=
  let f := fnNum fn
  let i := x / 16
  match x % 16 / 4 with
  | 0 => s.modMsix f i fun e => { e with addr := e.addr &&& 0xFFFFFFFF00000000#64 ||| v.setWidth 64 }
  | 1 => s.modMsix f i fun e => { e with addr := e.addr &&& 0xFFFFFFFF#64 ||| v.setWidth 64 <<< 32 }
  | 2 => s.modMsix f i fun e => { e with data := v }
  | _ => if fieldOf v 0 0 = 1 then s.modMsix f i fun e => { e with masked := true } else msixUnmaskDo fn i s

/-- A host write of 32 bits to a function's BAR0 (R494): a block page, the MSI-X table, or nothing (R11). -/
def writeWord (fn : Fn) (ofs : Nat) (v : Word) (s : State) : State :=
  if msixBase fn ≤ ofs ∧ ofs < msixBase fn + 16 * vectorsOf (fnNum fn) then writeMsix fn (ofs - msixBase fn) v s
  else
    match (flatAddr fn ofs).bind locate with
    | some (pg, o) => writeReg pg o v s
    | none => s

/-- A host write of a BAR0 (R9): 32 bits, or 64 bits as two writes, the lower first; any other is discarded. -/
def writeBar (fn : Fn) (ofs width : Nat) (v : BitVec 64) (s : State) : State :=
  if width = 4 ∧ ofs % 4 = 0 then writeWord fn ofs (v.setWidth 32) s
  else if width = 8 ∧ ofs % 8 = 0 then writeWord fn (ofs + 4) ((v >>> 32).setWidth 32) (writeWord fn ofs (v.setWidth 32) s)
  else s

/-- Every pending vector of a function sends its message where nothing masks it any more (R500). -/
def State.sendAllPending (s : State) (f : Nat) : State :=
  (List.range (vectorsOf f)).foldl (fun s v => s.sendPending f v) s

/-- A control field of a function's configuration space (R493, R500 to R506), by its number: 0 MSI-X enable, 1 MSI-X function
mask, 2 ATS, 3 PRI (on VFs), 4 PASID, 5 relaxed ordering, 6 outstanding page request allocation, 7 clear of the PRI
response-failure status, 8 power state (not 0: D3hot). The numbers are the model's own. DESIGN CHOICE. -/
def cfgField (fn : Fn) (ofs x : Nat) (st : FnState) : FnState :=
  let on := x != 0
  match ofs with
  | 0 => { st with msixOn := on }
  | 1 => { st with fnMask := on }
  | 2 => { st with ats := on, atsCache := if on then st.atsCache else [] }
  | 3 => if fn = .pf then st else { st with pri := on }
  | 4 => { st with pasidOn := on }
  | 5 => { st with relaxed := on }
  | 6 => { st with allocation := x }
  | 7 => { st with responseFailure := st.responseFailure && !on }
  | 8 => { st with d3 := on }
  | _ => st

/-- A write of configuration space: its messages that waited leave, and a VF's page requests go out as far as they now may
(R500, R504). -/
def writeCfg (fn : Fn) (ofs : Nat) (v : BitVec 64) (s : State) : State :=
  let s := (s.modFn (fnNum fn) (cfgField fn ofs v.toNat)).sendAllPending (fnNum fn)
  match fn with
  | .vf n => s.sendWaiting n.val
  | .pf => s

/-- REGISTER_WRITE (R7): a BAR0, or the configuration space, which waits for READY (R512). -/
def execRegisterWrite (sp : Space) (ofs width : Nat) (v : BitVec 64) (s : State) : Host.Outcome State Fault Refusal :=
  match sp with
  | .bar fn => actAt (inMpPage fn ofs) fn s (writeBar fn ofs width v)
  | .cfg fn => act s fun s => if s.ready then writeCfg fn ofs v s else s

end Sys2Proof.Machine
end

