-- ==== Sys2Proof/Machine/Dispatch.lean ====
section
/-! DEFINITION. Dispatch: one arm per command, each a call of the command's meaning. -/

namespace Sys2Proof.Machine

/-- The effect of a command on everything but the queue. -/
def exec (i : Instr) (s : State) : Host.Outcome State Fault Refusal :=
  match i with
  | .registerWrite sp ofs width v => Sys2Proof.Machine.execRegisterWrite sp ofs width v s
  | .rcFieldRead fn ofs => Sys2Proof.Machine.execRcFieldRead fn ofs s
  | .lowWordRead fn ofs => Sys2Proof.Machine.execLowWordRead fn ofs s
  | .cgTestOutRead => Sys2Proof.Machine.execCgTestOutRead s
  | .irqStatWrite pg v => Sys2Proof.Machine.execIrqStatWrite pg v s
  | .irqForceWrite pg v => Sys2Proof.Machine.execIrqForceWrite pg v s
  | .softReset pg => Sys2Proof.Machine.execSoftReset pg s
  | .softResetEnd pg => Sys2Proof.Machine.execSoftResetEnd pg s
  | .hostFence pg => Sys2Proof.Machine.execHostFence pg s
  | .beatCrossing falling gap => Sys2Proof.Machine.execBeatCrossing falling gap s
  | .beatEdge late => Sys2Proof.Machine.execBeatEdge late s
  | .beatLoss => Sys2Proof.Machine.execBeatLoss s
  | .flywheelEdge => Sys2Proof.Machine.execFlywheelEdge s
  | .flywheelExpiry => Sys2Proof.Machine.execFlywheelExpiry s
  | .relock => Sys2Proof.Machine.execRelock s
  | .rearm => Sys2Proof.Machine.execRearm s
  | .beatEnWrite en => Sys2Proof.Machine.execBeatEnWrite en s
  | .beatMessageSend k => Sys2Proof.Machine.execBeatMessageSend k s
  | .beatMessage k => Sys2Proof.Machine.execBeatMessage k s
  | .sqDoorbell n j tail => Sys2Proof.Machine.execSqDoorbell n j tail s
  | .descriptorTake n j c host => Sys2Proof.Machine.execDescriptorTake n j c host s
  | .scheduledDispatch c => Sys2Proof.Machine.execScheduledDispatch c s
  | .openDispatch c => Sys2Proof.Machine.execOpenDispatch c s
  | .earlyFetch c => Sys2Proof.Machine.execEarlyFetch c s
  | .matrixStageStart c => Sys2Proof.Machine.execMatrixStageStart c s
  | .seedPassEnd c tag fmt => Sys2Proof.Machine.execSeedPassEnd c tag fmt s
  | .tileSwap c parity => Sys2Proof.Machine.execTileSwap c parity s
  | .bankRowRelease c corrected => Sys2Proof.Machine.execBankRowRelease c corrected s
  | .elementStageStart c inWidth => Sys2Proof.Machine.execElementStageStart c inWidth s
  | .elementBlockStart g issues corrected => Sys2Proof.Machine.execElementBlockStart g issues corrected s
  | .collectStageStart c => Sys2Proof.Machine.execCollectStageStart c s
  | .lapStart c => Sys2Proof.Machine.execLapStart c s
  | .storeStageStart c => Sys2Proof.Machine.execStoreStageStart c s
  | .commandComplete c => Sys2Proof.Machine.execCommandComplete c s
  | .cqHeadWrite n v => Sys2Proof.Machine.execCqHeadWrite n v s
  | .cqConfigWrite n r v => Sys2Proof.Machine.execCqConfigWrite n r v s
  | .jobResume n j => Sys2Proof.Machine.execJobResume n j s
  | .jobCancel n j => Sys2Proof.Machine.execJobCancel n j s
  | .nopE g x => Sys2Proof.Machine.execNop g x s
  | .fadd g x => Sys2Proof.Machine.execFadd g x s
  | .fsub g x => Sys2Proof.Machine.execFsub g x s
  | .fmul g x => Sys2Proof.Machine.execFmul g x s
  | .ffma g x => Sys2Proof.Machine.execFfma g x s
  | .fmin g x => Sys2Proof.Machine.execFmin g x s
  | .fmax g x => Sys2Proof.Machine.execFmax g x s
  | .fabs g x => Sys2Proof.Machine.execFabs g x s
  | .fneg g x => Sys2Proof.Machine.execFneg g x s
  | .fdiv g x => Sys2Proof.Machine.execFdiv g x s
  | .fsqrt g x => Sys2Proof.Machine.execFsqrt g x s
  | .frsq g x => Sys2Proof.Machine.execFrsq g x s
  | .fcmp g x => Sys2Proof.Machine.execFcmp g x s
  | .tfn g x => Sys2Proof.Machine.execTfn g x s
  | .iadd g x => Sys2Proof.Machine.execIadd g x s
  | .isub g x => Sys2Proof.Machine.execIsub g x s
  | .imul g x => Sys2Proof.Machine.execImul g x s
  | .imin g x => Sys2Proof.Machine.execImin g x s
  | .imax g x => Sys2Proof.Machine.execImax g x s
  | .iabs g x => Sys2Proof.Machine.execIabs g x s
  | .icmp g x => Sys2Proof.Machine.execIcmp g x s
  | .andE g x => Sys2Proof.Machine.execAnd g x s
  | .orE g x => Sys2Proof.Machine.execOr g x s
  | .xorE g x => Sys2Proof.Machine.execXor g x s
  | .shl g x => Sys2Proof.Machine.execShl g x s
  | .shr g x => Sys2Proof.Machine.execShr g x s
  | .sel g x => Sys2Proof.Machine.execSel g x s
  | .mov g x => Sys2Proof.Machine.execMov g x s
  | .ldi g x => Sys2Proof.Machine.execLdi g x s
  | .cvt g x => Sys2Proof.Machine.execCvt g x s
  | .qnt g x => Sys2Proof.Machine.execQnt g x s
  | .ocl g x => Sys2Proof.Machine.execOcl g x s
  | .ocs g x => Sys2Proof.Machine.execOcs g x s
  | .ocg g x => Sys2Proof.Machine.execOcg g x s
  | .oct g x => Sys2Proof.Machine.execOct g x s
  | .red g x => Sys2Proof.Machine.execRed g x s
  | .pack g x => Sys2Proof.Machine.execPack g x s
  | .unpk g x => Sys2Proof.Machine.execUnpk g x s
  | .rng g x => Sys2Proof.Machine.execRng g x s
  | .epi g x => Sys2Proof.Machine.execEpi g x s
  | .qrd g x => Sys2Proof.Machine.execQrd g x s
  | .qwr g x => Sys2Proof.Machine.execQwr g x s
  | .qwc g x => Sys2Proof.Machine.execQwc g x s
  | .loopE g x => Sys2Proof.Machine.execLoop g x s
  | .movs g x => Sys2Proof.Machine.execMovs g x s
  | .pset g x => Sys2Proof.Machine.execPset g x s
  | .plog g x => Sys2Proof.Machine.execPlog g x s
  | .fclr g x => Sys2Proof.Machine.execFclr g x s
  | .subBlockLands c x r host => Sys2Proof.Machine.execSubBlockLands c x r host s
  | .lineFillLanded g line => Sys2Proof.Machine.execLineFillLanded g line s
  | .lineDrainDone g line => Sys2Proof.Machine.execLineDrainDone g line s
  | .circularWaitSpill g => Sys2Proof.Machine.execCircularWaitSpill g s
  | .translationFault c x => Sys2Proof.Machine.execTranslationFault c x s
  | .prgResponse n prg code => Sys2Proof.Machine.execPrgResponse n prg code s
  | .faultResume n rec => Sys2Proof.Machine.execFaultResume n rec s
  | .faultEnd n rec => Sys2Proof.Machine.execFaultEnd n rec s
  | .granuleGrant port => Sys2Proof.Machine.execGranuleGrant port s
  | .pmFlush g => Sys2Proof.Machine.execPmFlush g s
  | .arrCntClr g a => Sys2Proof.Machine.execArrCntClr g a s
  | .elemCntClr g => Sys2Proof.Machine.execElemCntClr g s
  | .strmCntClr g => Sys2Proof.Machine.execStrmCntClr g s
  | .seqCntClr g => Sys2Proof.Machine.execSeqCntClr g s
  | .satWatchTagWrite g a x v => Sys2Proof.Machine.execSatWatchTagWrite g a x v s
  | .echoRecompute p => Sys2Proof.Machine.execEchoRecompute p s
  | .create n => Sys2Proof.Machine.execCreate n s
  | .destroy n => Sys2Proof.Machine.execDestroy n s
  | .destroyDrained n => Sys2Proof.Machine.execDestroyDrained n s
  | .addVale n g => Sys2Proof.Machine.execAddVale n g s
  | .releaseVale n g => Sys2Proof.Machine.execReleaseVale n g s
  | .btLoad n => Sys2Proof.Machine.execBtLoad n s
  | .pcfgOpEnd n => Sys2Proof.Machine.execPcfgOpEnd n s
  | .beatTableAnchor n => Sys2Proof.Machine.execBeatTableAnchor n s
  | .admissionRecheck n => Sys2Proof.Machine.execAdmissionRecheck n s
  | .valeScan target => Sys2Proof.Machine.execValeScan target s
  | .echoCheck target => Sys2Proof.Machine.execEchoCheck target s
  | .arrayPattern target => Sys2Proof.Machine.execArrayPattern target s
  | .storePattern target => Sys2Proof.Machine.execStorePattern target s
  | .linkMargin target => Sys2Proof.Machine.execLinkMargin target s
  | .linkRetrain target => Sys2Proof.Machine.execLinkRetrain target s
  | .bgTestStart ticket => Sys2Proof.Machine.execBgTestStart ticket s
  | .bgTestEnd ticket failed => Sys2Proof.Machine.execBgTestEnd ticket failed s
  | .flitReceive k flit => Sys2Proof.Machine.execFlitReceive k flit s
  | .replayTimeout k => Sys2Proof.Machine.execReplayTimeout k s
  | .linkSignalDetect k => Sys2Proof.Machine.execLinkSignalDetect k s
  | .linkEqualised k => Sys2Proof.Machine.execLinkEqualised k s
  | .codewordLock k => Sys2Proof.Machine.execCodewordLock k s
  | .trainMessage k m => Sys2Proof.Machine.execTrainMessage k m s
  | .linkMeasured k => Sys2Proof.Machine.execLinkMeasured k s
  | .linkExchangeDone k m => Sys2Proof.Machine.execLinkExchangeDone k m s
  | .linkTrainTimeout k => Sys2Proof.Machine.execLinkTrainTimeout k s
  | .linkEnWrite k en => Sys2Proof.Machine.execLinkEnWrite k en s
  | .mgmtMessage k => Sys2Proof.Machine.execMgmtMessage k s
  | .ringPiece k n r => Sys2Proof.Machine.execRingPiece k n r s
  | .arrive c => Sys2Proof.Machine.execArrive c s
  | .closeGather k => Sys2Proof.Machine.execCloseGather k s
  | .closeOutcome k => Sys2Proof.Machine.execCloseOutcome k s
  | .closeTimeout m => Sys2Proof.Machine.execCloseTimeout m s
  | .outcomeTimeout m => Sys2Proof.Machine.execOutcomeTimeout m s
  | .lapTimeout m => Sys2Proof.Machine.execLapTimeout m s
  | .retryStart m => Sys2Proof.Machine.execRetryStart m s
  | .collResolveClean g => Sys2Proof.Machine.execCollResolveClean g s
  | .collResolveAbort g => Sys2Proof.Machine.execCollResolveAbort g s
  | .vqDoorbell n tail => Sys2Proof.Machine.execVqDoorbell n tail s
  | .bind n => Sys2Proof.Machine.execBind n s
  | .unbind n => Sys2Proof.Machine.execUnbind n s
  | .pin n => Sys2Proof.Machine.execPin n s
  | .unpin n => Sys2Proof.Machine.execUnpin n s
  | .install n => Sys2Proof.Machine.execInstall n s
  | .ledgerAppend n => Sys2Proof.Machine.execLedgerAppend n s
  | .turn n => Sys2Proof.Machine.execTurn n s
  | .vqResume n => Sys2Proof.Machine.execVqResume n s
  | .turnJobStart n => Sys2Proof.Machine.execTurnJobStart n s
  | .switchbackBlock k n r => Sys2Proof.Machine.execSwitchbackBlock k n r s
  | .localBlockLanded t tensor bi bj r => Sys2Proof.Machine.execLocalBlockLanded t tensor bi bj r s
  | .turnBudgetExpiry t => Sys2Proof.Machine.execTurnBudgetExpiry t s
  | .turnResolveClean t => Sys2Proof.Machine.execTurnResolveClean t s
  | .turnResolveAbort t => Sys2Proof.Machine.execTurnResolveAbort t s
  | .uqDoorbell n tail => Sys2Proof.Machine.execUqDoorbell n tail s
  | .fuuStep n ue => Sys2Proof.Machine.execFuuStep n ue s
  | .setStep n => Sys2Proof.Machine.execSetStep n s
  | .stepEnd n => Sys2Proof.Machine.execStepEnd n s
  | .uqResume n => Sys2Proof.Machine.execUqResume n s
  | .rqDoorbell n tail => Sys2Proof.Machine.execRqDoorbell n tail s
  | .reqOpen n => Sys2Proof.Machine.execReqOpen n s
  | .grow n => Sys2Proof.Machine.execGrow n s
  | .commit n => Sys2Proof.Machine.execCommit n s
  | .retire n => Sys2Proof.Machine.execRetire n s
  | .prefixDrop n => Sys2Proof.Machine.execPrefixDrop n s
  | .recount n => Sys2Proof.Machine.execRecount n s
  | .adapterCopyLanded n => Sys2Proof.Machine.execAdapterCopyLanded n s
  | .prefixSaveLanded n => Sys2Proof.Machine.execPrefixSaveLanded n s
  | .rcEvaluate n => Sys2Proof.Machine.execRcEvaluate n s
  | .rcMoveApply n => Sys2Proof.Machine.execRcMoveApply n s
  | .rcEnable n => Sys2Proof.Machine.execRcEnable n s
  | .grantWrite n count => Sys2Proof.Machine.execGrantWrite n count s
  | .grantRead n count => Sys2Proof.Machine.execGrantRead n count s
  | .withdraw n count => Sys2Proof.Machine.execWithdraw n count s
  | .withdrawEnd => Sys2Proof.Machine.execWithdrawEnd s
  | .tlbInv n hi => Sys2Proof.Machine.execTlbInv n hi s
  | .tlbInvEnd n => Sys2Proof.Machine.execTlbInvEnd n s
  | .fqNextRead n => Sys2Proof.Machine.execFqNextRead n s
  | .scrubStep st r => Sys2Proof.Machine.execScrubStep st r s
  | .targetedRefresh st activations => Sys2Proof.Machine.execTargetedRefresh st activations s
  | .load n entry signal => Sys2Proof.Machine.execLoad n entry signal s
  | .evict n entry signal => Sys2Proof.Machine.execEvict n entry signal s
  | .resHold n entry signal => Sys2Proof.Machine.execResHold n entry signal s
  | .resRelease n entry signal => Sys2Proof.Machine.execResRelease n entry signal s
  | .loadEnd n src => Sys2Proof.Machine.execLoadEnd n src s
  | .bar2Access ofs a => Sys2Proof.Machine.execBar2Access ofs a s
  | .hmUpdate => Sys2Proof.Machine.execHmUpdate s
  | .hmClear => Sys2Proof.Machine.execHmClear s
  | .terraceNow => Sys2Proof.Machine.execTerraceNow s
  | .terraceHoldStart => Sys2Proof.Machine.execTerraceHoldStart s
  | .terraceHoldEnd bad => Sys2Proof.Machine.execTerraceHoldEnd bad s
  | .terracePushEnd => Sys2Proof.Machine.execTerracePushEnd s
  | .terraceInvalidate => Sys2Proof.Machine.execTerraceInvalidate s
  | .restore => Sys2Proof.Machine.execRestore s
  | .restoreEnd => Sys2Proof.Machine.execRestoreEnd s
  | .digestGo n signal => Sys2Proof.Machine.execDigestGo n signal s
  | .digestStart n => Sys2Proof.Machine.execDigestStart n s
  | .digestEnd n r => Sys2Proof.Machine.execDigestEnd n r s
  | .valeFence g cause => Sys2Proof.Machine.execValeFence g cause s
  | .plainFence p cause => Sys2Proof.Machine.execPlainFence p cause s
  | .commandReissue c => Sys2Proof.Machine.execCommandReissue c s
  | .vfFlr n => Sys2Proof.Machine.execVfFlr n s
  | .pfFlr => Sys2Proof.Machine.execPfFlr s
  | .hotReset => Sys2Proof.Machine.execHotReset s
  | .pcieLinkDown => Sys2Proof.Machine.execPcieLinkDown s
  | .perst => Sys2Proof.Machine.execPerst s
  | .atsInvalidation fn pasid page pages => Sys2Proof.Machine.execAtsInvalidation fn pasid page pages s
  | .msixUnmask fn vector => Sys2Proof.Machine.execMsixUnmask fn vector s
  | .hostReadFailure c x why => Sys2Proof.Machine.execHostReadFailure c x why s
  | .resetAssert ns => Sys2Proof.Machine.execResetAssert ns s
  | .resetRelease headwater => Sys2Proof.Machine.execResetRelease headwater s
  | .bootPhaseDone r => Sys2Proof.Machine.execBootPhaseDone r s
  | .censusAutoStart => Sys2Proof.Machine.execCensusAutoStart s
  | .censusStart => Sys2Proof.Machine.execCensusStart s
  | .censusCall k num head => Sys2Proof.Machine.execCensusCall k num head s
  | .censusReport k num r => Sys2Proof.Machine.execCensusReport k num r s
  | .gatherClose => Sys2Proof.Machine.execGatherClose s
  | .censusAssign k num a => Sys2Proof.Machine.execCensusAssign k num a s
  | .censusLeftOut k num => Sys2Proof.Machine.execCensusLeftOut k num s
  | .censusReady k num down serial => Sys2Proof.Machine.execCensusReady k num down serial s
  | .powerLoss => Sys2Proof.Machine.execPowerLoss s
  | .thermalTrip die reading => Sys2Proof.Machine.execThermalTrip die reading s
  | .sensorSample readings => Sys2Proof.Machine.execSensorSample readings s
  | .pldmEventWindow sensor => Sys2Proof.Machine.execPldmEventWindow sensor s
  | .setEndpointId t eid => Sys2Proof.Machine.execSetEndpointId t eid s
  | .mctpControl t code => Sys2Proof.Machine.execMctpControl t code s
  | .getPdr t handle => Sys2Proof.Machine.execGetPdr t handle s
  | .getPdrRepositoryInfo t => Sys2Proof.Machine.execGetPdrRepositoryInfo t s
  | .getSensorReading t sensor => Sys2Proof.Machine.execGetSensorReading t sensor s
  | .getSensorThresholds t sensor => Sys2Proof.Machine.execGetSensorThresholds t sensor s
  | .setSensorThresholds t sensor warn crit => Sys2Proof.Machine.execSetSensorThresholds t sensor warn crit s
  | .setEventReceiver t eid => Sys2Proof.Machine.execSetEventReceiver t eid s
  | .getTid t => Sys2Proof.Machine.execGetTid t s
  | .requestUpdate t agent maxTransfer => Sys2Proof.Machine.execRequestUpdate t agent maxTransfer s
  | .passComponentTable t agent classification ident => Sys2Proof.Machine.execPassComponentTable t agent classification ident s
  | .updateComponent t agent offer => Sys2Proof.Machine.execUpdateComponent t agent offer s
  | .firmwareData t data => Sys2Proof.Machine.execFirmwareData t data s
  | .slotVerifyEnd ok => Sys2Proof.Machine.execSlotVerifyEnd ok s
  | .activateFirmware t agent torn => Sys2Proof.Machine.execActivateFirmware t agent torn s
  | .getStatus t => Sys2Proof.Machine.execGetStatus t s
  | .cancelUpdateComponent t agent => Sys2Proof.Machine.execCancelUpdateComponent t agent s
  | .cancelUpdate t agent => Sys2Proof.Machine.execCancelUpdate t agent s
  | .queryDeviceIdentifiers t => Sys2Proof.Machine.execQueryDeviceIdentifiers t s
  | .getFirmwareParameters t => Sys2Proof.Machine.execGetFirmwareParameters t s
  | .updateTimeout => Sys2Proof.Machine.execUpdateTimeout s
  | .getVersion t => Sys2Proof.Machine.execGetVersion t s
  | .getCapabilities t => Sys2Proof.Machine.execGetCapabilities t s
  | .negotiateAlgorithms t => Sys2Proof.Machine.execNegotiateAlgorithms t s
  | .getDigests t => Sys2Proof.Machine.execGetDigests t s
  | .getCertificate t slot ofs len => Sys2Proof.Machine.execGetCertificate t slot ofs len s
  | .challenge t slot nonce => Sys2Proof.Machine.execChallenge t slot nonce s
  | .getMeasurements t index signed nonce => Sys2Proof.Machine.execGetMeasurements t index signed nonce s
  | .censusRead => Sys2Proof.Machine.execCensusRead s
  | .activateSlot torn => Sys2Proof.Machine.execActivateSlot torn s
  | .ffClear => Sys2Proof.Machine.execFfClear s
  | .settingRead => Sys2Proof.Machine.execSettingRead s
  | .settingWrite => Sys2Proof.Machine.execSettingWrite s
  | .morIdxWrite v => Sys2Proof.Machine.execMorIdxWrite v s
  | .moraineWrite => Sys2Proof.Machine.execMoraineWrite s
  | .moraineIntervalEnd => Sys2Proof.Machine.execMoraineIntervalEnd s
  | .echoUnitFailure p => Sys2Proof.Machine.execEchoUnitFailure p s
  | .passDieFailure d => Sys2Proof.Machine.execPassDieFailure d s

end Sys2Proof.Machine
end

