-- ==== Sys2Proof/WellFormed.lean ====
section
/-! DEFINITION. WellFormed: what a sender must keep for a command to stand for something that can happen: operands whose length
the spec fixes. Numbers of units are bounded by their types. -/

namespace Sys2Proof

/-- The configuration-space control fields a write can name are numbered 0 to 8. -/
def Space.wf : Space → Nat → Bool
  | .bar _, _ => true
  | .cfg _, ofs => decide (ofs ≤ 8)

/-- A boot result names each stack's marker (R513). -/
def BootResult.wf : BootResult → Bool
  | .stacks marker _ => marker.length == 20
  | _ => true

/-- Whether a command is well formed. -/
def Instr.wf : Instr → Bool
  | .registerWrite sp ofs _ _ => sp.wf ofs
  | .flitReceive _ flit => flit.length == 256
  | .bootPhaseDone r => r.wf
  | .sensorSample readings => readings.length == 48
  | .linkExchangeDone _ m => m.weights.length == 16
  | .bar2Access _ op => match op with | .write bs => bs.length != 0 | .read n => n != 0
  | .challenge _ _ nonce => nonce.length == 32
  | .getMeasurements _ _ _ nonce => nonce.length == 32
  | _ => true

end Sys2Proof
end

