-- ==== Sys2Proof/Safety.lean ====
section
/-! DEFINITION. Safety: what the claims say of a run. -/

namespace Sys2Proof.Machine

/-- A step that answers a next state: neither a fault nor a refusal. -/
def Runs (s : State) : Prop := ∃ t, step s = .next t

/-- The memory is in its canonical form: addresses rising, and no entry equal to what an unlisted address reads as. -/
abbrev Memory.wf (m : List Host.Cell) : Bool := Sparse.wf memDefault m

/-- Every sparse part of the state (memory, registers, the numbered units) is in its canonical form, so that equal contents are
equal data. -/
structure State.Canonical (s : State) : Prop where
  regs : Sparse.wf regDefault s.regs = true
  mem : Sparse.wf memDefault s.mem = true
  bad : Sparse.wf (fun _ => false) s.bad = true
  fns : Sparse.wf (fun _ => FnState.reset) s.fns = true
  msix : Sparse.wf (fun _ => MsixEntry.reset) s.msix = true
  grants : Sparse.wf (fun _ => Grant.none) s.grants = true
  vales : Sparse.wf (fun _ => ValeSt.reset) s.vales = true
  parts : Sparse.wf (fun _ => Part.reset) s.parts = true
  slots : Sparse.wf (fun _ => none) s.slots = true
  links : Sparse.wf (fun _ => LinkSt.reset) s.links = true
  turns : Sparse.wf (fun _ => none) s.turns = true
  floors : Sparse.wf (fun _ => FloorSt.reset) s.floors = true
  echo : Sparse.wf (fun _ => EchoSt.reset) s.echo = true
  tests : Sparse.wf (fun _ => none) s.tests = true
  credits : Sparse.wf (fun _ => (0, 0)) s.credits = true
  granted : Sparse.wf (fun _ => (0, 0)) s.granted = true

/-- The fields of the state, by name. -/
inductive StateField where
  | pending
  | clock
  | free
  | out
  | regs
  | shadows
  | mem
  | bad
  | beat
  | beatBefore
  | fns
  | msix
  | grants
  | grantOp
  | vales
  | parts
  | slots
  | links
  | turns
  | floors
  | echo
  | tests
  | credits
  | granted
  | resets
  | health
  | terrace
  | boot
  | census
  | mp
  | pins
deriving DecidableEq, Repr

/-- The two states hold the same in this field. -/
def StateField.same : StateField → State → State → Prop
  | .pending, s, t => t.pending = s.pending
  | .clock, s, t => t.clock = s.clock
  | .free, s, t => t.free = s.free
  | .out, s, t => t.out = s.out
  | .regs, s, t => t.regs = s.regs
  | .shadows, s, t => t.shadows = s.shadows
  | .mem, s, t => t.mem = s.mem
  | .bad, s, t => t.bad = s.bad
  | .beat, s, t => t.beat = s.beat
  | .beatBefore, s, t => t.beatBefore = s.beatBefore
  | .fns, s, t => t.fns = s.fns
  | .msix, s, t => t.msix = s.msix
  | .grants, s, t => t.grants = s.grants
  | .grantOp, s, t => t.grantOp = s.grantOp
  | .vales, s, t => t.vales = s.vales
  | .parts, s, t => t.parts = s.parts
  | .slots, s, t => t.slots = s.slots
  | .links, s, t => t.links = s.links
  | .turns, s, t => t.turns = s.turns
  | .floors, s, t => t.floors = s.floors
  | .echo, s, t => t.echo = s.echo
  | .tests, s, t => t.tests = s.tests
  | .credits, s, t => t.credits = s.credits
  | .granted, s, t => t.granted = s.granted
  | .resets, s, t => t.resets = s.resets
  | .health, s, t => t.health = s.health
  | .terrace, s, t => t.terrace = s.terrace
  | .boot, s, t => t.boot = s.boot
  | .census, s, t => t.census = s.census
  | .mp, s, t => t.mp = s.mp
  | .pins, s, t => t.pins = s.pins

/-- From s to t at most the fields that F names have changed. -/
def State.Within (F : StateField → Bool) (s t : State) : Prop := ∀ f, F f = false → f.same s t

/-- From s to t nothing but the listed fields has changed. -/
def State.Only (s : State) (l : List StateField) (t : State) : Prop := State.Within (fun f => l.contains f) s t

/-- From s to t no register but those at the listed addresses has changed. -/
def State.RegsBut (s : State) (as : List Nat) (t : State) : Prop := ∀ a, a ∉ as → t.reg a = s.reg a

/-- From s to t no byte of memory has changed outside the n bytes from a on. -/
def State.BytesBut (s : State) (a n : Nat) (t : State) : Prop := ∀ b, b < a ∨ a + n ≤ b → t.byte b = s.byte b

/-- The part serves accesses to a function's BARs: it is READY, and the function is not in D3hot (R494, R512). -/
def Serves (s : State) (fn : Fn) : Bool := s.ready && !(s.fn (fnNum fn)).d3

/-- Engine g issues the word w next, from block b of command c in slot k: the block is under way, its command is on this vale and runs, and w
stands in program memory at the block's program counter (R156, R162, R186). -/
structure Issues (s : State) (g : Vale) (w : Nat) (k : Nat) (c : Cmd) (b : Blk) : Prop where
  live : s.live = true
  block : s.issuing g.val = some (k, c, b)
  vale : c.vale = g.val
  word : s.progWord g.val (b.base * 64 + b.pc) = w

/-- An instruction of engine g that took n clocks has issued, and the block stands at b' (R186, R187): while the program goes on, b' is
the block under way and nothing is waited for; ISSUE counts the clocks; other vales and other commands are as before. -/
structure Retires (s t : State) (g : Vale) (k : Nat) (c : Cmd) (n : Nat) (b' : Blk) : Prop where
  block : b'.pc < c.progLen → (t.vale g.val).elem.blk = some b' ∧ (t.vale g.val).elem.wait = .none
  issue : s.counting (.elem g) = true →
    t.reg64 (pageBase (.elem g) + 0x58) = (s.reg64 (pageBase (.elem g) + 0x58) + n) % 2 ^ 64
  vales : ∀ h, h ≠ g.val → t.vale h = s.vale h
  slots : ∀ j, j ≠ k → t.cmd j = s.cmd j

/-- The executing lanes js of engine g take their results in register d, with their flags, and no other lane changes (R172, R179). -/
def LanesTake (s t : State) (g : Vale) (d : Nat) (js : List Nat) (f : Nat → LaneRes) : Prop :=
  ∀ j, t.lane g.val j =
    if j ∈ js then { (s.lane g.val j).setReg d (f j).w with flags := (s.lane g.val j).flags ||| (f j).flags } else s.lane g.val j

/-- An instruction that writes register d of its executing lanes, in n clocks (R172, R179, R180, R186): every executing lane takes its
own result and flags; the command counts the saturation events; without one, nothing changes but lanes, block and ISSUE while the
program goes on. -/
structure LaneStep (s t : State) (g : Vale) (k : Nat) (c : Cmd) (b : Blk) (js : List Nat) (d n : Nat) (f : Nat → LaneRes) : Prop where
  lanes : LanesTake s t g d js f
  retires : Retires s t g k c n b.next
  sat : ∃ c', t.cmd k = some c' ∧ c'.desc = c.desc ∧
    min c'.sat 0xFFFFFFFF = min (c.sat + (js.map fun j => (f j).sat).foldl (· + ·) 0) 0xFFFFFFFF
  frame : (js.map fun j => (f j).sat).foldl (· + ·) 0 = 0 → b.next.pc < c.progLen →
    s.Only [.vales, .regs] t ∧ s.RegsBut [pageBase (.elem g) + 0x58, pageBase (.elem g) + 0x5C] t

/-- An instruction that writes predicate d of its executing lanes, in one clock (R172, R200, R201); p0 ignores writes (R154). -/
structure PredStep (s t : State) (g : Vale) (k : Nat) (c : Cmd) (b : Blk) (js : List Nat) (d : Nat) (f : Nat → Bool) : Prop where
  lanes : ∀ j, t.lane g.val j = if j ∈ js then (s.lane g.val j).setPred d (f j) else s.lane g.val j
  retires : Retires s t g k c 1 b.next
  frame : b.next.pc < c.progLen →
    s.Only [.vales, .regs] t ∧ s.RegsBut [pageBase (.elem g) + 0x58, pageBase (.elem g) + 0x5C] t

/-- The stage of command c in slot k has stopped on a program error at block b (R219): the command's status is PROGRAM with the code and
the instruction's place, unless an earlier failure stands; the stage has ended, and no lane has changed. -/
structure StageStops (s t : State) (g : Vale) (k : Nat) (c : Cmd) (b : Blk) (code : Nat) : Prop where
  status : ∃ c', t.cmd k = some c' ∧ c'.elem.ended = true ∧ c'.desc = c.desc ∧
    (c.status = 0 → c'.status = 3 ∧ c'.detail = code ∧ c'.progAddr = c.pmBase * 64 + b.pc) ∧
    (c.status ≠ 0 → c'.status = c.status ∧ c'.detail = c.detail)
  engine : (t.vale c.vale).elem.blk = none ∧ (t.vale c.vale).elem.stage = none
  lanes : ∀ h j, t.lane h j = s.lane h j
  frame : s.Only [.vales, .regs, .slots] t

/-- The fields of the state that a command can change, its own effect and everything it leads to (counters, interrupts, records of
errors met on the way) taken together. -/
def footprint : Instr → List StateField
  | .registerWrite .. =>
    [.free, .out, .regs, .mem, .bad, .beat, .fns, .msix, .grants, .grantOp, .vales, .parts, .slots, .links, .turns, .floors,
     .echo, .tests, .resets, .health, .terrace, .census, .mp, .pins]
  | .rcFieldRead .. | .lowWordRead .. =>
    [.out, .regs, .shadows]
  | .cgTestOutRead .. | .mctpControl .. | .getPdr .. | .getPdrRepositoryInfo .. | .getSensorReading ..
    | .getSensorThresholds .. | .getTid .. | .getStatus .. | .queryDeviceIdentifiers .. | .getFirmwareParameters ..
    | .getDigests .. | .getCertificate .. | .challenge .. | .getMeasurements .. =>
    [.out]
  | .irqStatWrite .. | .irqForceWrite .. | .satWatchTagWrite .. | .censusRead .. | .settingRead .. | .morIdxWrite .. =>
    [.out, .regs, .msix]
  | .softReset .. =>
    [.out, .regs, .mem, .vales, .resets]
  | .softResetEnd .. =>
    [.resets]
  | .hostFence .. =>
    [.out, .regs, .msix, .vales, .parts, .floors, .health, .terrace, .mp]
  | .beatCrossing .. | .beatLoss .. =>
    [.clock, .out, .regs, .beat, .msix, .mp]
  | .beatEdge .. =>
    [.clock, .out, .regs, .beat, .beatBefore, .msix, .vales]
  | .flywheelEdge .. =>
    [.clock, .regs, .beat]
  | .flywheelExpiry .. =>
    [.out, .regs, .beat, .msix, .slots, .mp]
  | .relock .. =>
    [.out, .beat, .slots]
  | .rearm .. =>
    [.free, .out, .regs, .mem, .bad, .beat, .msix, .vales, .parts, .slots, .floors, .echo, .health, .mp]
  | .beatEnWrite .. =>
    [.out, .regs, .beat]
  | .beatMessageSend .. | .linkSignalDetect .. | .linkEqualised .. | .codewordLock .. | .linkMeasured .. | .mgmtMessage .. =>
    [.links]
  | .beatMessage .. =>
    [.free, .out, .regs, .beat, .msix, .links, .census, .mp]
  | .sqDoorbell .. | .jobResume .. | .arrCntClr .. | .elemCntClr .. | .strmCntClr .. | .seqCntClr .. | .vqDoorbell ..
    | .vqResume .. | .uqDoorbell .. | .uqResume .. | .rqDoorbell .. =>
    [.out, .regs]
  | .descriptorTake .. | .commandComplete .. | .jobCancel .. | .destroy .. | .admissionRecheck .. | .collResolveClean ..
    | .collResolveAbort .. | .commandReissue .. =>
    [.free, .out, .regs, .mem, .bad, .msix, .vales, .parts, .slots, .floors, .echo, .health, .mp]
  | .scheduledDispatch .. =>
    [.clock, .out, .regs, .mem, .bad, .msix, .vales, .parts, .slots, .floors, .echo, .health, .mp]
  | .openDispatch .. =>
    [.out, .regs, .mem, .bad, .msix, .vales, .parts, .slots, .floors, .echo, .health, .mp]
  | .earlyFetch .. | .storeStageStart .. | .lineFillLanded .. | .lineDrainDone .. =>
    [.vales, .slots]
  | .matrixStageStart .. =>
    [.out, .regs, .bad, .msix, .slots, .floors, .health, .mp]
  | .seedPassEnd .. =>
    [.out, .regs, .mem, .bad, .msix, .slots, .floors, .health, .mp]
  | .tileSwap .. =>
    [.out, .regs, .mem, .bad, .msix, .vales, .parts, .slots, .floors, .echo, .health, .terrace, .mp]
  | .bankRowRelease .. =>
    [.regs, .slots, .health]
  | .elementStageStart .. =>
    [.out, .regs, .mem, .bad, .msix, .vales, .parts, .slots, .floors, .health, .mp]
  | .elementBlockStart .. | .fadd .. | .fsub .. | .fmul .. | .ffma .. | .fmin .. | .fmax .. | .fabs .. | .fneg .. | .fdiv ..
    | .fsqrt .. | .frsq .. | .tfn .. | .iadd .. | .isub .. | .imul .. | .imin .. | .imax .. | .iabs .. | .andE .. | .orE ..
    | .xorE .. | .shl .. | .shr .. | .sel .. | .mov .. | .ldi .. | .cvt .. | .qnt .. | .ocl .. | .ocg .. | .red .. | .rng ..
    | .epi .. | .qrd .. | .movs .. =>
    [.out, .regs, .mem, .bad, .msix, .vales, .slots, .floors, .health, .mp]
  | .collectStageStart .. =>
    [.regs, .mem, .slots]
  | .lapStart .. =>
    [.out, .regs, .mem, .bad, .msix, .slots, .links, .floors, .health, .mp]
  | .cqHeadWrite .. | .digestGo .. =>
    [.out, .regs, .parts]
  | .cqConfigWrite .. =>
    [.out, .regs, .msix, .parts]
  | .nopE .. | .fcmp .. | .icmp .. | .ocs .. | .oct .. | .pack .. | .unpk .. | .qwr .. | .qwc .. | .loopE .. | .pset ..
    | .plog .. | .fclr .. =>
    [.regs, .mem, .vales, .slots]
  | .subBlockLands .. | .vfFlr .. | .pfFlr .. | .hotReset .. =>
    [.free, .out, .regs, .mem, .bad, .fns, .msix, .vales, .parts, .slots, .floors, .echo, .health, .mp]
  | .circularWaitSpill .. =>
    [.out, .regs, .msix, .vales, .slots]
  | .translationFault .. =>
    [.out, .regs, .msix, .parts, .slots]
  | .prgResponse .. =>
    [.out, .regs, .fns, .msix, .parts, .slots, .terrace]
  | .faultResume .. =>
    [.out, .regs, .msix, .parts, .slots, .terrace]
  | .faultEnd .. =>
    [.out, .msix, .parts, .slots, .terrace]
  | .granuleGrant .. =>
    [.free, .out, .regs, .mem, .bad, .msix, .vales, .parts, .slots, .links, .turns, .floors, .echo, .credits, .granted,
     .health, .mp]
  | .pmFlush .. =>
    [.out, .vales]
  | .echoRecompute .. =>
    [.out, .regs, .mem, .bad, .msix, .floors, .echo, .health, .mp]
  | .create .. =>
    [.out, .regs, .mem, .bad, .msix, .vales, .parts, .floors, .health, .mp]
  | .destroyDrained .. =>
    [.mem, .vales, .parts]
  | .addVale .. | .releaseVale .. =>
    [.out, .mem, .vales, .parts]
  | .btLoad .. =>
    [.out, .regs, .bad, .msix, .parts, .floors, .health, .mp]
  | .pcfgOpEnd .. =>
    [.out, .regs, .msix, .parts, .mp]
  | .beatTableAnchor .. | .rcEvaluate .. | .tlbInvEnd .. | .digestStart .. =>
    [.parts]
  | .valeScan .. | .echoCheck .. | .arrayPattern .. | .storePattern .. | .linkMargin .. | .linkRetrain .. =>
    [.free, .out, .regs, .tests]
  | .bgTestStart .. =>
    [.out, .regs, .msix, .vales, .links, .tests, .mp]
  | .bgTestEnd .. =>
    [.out, .regs, .mem, .msix, .vales, .parts, .slots, .links, .echo, .tests, .health, .terrace, .mp]
  | .flitReceive .. | .replayTimeout .. | .linkTrainTimeout .. =>
    [.out, .regs, .msix, .slots, .links, .health, .mp]
  | .trainMessage .. =>
    [.free, .out, .links]
  | .linkExchangeDone .. =>
    [.out, .regs, .msix, .slots, .links]
  | .linkEnWrite .. =>
    [.free, .out, .regs, .msix, .slots, .links, .mp]
  | .ringPiece .. | .arrive .. | .closeGather .. | .closeOutcome .. | .closeTimeout .. | .lapTimeout .. | .retryStart ..
    | .switchbackBlock .. | .localBlockLanded .. =>
    [.free, .out, .regs, .mem, .bad, .msix, .vales, .parts, .slots, .links, .turns, .floors, .echo, .health, .mp]
  | .outcomeTimeout .. =>
    [.out, .regs, .msix, .slots, .turns, .mp]
  | .bind .. | .unbind .. | .pin .. | .unpin .. | .install .. | .ledgerAppend .. | .turn .. | .setStep .. | .reqOpen ..
    | .grow .. | .commit .. | .retire .. | .prefixDrop .. | .recount .. | .adapterCopyLanded .. | .prefixSaveLanded .. =>
    [.free, .out, .regs, .mem, .bad, .msix, .parts, .slots, .floors, .health, .mp]
  | .turnJobStart .. =>
    [.free, .out, .regs, .mem, .bad, .msix, .parts, .turns, .floors, .health, .mp]
  | .turnBudgetExpiry .. =>
    [.out, .regs, .msix, .turns, .mp]
  | .turnResolveClean .. =>
    [.out, .regs, .mem, .bad, .msix, .parts, .slots, .turns, .floors, .health, .mp]
  | .turnResolveAbort .. =>
    [.out, .regs, .mem, .bad, .msix, .parts, .slots, .links, .turns, .floors, .health, .mp]
  | .fuuStep .. =>
    [.out, .regs, .mem, .bad, .msix, .parts, .floors, .health, .mp]
  | .stepEnd .. | .loadEnd .. =>
    [.out, .regs, .mem, .bad, .msix, .parts, .slots, .floors, .health, .mp]
  | .rcMoveApply .. =>
    [.regs, .vales, .parts, .mp]
  | .rcEnable .. =>
    [.out, .regs, .vales, .parts]
  | .grantWrite .. | .grantRead .. | .withdrawEnd .. =>
    [.out, .regs, .msix, .grants, .grantOp]
  | .withdraw .. =>
    [.out, .regs, .msix, .grantOp]
  | .tlbInv .. | .fqNextRead .. =>
    [.out, .parts]
  | .scrubStep .. =>
    [.out, .regs, .bad, .msix, .floors, .health, .mp]
  | .targetedRefresh .. =>
    [.regs]
  | .load .. | .evict .. | .resHold .. | .resRelease .. =>
    [.out, .regs, .mem, .bad, .msix, .parts, .slots, .floors, .health, .terrace, .mp]
  | .bar2Access .. =>
    [.free, .out, .regs, .mem, .bad, .msix, .floors, .health, .mp]
  | .hmUpdate .. =>
    [.out, .regs, .msix, .health, .terrace, .mp, .pins]
  | .hmClear .. | .terraceNow .. =>
    [.out, .health]
  | .terraceHoldStart .. =>
    [.free, .out, .regs, .bad, .msix, .floors, .health, .terrace, .mp]
  | .terraceHoldEnd .. =>
    [.out, .regs, .mem, .bad, .fns, .msix, .vales, .parts, .slots, .floors, .health, .terrace, .mp]
  | .terracePushEnd .. =>
    [.out, .regs, .bad, .msix, .floors, .health, .terrace, .mp]
  | .terraceInvalidate .. =>
    [.out, .terrace]
  | .restore .. =>
    [.out, .regs, .terrace]
  | .restoreEnd .. =>
    [.out, .regs, .mem, .bad, .msix, .vales, .parts, .floors, .health, .terrace, .mp]
  | .digestEnd .. =>
    [.free, .out, .regs, .bad, .msix, .parts, .slots, .floors, .health, .mp]
  | .valeFence .. =>
    [.out, .regs, .msix, .vales, .parts, .health, .terrace, .mp]
  | .plainFence .. =>
    [.out, .regs, .msix, .vales, .parts, .floors, .health, .mp]
  | .pcieLinkDown .. | .perst .. =>
    [.free, .out, .regs, .mem, .bad, .fns, .msix, .vales, .parts, .slots, .floors, .echo, .health, .boot, .mp]
  | .atsInvalidation .. =>
    [.out, .fns]
  | .msixUnmask .. =>
    [.out, .msix]
  | .hostReadFailure .. =>
    [.out, .slots]
  | .resetAssert .. =>
    [.clock, .free, .out, .regs, .shadows, .mem, .bad, .beat, .beatBefore, .fns, .msix, .grants, .grantOp, .vales, .parts,
     .slots, .links, .turns, .floors, .echo, .tests, .credits, .granted, .resets, .health, .terrace, .boot, .census, .mp, .pins]
  | .resetRelease .. =>
    [.out, .regs, .boot, .pins]
  | .bootPhaseDone .. =>
    [.free, .out, .regs, .mem, .bad, .msix, .vales, .parts, .links, .floors, .health, .terrace, .boot, .mp, .pins]
  | .censusAutoStart .. | .censusStart .. | .censusAssign .. =>
    [.free, .out, .regs, .links, .census]
  | .censusCall .. =>
    [.free, .out, .regs, .msix, .links, .census, .mp]
  | .censusReport .. =>
    [.free, .out, .links, .census]
  | .gatherClose .. =>
    [.free, .out, .regs, .beat, .msix, .links, .census]
  | .censusLeftOut .. =>
    [.out, .regs, .msix, .links, .mp]
  | .censusReady .. =>
    [.free, .out, .regs, .msix, .links, .census]
  | .powerLoss .. =>
    [.out, .terrace, .boot, .pins]
  | .thermalTrip .. =>
    [.out, .regs, .boot, .mp, .pins]
  | .sensorSample .. =>
    [.out, .regs, .msix, .health, .mp, .pins]
  | .pldmEventWindow .. | .setEndpointId .. | .setSensorThresholds .. | .setEventReceiver .. | .requestUpdate ..
    | .passComponentTable .. | .firmwareData .. | .cancelUpdateComponent .. | .cancelUpdate .. | .getVersion ..
    | .getCapabilities .. | .negotiateAlgorithms .. =>
    [.out, .mp]
  | .updateComponent .. =>
    [.out, .regs, .mp]
  | .slotVerifyEnd .. | .activateSlot .. =>
    [.free, .out, .regs, .msix, .mp]
  | .activateFirmware .. =>
    [.free, .out, .mp]
  | .updateTimeout .. | .moraineIntervalEnd .. =>
    [.regs, .mp]
  | .ffClear .. | .settingWrite .. | .moraineWrite .. =>
    [.out, .regs, .msix, .mp]
  | .echoUnitFailure .. =>
    [.regs, .echo, .mp]
  | .passDieFailure .. =>
    [.out, .boot]

end Sys2Proof.Machine
end

