-- ==== Sys2Proof/Certificates/Slice0/Obligations.lean ====
section
/-! DEFINITION. Obligations: the statements for the provers. -/

open Sys2Proof Sys2Proof.Machine

/-- A step takes the command at the front of the queue: it is exec of that command on the state with the queue's rest. On an empty queue
one core clock passes, and nothing changes beside the clock and the registers that count clocks (R34). That the block ticks on an empty
queue is the model's choice (log entry 3). -/
def Obligations.StepRunsTheFrontCommand : Prop :=
  (∀ (s : State) (c : Instr) (rest : List Instr), s.pending = c :: rest → step s = exec c { s with pending := rest }) ∧
  ∀ s : State, s.pending = [] → ∃ t, step s = .next t ∧ t.clock = s.clock + 1 ∧ s.Only [.clock, .regs] t

/-- Whatever the command, its operands and the state, exec answers a next state: no command of the block faults or is refused. That the
Fault type is empty is the model's own choice; a command that comes when its conditions do not hold leaves the state alone
(log entry 5). -/
def Obligations.EveryCommandAnswers : Prop := ∀ (c : Instr) (s : State), ∃ t, exec c s = .next t

/-- The canonical form of memory, of the registers and of every numbered unit is an invariant of the machine: from every state that has
it, reachable or not, a step leads to a state that has it. -/
def Obligations.CanonicalKept : Prop := ∀ s t : State, s.Canonical → step s = .next t → t.Canonical

/-- The state after reset is in canonical form. -/
def Obligations.ResetIsCanonical : Prop := State.reset.Canonical ∧ Memory.wf State.reset.mem = true

/-- Whatever the command, exec leaves the queue as it found it, and the core clock never goes back. -/
def Obligations.CommandsKeepQueueAndClock : Prop :=
  ∀ (c : Instr) (s t : State), exec c s = .next t → t.pending = s.pending ∧ s.clock ≤ t.clock

/-- The coarse frame of the whole command set: every field of the state that a command's footprint does not list is the same after it. -/
def Obligations.CommandFootprints : Prop :=
  ∀ (c : Instr) (s t : State), exec c s = .next t → s.Only (footprint c) t

/-- R577, with the regions of R576: where the pages of pass dies, plains, vales and floor dies lie, that a page holds 4 KiB from there on, and
that the registers of a page which R579 to R583 do not give it lie from 0x040 on. The first part, for every page, says that no two overlap;
the addresses of partition pages in it are the model's own numbering of the VFs' BAR0 (log entry 4). -/
def Obligations.PagesLieWhereTheMapSays : Prop :=
  (∀ (pg : Page) (o : Nat), o < 0x1000 → locate (pageBase pg + o) = some (pg, o)) ∧
  (∀ (o : Nat), o < 0x1000 →
    (∀ n : Pass, locate (0x100000 + 0x40000 * n.val + o) = some (.pass n, o) ∧
      locate (0x100000 + 0x40000 * n.val + 0x2000 + o) = some (.swb n, o)) ∧
    locate (0x100000 + 0x3000 + o) = some (.health, o) ∧
    (∀ p : Plain, locate (0x1000000 + 0x100000 * p.val + o) = some (.plain p, o) ∧
      locate (0x1000000 + 0x100000 * p.val + 0x3000 + o) = some (.echo p, o)) ∧
    (∀ (g : Vale) (p v : Nat), g.val = 8 * p + v → v < 8 →
      let region := 0x1000000 + 0x100000 * p + 0x10000 * (v + 1)
      locate (region + o) = some (.seq g, o) ∧ locate (region + 0x2000 + o) = some (.elem g, o) ∧
        locate (region + 0x3000 + o) = some (.stream g, o) ∧
        (∀ a : ArrayId, locate (region + 0x1000 * (4 + a.val) + o) = some (.array g a, o)) ∧
        locate (region + 0x8000 + o) = some (.collect g, o)) ∧
    ∀ x : Stack, locate (0x3000000 + 0x10000 * x.val + o) = some (.floor x, o) ∧
      locate (0x3000000 + 0x10000 * x.val + 0x1000 + o) = some (.fuu x, o)) ∧
  (∀ (pg : Page) (o : Nat), (∀ n, pg ≠ .part n) → o ≠ 0x10 → ((pageRows pg).any (·.covers o)) = true → 0x40 ≤ o ∧ o < 0x1000)

/-- R7 and R12, for a register that has one field: what a 32-bit host write leaves in it. -/
def Obligations.RegisterWriteStores : Prop :=
  ∀ (s : State) (pg : Page) (o : Nat) (r : RegRow) (v : BitVec 64),
    Serves s .pf = true → s.resetting pg = false → 0x40 ≤ o → o < 0x1000 → o % 4 = 0 → rowsAt pg o = [r] →
    (match pg with | .pass _ | .plain _ | .echo _ | .floor _ | .fuu _ => True | _ => False) →
    let a := pageBase pg + o
    let x := fieldOf (v.setWidth 32) r.hi r.lo
    let y := fieldOf (s.reg a) r.hi r.lo
    ∃ t, exec (.registerWrite (.bar .pf) a 4 v) s = .next t ∧
      t.reg a = (match r.acc with
        | .rw => if r.legal.ok x then setField (s.reg a) r.hi r.lo x else s.reg a
        | .w1c => setField (s.reg a) r.hi r.lo (y - (y &&& x))
        | .w1s => setField (s.reg a) r.hi r.lo (y ||| x)
        | _ => s.reg a) ∧
      s.RegsBut [a] t ∧ s.Only [.regs, .out, .msix] t

/-- The write of a register that has a command of its own does that command; a 64-bit access is two 32-bit accesses, the lower offset first, and
any other width or alignment is discarded (R9). -/
def Obligations.RegisterWriteIsItsRow : Prop :=
  (∀ (s : State) (n : PartId) (v : BitVec 64),
    let w : BitVec 32 := v.setWidth 32
    (∀ j : Job, exec (.registerWrite (.bar (.vf n)) (0x100C + 0x40 * j.val) 4 v) s = exec (.sqDoorbell n j w) s) ∧
    exec (.registerWrite (.bar (.vf n)) 0x2000 4 v) s = exec (.cqConfigWrite n .baseLo w) s ∧
    exec (.registerWrite (.bar (.vf n)) 0x2004 4 v) s = exec (.cqConfigWrite n .baseHi w) s ∧
    exec (.registerWrite (.bar (.vf n)) 0x2008 4 v) s = exec (.cqConfigWrite n .size w) s ∧
    exec (.registerWrite (.bar (.vf n)) 0x2010 4 v) s = exec (.cqHeadWrite n w) s ∧
    exec (.registerWrite (.bar (.vf n)) 0x300C 4 v) s = exec (.vqDoorbell n w) s ∧
    exec (.registerWrite (.bar (.vf n)) 0x400C 4 v) s = exec (.uqDoorbell n w) s ∧
    exec (.registerWrite (.bar (.vf n)) 0x500C 4 v) s = exec (.rqDoorbell n w) s) ∧
  (∀ (s : State) (g : Vale),
    exec (.registerWrite (.bar .pf) (pageBase (.seq g) + 0x40) 4 1) s = exec (.seqCntClr g) s ∧
    exec (.registerWrite (.bar .pf) (pageBase (.elem g) + 0x40) 4 1) s = exec (.pmFlush g) s ∧
    exec (.registerWrite (.bar .pf) (pageBase (.elem g) + 0x40) 4 2) s = exec (.elemCntClr g) s) ∧
  (∀ (s : State) (pg : Page) (v : BitVec 64), pg ≠ .mp → (∀ n, pg ≠ .part n) →
    exec (.registerWrite (.bar .pf) (pageBase pg + 0x18) 4 v) s = exec (.irqForceWrite pg (v.setWidth 32)) s) ∧
  (∀ (s t : State) (fn : Fn) (ofs : Nat) (v : BitVec 64), ofs % 8 = 0 → Serves s fn = true →
    exec (.registerWrite (.bar fn) ofs 4 v) s = .next t →
    exec (.registerWrite (.bar fn) ofs 8 v) s = exec (.registerWrite (.bar fn) (ofs + 4) 4 (v >>> 32)) t) ∧
  (∀ (s : State) (fn : Fn) (ofs width : Nat) (v : BitVec 64), Serves s fn = true →
    ¬ (width = 4 ∧ ofs % 4 = 0) → ¬ (width = 8 ∧ ofs % 8 = 0) → exec (.registerWrite (.bar fn) ofs width v) s = .next s)

/-- R7 (RC), R10 and R40 (shadows), R93 (CG_TEST_OUT): the reads that are commands. -/
def Obligations.RegisterReadsThatChange : Prop :=
  (∀ (s : State) (fn : Fn) (ofs a : Nat) (pg : Page) (o : Nat),
    Serves s fn = true → flatAddr fn ofs = some a → locate a = some (pg, o) → rcAddr fn ofs = true → s.resetting pg = false →
    s.shadow fn a = none →
    ∃ t, exec (.rcFieldRead fn ofs) s = .next t ∧ t.out = s.out ++ [.read fn ofs ((viewReg s a).setWidth 64)] ∧
      (∀ i, (t.reg a).getLsbD i =
        ((s.reg a).getLsbD i && !((rowsAt pg o).any fun r => r.acc == .rc && decide (r.lo ≤ i) && decide (i ≤ r.hi)))) ∧
      s.RegsBut [a] t ∧ s.Only [.regs, .shadows, .out] t) ∧
  (∀ (s : State) (fn : Fn) (ofs a : Nat) (w : Word),
    Serves s fn = true → flatAddr fn ofs = some a → (locate a).isSome = true → s.shadow fn a = some w →
    ∃ t, exec (.lowWordRead fn ofs) s = .next t ∧ t.out = s.out ++ [.read fn ofs (w.setWidth 64)] ∧
      (fn = .pf → ofs = 0x4C ∨ ofs = 0x50 → t.shadow fn a = none ∧ s.Only [.regs, .shadows, .out] t)) ∧
  (∀ s : State, Serves s .pf = true → s.shadow .pf 0x48 = none → s.resetting .device = false →
    s.shownBeat = s.beat →
    ∃ t, exec (.lowWordRead .pf 0x48) s = .next t ∧
      t.out = s.out ++ [.read .pf 0x48 ((s.beat.num.setWidth 32 : Word).setWidth 64)] ∧
      t.shadow .pf 0x4C = some ((s.beat.num >>> 32).setWidth 32) ∧
      t.shadow .pf 0x50 = some (BitVec.ofNat 32 (s.subBeat % 2 ^ 14)) ∧ s.RegsBut [] t ∧ s.Only [.regs, .shadows, .out] t) ∧
  (∀ s : State, Serves s .pf = true →
    let k : CgKey := ⟨s.reg 0x80, s.reg 0x84, s.reg 0x88, s.reg 0x8C⟩
    let c : CgCounter := ⟨s.reg 0x90, s.reg 0x94, s.reg 0x98, s.reg 0x9C⟩
    exec .cgTestOutRead s = .next (s.emit (.read .pf 0xA0 ((cg k c).setWidth 64))))

/-- R583 and R500: a write to IRQ_STAT and a write to IRQ_FORCE. -/
def Obligations.InterruptRegisters : Prop :=
  (∀ (s : State) (pg : Page) (v : BitVec 32), Serves s .pf = true → hasIrq pg = true → s.resetting pg = false →
    (∀ n, pg ≠ .part n) → (∀ n, pg ≠ .partcfg n) →
    let a := pageBase pg + 0x10
    ∃ t, exec (.irqStatWrite pg v) s = .next t ∧
      (∀ i, (t.reg a).getLsbD i = ((s.reg a).getLsbD i &&
        !(v.getLsbD i && (rowsAt pg 0x10).any fun r => r.acc == .w1c && decide (r.lo ≤ i) && decide (i ≤ r.hi)))) ∧
      s.RegsBut [a] t ∧ s.Only [.regs, .out, .msix] t) ∧
  (∀ (s : State) (pg : Page) (v : BitVec 32) (n : Nat), Serves s .pf = true → hasIrq pg = true → s.resetting pg = false →
    pageVector pg = some n →
    let a := pageBase pg + 0x10
    ∃ t, exec (.irqForceWrite pg v) s = .next t ∧ t.reg a = s.reg a ||| BitVec.ofNat 32 (forcedBits pg v) ∧
      s.RegsBut [a] t ∧ s.Only [.regs, .out, .msix] t ∧
      ((s.fn 0).msixOn = true → (s.fn 0).fnMask = false → (s.msixOf 0 n).masked = false →
        t.out = if !vectorOr s n && vectorOr t n then s.out ++ [.msix .pf n] else s.out))

/-- R584: the soft reset of a page whose unit keeps running, and its end. -/
def Obligations.SoftResetOfAPage : Prop :=
  (∀ (s : State) (pg : Page), Serves s .pf = true → pageSoftReset pg = .regs → s.resetting pg = false → s.Canonical →
    ∃ t, exec (.softReset pg) s = .next t ∧ t.resetting pg = true ∧
      (∀ o, o < 0x1000 → (∃ w, (pageBase pg + o, w) ∈ s.regs) →
        t.reg (pageBase pg + o) = softResetWord pg o (s.reg (pageBase pg + o))) ∧
      (∀ o, (∀ w, (pageBase pg + o, w) ∉ s.regs) → t.reg (pageBase pg + o) = regDefault (pageBase pg + o)) ∧
      (∀ a, a < pageBase pg ∨ pageBase pg + 0x1000 ≤ a → t.reg a = s.reg a) ∧ s.Only [.regs, .resets] t) ∧
  (∀ (s : State) (pg : Page), Serves s .pf = true → s.resetting pg = true → exec (.softReset pg) s = .next s) ∧
  (∀ (s : State) (pg : Page), s.live = true →
    ∃ t, exec (.softResetEnd pg) s = .next t ∧ t.resetting pg = false ∧
      (∀ q, pageBase q ≠ pageBase pg → t.resetting q = s.resetting q) ∧ s.Only [.resets] t)

/-- R32, R34, R35, R54: a crossing of the beat input by state. The gap of the operand is the model's own way to place a crossing in time. -/
def Obligations.BeatCrossings : Prop :=
  ∀ (s : State) (falling : Bool) (gap : Nat), s.live = true → s.beat.due (s.clock + gap) = true →
    let x := s.clock + gap
    ∃ t, exec (.beatCrossing falling gap) s = .next t ∧ t.clock = x ∧ s.Only [.clock, .regs, .beat, .out, .msix, .mp] t ∧
      ((s.beatEn = false ∨ falling ≠ s.beat.fallingPol) → t = s.pass gap) ∧
      (s.beatEn = true → falling = s.beat.fallingPol → s.beat.state = .noBeat →
        t.beat.state = .locking ∧ t.beat.lastCross = some x ∧ t.beat.num = s.beat.num ∧ t.beat.edgesDue = s.beat.edgesDue) ∧
      (∀ y ps, s.beatEn = true → falling = s.beat.fallingPol → s.beat.state = .locking → s.beat.lastCross = some y →
        523 ≤ x - y → x - y ≤ 8402 → lastSixteen (s.beat.periods ++ [x - y]) = ps → lockPeriods ps = true →
        t.beat.state = .locked ∧ t.beat.pLock = 16 * ps.foldl (· + ·) 0 ∧ t.beat.edgesDue = s.beat.edgesDue ++ [x] ∧
        t.beat.meteredValid = (s.beat.meteredValid || !s.beat.everLocked) ∧ t.beat.num = s.beat.num) ∧
      (s.beatEn = true → falling = s.beat.fallingPol → s.beat.state = .locked → within x s.beat.predicted 2 = true →
        t.beat.state = .locked ∧ t.beat.edgesDue = s.beat.edgesDue ++ [x] ∧ t.beat.predicted = x * 256 + t.beat.pLock ∧
        t.reg 0x60 = (s.pass gap).reg 0x60 ∧ t.reg 0x68 = (s.pass gap).reg 0x68) ∧
      (s.beatEn = true → falling = s.beat.fallingPol → s.beat.state = .locked → within x s.beat.predicted 2 = false →
        t.beat = s.beat ∧ t.reg 0x68 = satInc ((s.pass gap).reg 0x68) 1 ∧ (t.reg 0x60).getLsbD 6 = true)

/-- R36, R37, R38 (first counted edge), R40 (SUB_BEAT), R47 (FLYWHEEL_CNT): the internal beat edge. -/
def Obligations.BeatEdges : Prop :=
  (∀ (s : State) (late : Bool) (x : Nat) (rest : List Nat), s.live = true → s.beat.edgesDue = x :: rest →
    s.clock ≤ x + 24 + boolBit late →
    ∃ t, exec (.beatEdge late) s = .next t ∧ t.clock = x + 24 + boolBit late ∧ t.subBeat = 0 ∧
      t.beat.num = (if s.beat.counted then s.beat.num + 1 else s.beat.num) ∧
      t.beat.counted = true ∧
      t.beat.flyCount = (if s.beat.state = .flywheel ∨ s.beat.state = .expired then min 2047 (s.beat.flyCount + 1) else s.beat.flyCount) ∧
      (s.beat.slewEdge = false → t.beat.state = s.beat.state ∧ t.beat.edgesDue = rest) ∧ t.beatBefore = s.beat ∧
      s.Only [.clock, .regs, .beat, .beatBefore, .out, .msix, .vales] t) ∧
  (∀ (s : State) (late : Bool), s.live = true → s.beat.edgesDue = [] → exec (.beatEdge late) s = .next s)

/-- R37: BEAT_NUM counts the beat edges, of accepted crossings and of the flywheel alike (both wait in `edgesDue`), and changes in no other
way but by the transfer rule, and by a module reset (R55); the first counted edge is that of R38. The last clause is R37's remark on the
wrap, with years of 365.25 days. -/
def Obligations.BeatNumberChangesOnlyByEdgesAndTransfer : Prop :=
  (∀ (s : State) (late : Bool) (x : Nat) (rest : List Nat), s.live = true → s.beat.edgesDue = x :: rest → s.beat.counted = true →
    ∃ t, exec (.beatEdge late) s = .next t ∧ t.beat.num = s.beat.num + 1) ∧
  (∀ (c : Instr) (s t : State), exec c s = .next t → (∀ late, c ≠ .beatEdge late) → (∀ k, c ≠ .beatMessage k) →
    (∀ ns, c ≠ .resetAssert ns) → t.beat.num = s.beat.num) ∧
  140000 * 31557600 * 4000000 < 2 ^ (64 : Nat)

/-- R46 and R47: the loss of the beat, the flywheel's edges and its expiry. R50, R51, R53 and R54: the writes of BEAT_CTL. -/
def Obligations.BeatLossAndControl : Prop :=
  (∀ s : State, s.live = true → s.beat.state = .locked → s.beat.edgesDue = [] → s.clock ≤ (s.beat.predicted + 512) / 256 →
    let p := s.beat.predicted + 512
    ∃ t, exec .beatLoss s = .next t ∧ t.clock = p / 256 ∧ t.beat.state = .flywheel ∧ t.beat.flyCount = 0 ∧
      t.beat.edgesDue = [p / 256] ∧ t.beat.predicted = p + s.beat.pLock ∧ t.beat.pLock = s.beat.pLock ∧ t.beat.num = s.beat.num ∧
      (t.reg 0x60).getLsbD 1 = true ∧ (∃ e, e.event = .beatLoss ∧ t.mp = s.mp.take e) ∧
      s.Only [.clock, .regs, .beat, .out, .msix, .mp] t) ∧
  (∀ s : State, s.live = true → s.beat.edgesDue = [] →
    (s.beat.state = .flywheel ∧ s.beat.flyCount < 1025 ∨ s.beat.state = .expired ∨
      s.beat.state = .locking ∧ s.beat.everLocked = true) → s.clock ≤ s.beat.predicted / 256 →
    ∃ t, exec .flywheelEdge s = .next t ∧ t.clock = s.beat.predicted / 256 ∧
      t.beat = { s.beat with edgesDue := [s.beat.predicted / 256], predicted := s.beat.predicted + s.beat.pLock } ∧
      s.Only [.clock, .regs, .beat] t) ∧
  (∀ s : State, s.live = true → s.beat.state = .flywheel → s.beat.flyCount = 1025 →
    ∃ t, exec .flywheelExpiry s = .next t ∧ t.beat = { s.beat with state := .expired, meteredValid := false, expiredVoid := true } ∧
      (t.reg 0x60).getLsbD 2 = true ∧ (∃ e, e.event = .beatExpiry ∧ t.mp = s.mp.take e) ∧
      (∀ k c, s.cmd k = some c → s.metered c.part.val = true → c.dispatched.isSome = true → s.Canonical →
        ∃ c', t.cmd k = some c' ∧ 4 ∈ c'.voids) ∧
      (s.inFlight = [] → t.slots = s.slots) ∧
      s.Only [.regs, .beat, .out, .msix, .mp, .slots] t) ∧
  (∀ s : State, Serves s .pf = true → s.beatEn = true → s.anyMetered = false →
    ∃ t, exec .relock s = .next t ∧ t.beat.state = .locking ∧ t.beat.periods = [] ∧ t.beat.lastCross = none ∧
      t.beat.takeNumber = true ∧ t.beat.fallingPol = s.regBit 0x40 1 ∧ t.beat.num = s.beat.num ∧ t.beat.pLock = s.beat.pLock ∧
      t.beat.meteredValid = s.beat.meteredValid ∧ s.Only [.beat] t) ∧
  (∀ s : State, Serves s .pf = true → s.beatEn = true → s.anyMetered = true →
    ∃ t, exec .relock s = .next t ∧ t.beat.state = .locking ∧ t.beat.phaseVoid = true ∧ s.Only [.beat, .slots] t ∧
      (∀ k c, s.cmd k = some c → s.metered c.part.val = true → c.dispatched.isSome = true → s.Canonical →
        ∃ c', t.cmd k = some c' ∧ 8 ∈ c'.voids)) ∧
  (∀ s : State, Serves s .pf = true → s.beat.state = .locked →
    let r := { s with beat := { s.beat with meteredValid := true, expiredVoid := false, phaseVoid := false } }
    (∀ e ∈ s.admittedOnes fun _ => true, ∃ c, s.cmd e.1 = some c ∧ meteredCode r e.1 c = 0) → exec .rearm s = .next r) ∧
  (∀ s : State, Serves s .pf = true → s.beat.state ≠ .locked → exec .rearm s = .next s) ∧
  (∀ (s : State) (en : Bool), Serves s .pf = true →
    ∃ t, exec (.beatEnWrite en) s = .next t ∧ t.beatEn = en ∧ s.RegsBut [0x40] t ∧ s.Only [.regs, .beat] t ∧
      (s.beatEn = en → t = s) ∧ t.beat.num = s.beat.num ∧
      (en = false → s.beatEn = true → s.beat.state = .locking → s.beat.everLocked = true →
        t.beat.state = .flywheel ∧ t.beat.flyCount = 0) ∧
      (en = false → s.beatEn = true → s.beat.state = .locking → s.beat.everLocked = false → t.beat.state = .noBeat) ∧
      (s.beat.state ≠ .locking → t.beat.state = s.beat.state))

/-- R38, R39 and R42: beat numbers over links. -/
def Obligations.BeatMessages : Prop :=
  (∀ (s : State) (k : Link), s.live = true → s.linkUp k.val = true → s.beat.origin = true → s.beatNum % 256 = 0 →
    (s.link k.val).lastBeat ≠ some s.beatNum →
    ∃ t, exec (.beatMessageSend k) s = .next t ∧
      t.link k.val = { s.link k.val with beats := (s.link k.val).beats + 1, lastBeat := some s.beatNum } ∧
      (∀ j, j ≠ k.val → t.link j = s.link j) ∧ s.Only [.links] t) ∧
  (∀ (s u : State) (k : Link) (f : RxFlit), s.live = true → s.readFlit k.val 3 16 = (some f, u) → s.beat.state = .locked →
    s.beat.takeNumber = false → s.beat.origin = false → bitOf (leAt f.payload 10 1) 0 = true → censusMember s = true →
    k.val = parentLink s →
    ∃ t, exec (.beatMessage k) s = .next t ∧
      t.beat.num = BitVec.ofNat 64 (transferRule u (w64At f.payload 0) (bitsOf (leAt f.payload 8 2) 13 0) (s.link k.val).lambda f.at_) ∧
      t.beat.origin = true ∧ t.subBeat = s.subBeat ∧ t.beat.pLock = s.beat.pLock ∧
      s.Only [.free, .out, .regs, .beat, .msix, .links, .census, .mp] t) ∧
  (∀ (s u : State) (k : Link) (f : RxFlit), s.live = true → s.readFlit k.val 3 16 = (some f, u) → s.beat.state = .locked →
    s.beat.takeNumber = false → s.beat.origin = true →
    let v := transferRule u (w64At f.payload 0) (bitsOf (leAt f.payload 8 2) 13 0) (s.link k.val).lambda f.at_
    ∃ t, exec (.beatMessage k) s = .next t ∧ t.beat = s.beat ∧ (t.link k.val).mismatch = decide (v ≠ s.beatNum) ∧
      (v ≠ s.beatNum → (t.reg 0x60).getLsbD 5 = true ∧ ∃ e, e.event = .linkMismatch ∧ t.mp = u.mp.take e) ∧
      (v = s.beatNum → t.reg 0x60 = s.reg 0x60 ∧ t.mp = s.mp))

/-- R248 (SQ_TAIL), R271 (RESUME), R270 (CQ_HEAD), R267 (CQ_BASE, CQ_SIZE), R594 (SEQ CNT_CLR), R283 (a FREE partition's page). -/
def Obligations.SubmissionAndCompletionRegisters : Prop :=
  (∀ (s : State) (n : PartId) (j : Job) (tail : BitVec 32), Serves s (.vf n) = true →
    let a := jobBase n.val j.val + 0x0C
    let t := bitsOf tail.toNat 14 0
    exec (.sqDoorbell n j tail) s =
      .next (if s.pageOn n.val = true ∧ t < s.ringSlots (jobBase n.val j.val + 0x08) then s.setRegF a 14 0 t else s)) ∧
  (∀ (s : State) (n : PartId) (j : Job), Serves s (.vf n) = true → s.pageOn n.val = true →
    ∃ t, exec (.jobResume n j) s = .next t ∧ t.jobHalted n.val j.val = false ∧
      t.regF (jobBase n.val j.val + 0x18) 7 4 = s.regF (jobBase n.val j.val + 0x18) 7 4 ∧
      t.regF (jobBase n.val j.val + 0x18) 11 8 = s.regF (jobBase n.val j.val + 0x18) 11 8 ∧
      s.RegsBut [jobBase n.val j.val + 0x18] t ∧ s.Only [.regs] t) ∧
  (∀ (s : State) (n : PartId) (v : BitVec 32), Serves s (.vf n) = true → s.pageOn n.val = true →
    let b := partBase n.val
    let h := bitsOf v.toNat 14 0
    let slots := s.ringSlots (b + 0x2008)
    (h < slots → ∃ t, exec (.cqHeadWrite n v) s = .next t ∧ t.regF (b + 0x2010) 14 0 = h ∧
      (t.part n.val).cqHeld = (s.part n.val).cqHeld - releasedBy (s.part n.val).cqHeld (s.regF (b + 0x2010) 14 0) h slots ∧
      (t.part n.val).cqMessage = false ∧ (∀ m, m ≠ n.val → t.part m = s.part m) ∧ s.RegsBut [b + 0x2010] t ∧
      s.Only [.regs, .parts] t) ∧
    (slots ≤ h → exec (.cqHeadWrite n v) s = .next s)) ∧
  (∀ (s : State) (n : PartId) (r : CqReg) (v : BitVec 32), Serves s (.vf n) = true → s.pageOn n.val = true →
    s.ofPart n.val = [] → (r = .size → 4 ≤ bitsOf v.toNat 3 0) →
    let b := partBase n.val
    ∃ t, exec (.cqConfigWrite n r v) s = .next t ∧ t.reg (b + 0x200C) = 0#32 ∧ t.reg (b + 0x2010) = 0#32 ∧
      (t.part n.val).cqHeld = 0 ∧ (t.part n.val).cqPass = 0 ∧ (∀ m, m ≠ n.val → t.part m = s.part m) ∧
      t.reg (cqRegAddr n.val r) = (s.storeReg (cqRegAddr n.val r) v).reg (cqRegAddr n.val r) ∧
      s.RegsBut [cqRegAddr n.val r, b + 0x200C, b + 0x2010] t ∧ s.Only [.regs, .parts, .out, .msix] t) ∧
  (∀ (s : State) (n : PartId) (r : CqReg) (v : BitVec 32), Serves s (.vf n) = true → s.ofPart n.val ≠ [] →
    exec (.cqConfigWrite n r v) s = .next s) ∧
  (∀ (s : State) (g : Vale), Serves s .pf = true → s.resetting (.seq g) = false →
    let a := pageBase (.seq g) + 0x48
    ∃ t, exec (.seqCntClr g) s = .next t ∧ t.reg64 a = 0 ∧ s.RegsBut [a, a + 4] t ∧ s.Only [.regs] t)

/-- R248, R249, R251, R266, R271: the taking of a descriptor. Which free slot the part picks is an operand. -/
def Obligations.DescriptorsAreTaken : Prop :=
  ∀ (s : State) (n : PartId) (j : Job) (k : Slot) (host : List Byte) (g : Nat), s.live = true →
    takeOk n j k.val s = true →
    let b := jobBase n.val j.val
    let d := s.readQueue n.val (s.ringHost b) (s.ringBase b + 128 * sqNext s n.val j.val) 128 host
    mapVale d.2.2 n.val j.val (descVale d.1) = some g →
    ∃ t, exec (.descriptorTake n j k host) s = .next t ∧
      t.regF (b + 0x10) 14 0 = (sqNext s n.val j.val + 1) % s.ringSlots (b + 0x08) ∧
      (t.part n.val).nextSeq = (s.part n.val).nextSeq + 1 ∧
      ((t.cmd k.val = none ∧ (t.part n.val).cqHeld = (s.part n.val).cqHeld + 1) ∨
        ∃ c, t.cmd k.val = some c ∧ c.part = n ∧ c.job = j.val ∧ c.desc = d.1 ∧ c.vale = g ∧ c.admitted = true ∧
          c.seqNo = (s.part n.val).nextSeq ∧ c.takenBeat = s.beatNum ∧ c.dispatched = none) ∧
      (s.jobHalted n.val j.val = true → t.cmd k.val = none) ∧
      (∀ i, i ≠ k.val → (t.cmd i).isSome = (s.cmd i).isSome)

/-- R43, R252, R253 (dispatch), R83 and R354 (what is latched), R225 (early fetch), R223 (the STORE stage). The state u is the one in which the
command is dispatched; its transfers are then issued by the operations of the FETCH stage. -/
def Obligations.CommandsAreDispatched : Prop :=
  (∀ (s : State) (k : Slot) (c : Cmd), s.live = true → s.cmd k.val = some c → openOk k.val s = true →
    ∃ u c', exec (.openDispatch k) s = .next ((u.startFetch k.val).matrixGo k.val) ∧ u.cmd k.val = some c' ∧
      c'.dispatched = some (s.beatNum, s.subBeat) ∧ c'.bound = true ∧ c'.partKey = s.partKey c.part.val ∧
      c'.jobKey = s.jobKey c.part.val c.job ∧
      c'.bindings = (if c.bound then c.bindings else s.jobBindings c.part.val c.job) ∧
      c'.desc = c.desc ∧ c'.voids = c.voids ∧ (∀ i, i ≠ k.val → u.cmd i = s.cmd i) ∧
      (c.hasColl = false → c'.coll = c.coll) ∧
      (c.hasColl = true → linksOpen s c = true → ∃ wait, c'.coll = some (CollSt.fresh wait c.reissued s.beatNum)) ∧
      (c.hasColl = true → linksOpen s c = false → c'.coll = some CollSt.never) ∧
      (let a := pageBase (.seq (Fin.ofNat 128 c.vale)) + 0x48
       s.RegsBut [a, a + 4] u ∧ (s.counting (.seq (Fin.ofNat 128 c.vale)) = true → u.reg64 a = (s.reg64 a + 1) % 2 ^ 64)) ∧
      s.Only [.slots, .regs] u) ∧
  (∀ (s : State) (k : Slot) (c : Cmd), s.live = true → s.cmd k.val = some c → scheduledOk k.val s = true →
    ∃ u c', exec (.scheduledDispatch k) s = .next ((u.startFetch k.val).matrixGo k.val) ∧ u.cmd k.val = some c' ∧
      u.clock = (if c.startBeat = s.beatNum then max s.clock (s.beat.edgeClock + c.startOfs) else s.clock) ∧
      c'.dispatched = some (u.beatNum, u.subBeat) ∧ c'.bound = true ∧ c'.partKey = s.partKey c.part.val ∧
      c'.jobKey = s.jobKey c.part.val c.job ∧ (∀ i, i ≠ k.val → u.cmd i = s.cmd i) ∧
      (c.hasColl = false → c'.coll = c.coll) ∧
      (c.hasColl = true → linksOpen s c = true → ∃ wait, c'.coll = some (CollSt.fresh wait c.reissued s.beatNum)) ∧
      (c.hasColl = true → linksOpen s c = false → c'.coll = some CollSt.never) ∧
      (c.startBeat = s.beatNum → s.clock ≤ s.beat.edgeClock + c.startOfs + 10 → s.beat.expiredVoid = false →
        s.beat.phaseVoid = false → c'.voids = c.voids) ∧
      (c.startBeat < s.beatNum → c.reissued = false → 6 ∉ c.voids → s.beat.phaseVoid = false → 7 ∈ c'.voids) ∧
      s.Only [.clock, .slots, .regs] u) ∧
  (∀ (s : State) (k : Slot) (c : Cmd), s.live = true → s.cmd k.val = some c → earlyOk k.val s = true →
    ∃ u, exec (.earlyFetch k) s = .next (u.startFetch k.val) ∧
      u.cmd k.val = some { c with
        early := true, bound := true, bindings := if c.bound then c.bindings else s.jobBindings c.part.val c.job } ∧
      (∀ i, i ≠ k.val → u.cmd i = s.cmd i) ∧ s.Only [.slots] u) ∧
  (∀ (s : State) (k : Slot) (c : Cmd), s.live = true → s.cmd k.val = some c → storeNow s k.val c ≠ [] →
    ∃ t, exec (.storeStageStart k) s = .next t ∧
      t = (storeNow s k.val c).foldl (fun s x => s.issueXfer k.val x) s ∧ s.Only [.slots, .vales] t)

/-- R224, R259, R267 (completion) and R272 (cancellation). -/
def Obligations.CommandsEnd : Prop :=
  (∀ (s : State) (k : Slot) (c : Cmd), s.live = true → s.cmd k.val = some c → s.running c = true → c.allEnded = true →
    let n := c.part.val
    let b := partBase n
    let tail := s.regF (b + 0x200C) 14 0
    ∃ t, exec (.commandComplete k) s = .next t ∧ t.cmd k.val = none ∧ (∀ i, i ≠ k.val → (t.cmd i).isSome = (s.cmd i).isSome) ∧
      t.regF (b + 0x200C) 14 0 = (tail + 1) % s.ringSlots (b + 0x2008) ∧ (t.part n).cqHeld = (s.part n).cqHeld + 1 ∧
      (c.stepClose = false → s.ringHost (b + 0x2000) = true →
        ∃ r q, Emit.hostWrite (.vf c.part) q false (s.ringBase (b + 0x2000) + 64 * tail) (recordBytes k.val c r) ∈ t.out ∧
          r.closed = false ∧ r.beat = s.beatNum ∧ r.sub = s.subBeat ∧ r.phase = ((s.part n).cqPass % 2 == 0)) ∧
      (c.stepClose = false → c.status = 0 → c.f 0x2C 11 0 ≠ 0 → c.f 0x2C 27 16 ≠ c.f 0x2C 11 0 →
        t.token n (c.f 0x2C 11 0) = (s.token n (c.f 0x2C 11 0) + 1) % 2 ^ 20)) ∧
  (∀ (s : State) (n : PartId) (j : Job), Serves s (.vf n) = true → s.pageOn n.val = true → s.Canonical →
    ∃ t, exec (.jobCancel n j) s = .next t ∧
      (∀ k c, s.cmd k = some c → c.part = n → c.job = j.val → c.dispatched = none → c.reissued = false → t.cmd k = none) ∧
      (∀ k c, s.cmd k = some c → ¬ (c.part = n ∧ c.job = j.val ∧ c.dispatched = none ∧ c.reissued = false) →
        (t.cmd k).isSome = true) ∧
      (t.part n.val).cqHeld = (s.part n.val).cqHeld +
        ((s.ofPart n.val).filter fun e => e.2.job == j.val && e.2.dispatched.isNone && !e.2.reissued).length ∧
      ((s.ofPart n.val).all (fun e => e.2.job != j.val || e.2.dispatched.isSome) = true → t = s))

/-- R114, R223 and R137 (the start of a MATRIX stage), R139 (the end of a seed pass), R109 and R110 (release and corrections). -/
def Obligations.MatrixStageAndSeedPasses : Prop :=
  (∀ (s : State) (k : Slot) (c : Cmd), s.live = true → s.cmd k.val = some c → matrixStartOk k.val s = true →
    (matrixSeeds s c = [] →
      ∃ t c', exec (.matrixStageStart k) s = .next t ∧ t.cmd k.val = some c' ∧ c'.matrix.started = true ∧ c'.desc = c.desc ∧
        c'.matrix.tile = c.matrix.tile ∧ c'.matrix.row = c.matrix.row ∧
        c'.matrix.sw = BitVec.ofNat 32 (w32At (s.readRec k.val c c.wTag).1 0) ∧
        c'.matrix.sa = BitVec.ofNat 32 (w32At ((s.readRec k.val c c.wTag).2.readRec k.val c c.aTag).1 0) ∧
        (∀ i, i ≠ k.val → t.cmd i = s.cmd i) ∧
        s.Only [.slots, .regs, .bad, .out, .msix, .floors, .health, .mp] t) ∧
    (matrixSeeds s c ≠ [] →
      ∃ t c', exec (.matrixStageStart k) s = .next t ∧ t.cmd k.val = some c' ∧ c'.matrix = c.matrix ∧
        (∀ x, x ∈ c'.seeds.map (·.tag) ↔ x ∈ c.seeds.map (·.tag) ∨ x ∈ matrixSeeds s c) ∧
        (∀ i, i ≠ k.val → t.cmd i = s.cmd i) ∧ s.Only [.slots] t)) ∧
  (∀ (s : State) (k : Slot) (c : Cmd) (tag : BitVec 24) (fmt : BitVec 4), s.live = true → s.cmd k.val = some c →
    seedEndOk k.val tag.toNat s = true →
    let a := scaleAddr s c.part.val tag.toNat
    ∃ t c', exec (.seedPassEnd k tag fmt) s = .next t ∧ t.cmd k.val = some c' ∧
      c'.seeds = c.seeds.filter (fun d => d.tag != tag.toNat) ∧ (∀ i, i ≠ k.val → t.cmd i = s.cmd i) ∧
      (∀ bs u, s.pdaOk c.part.val a 128 true = true → s.readPda c.part.val a 128 = (.ok bs, u) →
        t.mem = (u.poke c.part.val a (recSeed ((s.seedValues c tag.toNat fmt.toNat).foldl foldAmax 0#32) bs)).mem) ∧
      (s.pdaOk c.part.val a 128 true = false → s.Only [.slots] t)) ∧
  (∀ (s : State) (k : Slot) (c : Cmd) (corrected : List ArrayId), s.live = true → s.cmd k.val = some c →
    rowReleaseOk k.val s = true →
    ∃ t, exec (.bankRowRelease k corrected) s = .next t ∧
      t.cmd k.val = some { c with matrix := { c.matrix with released := c.matrix.released + 1 } } ∧
      (∀ i, i ≠ k.val → t.cmd i = s.cmd i) ∧
      (∀ a : ArrayId, let pg := Page.array (Fin.ofNat 128 c.vale) a
        s.counting pg = true → t.reg (pageBase pg + 0x80) =
          satInc (s.reg (pageBase pg + 0x80)) (corrected.filter (· == a)).length) ∧
      (corrected = [] → s.Only [.slots] t) ∧ s.Only [.slots, .regs, .health] t)

/-- R97 and R101: TILE_SWAP. The state u is the one in which the tiles have become active; the rows of the tile, or the fence, come
from it. -/
def Obligations.TilesBecomeActive : Prop :=
  ∀ (s : State) (k : Slot) (c : Cmd) (parity : TileParity), s.live = true → s.cmd k.val = some c → tileSwapOk k.val s = true →
    ∃ u c', exec (.tileSwap k parity) s =
        .next (if parity = .good then u.matrixGo k.val else valeFenceDo (Fin.ofNat 128 c.vale) .array u) ∧
      u.cmd k.val = some c' ∧ c'.desc = c.desc ∧ c'.matrix = { c.matrix with tile := c.matrix.tile + 1, row := 0 } ∧
      (∀ a ∈ c.arrays, ∀ tile, (s.array c.vale a).shadow = some tile →
        (u.array c.vale a).active = some tile ∧ (u.array c.vale a).tileTag = BitVec.ofNat 32 tile.tag ∧
        (c.za ≠ 0 → (u.array c.vale a).sumsOf c.accBase =
          (addSums (tile.index == 0 && !c.accumulate) ((s.array c.vale a).sumsOf c.accBase) tile.sums).1)) ∧
      (∀ a, a ∉ c.arrays → u.array c.vale a = s.array c.vale a) ∧ (∀ g, g ≠ c.vale → u.vale g = s.vale g) ∧
      s.Only [.out, .regs, .mem, .bad, .msix, .vales, .parts, .slots, .floors, .health, .mp] u

/-- R99, R102, R103 and R104: what a row slot of an array does to the accumulator banks. It is a statement about the shared operation
that TILE_SWAP and the landing of activations lead to. -/
def Obligations.RowsAreAccumulated : Prop :=
  ∀ (s : State) (k : Nat) (c : Cmd) (xs : List Nat) (t r : Nat) (a : ArrayId) (rank : Nat) (tile : Tile),
    c.vale < 128 → c.accBase + r < 256 → tile.nValid ≤ 128 → (s.array c.vale a.val).active = some tile →
    let u := s.rowThrough k c xs t r a.val rank
    let old := fun j => if t = 0 ∧ c.accumulate = false then none else some (s.bankWord c.vale a.val (c.accBase + r) j)
    let column := fun j => (List.range tile.kValid).map fun y => tile.code y j
    (∀ j, j < tile.nValid →
      u.bankWord c.vale a.val (c.accBase + r) j = (accumulate c.wfmt c.afmt xs (column j) (old j)).w) ∧
    (∀ j, tile.nValid ≤ j → j < 128 → u.bankWord c.vale a.val (c.accBase + r) j =
      if t = 0 ∧ c.accumulate = false then 0#32 else s.bankWord c.vale a.val (c.accBase + r) j) ∧
    (∀ (g : Vale) (a' : ArrayId) (row col : Nat), row < 256 → col < 128 →
      ¬ (g.val = c.vale ∧ a' = a ∧ row = c.accBase + r) → u.bankWord g.val a'.val row col = s.bankWord g.val a'.val row col) ∧
    (let pg := Page.array (Fin.ofNat 128 c.vale) a
     s.counting pg = true → u.reg64 (pageBase pg + 0x70) = (s.reg64 (pageBase pg + 0x70) + 1) % 2 ^ 64)

/-- R105: accumulation in the integer modes. -/
def Obligations.IntegerAccumulationSaturates : Prop :=
  ∀ (wfmt afmt : Nat) (xs ws : List Nat) (bank : Option Word), intMode wfmt = true →
    let total := ((xs.zip ws).map fun p => intOf afmt p.1 * intOf wfmt p.2).sum + (match bank with | some w => w.toInt | none => 0)
    let r := accumulate wfmt afmt xs ws bank
    r.w.toInt = min (max total (-2147483648)) 2147483647 ∧ (r.sat = 1 ↔ r.w.toInt ≠ total) ∧ (r.sat = 0 ↔ r.w.toInt = total) ∧
      (r.flags = if r.w.toInt = total then 0#4 else Flags.saturated)

/-- R133 and R134: the scale that a step close sets, and the record it leaves. -/
def Obligations.StepCloseScale : Prop :=
  (∀ (m : Nat) (g : Int) (p : Nat) (h margin : Int), 0 < m → 0 < p →
    ∃ e : Int, scaleExp (.fin false m g) (.fin false p h) margin = min (max (e + margin) (-126)) 127 ∧
      Val.lt (.fin false p (h + e)) (.fin false m g) = false ∧ Val.lt (.fin false p (h + (e - 1))) (.fin false m g) = true) ∧
  (∀ rc : List Byte, rc.length = 128 →
    let pos := bitsOf (w32At rc 0x08) 16 13
    let t := recClose rc
    t.length = 128 ∧ w32At t (0x40 + 4 * pos) = w32At rc 0x04 ∧ bitsOf (w32At t 0x08) 16 13 = (pos + 1) % 16 ∧
      bitsOf (w32At t 0x08) 21 17 = min (bitsOf (w32At rc 0x08) 21 17 + 1) 16 ∧ w32At t 0x04 = 0 ∧ w32At t 0x14 = 0 ∧
      w32At t 0x0C = (w32At rc 0x0C + 1) % 2 ^ 32 ∧ w32At t 0x10 = w32At rc 0x10 ∧
      (bitOf (w32At rc 0x08) 23 = true → w32At t 0x00 = w32At rc 0x00) ∧
      (∀ i, i < 16 → i ≠ pos → w32At t (0x40 + 4 * i) = w32At rc (0x40 + 4 * i)))

/-- R121, R117, R189, R246 and R584: the controls of the engines' pages. -/
def Obligations.StatusAndCounterControls : Prop :=
  (∀ (s : State) (g : Vale) (a : ArrayId), Serves s .pf = true → s.resetting (.array g a) = false →
    let b := pageBase (.array g a)
    ∃ t, exec (.arrCntClr g a) s = .next t ∧ t.reg64 (b + 0x70) = 0 ∧ t.reg64 (b + 0x78) = 0 ∧
      s.RegsBut [b + 0x70, b + 0x74, b + 0x78, b + 0x7C] t ∧ s.Only [.regs] t) ∧
  (∀ (s : State) (g : Vale), Serves s .pf = true → s.resetting (.elem g) = false →
    let b := pageBase (.elem g)
    ∃ t, exec (.elemCntClr g) s = .next t ∧ t.reg64 (b + 0x50) = 0 ∧ t.reg64 (b + 0x58) = 0 ∧ t.reg64 (b + 0x60) = 0 ∧
      s.RegsBut [b + 0x50, b + 0x54, b + 0x58, b + 0x5C, b + 0x60, b + 0x64] t ∧ s.Only [.regs] t) ∧
  (∀ (s : State) (g : Vale), Serves s .pf = true → s.resetting (.stream g) = false →
    let b := pageBase (.stream g)
    ∃ t, exec (.strmCntClr g) s = .next t ∧ t.reg64 (b + 0x4C) = 0 ∧ t.reg64 (b + 0x58) = 0 ∧
      s.RegsBut [b + 0x4C, b + 0x50, b + 0x58, b + 0x5C] t ∧ s.Only [.regs] t) ∧
  (∀ (s : State) (g : Vale) (a : ArrayId) (i : Fin 4) (v : BitVec 32), Serves s .pf = true → s.resetting (.array g a) = false →
    let x := pageBase (.array g a) + 0x50 + 4 * i.val
    let n := pageBase (.array g a) + 0x60 + 4 * i.val
    ∃ t, exec (.satWatchTagWrite g a i v) s = .next t ∧ t.reg n = 0#32 ∧ t.reg x = (s.storeReg x v).reg x ∧
      s.RegsBut [x, n] t ∧ s.Only [.regs, .out, .msix] t) ∧
  (∀ (s : State) (g : Vale), Serves s .pf = true → s.resetting (.elem g) = false →
    ∃ t, exec (.pmFlush g) s = .next t ∧ (∀ h, h ≠ g.val → t.vale h = s.vale h) ∧ s.Only [.vales] t ∧
      ((s.ofVale g.val).all (fun e => e.2.dispatched.isNone) = true →
        t.vale g.val = { s.vale g.val with elem := { (s.vale g.val).elem with resident := [], flushDue := false } }) ∧
      ((s.ofVale g.val).any (fun e => e.2.dispatched.isSome) = true →
        t.vale g.val = { s.vale g.val with elem := { (s.vale g.val).elem with flushDue := true } })) ∧
  (∀ (s : State) (g : Vale) (a : ArrayId) (i : Fin 4) (v : BitVec 32), Serves s .pf = true →
    (s.resetting (.array g a) = true → exec (.arrCntClr g a) s = .next s ∧ exec (.satWatchTagWrite g a i v) s = .next s) ∧
    (s.resetting (.elem g) = true → exec (.elemCntClr g) s = .next s ∧ exec (.pmFlush g) s = .next s) ∧
    (s.resetting (.stream g) = true → exec (.strmCntClr g) s = .next s))

/-- R147, R148, R149, R150 and R153: the recomputation of echo tiles. -/
def Obligations.EchoRecomputes : Prop :=
  (∀ (s : State) (p : Plain) (x : EchoTile), s.live = true → s.echoNext p.val = some x → (s.echoOf p.val).failed = false →
    let b := pageBase (.echo p)
    let r := x.recompute (s.recWord x.part x.tag 0x20).toNat
    ∃ t, exec (.echoRecompute p) s = .next t ∧
      t.echoOf p.val = { s.echoOf p.val with tiles := (s.echoOf p.val).tiles.erase x } ∧
      (∀ q, q ≠ p.val → t.echoOf q = s.echoOf q) ∧
      (s.counting (.echo p) = true → t.reg (b + 0x48) = satInc (s.reg (b + 0x48)) 1) ∧
      (s.counting (.echo p) = true → t.reg (b + 0x4C) = satInc (s.reg (b + 0x4C)) (boolBit r.1)) ∧
      (r.1 = true → t.reg (b + 0x58) = BitVec.ofNat 32 x.index ∧ (s.resetting (.echo p) = false → (t.reg (b + 0x10)).getLsbD 0 = true)) ∧
      (r.1 = false → t.reg (b + 0x54) = s.reg (b + 0x54) ∧ t.reg (b + 0x58) = s.reg (b + 0x58) ∧
        t.reg (b + 0x5C) = s.reg (b + 0x5C) ∧ t.reg (b + 0x60) = s.reg (b + 0x60) ∧ t.reg (b + 0x10) = s.reg (b + 0x10)) ∧
      s.Only [.out, .regs, .mem, .bad, .msix, .floors, .echo, .health, .mp] t) ∧
  (∀ (s : State) (p : Plain), s.live = true → (s.echoNext p.val = none ∨ (s.echoOf p.val).failed = true) →
    exec (.echoRecompute p) s = .next s) ∧
  (∀ (s : State) (p : Plain), s.live = true → ∃ t, exec (.echoUnitFailure p) s = .next t ∧
    t.echoOf p.val = { failed := true, tiles := [] } ∧ (∀ q, q ≠ p.val → t.echoOf q = s.echoOf q) ∧
    (∃ e, e.event = .echoFailed ∧ e.source = blkId (.echo p) ∧ t.mp = s.mp.take e) ∧ s.Only [.regs, .echo, .mp] t)

/-- R195, R196, R197, R200, R202 and R204 with R172, R179, R180 and R186: the floating-point instructions. The operations on words are
those of the model's number formats; the statements on rounding and on lane results say what they answer. -/
def Obligations.ElementFloatInstructions : Prop :=
  (∀ (s : State) (g : Vale) (i : RFmt) (k : Nat) (c : Cmd) (b : Blk),
    let js := s.executing g.val b i.pred i.pneg
    let x := fun j => (s.lane g.val j).reg i.a.toNat
    let y := fun j => (s.lane g.val j).reg i.b.toNat
    let z := fun j => (s.lane g.val j).reg i.c.toNat
    (Issues s g (wordR i 0x01) k c b → i.c = 0 → i.mod = 0 →
      ∃ t, exec (.fadd g i) s = .next t ∧ LaneStep s t g k c b js i.d.toNat 1 fun j => opFadd (x j) (y j)) ∧
    (Issues s g (wordR i 0x02) k c b → i.c = 0 → i.mod = 0 →
      ∃ t, exec (.fsub g i) s = .next t ∧ LaneStep s t g k c b js i.d.toNat 1 fun j => opFsub (x j) (y j)) ∧
    (Issues s g (wordR i 0x03) k c b → i.c = 0 → i.mod = 0 →
      ∃ t, exec (.fmul g i) s = .next t ∧ LaneStep s t g k c b js i.d.toNat 1 fun j => opFmul (x j) (y j)) ∧
    (Issues s g (wordR i 0x04) k c b → i.mod = 0 →
      ∃ t, exec (.ffma g i) s = .next t ∧ LaneStep s t g k c b js i.d.toNat 1 fun j => opFfma (x j) (y j) (z j)) ∧
    (Issues s g (wordR i 0x05) k c b → i.c = 0 → i.mod = 0 →
      ∃ t, exec (.fmin g i) s = .next t ∧ LaneStep s t g k c b js i.d.toNat 1 fun j => opFmin (x j) (y j)) ∧
    (Issues s g (wordR i 0x06) k c b → i.c = 0 → i.mod = 0 →
      ∃ t, exec (.fmax g i) s = .next t ∧ LaneStep s t g k c b js i.d.toNat 1 fun j => opFmax (x j) (y j)) ∧
    (Issues s g (wordR i 0x07) k c b → i.b = 0 → i.c = 0 → i.mod = 0 →
      ∃ t, exec (.fabs g i) s = .next t ∧ LaneStep s t g k c b js i.d.toNat 1 fun j => opFabs (x j)) ∧
    (Issues s g (wordR i 0x08) k c b → i.b = 0 → i.c = 0 → i.mod = 0 →
      ∃ t, exec (.fneg g i) s = .next t ∧ LaneStep s t g k c b js i.d.toNat 1 fun j => opFneg (x j)) ∧
    (Issues s g (wordR i 0x09) k c b → i.c = 0 → i.mod = 0 →
      ∃ t, exec (.fdiv g i) s = .next t ∧ LaneStep s t g k c b js i.d.toNat 4 fun j => opFdiv (x j) (y j)) ∧
    (Issues s g (wordR i 0x0A) k c b → i.b = 0 → i.c = 0 → i.mod = 0 →
      ∃ t, exec (.fsqrt g i) s = .next t ∧ LaneStep s t g k c b js i.d.toNat 4 fun j => opFsqrt (x j)) ∧
    (Issues s g (wordR i 0x0B) k c b → i.b = 0 → i.c = 0 → i.mod = 0 →
      ∃ t, exec (.frsq g i) s = .next t ∧ LaneStep s t g k c b js i.d.toNat 4 fun j => opFrsq (x j)) ∧
    (Issues s g (wordR i 0x0D) k c b → i.b = 0 → i.c = 0 → i.mod.toNat ≤ 4 →
      ∃ t, exec (.tfn g i) s = .next t ∧ LaneStep s t g k c b js i.d.toNat 2 fun j => opTfn i.mod.toNat mom2Entry (x j)) ∧
    (Issues s g (wordR i 0x20) k c b → i.mod = 0 → cvtFormat i.b.toNat = true → cvtFormat i.c.toNat = true →
      ∃ t, exec (.cvt g i) s = .next t ∧ LaneStep s t g k c b js i.d.toNat 1 fun j => opCvt i.b.toNat i.c.toNat (x j)) ∧
    (Issues s g (wordR i 0x0C) k c b → i.d.toNat < 8 → i.c = 0 → i.mod.toNat ≤ 6 →
      ∃ t, exec (.fcmp g i) s = .next t ∧ PredStep s t g k c b js i.d.toNat fun j => condFp i.mod.toNat (x j) (y j))) ∧
  (∀ (a b : Word) (na nb : Bool) (m : Nat) (e g : Int), fval a = .fin na m e → m ≠ 0 → fval b = .fin nb 0 g →
    (opFdiv a b).w = withSign (na != nb) maxfWord ∧ (opFdiv a b).sat = 1 ∧ (opFdiv a b).flags = Flags.saturated) ∧
  (∀ a : Word, (fval a).isZero = true → (opFrsq a).w = withSign (signBit a) maxfWord ∧ (opFrsq a).sat = 1 ∧
    (opFrsq a).flags = Flags.saturated)

/-- R194, R199, R200, R201, R211, R212, R217 and R218 with R172, R179, R180 and R186. -/
def Obligations.ElementLogicAndLaneInstructions : Prop :=
  (∀ (s : State) (g : Vale) (i : RFmt) (k : Nat) (c : Cmd) (b : Blk),
    let js := s.executing g.val b i.pred i.pneg
    let x := fun j => (s.lane g.val j).reg i.a.toNat
    let y := fun j => (s.lane g.val j).reg i.b.toNat
    (Issues s g (wordR i 0x18) k c b → i.c = 0 → i.mod = 0 →
      ∃ t, exec (.andE g i) s = .next t ∧ LaneStep s t g k c b js i.d.toNat 1 fun j => LaneRes.plain (x j &&& y j)) ∧
    (Issues s g (wordR i 0x19) k c b → i.c = 0 → i.mod = 0 →
      ∃ t, exec (.orE g i) s = .next t ∧ LaneStep s t g k c b js i.d.toNat 1 fun j => LaneRes.plain (x j ||| y j)) ∧
    (Issues s g (wordR i 0x1A) k c b → i.c = 0 → i.mod = 0 →
      ∃ t, exec (.xorE g i) s = .next t ∧ LaneStep s t g k c b js i.d.toNat 1 fun j => LaneRes.plain (x j ^^^ y j)) ∧
    (Issues s g (wordR i 0x1B) k c b → i.c = 0 → i.mod = 0 →
      ∃ t, exec (.shl g i) s = .next t ∧ LaneStep s t g k c b js i.d.toNat 1 fun j => LaneRes.plain (x j <<< ((y j).toNat % 32))) ∧
    (Issues s g (wordR i 0x1C) k c b → i.c = 0 → i.mod.toNat ≤ 1 →
      ∃ t, exec (.shr g i) s = .next t ∧ LaneStep s t g k c b js i.d.toNat 1 fun j => opShr (i.mod == 1) (x j) (y j)) ∧
    (Issues s g (wordR i 0x1D) k c b → i.mod = 0 → i.c.toNat < 8 →
      ∃ t, exec (.sel g i) s = .next t ∧ LaneStep s t g k c b js i.d.toNat 1 fun j => LaneRes.plain (if (s.lane g.val j).pred i.c.toNat then x j else y j)) ∧
    (Issues s g (wordR i 0x1E) k c b → i.b = 0 → i.c = 0 → i.mod = 0 →
      ∃ t, exec (.mov g i) s = .next t ∧ LaneStep s t g k c b js i.d.toNat 1 fun j => LaneRes.plain (x j)) ∧
    (Issues s g (wordR i 0x16) k c b → i.d.toNat < 8 → i.c = 0 → i.mod.toNat ≤ 15 → i.mod.toNat % 8 ≤ 5 →
      ∃ t, exec (.icmp g i) s = .next t ∧
        PredStep s t g k c b js i.d.toNat fun j => condInt (bitOf i.mod.toNat 3) (i.mod.toNat % 8) (x j) (y j)) ∧
    (Issues s g (wordR i 0x30) k c b → i.d.toNat < 8 → i.a = 0 → i.b = 0 → i.c = 0 → i.mod.toNat ≤ 2 →
      ∃ t, exec (.pset g i) s = .next t ∧ PredStep s t g k c b js i.d.toNat fun j =>
        let row := (c.place c.elem.block j).1
        if i.mod = 0 then c.elem.block == (c.rowSpan row).1
        else if i.mod = 1 then c.lastOf c.elem.block row b.final else headLane c b j == j) ∧
    (Issues s g (wordR i 0x31) k c b → i.d.toNat < 8 → i.a.toNat < 8 → i.b.toNat < 8 → i.c = 0 → i.mod.toNat ≤ 3 →
      ∃ t, exec (.plog g i) s = .next t ∧ PredStep s t g k c b js i.d.toNat fun j =>
        logOp i.mod.toNat ((s.lane g.val j).pred i.a.toNat) ((s.lane g.val j).pred i.b.toNat)) ∧
    (Issues s g (wordR i 0x29) k c b → i.mod.toNat ≤ 11 →
      ∃ t, exec (.rng g i) s = .next t ∧ LaneStep s t g k c b js i.d.toNat 2 fun j =>
        opRng (i.mod.toNat % 4) (i.mod.toNat / 4) c.partKey c.jobKey (x j) ((s.lane g.val j).reg ((i.a.toNat + 1) % 16)) (y j)
          ((s.lane g.val j).reg i.c.toNat)) ∧
    (Issues s g (wordR i 0x2F) k c b → i.a = 0 → i.b = 0 → i.c = 0 → i.mod.toNat ≤ 7 →
      ∃ t, exec (.movs g i) s = .next t ∧ LaneStep s t g k c b js i.d.toNat 1 fun j =>
        LaneRes.plain (BitVec.ofNat 32 (laneProperty s g.val c b i.mod.toNat j))) ∧
    (Issues s g (wordR i 0x32) k c b → i.d = 0 → i.a = 0 → i.c = 0 → i.mod = 0 →
      ∃ t, exec (.fclr g i) s = .next t ∧ Retires s t g k c 1 b.next ∧
        (∀ j, t.lane g.val j = if j ∈ js then { s.lane g.val j with flags := (s.lane g.val j).flags &&& ~~~i.b } else s.lane g.val j) ∧
        (b.next.pc < c.progLen → s.Only [.vales, .regs] t)) ∧
    (Issues s g (wordR i 0x00) k c b → i.d = 0 → i.a = 0 → i.b = 0 → i.c = 0 → i.mod = 0 →
      ∃ t, exec (.nopE g i) s = .next t ∧ Retires s t g k c 1 b.next ∧ (∀ j, t.lane g.val j = s.lane g.val j) ∧
        (b.next.pc < c.progLen → s.Only [.vales, .regs] t))) ∧
  (∀ (s : State) (g : Vale) (i : IFmt) (k : Nat) (c : Cmd) (b : Blk), Issues s g (wordI i 0x1F) k c b → i.h ≠ 3 →
    ∃ t, exec (.ldi g i) s = .next t ∧ LaneStep s t g k c b (s.executing g.val b i.pred i.pneg) i.d.toNat 1 fun j =>
      LaneRes.plain (if i.h = 0 then i.imm.signExtend 32 else if i.h = 1 then BitVec.ofNat 32 (2 ^ 16 * i.imm.toNat)
        else BitVec.ofNat 32 (2 ^ 16 * (((s.lane g.val j).reg i.d.toNat).toNat / 2 ^ 16) + i.imm.toNat))) ∧
  (∀ a b : Word, (opShr false a b).w.toNat = a.toNat / 2 ^ (b.toNat % 32) ∧ (opShr true a b).w.toInt = a.toInt / 2 ^ (b.toNat % 32) ∧
    (opShr false a b).flags = 0#4 ∧ (opShr true a b).flags = 0#4)

/-- R168, R170, R203, R205, R206, R207 and R208 with R130, R172, R179, R180 and R186. -/
def Obligations.ElementCacheInstructions : Prop :=
  (∀ (s : State) (g : Vale) (i : MFmt) (k : Nat) (c : Cmd) (b : Blk), i.idx ≠ 3 → i.resv = 0 →
    let js := s.executing g.val b i.pred i.pneg
    let at_ := fun j => cacheAddr g.val (lineWord c b i j)
    (Issues s g (wordM i 0x22) k c b →
      (js.all (fun j => !s.readWaits g.val (lineWord c b i j)) = true →
        ∃ t, exec (.ocl g i) s = .next t ∧ LaneStep s t g k c b js i.reg.toNat 1 fun j =>
          LaneRes.plain (BitVec.ofNat 32 (leNat (s.bytes (at_ j) 4)))) ∧
      (js.any (fun j => s.readWaits g.val (lineWord c b i j)) = true →
        exec (.ocl g i) s = .next (s.modElem g.val fun e => { e with wait := .line }))) ∧
    (Issues s g (wordM i 0x23) k c b →
      (js.all (fun j => !s.writeWaits g.val (lineWord c b i j)) = true →
        ∃ t, exec (.ocs g i) s = .next t ∧ Retires s t g k c 1 b.next ∧ (∀ j, t.lane g.val j = s.lane g.val j) ∧
          (b.next.pc < c.progLen →
            (∀ j ∈ js, leNat (t.bytes (at_ j) 4) = ((s.lane g.val j).reg i.reg.toNat).toNat) ∧
            (∀ a, (∀ j ∈ js, a < at_ j ∨ at_ j + 4 ≤ a) → t.byte a = s.byte a) ∧ s.Only [.vales, .regs, .mem] t)) ∧
      (js.any (fun j => s.writeWaits g.val (lineWord c b i j)) = true →
        exec (.ocs g i) s = .next (s.modElem g.val fun e => { e with wait := .line })))) ∧
  (∀ (s : State) (g : Vale) (i : RFmt) (k : Nat) (c : Cmd) (b : Blk),
    let js := s.executing g.val b i.pred i.pneg
    let x := fun j => (s.lane g.val j).reg i.a.toNat
    let y := fun j => (s.lane g.val j).reg i.b.toNat
    let w := cacheWidth i.mod.toNat
    let from_ := fun j => cacheByte (x j) i.mod.toNat
    let to_ := fun j => cacheByte (y j) i.mod.toNat
    (Issues s g (wordR i 0x24) k c b → i.b = 0 → i.c = 0 → i.mod.toNat ≤ 2 →
      (js.all (fun j => !s.readWaits g.val (from_ j)) = true →
        ∃ t, exec (.ocg g i) s = .next t ∧ LaneStep s t g k c b js i.d.toNat (bankClocks (js.map from_)) fun j =>
          LaneRes.plain (BitVec.ofNat 32 (leNat (s.bytes (cacheAddr g.val (from_ j)) w)))) ∧
      (js.any (fun j => s.readWaits g.val (from_ j)) = true →
        exec (.ocg g i) s = .next (s.modElem g.val fun e => { e with wait := .line }))) ∧
    (Issues s g (wordR i 0x25) k c b → i.d = 0 → i.c = 0 → i.mod.toNat ≤ 2 →
      (js.all (fun j => !s.writeWaits g.val (to_ j)) = true →
        ∃ t, exec (.oct g i) s = .next t ∧ Retires s t g k c (bankClocks (js.map to_)) b.next ∧
          (∀ j, t.lane g.val j = s.lane g.val j) ∧
          (b.next.pc < c.progLen →
            t.mem = (js.foldl (fun u j => u.setBytes (cacheAddr g.val (to_ j)) (leBytes w (x j).toNat)) s).mem ∧
            (∀ a, (∀ j ∈ js, a < cacheAddr g.val (to_ j) ∨ cacheAddr g.val (to_ j) + w ≤ a) → t.byte a = s.byte a) ∧
            s.Only [.vales, .regs, .mem] t)) ∧
      (js.any (fun j => s.writeWaits g.val (to_ j)) = true →
        exec (.oct g i) s = .next (s.modElem g.val fun e => { e with wait := .line }))) ∧
    (Issues s g (wordR i 0x26) k c b → i.b = 0 → i.c = 0 → i.mod.toNat ≤ 7 →
      let row := fun j => (c.place c.elem.block j).1
      let col := fun j => (c.place c.elem.block j).2
      let group := fun j => if b.compress.isSome then js else js.filter fun h => row h == row j
      let key := fun j => if b.compress.isSome then j else col j
      ∃ t, exec (.red g i) s = .next t ∧ LaneStep s t g k c b js i.d.toNat 3 fun j =>
        (opRed i.mod.toNat ((group j).map fun h => (key h, col h, x h))).getD ((group j).idxOf j) (LaneRes.plain 0#32)) ∧
    (∀ q, Issues s g (wordR i 0x21) k c b → qntErr c i = 0 → qntSlot c i = some q →
      ((isCodebook q.fmt = true → js.all (fun j => !s.readWaits g.val ((y j).toNat % 2 ^ 20)) = true) →
        ∃ t, exec (.qnt g i) s = .next t ∧ LanesTake s t g i.d.toNat js (fun j => s.quantLane g.val q i (s.lane g.val j)) ∧
          Retires s t g k c (if q.fmt = 8 then 2 else if q.fmt = 9 then 16 else 1) b.next ∧
          (∀ bs u, js.all (fun j => (s.quantLane g.val q i (s.lane g.val j)).sat == 0) = true → js ≠ [] → b.next.pc < c.progLen →
            let v := (s.putLanes g.val i.d.toNat (js.map fun j => (j, s.quantLane g.val q i (s.lane g.val j)))).1
            let a := scaleAddr v c.part.val q.tag
            v.pdaOk c.part.val a 128 true = true → v.readPda c.part.val a 128 = (.ok bs, u) →
            t.mem = (u.poke c.part.val a (recFold (js.map x) bs)).mem)) ∧
      (isCodebook q.fmt = true → js.any (fun j => s.readWaits g.val ((y j).toNat % 2 ^ 20)) = true →
        exec (.qnt g i) s = .next (s.modElem g.val fun e => { e with wait := .line }))))

/-- R209, R210, R213, R214, R215 and R216 with R172, R175, R176, R178, R186 and R187. -/
def Obligations.ElementQueueInstructions : Prop :=
  (∀ (s : State) (g : Vale) (i : LFmt) (k : Nat) (c : Cmd) (b : Blk), Issues s g (wordL i 0x2E) k c b →
    i.resv = 0 → i.body ≠ 0 → b.loop = none → b.pc + i.body.toNat < c.progLen →
    let js := s.executing g.val b i.pred i.pneg
    ∃ t, exec (.loopE g i) s = .next t ∧ (∀ j, t.lane g.val j = s.lane g.val j) ∧
      (i.count ≠ 0 → js ≠ [] → Retires s t g k c 1
        { b with pc := b.pc + 1, loop := some ⟨b.pc + 1, b.pc + i.body.toNat, 0, i.count.toNat⟩ }) ∧
      ((i.count = 0 ∨ js = []) → Retires s t g k c 1 { b with pc := b.pc + 1 + i.body.toNat })) ∧
  (∀ (s : State) (g : Vale) (i : RFmt) (k : Nat) (c : Cmd) (b : Blk),
    let js := s.executing g.val b i.pred i.pneg
    let x := fun j => (s.lane g.val j).reg i.a.toNat
    let q := i.b.toNat
    let wait := fun w : WaitCause => s.modElem g.val fun e => { e with wait := w }
    (Issues s g (wordR i 0x27) k c b → i.b = 0 → i.c = 0 → i.mod = 0 →
      (b.compress = none →
        ∃ t, exec (.pack g i) s = .next t ∧
          (∀ j, j < 256 → t.lane g.val j = (s.lane g.val j).setReg i.d.toNat ((js.map x).getD j 0#32)) ∧
          Retires s t g k c 2 ({ b with compress := some ⟨i.pred, i.pneg, js⟩, packCount := js.length }).next) ∧
      (∀ m, b.compress = some m → m.pred = i.pred → m.pneg = i.pneg →
        ∃ t, exec (.pack g i) s = .next t ∧
          (∀ j, j < 256 → t.lane g.val j = (s.lane g.val j).setReg i.d.toNat ((m.lanes.map x).getD j 0#32)) ∧
          Retires s t g k c 2 b.next)) ∧
    (∀ m, Issues s g (wordR i 0x28) k c b → i.b = 0 → i.c = 0 → i.mod.toNat ≤ 1 → b.compress = some m → m.pred = i.pred →
      m.pneg = i.pneg → m.lanes.Nodup →
      ∃ t, exec (.unpk g i) s = .next t ∧
        (∀ j, t.lane g.val j = if j ∈ m.lanes then (s.lane g.val j).setReg i.d.toNat (x (m.lanes.idxOf j)) else s.lane g.val j) ∧
        Retires s t g k c 2 (if i.mod = 0 then { b with compress := none } else b).next) ∧
    (Issues s g (wordR i 0x2A) k c b → i.a = 0 → i.b = 0 → i.c = 0 → i.mod = 0 → c.stream = false →
      let ws := match b.epi with
        | some ws => ws
        | none => (List.range 256).map fun j => if bitOf b.live j then (s.pieceWord c c.elem.block j).2.w else 0#32
      ∃ t, exec (.epi g i) s = .next t ∧ LanesTake s t g i.d.toNat js (fun j => LaneRes.plain (ws.getD j 0#32)) ∧
        Retires s t g k c 1 ({ b with epi := some ws }).next) ∧
    (Issues s g (wordR i 0x2B) k c b → q < 8 → i.a = 0 → i.c = 0 →
      let w := c.inWidth q
      let r := c.queue q
      (i.mod = 0 → r.mode = 1 →
        ∃ t, exec (.qrd g i) s = .next t ∧ LaneStep s t g k c b js i.d.toNat 1 fun j =>
          LaneRes.plain (BitVec.ofNat 32 (s.qElem r (r.head + j * w) w))) ∧
      (i.mod = 1 → r.mode = 2 → js ≠ [] → w ≤ r.held →
        ∃ t, exec (.qrd g i) s = .next t ∧ Retires s t g k c 1 b.next ∧
          LanesTake s t g i.d.toNat js (fun _ => LaneRes.plain (BitVec.ofNat 32 (s.qElem r r.head w))) ∧
          (b.next.pc < c.progLen → t.cmd k = some (c.modQueue q fun r => r.advance w))) ∧
      (i.mod = 1 → r.mode = 2 → js ≠ [] → r.held < w → exec (.qrd g i) s = .next (wait .queueEmpty))) ∧
    (Issues s g (wordR i 0x2C) k c b → q < 8 → i.d = 0 → i.c = 0 → i.mod.toNat ≤ 3 → (c.queue (8 + q)).mode = 1 →
      let r := (c.queue (8 + q)).sized (writeWidth i.mod.toNat)
      (js ≠ [] → b.count * r.width ≤ s.qRoom c (c.queue (8 + q)) →
        ∃ t, exec (.qwr g i) s = .next t ∧ (∀ j, t.lane g.val j = s.lane g.val j) ∧
          Retires s t g k c 1 ({ b with written := b.written ++ js.map fun j => (q, j) }).next ∧
          (b.next.pc < c.progLen → t.cmd k = some (c.modQueue (8 + q) fun _ => r) ∧
            t.mem = (js.foldl (fun u j => u.qPutElem r (r.tail + j * r.width) r.width (x j).toNat) s).mem ∧
            s.Only [.vales, .regs, .mem, .slots] t)) ∧
      (js ≠ [] → s.qRoom c (c.queue (8 + q)) < b.count * r.width → exec (.qwr g i) s = .next (wait .queueFull))) ∧
    (Issues s g (wordR i 0x2D) k c b → q < 8 → i.d = 0 → i.c = 0 → i.mod.toNat ≤ 7 → (c.queue (8 + q)).mode = 2 →
      let m := i.mod.toNat
      let r := c.queue (8 + q)
      (js.length * appendWidth m ≤ s.qRoom c r →
        ∃ t, exec (.qwc g i) s = .next t ∧ (∀ j, t.lane g.val j = s.lane g.val j) ∧ Retires s t g k c 1 b.next ∧
          (b.next.pc < c.progLen →
            (∃ c', t.cmd k = some c' ∧ c'.queues = c.queues.modify (8 + q) fun r => { r with tail := r.tail + js.length * appendWidth m }) ∧
            t.mem = ((js.zipIdx).foldl (fun u e =>
              let p := r.tail + e.2 * appendWidth m
              let v := u.putNibbles r p (writeWidth m) (x e.1).toNat
              if bitOf m 2 then v.putNibbles r (p + writeWidth m) 8 (c.place c.elem.block e.1).2 else v) s).mem ∧
            s.Only [.vales, .regs, .mem, .slots] t)) ∧
      (s.qRoom c r < js.length * appendWidth m → exec (.qwc g i) s = .next (wait .queueFull))))

/-- R193 and R219: every program error of every element instruction. -/
def Obligations.ProgramErrorsStopTheStage : Prop :=
  (∀ (s : State) (g : Vale) (i : RFmt) (k : Nat) (c : Cmd) (b : Blk),
    (Issues s g (wordR i 0x00) k c b → (i.d ≠ 0 ∨ i.a ≠ 0 ∨ i.b ≠ 0 ∨ i.c ≠ 0 ∨ i.mod ≠ 0) → ∃ t, exec (.nopE g i) s = .next t ∧ StageStops s t g k c b 1) ∧
    (Issues s g (wordR i 0x01) k c b → (i.c ≠ 0 ∨ i.mod ≠ 0) → ∃ t, exec (.fadd g i) s = .next t ∧ StageStops s t g k c b 1) ∧
    (Issues s g (wordR i 0x02) k c b → (i.c ≠ 0 ∨ i.mod ≠ 0) → ∃ t, exec (.fsub g i) s = .next t ∧ StageStops s t g k c b 1) ∧
    (Issues s g (wordR i 0x03) k c b → (i.c ≠ 0 ∨ i.mod ≠ 0) → ∃ t, exec (.fmul g i) s = .next t ∧ StageStops s t g k c b 1) ∧
    (Issues s g (wordR i 0x04) k c b → (i.mod ≠ 0) → ∃ t, exec (.ffma g i) s = .next t ∧ StageStops s t g k c b 1) ∧
    (Issues s g (wordR i 0x05) k c b → (i.c ≠ 0 ∨ i.mod ≠ 0) → ∃ t, exec (.fmin g i) s = .next t ∧ StageStops s t g k c b 1) ∧
    (Issues s g (wordR i 0x06) k c b → (i.c ≠ 0 ∨ i.mod ≠ 0) → ∃ t, exec (.fmax g i) s = .next t ∧ StageStops s t g k c b 1) ∧
    (Issues s g (wordR i 0x07) k c b → (i.b ≠ 0 ∨ i.c ≠ 0 ∨ i.mod ≠ 0) → ∃ t, exec (.fabs g i) s = .next t ∧ StageStops s t g k c b 1) ∧
    (Issues s g (wordR i 0x08) k c b → (i.b ≠ 0 ∨ i.c ≠ 0 ∨ i.mod ≠ 0) → ∃ t, exec (.fneg g i) s = .next t ∧ StageStops s t g k c b 1) ∧
    (Issues s g (wordR i 0x09) k c b → (i.c ≠ 0 ∨ i.mod ≠ 0) → ∃ t, exec (.fdiv g i) s = .next t ∧ StageStops s t g k c b 1) ∧
    (Issues s g (wordR i 0x0A) k c b → (i.b ≠ 0 ∨ i.c ≠ 0 ∨ i.mod ≠ 0) → ∃ t, exec (.fsqrt g i) s = .next t ∧ StageStops s t g k c b 1) ∧
    (Issues s g (wordR i 0x0B) k c b → (i.b ≠ 0 ∨ i.c ≠ 0 ∨ i.mod ≠ 0) → ∃ t, exec (.frsq g i) s = .next t ∧ StageStops s t g k c b 1) ∧
    (Issues s g (wordR i 0x0D) k c b → (i.b ≠ 0 ∨ i.c ≠ 0 ∨ 4 < i.mod.toNat) → ∃ t, exec (.tfn g i) s = .next t ∧ StageStops s t g k c b 1) ∧
    (Issues s g (wordR i 0x20) k c b → (i.mod ≠ 0 ∨ cvtFormat i.b.toNat = false ∨ cvtFormat i.c.toNat = false) → ∃ t, exec (.cvt g i) s = .next t ∧ StageStops s t g k c b 1) ∧
    (Issues s g (wordR i 0x10) k c b → (i.c ≠ 0 ∨ i.mod ≠ 0) → ∃ t, exec (.iadd g i) s = .next t ∧ StageStops s t g k c b 1) ∧
    (Issues s g (wordR i 0x11) k c b → (i.c ≠ 0 ∨ i.mod ≠ 0) → ∃ t, exec (.isub g i) s = .next t ∧ StageStops s t g k c b 1) ∧
    (Issues s g (wordR i 0x12) k c b → (i.c ≠ 0 ∨ i.mod ≠ 0) → ∃ t, exec (.imul g i) s = .next t ∧ StageStops s t g k c b 1) ∧
    (Issues s g (wordR i 0x13) k c b → (i.c ≠ 0 ∨ 1 < i.mod.toNat) → ∃ t, exec (.imin g i) s = .next t ∧ StageStops s t g k c b 1) ∧
    (Issues s g (wordR i 0x14) k c b → (i.c ≠ 0 ∨ 1 < i.mod.toNat) → ∃ t, exec (.imax g i) s = .next t ∧ StageStops s t g k c b 1) ∧
    (Issues s g (wordR i 0x15) k c b → (i.b ≠ 0 ∨ i.c ≠ 0 ∨ i.mod ≠ 0) → ∃ t, exec (.iabs g i) s = .next t ∧ StageStops s t g k c b 1) ∧
    (Issues s g (wordR i 0x18) k c b → (i.c ≠ 0 ∨ i.mod ≠ 0) → ∃ t, exec (.andE g i) s = .next t ∧ StageStops s t g k c b 1) ∧
    (Issues s g (wordR i 0x19) k c b → (i.c ≠ 0 ∨ i.mod ≠ 0) → ∃ t, exec (.orE g i) s = .next t ∧ StageStops s t g k c b 1) ∧
    (Issues s g (wordR i 0x1A) k c b → (i.c ≠ 0 ∨ i.mod ≠ 0) → ∃ t, exec (.xorE g i) s = .next t ∧ StageStops s t g k c b 1) ∧
    (Issues s g (wordR i 0x1B) k c b → (i.c ≠ 0 ∨ i.mod ≠ 0) → ∃ t, exec (.shl g i) s = .next t ∧ StageStops s t g k c b 1) ∧
    (Issues s g (wordR i 0x1C) k c b → (i.c ≠ 0 ∨ 1 < i.mod.toNat) → ∃ t, exec (.shr g i) s = .next t ∧ StageStops s t g k c b 1) ∧
    (Issues s g (wordR i 0x1D) k c b → (i.mod ≠ 0 ∨ 8 ≤ i.c.toNat) → ∃ t, exec (.sel g i) s = .next t ∧ StageStops s t g k c b 1) ∧
    (Issues s g (wordR i 0x1E) k c b → (i.b ≠ 0 ∨ i.c ≠ 0 ∨ i.mod ≠ 0) → ∃ t, exec (.mov g i) s = .next t ∧ StageStops s t g k c b 1) ∧
    (Issues s g (wordR i 0x0C) k c b → (8 ≤ i.d.toNat ∨ i.c ≠ 0 ∨ 6 < i.mod.toNat) → ∃ t, exec (.fcmp g i) s = .next t ∧ StageStops s t g k c b 1) ∧
    (Issues s g (wordR i 0x16) k c b → (8 ≤ i.d.toNat ∨ i.c ≠ 0 ∨ 15 < i.mod.toNat ∨ 5 < i.mod.toNat % 8) → ∃ t, exec (.icmp g i) s = .next t ∧ StageStops s t g k c b 1) ∧
    (Issues s g (wordR i 0x30) k c b → (8 ≤ i.d.toNat ∨ i.a ≠ 0 ∨ i.b ≠ 0 ∨ i.c ≠ 0 ∨ 2 < i.mod.toNat) → ∃ t, exec (.pset g i) s = .next t ∧ StageStops s t g k c b 1) ∧
    (Issues s g (wordR i 0x31) k c b → (8 ≤ i.d.toNat ∨ 8 ≤ i.a.toNat ∨ 8 ≤ i.b.toNat ∨ i.c ≠ 0 ∨ 3 < i.mod.toNat) → ∃ t, exec (.plog g i) s = .next t ∧ StageStops s t g k c b 1) ∧
    (Issues s g (wordR i 0x29) k c b → (11 < i.mod.toNat) → ∃ t, exec (.rng g i) s = .next t ∧ StageStops s t g k c b 1) ∧
    (Issues s g (wordR i 0x2F) k c b → (i.a ≠ 0 ∨ i.b ≠ 0 ∨ i.c ≠ 0 ∨ 7 < i.mod.toNat) → ∃ t, exec (.movs g i) s = .next t ∧ StageStops s t g k c b 1) ∧
    (Issues s g (wordR i 0x32) k c b → (i.d ≠ 0 ∨ i.a ≠ 0 ∨ i.c ≠ 0 ∨ i.mod ≠ 0) → ∃ t, exec (.fclr g i) s = .next t ∧ StageStops s t g k c b 1) ∧
    (Issues s g (wordR i 0x24) k c b → (i.b ≠ 0 ∨ i.c ≠ 0 ∨ 2 < i.mod.toNat) → ∃ t, exec (.ocg g i) s = .next t ∧ StageStops s t g k c b 1) ∧
    (Issues s g (wordR i 0x25) k c b → (i.d ≠ 0 ∨ i.c ≠ 0 ∨ 2 < i.mod.toNat) → ∃ t, exec (.oct g i) s = .next t ∧ StageStops s t g k c b 1) ∧
    (Issues s g (wordR i 0x26) k c b → (i.b ≠ 0 ∨ i.c ≠ 0 ∨ 7 < i.mod.toNat) → ∃ t, exec (.red g i) s = .next t ∧ StageStops s t g k c b 1) ∧
    (Issues s g (wordR i 0x27) k c b → (i.b ≠ 0 ∨ i.c ≠ 0 ∨ i.mod ≠ 0) → ∃ t, exec (.pack g i) s = .next t ∧ StageStops s t g k c b 1) ∧
    (Issues s g (wordR i 0x28) k c b → (i.b ≠ 0 ∨ i.c ≠ 0 ∨ 1 < i.mod.toNat) → ∃ t, exec (.unpk g i) s = .next t ∧ StageStops s t g k c b 1) ∧
    (Issues s g (wordR i 0x2A) k c b → (i.a ≠ 0 ∨ i.b ≠ 0 ∨ i.c ≠ 0 ∨ i.mod ≠ 0) → ∃ t, exec (.epi g i) s = .next t ∧ StageStops s t g k c b 1) ∧
    (Issues s g (wordR i 0x2B) k c b → (8 ≤ i.b.toNat ∨ i.a ≠ 0 ∨ i.c ≠ 0 ∨ 1 < i.mod.toNat) → ∃ t, exec (.qrd g i) s = .next t ∧ StageStops s t g k c b 1) ∧
    (Issues s g (wordR i 0x2C) k c b → (8 ≤ i.b.toNat ∨ i.d ≠ 0 ∨ i.c ≠ 0 ∨ 3 < i.mod.toNat) → ∃ t, exec (.qwr g i) s = .next t ∧ StageStops s t g k c b 1) ∧
    (Issues s g (wordR i 0x2D) k c b → (8 ≤ i.b.toNat ∨ i.d ≠ 0 ∨ i.c ≠ 0 ∨ 7 < i.mod.toNat) → ∃ t, exec (.qwc g i) s = .next t ∧ StageStops s t g k c b 1) ∧
    (Issues s g (wordR i 0x21) k c b → (i.c ≠ 0 ∨ 7 < i.mod.toNat) → ∃ t, exec (.qnt g i) s = .next t ∧ StageStops s t g k c b 1) ∧
    (Issues s g (wordR i 0x27) k c b → i.b = 0 → i.c = 0 → i.mod = 0 → sameCompress b i = false → ∃ t, exec (.pack g i) s = .next t ∧ StageStops s t g k c b 6) ∧
    (Issues s g (wordR i 0x28) k c b → i.b = 0 → i.c = 0 → i.mod.toNat ≤ 1 → (b.compress = none ∨ sameCompress b i = false) →
      ∃ t, exec (.unpk g i) s = .next t ∧ StageStops s t g k c b 6) ∧
    (Issues s g (wordR i 0x2A) k c b → i.a = 0 → i.b = 0 → i.c = 0 → i.mod = 0 → c.stream = true → ∃ t, exec (.epi g i) s = .next t ∧ StageStops s t g k c b 4) ∧
    (Issues s g (wordR i 0x2B) k c b → i.b.toNat < 8 → i.a = 0 → i.c = 0 → i.mod.toNat ≤ 1 →
      (c.queue i.b.toNat).mode ≠ i.mod.toNat + 1 → ∃ t, exec (.qrd g i) s = .next t ∧ StageStops s t g k c b 5) ∧
    (Issues s g (wordR i 0x2C) k c b → i.b.toNat < 8 → i.d = 0 → i.c = 0 → i.mod.toNat ≤ 3 →
      (c.queue (8 + i.b.toNat)).mode ≠ 1 → ∃ t, exec (.qwr g i) s = .next t ∧ StageStops s t g k c b 5) ∧
    (Issues s g (wordR i 0x2D) k c b → i.b.toNat < 8 → i.d = 0 → i.c = 0 → i.mod.toNat ≤ 7 →
      (c.queue (8 + i.b.toNat)).mode ≠ 2 → ∃ t, exec (.qwc g i) s = .next t ∧ StageStops s t g k c b 5) ∧
    (Issues s g (wordR i 0x21) k c b → i.c = 0 → i.mod.toNat ≤ 7 → qntSlot c i = none → ∃ t, exec (.qnt g i) s = .next t ∧ StageStops s t g k c b 7) ∧
    (∀ q, Issues s g (wordR i 0x21) k c b → i.c = 0 → i.mod.toNat ≤ 7 → qntSlot c i = some q →
      (10 ≤ q.fmt ∨ 4 ≤ i.mod.toNat ∧ intOfCode q.fmt = none) → ∃ t, exec (.qnt g i) s = .next t ∧ StageStops s t g k c b 7) ∧
    (∀ q, Issues s g (wordR i 0x21) k c b → i.c = 0 → i.mod.toNat < 4 → qntSlot c i = some q → q.fmt < 8 → i.b ≠ 0 →
      ∃ t, exec (.qnt g i) s = .next t ∧ StageStops s t g k c b 1)) ∧
  (∀ (s : State) (g : Vale) (i : IFmt) (k : Nat) (c : Cmd) (b : Blk), Issues s g (wordI i 0x1F) k c b → i.h = 3 →
    ∃ t, exec (.ldi g i) s = .next t ∧ StageStops s t g k c b 1) ∧
  (∀ (s : State) (g : Vale) (i : MFmt) (k : Nat) (c : Cmd) (b : Blk), (i.idx = 3 ∨ i.resv ≠ 0) →
    (Issues s g (wordM i 0x22) k c b → ∃ t, exec (.ocl g i) s = .next t ∧ StageStops s t g k c b 1) ∧
    (Issues s g (wordM i 0x23) k c b → ∃ t, exec (.ocs g i) s = .next t ∧ StageStops s t g k c b 1)) ∧
  (∀ (s : State) (g : Vale) (i : LFmt) (k : Nat) (c : Cmd) (b : Blk), Issues s g (wordL i 0x2E) k c b →
    ((i.resv ≠ 0 ∨ i.body = 0) → ∃ t, exec (.loopE g i) s = .next t ∧ StageStops s t g k c b 1) ∧
    (i.resv = 0 → i.body ≠ 0 → b.loop ≠ none → ∃ t, exec (.loopE g i) s = .next t ∧ StageStops s t g k c b 2) ∧
    (i.resv = 0 → i.body ≠ 0 → b.loop = none → c.progLen ≤ b.pc + i.body.toNat → ∃ t, exec (.loopE g i) s = .next t ∧ StageStops s t g k c b 3))

/-- R191 and R194: decode of encode, and the program's decoder against the commands, over all 48 element instructions. -/
def Obligations.ProgramWordsAreDecodedRight : Prop :=
  (∀ (i : RFmt) (opc : Nat), opc < 64 → fmtR (wordR i opc) = i ∧ wordR i opc / 2 ^ 26 = opc ∧ wordR i opc < 2 ^ 32) ∧
  (∀ (i : IFmt) (opc : Nat), opc < 64 → fmtI (wordI i opc) = i ∧ wordI i opc / 2 ^ 26 = opc ∧ wordI i opc < 2 ^ 32) ∧
  (∀ (i : MFmt) (opc : Nat), opc < 64 → fmtM (wordM i opc) = i ∧ wordM i opc / 2 ^ 26 = opc ∧ wordM i opc < 2 ^ 32) ∧
  (∀ (i : LFmt) (opc : Nat), opc < 64 → fmtL (wordL i opc) = i ∧ wordL i opc / 2 ^ 26 = opc ∧ wordL i opc < 2 ^ 32) ∧
  (∀ (s : State) (g : Vale) (i : RFmt) (k : Nat) (c : Cmd) (b : Blk),
    (Issues s g (wordR i 0x00) k c b → exec (.nopE g i) s = .next (doWord g.val (wordR i 0x00) s)) ∧
    (Issues s g (wordR i 0x01) k c b → exec (.fadd g i) s = .next (doWord g.val (wordR i 0x01) s)) ∧
    (Issues s g (wordR i 0x02) k c b → exec (.fsub g i) s = .next (doWord g.val (wordR i 0x02) s)) ∧
    (Issues s g (wordR i 0x03) k c b → exec (.fmul g i) s = .next (doWord g.val (wordR i 0x03) s)) ∧
    (Issues s g (wordR i 0x04) k c b → exec (.ffma g i) s = .next (doWord g.val (wordR i 0x04) s)) ∧
    (Issues s g (wordR i 0x05) k c b → exec (.fmin g i) s = .next (doWord g.val (wordR i 0x05) s)) ∧
    (Issues s g (wordR i 0x06) k c b → exec (.fmax g i) s = .next (doWord g.val (wordR i 0x06) s)) ∧
    (Issues s g (wordR i 0x07) k c b → exec (.fabs g i) s = .next (doWord g.val (wordR i 0x07) s)) ∧
    (Issues s g (wordR i 0x08) k c b → exec (.fneg g i) s = .next (doWord g.val (wordR i 0x08) s)) ∧
    (Issues s g (wordR i 0x09) k c b → exec (.fdiv g i) s = .next (doWord g.val (wordR i 0x09) s)) ∧
    (Issues s g (wordR i 0x0A) k c b → exec (.fsqrt g i) s = .next (doWord g.val (wordR i 0x0A) s)) ∧
    (Issues s g (wordR i 0x0B) k c b → exec (.frsq g i) s = .next (doWord g.val (wordR i 0x0B) s)) ∧
    (Issues s g (wordR i 0x0C) k c b → exec (.fcmp g i) s = .next (doWord g.val (wordR i 0x0C) s)) ∧
    (Issues s g (wordR i 0x0D) k c b → exec (.tfn g i) s = .next (doWord g.val (wordR i 0x0D) s)) ∧
    (Issues s g (wordR i 0x10) k c b → exec (.iadd g i) s = .next (doWord g.val (wordR i 0x10) s)) ∧
    (Issues s g (wordR i 0x11) k c b → exec (.isub g i) s = .next (doWord g.val (wordR i 0x11) s)) ∧
    (Issues s g (wordR i 0x12) k c b → exec (.imul g i) s = .next (doWord g.val (wordR i 0x12) s)) ∧
    (Issues s g (wordR i 0x13) k c b → exec (.imin g i) s = .next (doWord g.val (wordR i 0x13) s)) ∧
    (Issues s g (wordR i 0x14) k c b → exec (.imax g i) s = .next (doWord g.val (wordR i 0x14) s)) ∧
    (Issues s g (wordR i 0x15) k c b → exec (.iabs g i) s = .next (doWord g.val (wordR i 0x15) s)) ∧
    (Issues s g (wordR i 0x16) k c b → exec (.icmp g i) s = .next (doWord g.val (wordR i 0x16) s)) ∧
    (Issues s g (wordR i 0x18) k c b → exec (.andE g i) s = .next (doWord g.val (wordR i 0x18) s)) ∧
    (Issues s g (wordR i 0x19) k c b → exec (.orE g i) s = .next (doWord g.val (wordR i 0x19) s)) ∧
    (Issues s g (wordR i 0x1A) k c b → exec (.xorE g i) s = .next (doWord g.val (wordR i 0x1A) s)) ∧
    (Issues s g (wordR i 0x1B) k c b → exec (.shl g i) s = .next (doWord g.val (wordR i 0x1B) s)) ∧
    (Issues s g (wordR i 0x1C) k c b → exec (.shr g i) s = .next (doWord g.val (wordR i 0x1C) s)) ∧
    (Issues s g (wordR i 0x1D) k c b → exec (.sel g i) s = .next (doWord g.val (wordR i 0x1D) s)) ∧
    (Issues s g (wordR i 0x1E) k c b → exec (.mov g i) s = .next (doWord g.val (wordR i 0x1E) s)) ∧
    (Issues s g (wordR i 0x20) k c b → exec (.cvt g i) s = .next (doWord g.val (wordR i 0x20) s)) ∧
    (Issues s g (wordR i 0x21) k c b → exec (.qnt g i) s = .next (doWord g.val (wordR i 0x21) s)) ∧
    (Issues s g (wordR i 0x24) k c b → exec (.ocg g i) s = .next (doWord g.val (wordR i 0x24) s)) ∧
    (Issues s g (wordR i 0x25) k c b → exec (.oct g i) s = .next (doWord g.val (wordR i 0x25) s)) ∧
    (Issues s g (wordR i 0x26) k c b → exec (.red g i) s = .next (doWord g.val (wordR i 0x26) s)) ∧
    (Issues s g (wordR i 0x27) k c b → exec (.pack g i) s = .next (doWord g.val (wordR i 0x27) s)) ∧
    (Issues s g (wordR i 0x28) k c b → exec (.unpk g i) s = .next (doWord g.val (wordR i 0x28) s)) ∧
    (Issues s g (wordR i 0x29) k c b → exec (.rng g i) s = .next (doWord g.val (wordR i 0x29) s)) ∧
    (Issues s g (wordR i 0x2A) k c b → exec (.epi g i) s = .next (doWord g.val (wordR i 0x2A) s)) ∧
    (Issues s g (wordR i 0x2B) k c b → exec (.qrd g i) s = .next (doWord g.val (wordR i 0x2B) s)) ∧
    (Issues s g (wordR i 0x2C) k c b → exec (.qwr g i) s = .next (doWord g.val (wordR i 0x2C) s)) ∧
    (Issues s g (wordR i 0x2D) k c b → exec (.qwc g i) s = .next (doWord g.val (wordR i 0x2D) s)) ∧
    (Issues s g (wordR i 0x2F) k c b → exec (.movs g i) s = .next (doWord g.val (wordR i 0x2F) s)) ∧
    (Issues s g (wordR i 0x30) k c b → exec (.pset g i) s = .next (doWord g.val (wordR i 0x30) s)) ∧
    (Issues s g (wordR i 0x31) k c b → exec (.plog g i) s = .next (doWord g.val (wordR i 0x31) s)) ∧
    (Issues s g (wordR i 0x32) k c b → exec (.fclr g i) s = .next (doWord g.val (wordR i 0x32) s))) ∧
  (∀ (s : State) (g : Vale) (i : IFmt) (k : Nat) (c : Cmd) (b : Blk),
    Issues s g (wordI i 0x1F) k c b → exec (.ldi g i) s = .next (doWord g.val (wordI i 0x1F) s)) ∧
  (∀ (s : State) (g : Vale) (i : MFmt) (k : Nat) (c : Cmd) (b : Blk),
    (Issues s g (wordM i 0x22) k c b → exec (.ocl g i) s = .next (doWord g.val (wordM i 0x22) s)) ∧
    (Issues s g (wordM i 0x23) k c b → exec (.ocs g i) s = .next (doWord g.val (wordM i 0x23) s))) ∧
  (∀ (s : State) (g : Vale) (i : LFmt) (k : Nat) (c : Cmd) (b : Blk),
    Issues s g (wordL i 0x2E) k c b → exec (.loopE g i) s = .next (doWord g.val (wordL i 0x2E) s))

/-- R155, R157, R167 and R137 (stage start), R160, R164, R173, R174 and R187 (block start), R166 (corrections), R190 (block end). -/
def Obligations.ElementStagesAndBlocks : Prop :=
  (∀ (s : State) (k : Slot) (c : Cmd) (inWidth : List Nat), s.live = true → s.cmd k.val = some c → elementStartOk k.val s = true →
    (elementSeeds s c = [] →
      ∃ t c', exec (.elementStageStart k inWidth) s = .next t ∧ t.cmd k.val = some c' ∧ c'.desc = c.desc ∧
        (∀ j, t.lane c.vale j = Lane.reset) ∧ c'.elem.block = 0 ∧ c'.elem.rowCounts = [] ∧ c'.elem.inWidth = inWidth ∧
        c'.elem.slots.length = 4 ∧
        (c'.elem.noIssue = false → c'.elem.ended = false ∧ (t.vale c.vale).elem.stage = some k.val ∧ (t.vale c.vale).elem.blk = none) ∧
        (c'.elem.noIssue = true → c'.elem.ended = true ∧ (t.vale c.vale).elem.stage = none) ∧
        (∀ i o, i < c.ocZeroCount → o < 1024 →
          t.byte (cacheAddr c.vale (1024 * ((c.ocZeroFirst + i) % 1024)) + o) = 0#8) ∧
        (∀ h, h ≠ c.vale → t.vale h = s.vale h) ∧ (∀ i, i ≠ k.val → t.cmd i = s.cmd i)) ∧
    (elementSeeds s c ≠ [] →
      ∃ t c', exec (.elementStageStart k inWidth) s = .next t ∧ t.cmd k.val = some c' ∧ c'.elem = c.elem ∧
        (∀ x, x ∈ c'.seeds.map (·.tag) ↔ x ∈ c.seeds.map (·.tag) ∨ x ∈ elementSeeds s c) ∧ s.Only [.slots] t)) ∧
  (∀ (s : State) (g : Vale) (issues corrected : Nat) (k : Nat) (c : Cmd), s.live = true → s.elemStage g.val = some (k, c) →
    c.vale = g.val → (s.vale g.val).elem.blk = none → c.sourceOver = false →
    (∀ n final, c.nextCount c.elem.block = some (n, final) → c.blockWait = .none →
      ∃ u b, exec (.elementBlockStart g issues corrected) s = .next (issueMany issues g.val u) ∧
        (u.vale g.val).elem.blk = some b ∧ b.slot = k ∧ b.base = c.pmBase ∧ b.pc = 0 ∧ b.count = n ∧ b.final = final ∧
        b.loop = none ∧ b.compress = none ∧ b.epi = none ∧ (u.vale g.val).elem.wait = .none ∧
        (∀ i, bitOf b.live i = (decide (i < 256) && s.liveLane c c.elem.block n i)) ∧
        (∀ j, (u.lane g.val j).e = (s.lane g.val j).e ∧ (u.lane g.val j).flags = (s.lane g.val j).flags) ∧
        (c.maskEn = false → ∀ j, u.lane g.val j = s.lane g.val j) ∧
        (∀ j, c.maskEn = true → j < 256 →
          (u.lane g.val j).pred 7 = (bitOf b.live j && s.maskBit c ((c.blockSpan c.elem.block).1 + j))) ∧
        (s.counting (.elem g) = true → u.reg (pageBase (.elem g) + 0x68) = satInc (s.reg (pageBase (.elem g) + 0x68)) corrected) ∧
        s.Only [.vales, .regs, .health] u) ∧
    (c.blockWait ≠ .none → ∃ t, exec (.elementBlockStart g issues corrected) s = .next t ∧
      (t.vale g.val).elem.wait = c.blockWait ∧ (t.vale g.val).elem.blk = none ∧ (∀ h, h ≠ g.val → t.vale h = s.vale h) ∧
      s.Only [.vales, .regs, .health] t)) ∧
  (∀ (s : State) (g : Vale) (i : RFmt) (k : Nat) (c : Cmd) (b : Blk), Issues s g (wordR i 0x00) k c b → i.d = 0 → i.a = 0 →
    i.b = 0 → i.c = 0 → i.mod = 0 → c.progLen ≤ b.next.pc → s.endRoom c b.next = true →
    ∃ t c', exec (.nopE g i) s = .next t ∧ t.cmd k = some c' ∧ (t.vale g.val).elem.blk = none ∧
      c'.elem.block = c.elem.block + 1 ∧ (∀ j, t.lane g.val j = s.lane g.val j) ∧
      (s.counting (.elem g) = true → t.reg64 (pageBase (.elem g) + 0x50) = (s.reg64 (pageBase (.elem g) + 0x50) + 1) % 2 ^ 64))

/-- R198. The clocks, the lanes that execute and what stays as it was are those of `LaneStep`. -/
def Obligations.IntegerArithmetic : Prop :=
  ∀ (s : State) (g : Vale) (i : RFmt) (k : Nat) (c : Cmd) (b : Blk), i.c = 0 →
    let js := s.executing g.val b i.pred i.pneg
    let x := fun j => (s.lane g.val j).reg i.a.toNat
    let y := fun j => (s.lane g.val j).reg i.b.toNat
    let exactly := fun (q : Nat → Int) (r : Nat → LaneRes) => ∀ j,
      (r j).w.toInt = min (max (q j) (-2147483648)) 2147483647 ∧
      (-2147483648 ≤ q j → q j ≤ 2147483647 → (r j).flags = 0#4 ∧ (r j).sat = 0) ∧
      ((q j < -2147483648 ∨ 2147483647 < q j) → (r j).flags = Flags.overflow ||| Flags.inexact ∧ (r j).sat = 1)
    let picks := fun (p : Int → Int → Int) (r : Nat → LaneRes) => ∀ j, (r j).flags = 0#4 ∧ (r j).sat = 0 ∧
      (i.mod = 0 → (r j).w.toInt = p (x j).toInt (y j).toInt) ∧ (i.mod = 1 → ((r j).w.toNat : Int) = p (x j).toNat (y j).toNat)
    (Issues s g (wordR i 0x10) k c b → i.mod = 0 → ∃ (t : State) (r : Nat → LaneRes), exec (.iadd g i) s = .next t ∧
      LaneStep s t g k c b js i.d.toNat 1 r ∧ exactly (fun j => (x j).toInt + (y j).toInt) r) ∧
    (Issues s g (wordR i 0x11) k c b → i.mod = 0 → ∃ (t : State) (r : Nat → LaneRes), exec (.isub g i) s = .next t ∧
      LaneStep s t g k c b js i.d.toNat 1 r ∧ exactly (fun j => (x j).toInt - (y j).toInt) r) ∧
    (Issues s g (wordR i 0x12) k c b → i.mod = 0 → ∃ (t : State) (r : Nat → LaneRes), exec (.imul g i) s = .next t ∧
      LaneStep s t g k c b js i.d.toNat 1 r ∧ exactly (fun j => (x j).toInt * (y j).toInt) r) ∧
    (Issues s g (wordR i 0x13) k c b → i.mod.toNat ≤ 1 → ∃ (t : State) (r : Nat → LaneRes), exec (.imin g i) s = .next t ∧
      LaneStep s t g k c b js i.d.toNat 1 r ∧ picks min r) ∧
    (Issues s g (wordR i 0x14) k c b → i.mod.toNat ≤ 1 → ∃ (t : State) (r : Nat → LaneRes), exec (.imax g i) s = .next t ∧
      LaneStep s t g k c b js i.d.toNat 1 r ∧ picks max r) ∧
    (Issues s g (wordR i 0x15) k c b → i.b = 0 → i.mod = 0 → ∃ (t : State) (r : Nat → LaneRes), exec (.iabs g i) s = .next t ∧
      LaneStep s t g k c b js i.d.toNat 1 r ∧ exactly (fun j => ((x j).toInt.natAbs : Int)) r)

/-- R66, R67 and R72: rounding to nearest even, and the round trip of every code of every floating-point format. -/
def Obligations.RoundingIsToNearestEven : Prop :=
  (∀ m s : Nat, 0 < s →
    let r := roundShift m s false
    2 * (r.1 * 2 ^ s) ≤ 2 * m + 2 ^ s ∧ 2 * m ≤ 2 * (r.1 * 2 ^ s) + 2 ^ s ∧
      ((2 * (r.1 * 2 ^ s) = 2 * m + 2 ^ s ∨ 2 * m = 2 * (r.1 * 2 ^ s) + 2 ^ s) → r.1 % 2 = 0) ∧
      (r.2 = true ↔ r.1 * 2 ^ s ≠ m)) ∧
  (∀ f ∈ [fp32, bf16, fp16, e5m2, e4m3], ∀ code, code < 2 ^ f.width →
    (f.decode code ≠ .nan → (f.round (f.decode code).exact).code = code ∧ (f.round (f.decode code).exact).flags = 0#4) ∧
    (f.decode code = .nan → (f.round (f.decode code).exact).code = f.nanCode))

/-- R240, R18, R21 (sub-blocks), R168 (lines), R231, R234 (grants), R238, R239 (spills). -/
def Obligations.TransfersMove : Prop :=
  (∀ (s : State) (k : Slot) (c : Cmd) (x : Nat) (t : Xfer) (r : MemRead) (host : List Byte), s.live = true →
    s.cmd k.val = some c → c.fetch[x]? = some t → s.movable k.val x ≠ 0 →
    let n := s.movable k.val x
    let e := c.entry x
    let got : Moved × State :=
      if t.zeros then (⟨List.replicate n 0#8, false, false⟩, s)
      else if xSrc e = 4 then (⟨(c.linkBytes x t.pos).take n, false, r == .uncorrectable⟩, s)
      else s.xRead c e t.pos n r host
    ∃ (u : State) (c' : Cmd), exec (.subBlockLands k x r host) s = .next (u.matrixGo k.val) ∧ u.cmd k.val = some c' ∧ c'.desc = c.desc ∧
      got.1.bytes.length = n ∧ c'.fetch[x]? = some { t with pos := t.pos + n, done := decide (xTotal e ≤ t.pos + n) } ∧
      (∀ i, xInto e = some i → u.mem = (got.2.qPut (c.queue i) ((c.queue i).tail / 2) got.1.bytes).mem ∧
        (i < c.queues.length → (c'.queue i).tail = (c.queue i).tail + 2 * n)) ∧
      (xInto e = none → u.mem = (got.2.setBytes (cacheAddr c.vale (xDstAt e t.pos)) got.1.bytes).mem ∧ c'.queues = c.queues) ∧
      (got.1.refused = true → c.status = 0 → c'.status = 5 ∧ c'.xfer = x) ∧ (got.1.ue = true → 1 ∈ c'.voids) ∧
      (∀ i, i ≠ k.val → u.cmd i = s.cmd i)) ∧
  (∀ (s : State) (k : Slot) (c : Cmd) (x : Nat) (t : Xfer) (r : MemRead) (host : List Byte), s.live = true →
    s.cmd k.val = some c → c.fetch.length ≤ x → c.store[x - c.fetch.length]? = some t → s.movable k.val x ≠ 0 →
    let n := s.movable k.val x
    let e := c.entry x
    let d := s.storeData k.val c e t.pos n
    let put : Moved × State := if t.zeros then (⟨[], false, false⟩, d.2) else d.2.xWrite k.val c e t.pos d.1
    ∃ (u : State) (c' : Cmd), exec (.subBlockLands k x r host) s = .next (u.collFeed k.val) ∧ u.cmd k.val = some c' ∧ c'.desc = c.desc ∧
      c'.store[x - c.fetch.length]? = some { t with pos := t.pos + n, done := decide (xTotal e ≤ t.pos + n) } ∧
      u.mem = put.2.mem ∧ u.out = put.2.out ∧ (put.1.ue = true → 1 ∈ c'.voids) ∧
      (xSrc e = 0x0B → 8 + xQ e < c.queues.length → xInto e = none →
        c'.queue (8 + xQ e) = (c.queue (8 + xQ e)).advance (min (2 * n) (c.queue (8 + xQ e)).held)) ∧
      (∀ i, i ≠ k.val → u.cmd i = s.cmd i)) ∧
  (∀ (s : State) (g : Vale) (line : Line) (k x : Nat) (c : Cmd) (t : Xfer), s.live = true → s.cmd k = some c → c.xferAt x = some t →
    (s.lineDone g.val line.val true = some (k, x) →
      ∃ (u : State) (c' : Cmd), exec (.lineFillLanded g line) s = .next u ∧ u.line g.val line.val =
          { s.line g.val line.val with fills := (s.line g.val line.val).fills - 1 } ∧
        u.cmd k = some c' ∧ c'.xferAt x = some { t with lines := t.lines ++ [line.val] } ∧
        (∀ i, i ≠ line.val → u.line g.val i = s.line g.val i) ∧ s.Only [.vales, .slots] u) ∧
    (s.lineDone g.val line.val false = some (k, x) →
      ∃ (u : State) (c' : Cmd), exec (.lineDrainDone g line) s = .next u ∧ u.line g.val line.val =
          { s.line g.val line.val with drains := (s.line g.val line.val).drains - 1 } ∧
        u.cmd k = some c' ∧ c'.xferAt x = some { t with lines := t.lines ++ [line.val] } ∧
        (∀ i, i ≠ line.val → u.line g.val i = s.line g.val i) ∧ s.Only [.vales, .slots] u)) ∧
  (∀ (s : State) (p : Port) (r : Request), s.live = true → (∀ l, p ≠ .link l) → winner s p (requestsAt s p) = some r →
    ∃ t, exec (.granuleGrant p) s = .next t ∧ r ∈ requestsAt s p ∧ (∀ q ∈ requestsAt s p, before s p q r = false) ∧
      Sparse.get (fun _ => (0, 0)) t.granted (portCode p) = (tierOf s p r, r.stream) ∧
      (tierOf s p r = 1 → Sparse.get (fun _ => (0, 0)) t.credits (1024 * r.part + portCode p) =
        (creditNow s r.part p - creditGranule p, s.clock)) ∧
      (tierOf s p r ≠ 1 → t.credits = s.credits) ∧ s.Only [.granted, .credits] t) ∧
  (∀ (s : State) (p : Port), s.live = true → (∀ l, p ≠ .link l) → requestsAt s p = [] → exec (.granuleGrant p) s = .next s) ∧
  (∀ (s : State) (g : Vale) (k i : Nat) (c : Cmd) (q : Queue), s.live = true → spillOk g.val s = true →
    s.victim g.val = some (k, i, c, q) → s.cmd k = some c →
    let start := 2 * (4096 * (q.head / 2 / 4096 + q.floorG))
    let b := pageBase (.stream g)
    ∃ t c', exec (.circularWaitSpill g) s = .next t ∧ t.cmd k = some c' ∧ c'.spilled = true ∧
      c'.queue i = { q with spill := some (start, q.tail) } ∧ (t.vale g.val).stallBeats = 0 ∧
      (s.counting (.stream g) = true → t.reg (b + 0x48) = satInc (s.reg (b + 0x48)) 1 ∧
        t.reg64 (b + 0x4C) = (s.reg64 (b + 0x4C) + ceilDiv (q.tail - start) 2) % 2 ^ 64) ∧
      (s.resetting (.stream g) = false → (t.reg (b + 0x10)).getLsbD 1 = true) ∧
      (∀ j, j ≠ k → t.cmd j = s.cmd j) ∧ s.Only [.slots, .vales, .regs, .out, .msix] t)

/-- R241, R242, R243, R449, R450, R451, R475, R504, R505 and R508. The state u is the one after the fault or response itself; transfers of
the partition that wait to send a request then send it. -/
def Obligations.TransfersFault : Prop :=
  (∀ (s : State) (k : Slot) (x : Nat) (c : Cmd) (t : Xfer), s.live = true → s.cmd k.val = some c → c.xferAt x = some t →
    faultOk k.val x s = true →
    let n := c.part.val
    let b := pageBase (.stream (Fin.ofNat 128 c.vale))
    ∃ (u : State) (c' : Cmd), exec (.translationFault k x) s = .next u ∧ u.cmd k.val = some c' ∧ (∀ i, i ≠ k.val → u.cmd i = s.cmd i) ∧
      (s.counting (.stream (Fin.ofNat 128 c.vale)) = true → u.reg (b + 0x54) = satInc (s.reg (b + 0x54)) 1) ∧
      (s.resetting (.stream (Fin.ofNat 128 c.vale)) = false → (u.reg (b + 0x10)).getLsbD 0 = true) ∧
      (s.metered n = true → 5 ∈ c'.voids ∧ c'.xferAt x = some { t with zeros := true } ∧
        (∀ i, s.freeRecord n c.vale = some i → ∃ r, (u.part n).faults = (s.part n).faults ++ [r] ∧ r.index = 16 * c.vale + i ∧
          r.resumable = false ∧ r.slot = k.val ∧ r.xfer = x ∧ r.beat = s.beatNum) ∧
        (s.freeRecord n c.vale = none → (u.part n).faults = (s.part n).faults ∧
          u.reg (partBase n + 0x6008) = satInc (s.reg (partBase n + 0x6008)) 1)) ∧
      (s.metered n = false → xHost (c.entry x) = true → ((s.fn (n + 1)).pri = false ∨ (s.fn (n + 1)).responseFailure = true) →
        c'.xferAt x = some { t with stop := none, zeros := true } ∧ (c.status = 0 → c'.status = 4 ∧ c'.xfer = x)) ∧
      (∀ i, s.metered n = false → xHost (c.entry x) = false → s.stopped c.vale < 16 → s.freeRecord n c.vale = some i →
        c'.xferAt x = some { t with stop := some (.record (16 * c.vale + i)) } ∧
        ∃ r, (u.part n).faults = (s.part n).faults ++ [r] ∧ r.index = 16 * c.vale + i ∧ r.resumable = true ∧ r.slot = k.val ∧
          r.xfer = x ∧ r.vale = c.vale ∧ r.cmdId = c.id ∧ r.returned = false) ∧
      (∀ i, s.metered n = false → xHost (c.entry x) = true → (s.fn (n + 1)).pri = true → (s.fn (n + 1)).responseFailure = false →
        s.stopped c.vale < 16 → s.freePrg n = some i →
        c'.xferAt x = some { t with stop := some (.prg i) } ∧
        (u.part n).prgs = (s.part n).prgs ++ [{ prg := i, slot := k.val, xfer := x }] ∧
        ∃ q a w, Emit.pageRequest c.part q i a w ∈ u.out) ∧
      s.Only [.out, .regs, .msix, .parts, .slots] u) ∧
  (∀ (s : State) (n : PartId) (prg : Nat) (w : PrgWait) (c : Cmd) (t : Xfer), s.live = true → s.holding = false →
    ((s.part n.val).prgs.find? fun p => p.prg == prg) = some w → s.cmd w.slot = some c → c.xferAt w.xfer = some t →
    xHost (c.entry w.xfer) = true →
    (∃ (u : State) (c' : Cmd), exec (.prgResponse n prg .success) s = .next (u.sendWaiting n.val) ∧ u.cmd w.slot = some c' ∧
      c'.xferAt w.xfer = some { t with stop := none } ∧ c'.status = c.status ∧
      (u.part n.val).prgs = (s.part n.val).prgs.filter (fun q => q.prg != prg) ∧ s.Only [.slots, .parts] u) ∧
    (∀ code, code ≠ .success → ∃ (u : State) (c' : Cmd), exec (.prgResponse n prg code) s = .next (u.sendWaiting n.val) ∧ u.cmd w.slot = some c' ∧
      c'.xferAt w.xfer = some { t with stop := none, zeros := true } ∧ (c.status = 0 → c'.status = 4 ∧ c'.xfer = w.xfer) ∧
      (u.part n.val).prgs = (s.part n.val).prgs.filter (fun q => q.prg != prg) ∧
      (u.fn (n.val + 1)).responseFailure = ((s.fn (n.val + 1)).responseFailure || code == .responseFailure) ∧
      s.Only [.slots, .parts, .fns] u)) ∧
  (∀ (s : State) (n : PartId) (prg : Nat) (code : PrgCode), s.live = true →
    (s.holding = false → ((s.part n.val).prgs.find? fun p => p.prg == prg) = none → exec (.prgResponse n prg code) s = .next s) ∧
    (s.holding = true → exec (.prgResponse n prg code) s =
      .next { s with terrace := { s.terrace with deferred := s.terrace.deferred ++ [.prg n prg code] } })) ∧
  (∀ (s : State) (n : PartId) (i : Nat), Serves s (.vf n) = true → s.pageOn n.val = true →
    (s.holding = true →
      exec (.faultResume n i) s = .next { s with terrace := { s.terrace with deferred := s.terrace.deferred ++ [.resume n i] } } ∧
      exec (.faultEnd n i) s = .next { s with terrace := { s.terrace with deferred := s.terrace.deferred ++ [.finish n i] } }) ∧
    (s.holding = false → s.faultRec n.val i = none →
      exec (.faultResume n i) s = .next s ∧ exec (.faultEnd n i) s = .next s) ∧
    (∀ r, s.holding = false → s.faultRec n.val i = some r →
      (r.resumable = false → exec (.faultResume n i) s = .next s) ∧
      (r.resumable = true → ∃ u, exec (.faultResume n i) s = .next ((u.resumeXfer r.slot r.xfer).sendWaiting n.val) ∧
        (u.part n.val).faults = (s.part n.val).faults.filter (fun q => q.index != i) ∧ s.Only [.parts] u) ∧
      (∃ u, exec (.faultEnd n i) s = .next (u.sendWaiting n.val) ∧
        (u.part n.val).faults = (s.part n.val).faults.filter (fun q => q.index != i) ∧ s.Only [.parts, .slots] u ∧
        (∀ c t, r.resumable = true → s.cmd r.slot = some c → c.xferAt r.xfer = some t →
          ∃ c', u.cmd r.slot = some c' ∧ c'.xferAt r.xfer = some { t with stop := none, zeros := true } ∧
            (c.status = 0 → c'.status = 4)) ∧ (r.resumable = false → u.slots = s.slots)))) ∧
  (∀ (s : State) (k : Slot) (x : Nat) (why : HostFail) (c : Cmd) (t : Xfer), s.live = true → hostReadOk k.val x s = true →
    s.cmd k.val = some c → c.fetch[x]? = some t →
    ∃ (u : State) (c' : Cmd), exec (.hostReadFailure k x why) s = .next u ∧ u.cmd k.val = some c' ∧
      c'.fetch[x]? = some { t with stop := none, zeros := true } ∧ (c.status = 0 → c'.status = 4 ∧ c'.xfer = x) ∧
      u.out = s.out ++ (if why = .completionTimeout then [.aer (.vf c.part) .completionTimeout] else []) ∧
      (∀ i, i ≠ k.val → u.cmd i = s.cmd i) ∧ s.Only [.slots, .out] u) ∧
  (∀ (s : State) (n : PartId), Serves s (.vf n) = true → s.pageOn n.val = true →
    (∀ r, ((s.part n.val).faults.find? fun r => !r.returned) = some r →
      ∃ t, exec (.fqNextRead n) s = .next t ∧ t.out = s.out ++ [.read (.vf n) 0x6000 (BitVec.ofNat 64 (2 ^ 31 + r.index))] ∧
        (∀ q ∈ (t.part n.val).faults, q.index = r.index → q.returned = true) ∧ s.Only [.parts, .out] t) ∧
    (((s.part n.val).faults.find? fun r => !r.returned) = none →
      ∃ t, exec (.fqNextRead n) s = .next t ∧ t.out = s.out ++ [.read (.vf n) 0x6000 0#64] ∧
        t.part n.val = { s.part n.val with fqMessage := false } ∧ s.Only [.parts, .out] t))

/-- R278, R279, R282 (its start), R284, R285 and R287. -/
def Obligations.PartitionOperations : Prop :=
  (∀ (s : State) (n : PartId) (g : Vale), Serves s .pf = true → (s.part n.val).op.isSome = true →
    exec (.create n) s = .next s ∧ exec (.destroy n) s = .next s ∧ exec (.addVale n g) s = .next s ∧
      exec (.releaseVale n g) s = .next s ∧ exec (.btLoad n) s = .next s) ∧
  (∀ (s : State) (n : PartId), Serves s .pf = true → (s.part n.val).op = none →
    (createErr s n.val ≠ 0 → ∃ t, exec (.create n) s = .next t ∧
      t.part n.val = { s.part n.val with op := some { code := 1, vale := 0, err := createErr s n.val, entry := 0 } } ∧
      (∀ m, m ≠ n.val → t.part m = s.part m) ∧ s.Only [.parts] t) ∧
    (∀ i u, createErr s n.val = 0 → s.checkedTable n.val (fun g => (maskVales s n.val).contains g) none = (.error i, u) →
      ∃ t, exec (.create n) s = .next t ∧
        t.part n.val = { s.part n.val with op := some { code := 1, vale := 0, err := 8, entry := i } } ∧ t.vales = s.vales) ∧
    (∀ tbl u, createErr s n.val = 0 → s.checkedTable n.val (fun g => (maskVales s n.val).contains g) none = (.ok tbl, u) →
      ∃ t : State, exec (.create n) s = .next t ∧ (t.part n.val).mode = .active ∧ (t.part n.val).table = some tbl ∧
        (t.part n.val).next = none ∧ (t.part n.val).since = s.clock ∧
        (t.part n.val).op = some { code := 1, vale := 0, err := 0, entry := 0 } ∧
        (∀ g, g ∈ maskVales s n.val → (t.vale g).owner = some n ∧ (t.vale g).set = 0 ∧ (t.vale g).elem.resident = [] ∧
          ∀ o, o < 2 ^ 20 → t.byte (cacheAddr g o) = 0#8) ∧
        (∀ g, g ∉ maskVales s n.val → t.vale g = s.vale g) ∧ (∀ m, m ≠ n.val → t.part m = s.part m) ∧
        (∀ k, k < 4096 → t.token n.val k = 0) ∧ (∀ j : Job, t.jobHalted n.val j.val = false))) ∧
  (∀ (s : State) (n : PartId), Serves s .pf = true → (s.part n.val).op = none →
    ((s.part n.val).mode ≠ .active → ∃ t, exec (.destroy n) s = .next t ∧
      t.part n.val = { s.part n.val with op := some { code := 2, vale := 0, err := 1, entry := 0 } } ∧ s.Only [.parts] t) ∧
    ((s.part n.val).mode = .active → s.Canonical → ∃ t : State, exec (.destroy n) s = .next t ∧
      (t.part n.val).mode = .destroying ∧ (t.part n.val).bindings = [] ∧ (t.part n.val).pins = [] ∧
      (t.part n.val).op = some { code := 2, vale := 0, err := 0, entry := 0 } ∧
      (∀ k c, s.cmd k = some c → c.part = n → c.dispatched = none → c.reissued = false → t.cmd k = none) ∧
      (∀ k c, s.cmd k = some c → ¬ (c.part = n ∧ c.dispatched = none ∧ c.reissued = false) → (t.cmd k).isSome = true))) ∧
  (∀ (s : State) (n : PartId) (g : Vale), Serves s .pf = true → (s.part n.val).op = none →
    let fails := fun (code err : Nat) =>
      { s.part n.val with op := some { code := code, vale := g.val, err := err, entry := 0 } }
    ((s.part n.val).mode ≠ .active → ∃ t u, exec (.addVale n g) s = .next t ∧ t.part n.val = fails 3 1 ∧ s.Only [.parts] t ∧
      exec (.releaseVale n g) s = .next u ∧ u.part n.val = fails 4 1 ∧ s.Only [.parts] u) ∧
    ((s.part n.val).mode = .active →
      (((s.vale g.val).owner.isSome = true ∨ valeTested s g.val = true) →
        ∃ t, exec (.addVale n g) s = .next t ∧ t.part n.val = fails 3 2 ∧ s.Only [.parts] t) ∧
      ((s.vale g.val).owner = none → valeTested s g.val = false → (s.vale g.val).fenced = true →
        ∃ t, exec (.addVale n g) s = .next t ∧ t.part n.val = fails 3 3 ∧ s.Only [.parts] t) ∧
      ((s.vale g.val).owner = none → valeTested s g.val = false → (s.vale g.val).fenced = false →
        ∃ t, exec (.addVale n g) s = .next t ∧ t.part n.val = fails 3 0 ∧ (t.vale g.val).owner = some n ∧
          (t.vale g.val).set = addedSet s n.val g.val ∧ (∀ h, h ≠ g.val → t.vale h = s.vale h) ∧
          (∀ o, o < 2 ^ 20 → t.byte (cacheAddr g.val o) = 0#8) ∧ s.Only [.parts, .vales, .mem] t) ∧
      (((s.vale g.val).owner ≠ some n ∨ valeTested s g.val = true) →
        ∃ t, exec (.releaseVale n g) s = .next t ∧ t.part n.val = fails 4 2 ∧ s.Only [.parts] t) ∧
      ((s.vale g.val).owner = some n → valeTested s g.val = false → valeInUse s n.val g.val = true →
        ∃ t, exec (.releaseVale n g) s = .next t ∧ t.part n.val = fails 4 10 ∧ s.Only [.parts] t) ∧
      ((s.vale g.val).owner = some n → valeTested s g.val = false → valeInUse s n.val g.val = false →
        ∃ t, exec (.releaseVale n g) s = .next t ∧ (t.part n.val).op = (fails 4 0).op ∧ (t.vale g.val).owner = none ∧
          (t.vale g.val).set = 0 ∧ (∀ h, h ≠ g.val → t.vale h = s.vale h) ∧
          (∀ o, o < 2 ^ 25 → t.byte (storeAddr g.val o) = 0#8) ∧ (∀ o, o < 2 ^ 20 → t.byte (cacheAddr g.val o) = 0#8) ∧
          s.Only [.parts, .vales, .mem] t))) ∧
  (∀ (s : State) (n : PartId), Serves s .pf = true → (s.part n.val).op = none →
    ((s.part n.val).mode ≠ .active → ∃ t, exec (.btLoad n) s = .next t ∧
      t.part n.val = { s.part n.val with op := some { code := 5, vale := 0, err := 1, entry := 0 } } ∧ s.Only [.parts] t) ∧
    (∀ i u, (s.part n.val).mode = .active →
      s.checkedTable n.val (fun g => (s.owned n.val).contains g) (some s.beatNum) = (.error i, u) →
      ∃ t, exec (.btLoad n) s = .next t ∧
        t.part n.val = { s.part n.val with op := some { code := 5, vale := 0, err := 8, entry := i } }) ∧
    (∀ tbl u, (s.part n.val).mode = .active →
      s.checkedTable n.val (fun g => (s.owned n.val).contains g) (some s.beatNum) = (.ok tbl, u) →
      let q := { s.part n.val with table := (s.part n.val).tableAt s.beatNum, next := some tbl }
      ∃ t, exec (.btLoad n) s = .next t ∧
        (windowsBad u n.val q tbl = true →
          t.part n.val = { s.part n.val with op := some { code := 5, vale := 0, err := 9, entry := 0 } }) ∧
        (windowsBad u n.val q tbl = false →
          t.part n.val = { q with op := some { code := 5, vale := 0, err := 0, entry := 0 } }))) ∧
  (∀ (s : State) (n : PartId), s.live = true →
    (∀ o, (s.part n.val).op = some o → (s.part n.val).mode ≠ .destroying →
      ∃ t, exec (.pcfgOpEnd n) s = .next t ∧ (t.part n.val).op = none ∧ (t.part n.val).err = o.err ∧
        (t.part n.val).btEntry = (if o.err = 8 then o.entry else (s.part n.val).btEntry) ∧
        (t.part n.val).mode = (s.part n.val).mode ∧ (∀ m, m ≠ n.val → t.part m = s.part m) ∧
        (s.resetting (.partcfg n) = false → (t.reg (pageBase (.partcfg n) + 0x10)).getLsbD 0 = true) ∧
        (∃ e, e.event = .pcfgDone ∧ t.mp = s.mp.take e) ∧ s.Only [.parts, .regs, .out, .msix, .mp] t) ∧
    ((s.part n.val).op = none ∨ (s.part n.val).mode = .destroying → exec (.pcfgOpEnd n) s = .next s))

/-- R282 (steps 3 and 4), R286 and R290. -/
def Obligations.PartitionsDrainAndAreRechecked : Prop :=
  (∀ (s : State) (n : PartId), s.live = true → (s.part n.val).mode = .destroying → s.ofPart n.val = [] → s.Canonical →
    ∃ t : State, exec (.destroyDrained n) s = .next t ∧ (t.part n.val).mode = .free ∧ (t.part n.val).table = none ∧
      (t.part n.val).next = none ∧ (t.part n.val).tlb = [] ∧ (t.part n.val).rc = Rc.reset ∧ (t.part n.val).op = (s.part n.val).op ∧
      (∀ g, (s.vale g).owner = some n → (t.vale g).owner = none ∧ (t.vale g).set = 0 ∧
        (∀ o, o < 2 ^ 25 → t.byte (storeAddr g o) = 0#8) ∧ (∀ o, o < 2 ^ 20 → t.byte (cacheAddr g o) = 0#8)) ∧
      (∀ g, (s.vale g).owner ≠ some n → t.vale g = s.vale g) ∧ (∀ m, m ≠ n.val → t.part m = s.part m) ∧
      s.Only [.parts, .vales, .mem] t) ∧
  (∀ (s : State) (n : PartId), s.live = true → ((s.part n.val).mode ≠ .destroying ∨ s.ofPart n.val ≠ []) →
    exec (.destroyDrained n) s = .next s) ∧
  (∀ (s : State) (n : PartId) (tbl : BeatTable), s.live = true → (s.part n.val).next = some tbl →
    (tbl.anchor ≤ s.beatNum → ∃ t, exec (.beatTableAnchor n) s = .next t ∧
      t.part n.val = { s.part n.val with table := some tbl, next := none } ∧ (∀ m, m ≠ n.val → t.part m = s.part m) ∧
      s.Only [.parts] t) ∧
    (s.beatNum < tbl.anchor → exec (.beatTableAnchor n) s = .next s)) ∧
  (∀ (s : State) (n : PartId), s.live = true → (s.part n.val).recheck ≠ [] → s.Canonical →
    ∃ t, exec (.admissionRecheck n) s = .next t ∧ (t.part n.val).recheck = [] ∧
      (s.resetting (.partcfg n) = false → (t.reg (pageBase (.partcfg n) + 0x10)).getLsbD 1 = true) ∧
      (∀ k c, s.cmd k = some c → c.part = n → c.admitted = true → c.dispatched = none → c.reissued = false →
        s.metered n.val = true → (s.regF (pcfg n.val + 0x48) 9 8 = 1 ∨ fencedCmd s c = true) → t.cmd k = none) ∧
      (∀ k c, s.cmd k = some c → ¬ (c.part = n ∧ c.admitted = true ∧ c.dispatched = none ∧ c.reissued = false) →
        (t.cmd k).isSome = true)) ∧
  (∀ (s : State) (n : PartId), s.live = true → (s.part n.val).recheck = [] → exec (.admissionRecheck n) s = .next s)

/-- R291, R292, R293 and R294. -/
def Obligations.BackgroundTests : Prop :=
  (∀ (s : State) (x : Fin 128) (code : Nat) (c : Instr), Serves s .pf = true →
    (c, code) ∈ [(Instr.valeScan x, 1), (.echoCheck x, 2), (.arrayPattern x, 3), (.storePattern x, 4), (.linkMargin x, 5),
      (.linkRetrain x, 6)] →
    ∃ t, exec c s = .next t ∧
      (bgFailures s code x.val ≠ [] → t.regF 0xC4 11 8 ∈ bgFailures s code x.val ∧ t.regF 0xC4 3 0 = s.regF 0xC4 3 0 ∧
        t.tests = s.tests ∧ s.RegsBut [0xC4] t) ∧
      (bgFailures s code x.val = [] →
        ∃ i b bs, i < 16 ∧ s.test i = none ∧ timely s code x.val = some (b :: bs) ∧
          t.test i = some { code := code, target := x.val, starts := b :: bs, until_ := none } ∧
          (∀ j, j ≠ i → t.test j = s.test j) ∧ t.regF 0xC4 11 8 = 0 ∧ t.regF 0xC4 3 0 = i ∧ t.reg64 0xC8 = b % 2 ^ 64 ∧
          s.RegsBut [0xC4, 0xC8, 0xCC] t) ∧
      s.Only [.free, .regs, .tests] t) ∧
  (∀ (s : State) (i : Fin 16) (x : BgTest), s.live = true → s.test i.val = some x → bgStartOk i.val s = true →
    ∃ t, exec (.bgTestStart i) s = .next t ∧
      t.test i.val = some { x with starts := x.starts.tail, until_ := some (s.beatNum + testBeats x.code) } ∧
      (∀ j, j ≠ i.val → t.test j = s.test j) ∧
      (x.destroys = true → t.vale x.target = { s.vale x.target with test := true }) ∧
      (x.destroys = false → t.vales = s.vales) ∧
      (x.code = 6 → s.linkUp x.target = true ∨ (s.link x.target).state = .failed →
        (t.link x.target).state = .equalise ∧ (t.link x.target).kind = .retrain) ∧
      (x.code ≠ 6 → t.links = s.links)) ∧
  (∀ (s : State) (i : Fin 16) (failed : Bool) (x : BgTest), s.live = true → s.test i.val = some x → bgEndOk i.val s = true →
    ∃ t, exec (.bgTestEnd i failed) s = .next t ∧ t.test i.val = none ∧ (∀ j, j ≠ i.val → t.test j = s.test j) ∧
      t.regF 0xD0 31 31 = 1 ∧ t.regF 0xD0 27 24 = x.code % 16 ∧ t.regF 0xD0 8 8 = boolBit failed ∧ t.regF 0xD0 3 0 = i.val ∧
      (s.resetting .device = false → (t.reg 0x10).getLsbD 1 = true) ∧
      (∃ (m : Mp) (e : MorEntry), e.event = .testEnd ∧ t.mp = m.take e) ∧
      (x.destroys = true → (t.vale x.target).test = false ∧ ∀ o, o < 2 ^ 25 → t.byte (storeAddr x.target o) = 0#8) ∧
      (failed = true → targetKind x.code = 0 → s.holding = false → (t.vale x.target).fenced = true) ∧
      (failed = false → x.destroys = false → s.Only [.tests, .regs, .out, .msix, .mp] t)) ∧
  (∀ (s : State) (i : Fin 16) (failed : Bool), s.live = true →
    (bgStartOk i.val s = false → exec (.bgTestStart i) s = .next s) ∧
    (bgEndOk i.val s = false → exec (.bgTestEnd i failed) s = .next s))

/-- R297 and R299: decode of encode for flits. -/
def Obligations.FlitsDecodeAsSent : Prop :=
  ∀ (h : FlitHead) (payload : List Byte), h.type < 16 → h.vc < 32 → h.seq < 4096 → h.ack < 4096 → h.crVc < 32 → h.crTotal < 4096 →
    h.rxBuf < 8 → h.len < 256 → h.msg < 2 ^ 32 → payload.length ≤ 240 →
    let bs := headBytes h ++ (payload ++ List.replicate 240 0#8).take 240
    let flit := bs ++ leBytes 4 (crc32c bs)
    flit.length = 256 ∧ flitHead flit = h ∧ flitCrcOk flit = true ∧ (flit.drop 12).take payload.length = payload ∧
      (∀ x, x < 2 ^ 32 → x ≠ crc32c bs → flitCrcOk (bs ++ leBytes 4 x) = false)

/-- R298, R300, R301, R302, R303, R305 and R306. -/
def Obligations.LinksReceiveAndReplay : Prop :=
  (∀ (s : State) (k : Link) (bs : List Byte), s.live = true →
    let h := flitHead bs
    let l := s.link k.val
    let b := pageBase (.link k)
    ((s.linkUp k.val = false ∨ bs.length ≠ 256) → exec (.flitReceive k bs) s = .next s) ∧
    (s.linkUp k.val = true → bs.length = 256 → flitCrcOk bs = false →
      ∃ t, exec (.flitReceive k bs) s = .next t ∧ t.link k.val = { l with nakPending := true } ∧
        (∀ j, j ≠ k.val → t.link j = s.link j) ∧ (s.counting (.link k) = true → t.reg (b + 0x50) = satInc (s.reg (b + 0x50)) 1) ∧
        s.RegsBut [b + 0x50] t ∧ s.Only [.regs, .links] t) ∧
    (s.linkUp k.val = true → bs.length = 256 → flitCrcOk bs = true → protocolError h = true →
      ∃ t, exec (.flitReceive k bs) s = .next t ∧
        t.link k.val = { l with state := .align, kind := .recovery, since := s.clock, probes := 0, era := l.era + 1, resend := [] } ∧
        (∀ j, j ≠ k.val → t.link j = s.link j) ∧
        (s.counting (.link k) = true → t.reg (b + 0x60) = satInc (s.reg (b + 0x60)) 1 ∧
          t.reg (b + 0x5C) = satInc (s.reg (b + 0x5C)) 1) ∧
        (∃ e, e.event = .linkFailed ∧ t.mp = s.mp.take e)) ∧
    (s.linkUp k.val = true → bs.length = 256 → flitCrcOk bs = true → protocolError h = false →
      ∃ u : State, exec (.flitReceive k bs) s = .next ((if h.nak then u.takeNak k.val h.ack else u).acceptFlit k.val h bs) ∧
        u.link k.val = { l.takeAck h.ack s.clock with credited := Sparse.set (fun _ => 0) l.credited h.crVc h.crTotal } ∧
        (∀ j, j ≠ k.val → u.link j = s.link j) ∧ s.Only [.links] u)) ∧
  (∀ (s : State) (k : Link) (h : FlitHead) (bs : List Byte),
    let l := s.link k.val
    let f := rxFlit h bs l.era s.clock
    (h.type ∈ [1, 2, 4, 5] → h.seq = l.expected →
      (s.acceptFlit k.val h bs).link k.val =
        { l with rx := l.rx ++ [f], expected := (l.expected + 1) % 4096, nakPending := false }) ∧
    (h.type ∈ [1, 2, 4, 5] → h.seq ≠ l.expected → (s.acceptFlit k.val h bs).link k.val = { l with nakPending := true }) ∧
    (h.type = 3 → (s.acceptFlit k.val h bs).link k.val = { l with rx := l.rx ++ [f] }) ∧
    (h.type = 0 → s.acceptFlit k.val h bs = s)) ∧
  (∀ (s : State) (k : Link) (x : TxFlit) (xs : List TxFlit), s.live = true → replayTimeoutOk k s = true →
    (s.link k.val).replay = x :: xs →
    let run := if (s.link k.val).replayRun.1 = x.seq ∧ (s.link k.val).replayRun.2 ≠ 0 then (s.link k.val).replayRun.2 + 1 else 1
    ∃ t, exec (.replayTimeout k) s = .next t ∧ (t.link k.val).replay = x :: xs ∧ (t.link k.val).replayRun = (x.seq, run) ∧
      (t.link k.val).ackClock = s.clock ∧
      (run < replayLimit s k.val → (t.link k.val).resend = (x :: xs).map (·.seq) ∧ (t.link k.val).state = .up) ∧
      (replayLimit s k.val ≤ run → (t.link k.val).state = .align ∧ (t.link k.val).kind = .recovery) ∧
      (s.counting (.link k) = true → t.reg (pageBase (.link k) + 0x4C) = satInc (s.reg (pageBase (.link k) + 0x4C)) 1) ∧
      (∀ j, j ≠ k.val → t.link j = s.link j)) ∧
  (∀ (s : State) (k : Link), s.live = true → replayTimeoutOk k s = false → exec (.replayTimeout k) s = .next s) ∧
  (∀ (s : State) (k : Link), s.live = true →
    (s.linkUp k.val = false → exec (.granuleGrant (.link k)) s = .next s) ∧
    (s.linkUp k.val = true → ∃ u, exec (.granuleGrant (.link k)) s = .next (u.egress k.val) ∧ u = s.feedTurns.turnsReady ∧
      ((u.link k.val).beats ≠ 0 → ∃ bytes, (u.egress k.val).out = u.out ++ [.flit k bytes] ∧
        bytes.length = 256 ∧ (flitHead bytes).type = 3 ∧ ((u.egress k.val).link k.val).beats = (u.link k.val).beats - 1) ∧
      (∀ q qs x, (u.link k.val).beats = 0 → (u.link k.val).resend = q :: qs →
        ((u.link k.val).replay.find? fun t => t.seq == q) = some x →
        ((u.egress k.val).link k.val).resend = qs ∧ ((u.egress k.val).link k.val).replay = (u.link k.val).replay ∧
        ∃ bytes, (u.egress k.val).out = u.out ++ [.flit k bytes] ∧ bytes.length = 256))) ∧
  (∀ (s : State) (k : Link) (f : RxFlit), s.live = true → ((s.link k.val).rx.find? fun f => f.type == 5 && f.vc == 16) = some f →
    ∃ t, exec (.mgmtMessage k) s = .next t ∧ (t.link k.val).rx = (s.link k.val).rx.erase f ∧
      vcCount (t.link k.val).freed 16 = (vcCount (s.link k.val).freed 16 + 1) % 4096 ∧
      (∀ j, j ≠ k.val → t.link j = s.link j) ∧ s.Only [.links] t) ∧
  (∀ (s : State) (k : Link), s.live = true → ((s.link k.val).rx.find? fun f => f.type == 5 && f.vc == 16) = none →
    exec (.mgmtMessage k) s = .next s)

/-- R307, R308, R309, R310 and R316. -/
def Obligations.LinksTrain : Prop :=
  (∀ (s : State) (k : Link), s.live = true →
    let l := s.link k.val
    let goes := fun (c : Instr) (from_ to_ : LinkState) (ok : Prop) =>
      (l.state = from_ → ok → ∃ t, exec c s = .next t ∧ (t.link k.val).state = to_ ∧
        (l.kind ≠ .recovery → (t.link k.val).since = s.clock) ∧ (t.link k.val).replay = l.replay ∧
        (t.link k.val).txSeq = l.txSeq ∧ (∀ j, j ≠ k.val → t.link j = s.link j) ∧ s.Only [.links] t) ∧
      ((l.state ≠ from_ ∨ ¬ ok) → exec c s = .next s)
    goes (.linkSignalDetect k) .detect .equalise True ∧ goes (.linkEqualised k) .equalise .align True ∧
      goes (.codewordLock k) .align .measure True ∧ goes (.linkMeasured k) .measure .exchange (256 ≤ l.probes)) ∧
  (∀ (s : State) (k : Link) (m : TrainMsg), s.live = true →
    ((s.link k.val).state ≠ .measure → exec (.trainMessage k m) s = .next s) ∧
    (∀ sent, (s.link k.val).state = .measure → m = .probe sent →
      ∃ t x, exec (.trainMessage k m) s = .next t ∧ t.out = s.out ++ [.trainEcho k sent x] ∧ s.Only [.free, .out] t) ∧
    (∀ sent turn back, (s.link k.val).state = .measure → m = .echo sent turn back →
      ∃ t, exec (.trainMessage k m) s = .next t ∧
        (t.link k.val).probes = (s.link k.val).probes + 1 ∧
        (t.link k.val).lambda = max (s.link k.val).lambda (((back - sent - turn + 1) / 2) % 2 ^ 16) ∧
        (t.link k.val).state = .measure ∧ (t.link k.val).replay = (s.link k.val).replay ∧
        (∀ j, j ≠ k.val → t.link j = s.link j) ∧ s.Only [.links] t)) ∧
  (∀ (s : State) (k : Link) (m : ExchangeMsg), s.live = true →
    let l := s.link k.val
    ((l.state ≠ .exchange → exec (.linkExchangeDone k m) s = .next s) ∧
    (l.state = .exchange → ∃ t, exec (.linkExchangeDone k m) s = .next t ∧ (t.link k.val).state = .up ∧
      (t.link k.val).partnerEpoch = some m.epoch ∧ (t.link k.val).partnerSerial = m.serial ∧
      (t.link k.val).partnerLink = m.linkIndex ∧ (t.link k.val).partnerHw = m.headwater ∧
      (t.link k.val).resend = (t.link k.val).replay.map (·.seq) ∧
      (s.resetting (.link k) = false → (t.reg (pageBase (.link k) + 0x10)).getLsbD 3 = true) ∧
      ((l.partnerEpoch = none ∨ l.partnerEpoch = some m.epoch) → (t.link k.val).txSeq = l.txSeq ∧
        (t.link k.val).expected = l.expected ∧ t.slots = s.slots) ∧
      (∀ e, l.partnerEpoch = some e → e ≠ m.epoch → (t.link k.val).txSeq = 0 ∧ (t.link k.val).replay = [] ∧
        (t.link k.val).expected = 0 ∧ (t.link k.val).sent = [] ∧ (t.link k.val).era = l.era + 1 ∧
        (s.Canonical → ∀ j c, s.cmd j = some c → c.dispatched.isSome = true → c.links.contains k.val = true →
          c.coll.any (·.ended) = false → ∃ c', t.cmd j = some c' ∧ 3 ∈ c'.voids)) ∧
      (∀ j, j ≠ k.val → t.link j = s.link j) ∧ s.Only [.links, .slots, .regs, .out, .msix] t))) ∧
  (∀ (s : State) (k : Link), s.live = true →
    (trainTimeoutOk k s = false → exec (.linkTrainTimeout k) s = .next s) ∧
    (trainTimeoutOk k s = true → ∃ t, exec (.linkTrainTimeout k) s = .next t ∧ (∀ j, j ≠ k.val → t.link j = s.link j) ∧
      ((s.link k.val).kind = .initial → t.link k.val = { s.link k.val with state := .detect, since := s.clock, probes := 0 }) ∧
      ((s.link k.val).kind ≠ .initial → (t.link k.val).state = .failed ∧
        (s.resetting (.link k) = false → (t.reg (pageBase (.link k) + 0x10)).getLsbD 2 = true)))) ∧
  (∀ (s : State) (k : Link) (en : Bool), Serves s .pf = true → s.resetting (.link k) = false →
    (en = false → linkWeighted s k.val = true → exec (.linkEnWrite k en) s = .next s) ∧
    ((en = true ∨ linkWeighted s k.val = false) → ∃ t, exec (.linkEnWrite k en) s = .next t ∧ t.linkEn k.val = en ∧
      (∀ j, j ≠ k.val → t.link j = s.link j) ∧
      (en = true → (s.link k.val).state = .down → 5 ≤ s.boot.phase → (t.link k.val).state = .detect ∧
        (t.link k.val).txSeq = 0 ∧ (t.link k.val).expected = 0 ∧ (t.link k.val).replay = []) ∧
      (en = true → (s.link k.val).state ≠ .down → t.link k.val = s.link k.val) ∧
      (en = false → (t.link k.val).state = .down ∧
        (s.linkUp k.val = true → (t.reg (pageBase (.link k) + 0x10)).getLsbD 0 = true))))

/-- R321, R322, R323, R324, R329, R331, R334 and R343. Where a row goes on to the close, the state u is the one in which the verdict is
ready. That a rail's own first messages go out is the shared operation State.railRun. -/
def Obligations.CollectivesLap : Prop :=
  (∀ (c : Cmd) (e : Nat), e < c.elems →
    c.pieceLen % 64 = 0 ∧
    ∃ r j, r < c.rails ∧ j < c.pieceN ∧ (c.piece r j).1 ≤ e ∧ e < (c.piece r j).2 ∧
      ∀ r' j', r' < c.rails → j' < c.pieceN → (c.piece r' j').1 ≤ e → e < (c.piece r' j').2 → r' = r ∧ j' = j) ∧
  (∀ (s : State) (k : Slot) (c : Cmd) (x : CollSt), s.live = true → s.cmd k.val = some c → c.coll = some x →
    (collectStartOk k.val s = false → exec (.collectStageStart k) s = .next s) ∧
    (collectStartOk k.val s = true →
      ∃ t, exec (.collectStageStart k) s = .next t ∧ (∀ i, i ≠ k.val → t.cmd i = s.cmd i) ∧
        t.reg (pageBase (collPage c.vale) + 0x44) = BitVec.ofNat 32 c.collSeq ∧
        s.RegsBut [pageBase (collPage c.vale) + 0x44] t ∧ s.Only [.regs, .mem, .slots] t ∧
        (x.state = .linkWait → t.cmd k.val = some { c with coll := some { x with state := .retain } } ∧ t.mem = s.mem) ∧
        (x.state ≠ .linkWait →
          let n := retainNow c x
          let q := c.queue c.collIn
          let bs := s.qBytes q (q.head / 2) (n * c.inBytes)
          let at_ := fun i => storeAddr c.vale (c.retainBase + x.retained * c.inBytes + i)
          t.cmd k.val = some { c.modQueue c.collIn (fun q => q.advance (2 * n * c.inBytes)) with
                               coll := some { x with retained := x.retained + n } } ∧
          (n * c.inBytes ≤ 2 ^ 25 → ∀ i, i < n * c.inBytes → t.byte (at_ i) = bs.getD i 0#8) ∧
          (∀ a, (∀ i, i < n * c.inBytes → a ≠ at_ i) → t.byte a = s.byte a)))) ∧
  (∀ (s : State) (k : Slot) (c : Cmd) (x : CollSt), s.live = true → s.cmd k.val = some c → c.coll = some x →
    (lapStartOk k.val s = false → exec (.lapStart k) s = .next s) ∧
    (lapStartOk k.val s = true →
      ∃ u : State, exec (.lapStart k) s =
          .next (((List.range c.rails).foldl (fun s r => s.railRun k.val r) u).collFeed k.val) ∧
        u.cmd k.val = some { c with coll := some { x with state := .laps, rails := (List.range c.rails).map x.rail } } ∧
        (∀ i, i ≠ k.val → u.cmd i = s.cmd i) ∧ s.Only [.slots] u)) ∧
  (∀ (c : Cmd) (t : RailSt), c.isShift = false → c.pos < c.members → t.step + 1 < c.members →
    (t.gather = false → (c.nextPiece t + t.step + 2) % c.members = c.pos) ∧
    (t.gather = true → (c.nextPiece t + t.step + 1) % c.members = c.pos)) ∧
  (∀ (s : State) (k att r j : Nat) (c : Cmd) (lap ends : Bool) (bs : List Byte), bs ≠ [] → r < 8 → j < 8192 →
    ∃ fs, ((s.sendRing k c att r j lap bs ends).link (c.linkOut r)).data = (s.link (c.linkOut r)).data ++ fs ∧
      fs.flatMap (·.payload) = bs ∧
      (∀ f ∈ fs, f.type = 1 ∧ f.vc = c.peerVc r ∧ f.rxBuf = r ∧ f.stream = collStream k c ∧ 0 < f.payload.length ∧
        f.payload.length ≤ 240 ∧ bitsOf f.msg 31 31 = 0 ∧ bitOf f.msg 30 = lap ∧ bitsOf f.msg 29 27 = r ∧
        bitsOf f.msg 26 25 = att % 4 ∧ bitsOf f.msg 24 12 = j ∧ bitsOf f.msg 11 0 = c.collSeq % 4096) ∧
      (∀ i f, fs[i]? = some f → (f.last = true ↔ ends = true ∧ i + 1 = fs.length)) ∧
      (∀ l, l ≠ c.linkOut r → (s.sendRing k c att r j lap bs ends).link l = s.link l)) ∧
  (∀ (s : State) (k : Link) (n : PartId) (r : MemRead), s.live = true →
    ((List.range 8).find? (ringReady s k.val n.val) = none → exec (.ringPiece k n r) s = .next s) ∧
    (∀ b f m c x, s.Canonical → m < 512 → (List.range 8).find? (ringReady s k.val n.val) = some b →
      ringFront s k.val n.val b = some f → ringHolder s k.val n.val = some (m, c, x) →
      let p := pageBase (collPage c.vale)
      let spoiled := fun (u : State) => ∃ c' x', u.cmd m = some c' ∧ c'.coll = some x' ∧ x'.unclean = true ∧ x'.state = .closing ∧
        x'.close.verdict = some false ∧ x'.arrived = (x.started || x.arrived) ∧ (u.link k.val).rx = (s.link k.val).rx.erase f
      (r ≠ .uncorrectable → ringCheck c x k.val b f = .stale →
        ∃ t, exec (.ringPiece k n r) s = .next t ∧ (t.link k.val).rx = (s.link k.val).rx.erase f ∧
          (∀ j, j ≠ k.val → t.link j = s.link j) ∧
          (s.counting (collPage c.vale) = true → t.reg (p + 0x50) = satInc (s.reg (p + 0x50)) 1) ∧
          s.RegsBut [p + 0x50] t ∧ s.Only [.links, .regs] t) ∧
      (r ≠ .uncorrectable → ringCheck c x k.val b f = .error →
        ∃ u, exec (.ringPiece k n r) s = .next (u.verdictReady (cmdMember m)) ∧ spoiled u ∧
          (s.counting (collPage c.vale) = true → u.reg (p + 0x54) = satInc (s.reg (p + 0x54)) 1)) ∧
      (r = .uncorrectable →
        ∃ u, exec (.ringPiece k n r) s = .next (u.verdictReady (cmdMember m)) ∧ spoiled u ∧
          ∃ c', u.cmd m = some c' ∧ 1 ∈ c'.voids) ∧
      (r ≠ .uncorrectable → ringCheck c x k.val b f = .accept → ringBroken c b (x.rail b) f = false →
        ((x.rail b).got = 0 ∨ (x.rail b).era = f.era) → f.last = true →
        ∃ u : State, exec (.ringPiece k n r) s = .next (u.ringAccept m c x b f) ∧ u.link k.val = (s.dropFlit k.val f).link k.val ∧
          (u.link k.val).rx = (s.link k.val).rx.erase f ∧ (∀ j, j ≠ k.val → u.link j = s.link j) ∧ s.Only [.links] u))) ∧
  (∀ (s : State) (k : Slot) (c : Cmd) (x : CollSt), s.live = true → s.cmd k.val = some c → c.coll = some x →
    (arriveOk k.val s = false → exec (.arrive k) s = .next s) ∧
    (arriveOk k.val s = true → x.started = true →
      ∃ (u : State) (c' : Cmd), exec (.arrive k) s = .next (u.verdictReady (.cmd k)) ∧ u.cmd k.val = some c' ∧
        c'.coll = some { x with arrived := true, state := .closing,
                                close := { x.close with verdict := some true, readyBeat := s.beatNum } } ∧
        (c.arriveToken ≠ 0 → u.token c.part.val c.arriveToken = (s.token c.part.val c.arriveToken + 1) % 2 ^ 20) ∧
        u.links = s.links ∧ u.mem = s.mem))

/-- R334 to R341, R343, R344 and R345, for members of collectives and of turns. -/
def Obligations.ClosesDecide : Prop :=
  (∀ (s : State) (m : Member) (i : RingInfo) (v : Bool), s.ringOf m = some i → i.close.verdict = some v →
    (i.n = 1 → s.verdictReady m = s.decideClose m i v) ∧
    (∀ r rs, i.rails = r :: rs → i.n ≠ 1 →
      let sends := fun (b : Bool) => ∃ i', (s.verdictReady m).ringOf m = some i' ∧ i'.close.sent = some s.beatNum ∧
        i'.close.held = none ∧ i'.close.verdict = some v ∧
        ((s.verdictReady m).link r.2.1).system = (s.link r.2.1).system ++
          [{ type := 2, vc := 16, part := 0, stream := 0, msg := closeMsg 0 b false i.attempt r.2.2 i.seq, last := true, rxBuf := 0,
             payload := [] }]
      (i.pos = 0 → i.close.sent = none → sends v) ∧ (i.pos = 0 → i.close.sent ≠ none → s.verdictReady m = s) ∧
      (i.pos ≠ 0 → i.close.held = none → s.verdictReady m = s) ∧
      (∀ h, i.pos ≠ 0 → i.close.held = some h → sends (h && v)))) ∧
  (∀ (s : State) (m : Member) (i : RingInfo) (result : Bool),
    let o : Outcome3 := if result then .clean else if faultIsFinal s i then .finalFault else .fault
    let pay := if o = .fault then leBytes 8 (s.beatNum + i.gap) else []
    ∃ u : State, s.decideClose m i result = u.outcome m o i.attempt (s.beatNum + i.gap) ∧
      (∀ l, (u.link l).system = (s.link l).system ++ if i.n = 1 then [] else
        (i.rails.filter fun r => r.2.1 == l && s.linkUp l).map fun r =>
          { type := 2, vc := 16, part := 0, stream := 0, msg := closeMsg 1 (o == .clean) (o == .finalFault) i.attempt r.2.2 i.seq,
            last := true, rxBuf := 0, payload := pay }) ∧
      (∀ (k : Slot) c, m = .cmd k → s.cmd k.val = some c →
        let a := pageBase (collPage c.vale) + 0x58
        u.regF a 31 31 = 1 ∧ u.regF a 30 30 = boolBit result ∧ u.regF a 29 29 = boolBit (o == .finalFault) ∧
          u.regF a 28 27 = i.attempt % 4 ∧ u.regF a 11 0 = i.seq % 4096 ∧ (∃ e, e.event = .closeDecided ∧ u.mp = s.mp.take e)) ∧
      u.slots = s.slots ∧ u.turns = s.turns) ∧
  (∀ (s : State) (k : Slot) (c : Cmd) (x : CollSt) (att retry : Nat), s.cmd k.val = some c → c.coll = some x →
    let p := pageBase (collPage c.vale)
    (x.started = false → s.outcome (.cmd k) .clean att retry = s) ∧
    (x.started = true → ∃ (u : State) (c' : Cmd), s.outcome (.cmd k) .clean att retry = u.completeNow k.val ∧ u.cmd k.val = some c' ∧
      c'.coll = some { x with ended := true } ∧ (lateClose s c x = false → c'.voids = c.voids) ∧
      (lateClose s c x = true → 7 ∈ c'.voids) ∧
      (c.closeToken ≠ 0 → u.token c.part.val c.closeToken = (s.token c.part.val c.closeToken + 1) % 2 ^ 20)) ∧
    (∀ o, o = .fault ∨ o = .finalFault →
      let t := s.outcome (.cmd k) o att retry
      ∃ c' x', t.cmd k.val = some c' ∧ c'.coll = some x' ∧ c'.desc = c.desc ∧ x'.attempt = att ∧ x'.retained = x.retained ∧
        x'.ended = x.ended ∧ x'.arrived = (x.started || x.arrived) ∧
        (o = .fault → x'.state = .retryWait ∧ x'.close.retryBeat = retry) ∧ (o = .finalFault → x'.state = .failed) ∧
        (c.arriveToken ≠ 0 → x.started = true → x.arrived = false →
          t.token c.part.val c.arriveToken = (s.token c.part.val c.arriveToken + 1) % 2 ^ 20) ∧
        (s.counting (collPage c.vale) = true → t.reg (p + 0x4C) = satInc (s.reg (p + 0x4C)) 1) ∧
        (s.resetting (collPage c.vale) = false → (t.reg (p + 0x10)).getLsbD 0 = true ∧
          (o = .finalFault → (t.reg (p + 0x10)).getLsbD 2 = true)))) ∧
  (∀ (s : State) (k : Link), s.live = true →
    (closeFront s k.val 0 gatherCheck = none → exec (.closeGather k) s = .next s) ∧
    (∀ f, closeFront s k.val 0 gatherCheck = some (f, .discard) → ∃ t, exec (.closeGather k) s = .next t ∧
      (t.link k.val).rx = (s.link k.val).rx.erase f ∧ s.Only [.links] t) ∧
    (∀ f m i, closeFront s k.val 0 gatherCheck = some (f, .act m i) → s.ringOf m = some i →
      (i.pos = 0 → exec (.closeGather k) s = .next ((s.dropFlit k.val f).decideClose m i (bitOf f.msg 29))) ∧
      (i.pos ≠ 0 → ∃ u i', exec (.closeGather k) s = .next (u.verdictReady m) ∧ u.ringOf m = some i' ∧
        i'.close = { i.close with held := some (bitOf f.msg 29) } ∧ (u.link k.val).rx = (s.link k.val).rx.erase f ∧
        s.Only [.links, .slots, .turns] u)) ∧
    (closeFront s k.val 1 outcomeCheck = none → exec (.closeOutcome k) s = .next s) ∧
    (∀ f, closeFront s k.val 1 outcomeCheck = some (f, .discard) → ∃ t, exec (.closeOutcome k) s = .next t ∧
      (t.link k.val).rx = (s.link k.val).rx.erase f ∧ s.Only [.links] t) ∧
    (∀ f m i, closeFront s k.val 1 outcomeCheck = some (f, .act m i) →
      let o : Outcome3 := if bitOf f.msg 29 then .clean else if bitOf f.msg 28 then .finalFault else .fault
      let att := bitsOf f.msg 26 25
      ∃ u : State, exec (.closeOutcome k) s = .next (u.outcome m o att (leAt f.payload 0 8)) ∧
        (u.link k.val).rx = (s.link k.val).rx.erase f ∧ s.Only [.links] u ∧
        (∀ l, (u.link l).system = (s.link l).system ++ if i.pos + 1 = i.n then [] else
          (i.rails.filter fun r => r.2.1 == l && s.linkUp l).map fun r =>
            { type := 2, vc := 16, part := 0, stream := 0, msg := closeMsg 1 (o == .clean) (o == .finalFault) att r.2.2 i.seq,
              last := true, rxBuf := 0, payload := f.payload }))) ∧
  (∀ (s : State) (m : Member), s.live = true →
    (closeTimeoutOk m s = false → exec (.closeTimeout m) s = .next s) ∧
    (∀ i, s.ringOf m = some i → closeTimeoutOk m s = true → exec (.closeTimeout m) s = .next (s.decideClose m i false)) ∧
    (outcomeTimeoutOk m s = false → exec (.outcomeTimeout m) s = .next s) ∧
    (lapTimeoutOk m s = false → exec (.lapTimeout m) s = .next s) ∧ (retryOk m s = false → exec (.retryStart m) s = .next s)) ∧
  (∀ (s : State) (k : Slot) (c : Cmd) (x : CollSt), s.live = true → s.cmd k.val = some c → c.coll = some x →
    let p := pageBase (collPage c.vale)
    (outcomeTimeoutOk (.cmd k) s = true → ∃ t, exec (.outcomeTimeout (.cmd k)) s = .next t ∧
      t.cmd k.val = some { c with coll := some { x with state := .inDoubt } } ∧ (∀ i, i ≠ k.val → t.cmd i = s.cmd i) ∧
      (s.resetting (collPage c.vale) = false → (t.reg (p + 0x10)).getLsbD 1 = true) ∧
      (∃ e, e.event = .inDoubt ∧ t.mp = s.mp.take e) ∧ t.turns = s.turns ∧ t.links = s.links) ∧
    (lapTimeoutOk (.cmd k) s = true → ∃ (u : State) (c' : Cmd) (x' : CollSt),
      exec (.lapTimeout (.cmd k)) s = .next (u.verdictReady (.cmd k)) ∧ u.cmd k.val = some c' ∧ c'.coll = some x' ∧
      x'.unclean = true ∧ x'.state = .closing ∧ x'.close.verdict = some false ∧ x'.close.readyBeat = s.beatNum ∧
      x'.retained = x.retained) ∧
    (retryOk (.cmd k) s = true → ∃ (u : State) (x' : CollSt),
      exec (.retryStart (.cmd k)) s = .next (if lapStartOk k.val u then lapStartDo k.val u else u) ∧
      u.cmd k.val = some { c with coll := some x' } ∧ (∀ i, i ≠ k.val → u.cmd i = s.cmd i) ∧ s.Only [.slots] u ∧
      x'.attempt = x.attempt + 1 ∧ x'.retained = x.retained ∧ x'.close = CloseSt.fresh ∧
      ((x.started = true ∨ c.retainElems ≤ x.retained) → x'.started = true ∧ x'.arrived = false ∧ x'.rails = [] ∧
        x'.landed = [] ∧ x'.unclean = false ∧ x'.progress = s.beatNum ∧
        x'.state = if s.vcBusy k.val c then .linkWait else .retain) ∧
      (x.started = false → x.retained < c.retainElems → x'.started = false ∧ x'.state = .retain))) ∧
  (∀ (s : State) (t : TurnSlot) (j : TurnJob), s.live = true → s.turn t.val = some j →
    (outcomeTimeoutOk (.turn t) s = true → ∃ v, exec (.outcomeTimeout (.turn t)) s = .next v ∧
      v.turn t.val = some { j with state := .inDoubt } ∧ (∀ i, i ≠ t.val → v.turn i = s.turn i) ∧
      (s.resetting (swbPage 0) = false → (v.reg (pageBase (swbPage 0) + 0x10)).getLsbD 3 = true) ∧
      (∃ e, e.event = .inDoubt ∧ v.mp = s.mp.take e) ∧ v.slots = s.slots) ∧
    (lapTimeoutOk (.turn t) s = true → ∃ (u : State), exec (.lapTimeout (.turn t)) s = .next (u.verdictReady (.turn t)) ∧
      u.turn t.val = some { j with unclean := true, state := .closing,
                                   close := { j.close with verdict := some false, readyBeat := s.beatNum } } ∧ s.Only [.turns] u) ∧
    (retryOk (.turn t) s = true → ∃ u : State,
      exec (.retryStart (.turn t)) s =
        .next ((State.countLayers (lyLayers j.dst + 1) t.val u).verdictReady (.turn t)) ∧
      u.turn t.val = some { j with attempt := j.attempt + 1, state := .moving, unclean := false, sent := 0, progress := s.beatNum,
                                   close := CloseSt.fresh } ∧
      (∀ i, i ≠ t.val → u.turn i = s.turn i) ∧ s.Only [.turns] u)) ∧
  (∀ (s : State) (g : Vale), Serves s .pf = true →
    (stuckColl s g.val = none → exec (.collResolveClean g) s = .next s ∧ exec (.collResolveAbort g) s = .next s) ∧
    (∀ k c x, s.Canonical → stuckColl s g.val = some (k, c, x) →
      (x.state = .inDoubt → exec (.collResolveClean g) s = .next (s.collClean k c x)) ∧
      (x.state = .failed → exec (.collResolveClean g) s = .next s) ∧
      ∃ (u : State) (c' : Cmd), exec (.collResolveAbort g) s = .next (u.completeNow k) ∧ u.cmd k = some c' ∧
        c'.coll = some { x with ended := true } ∧ c'.desc = c.desc ∧ s.Only [.slots] u))

/-- R351, R355 to R359, R377 and R378. Memory is named through the model's own write functions, since a partition may have laid its tables
anywhere. -/
def Obligations.VersionOperations : Prop :=
  (∀ (s : State) (n : PartId) (v : BitVec 32), Serves s (.vf n) = true →
    let b := partBase n.val
    (((s.part n.val).mode = .free ∨ s.ringSlots (b + 0x3008) ≤ v.toNat % 4096) → exec (.vqDoorbell n v) s = .next s) ∧
    ((s.part n.val).mode ≠ .free → v.toNat % 4096 < s.ringSlots (b + 0x3008) →
      ∃ t, exec (.vqDoorbell n v) s = .next t ∧ t.regF (b + 0x300C) 11 0 = v.toNat % 4096 ∧ s.RegsBut [b + 0x300C] t ∧ s.Only [.regs] t) ∧
    ((s.part n.val).mode = .free → exec (.vqResume n) s = .next s) ∧
    ((s.part n.val).mode ≠ .free → ∃ t, exec (.vqResume n) s = .next t ∧ t.regF (b + 0x3018) 0 0 = 0 ∧
      t.regF (b + 0x3018) 31 1 = s.regF (b + 0x3018) 31 1 ∧ s.RegsBut [b + 0x3018] t ∧ s.Only [.regs] t)) ∧
  (∀ (s : State) (n : PartId) (c : Instr) (op : Nat), s.live = true →
    (c, op) ∈ [(Instr.bind n, 1), (.unbind n, 2), (.pin n, 3), (.unpin n, 4), (.install n, 5), (.ledgerAppend n, 6), (.turn n, 7)] →
    let o := s.peek n.val (vqSlot s n.val) 32
    (vopOk n op s = false → exec c s = .next s) ∧
    (vopOk n op s = true → vopBad o = true → exec c s = .next (s.vopFinish n.val o ⟨1, none⟩)) ∧
    (vopOk n op s = true → vopBad o = false → s.pdaOk n.val (vtHeader s n.val 0) 4096 true = false →
      exec c s = .next (s.vopFinish n.val o ⟨8, none⟩))) ∧
  (∀ (s : State) (n : PartId), s.live = true →
    let o := s.peek n.val (vqSlot s n.val) 32
    vopBad o = false → s.pdaOk n.val (vtHeader s n.val 0) 4096 true = true →
    (vopOk n 1 s = true → exec (.bind n) s = .next ((bindOp n.val o s).2.vopFinish n.val o (bindOp n.val o s).1)) ∧
    (vopOk n 2 s = true → exec (.unbind n) s = .next ((unbindOp n.val o s).2.vopFinish n.val o (unbindOp n.val o s).1)) ∧
    (vopOk n 3 s = true → exec (.pin n) s = .next ((pinOp n.val o s).2.vopFinish n.val o (pinOp n.val o s).1)) ∧
    (vopOk n 4 s = true → exec (.unpin n) s = .next ((unpinOp n.val o s).2.vopFinish n.val o (unpinOp n.val o s).1)) ∧
    (vopOk n 5 s = true → exec (.install n) s = .next ((installOp n.val o s).2.vopFinish n.val o (installOp n.val o s).1)) ∧
    (vopOk n 6 s = true → exec (.ledgerAppend n) s = .next ((ledgerOp n.val o s).2.vopFinish n.val o (ledgerOp n.val o s).1))) ∧
  (∀ (s : State) (n : PartId) (o : List Byte) (r : VopEnd),
    let b := partBase n.val
    let sig := bitsOf (w32At o 0x14) 11 0
    let t := s.vopFinish n.val o r
    t.regF (b + 0x3010) 11 0 = (s.regF (b + 0x3010) 11 0 + 1) % s.ringSlots (b + 0x3008) % 4096 ∧
      t.mem = (s.vopWrite n.val (vqSlot s n.val) r).mem ∧
      (r.status = 0 → sig ≠ 0 → t.token n.val sig = (s.token n.val sig + 1) % 2 ^ 20) ∧
      (r.status = 0 → t.reg (b + 0x3018) = s.reg (b + 0x3018)) ∧
      (r.status ≠ 0 → t.regF (b + 0x3018) 0 0 = 1 ∧ t.regF (b + 0x3018) 7 4 = r.status % 16 ∧
        ∀ k, k < 4096 → t.token n.val k = s.token n.val k)) ∧
  (∀ (s : State) (n : PartId) (o : List Byte),
    let S := vopSet o
    let key := bindKey (vopJob o) S
    let sel := selVersion s n.val S (vopSel o) (w32At o 4)
    let r := bindOp n.val o s
    (sel = none → r = (⟨2, none⟩, s)) ∧
    (∀ v, sel = some v →
      let old := lookupKey key (s.part n.val).bindings
      (old = some v → r = (⟨0, some (verEpoch s n.val S v)⟩, s)) ∧
      (old ≠ some v → verRefs s n.val S v = 0xFFFFFF → r = (⟨3, none⟩, s)) ∧
      (old ≠ some v → verRefs s n.val S v ≠ 0xFFFFFF → r.1 = ⟨0, some (verEpoch s n.val S v)⟩ ∧
        (r.2.part n.val).bindings = dropKey key (s.part n.val).bindings ++ [(key, v)] ∧
        lookupKey key (r.2.part n.val).bindings = some v ∧ (r.2.part n.val).pins = (s.part n.val).pins ∧
        (∀ m, m ≠ n.val → r.2.part m = s.part m) ∧
        (old = none → r.2.mem = (s.setVerRefs n.val S v (verRefs s n.val S v + 1)).mem)))) ∧
  (∀ (s : State) (n : PartId) (o : List Byte),
    let S := vopSet o
    let bkey := bindKey (vopJob o) S
    let pkey := pinKey S (w32At o 8)
    let sel := selVersion s n.val S (vopSel o) (w32At o 4)
    (lookupKey bkey (s.part n.val).bindings = none → unbindOp n.val o s = (⟨4, none⟩, s)) ∧
    (∀ v, lookupKey bkey (s.part n.val).bindings = some v → (unbindOp n.val o s).1 = ⟨0, none⟩ ∧
      ((unbindOp n.val o s).2.part n.val).bindings = dropKey bkey (s.part n.val).bindings ∧
      ((unbindOp n.val o s).2.part n.val).pins = (s.part n.val).pins) ∧
    (lookupKey pkey (s.part n.val).pins = none → unpinOp n.val o s = (⟨4, none⟩, s)) ∧
    (∀ v, lookupKey pkey (s.part n.val).pins = some v → (unpinOp n.val o s).1 = ⟨0, none⟩ ∧
      ((unpinOp n.val o s).2.part n.val).pins = dropKey pkey (s.part n.val).pins ∧
      ((unpinOp n.val o s).2.part n.val).bindings = (s.part n.val).bindings) ∧
    (((lookupKey pkey (s.part n.val).pins).isSome = true ∨ sel = none) → pinOp n.val o s = (⟨2, none⟩, s)) ∧
    (∀ v, lookupKey pkey (s.part n.val).pins = none → sel = some v →
      ((4096 ≤ (s.part n.val).pins.length ∨ verRefs s n.val S v = 0xFFFFFF) → pinOp n.val o s = (⟨3, none⟩, s)) ∧
      ((s.part n.val).pins.length < 4096 → verRefs s n.val S v ≠ 0xFFFFFF →
        (pinOp n.val o s).1 = ⟨0, some (verEpoch s n.val S v)⟩ ∧
        ((pinOp n.val o s).2.part n.val).pins = (s.part n.val).pins ++ [(pkey, v)] ∧
        (pinOp n.val o s).2.mem = (s.setVerRefs n.val S v (verRefs s n.val S v + 1)).mem))) ∧
  (∀ (s : State) (n : PartId) (o : List Byte),
    let S := vopSet o
    (∀ g u, s.readPda n.val (w64At o 8) 16 = (g, u) → (∀ bs, g ≠ .ok bs) → installOp n.val o s = (⟨8, none⟩, u)) ∧
    (∀ bs u, s.readPda n.val (w64At o 8) 16 = (.ok bs, u) →
      (freeRecords u n.val S = [] → installOp n.val o s = (⟨6, none⟩, u)) ∧
      (freeRecords u n.val S ≠ [] → ∃ v ∈ freeRecords u n.val S, ∃ w : State, s.Only [.out, .regs, .bad, .free, .msix, .floors, .health, .mp] w ∧
        let t := (w.startVersion n.val S v 0 (w64At bs 0) (w64At bs 8)).makeCurrent n.val S v
        installOp n.val o s = (⟨0, some (verEpoch t n.val S v)⟩, t)))) ∧
  (∀ (s u : State) (n : PartId) (o bs : List Byte),
    let S := vopSet o
    let count := w32At o 4
    let h := vtHeader s n.val S
    let tail := s.peek64 n.val (h + 0x18)
    ((count = 0 ∨ 65536 < count) → ledgerOp n.val o s = (⟨1, none⟩, s)) ∧
    (1 ≤ count → count ≤ 65536 → s.readPda n.val (w64At o 8) (32 * count) = (.ok bs, u) →
      (∀ i, i < count → ledgerCheck u n.val S (recAt bs i) ≠ 0 → (ledgerOp n.val o s).1.status ≠ 0 ∧ (ledgerOp n.val o s).2 = u) ∧
      ((ledgerOp n.val o s).1.status = 0 →
        (∀ i, i < count → ledgerCheck u n.val S (recAt bs i) = 0) ∧
        (tail + 2 ^ 64 - u.peek64 n.val (h + 0x20)) % 2 ^ 64 + count ≤ 2 ^ bitsOf (u.peek32 n.val (h + 0x10)) 4 0 ∧
        (ledgerOp n.val o s).2 =
          ((List.range count).foldl (fun t i =>
            t.poke n.val (ledgerAddr u n.val S (tail + i)) ((recAt bs i).take 0x18 ++ leBytes 8 u.beatNum)) u).poke64 n.val (h + 0x18)
              ((tail + count) % 2 ^ 64))))

/-- R363, R366 to R370 and R372 to R376, R382. That the lowest free job slot is taken is the model's choice (log entry 70). -/
def Obligations.TurnsRun : Prop :=
  (∀ (e : List Byte) (bi bj : Nat), bi < tNbr e → bj < tNbc e → 0 < tRP e → 0 < tCP e →
    let p := tPart e bi bj
    p.1 < tRP e ∧ p.2 < tCP e ∧ tLocal e bi bj < tHeight e p.1 * tWidth e p.2 ∧
      ∀ x y, x < tNbr e → y < tNbc e → tPart e x y = p → tLocal e x y = tLocal e bi bj → x = bi ∧ y = bj) ∧
  (∀ (s : State) (n : PartId), s.live = true → vopOk n 7 s = true →
    vopBad (s.peek n.val (vqSlot s n.val) 32) = false → s.pdaOk n.val (vtHeader s n.val 0) 4096 true = true →
    ∃ t, exec (.turn n) s = .next t ∧ t.part n.val = { s.part n.val with turnWait := some (vqSlot s n.val) } ∧
      (∀ m, m ≠ n.val → t.part m = s.part m) ∧ s.Only [.parts] t) ∧
  (∀ (s : State) (n : PartId), s.live = true →
    (turnStartOk n s = false → exec (.turnJobStart n) s = .next s) ∧
    (∀ a k, turnStartOk n s = true → (s.part n.val).turnWait = some a → freeTurn s = some k →
      let o := s.peek n.val a 32
      (w64At o 8 % 64 ≠ 0 → exec (.turnJobStart n) s = .next (s.turnRefused n.val a 1)) ∧
      (∀ u, w64At o 8 % 64 = 0 → s.readTurn n a o = (none, u) → exec (.turnJobStart n) s = .next (u.turnRefused n.val a 8)) ∧
      (∀ j u, w64At o 8 % 64 = 0 → s.readTurn n a o = (some j, u) →
        (turnChecks u j = false → exec (.turnJobStart n) s = .next (u.turnRefused n.val a 1)) ∧
        (turnChecks u j = true → (∃ v, v < 4 ∧ verState u n.val j.set v = 1) →
          exec (.turnJobStart n) s = .next (u.turnRefused n.val a 2)) ∧
        (turnChecks u j = true → (∀ v, v < 4 → verState u n.val j.set v ≠ 1) →
          (freeRecords u n.val j.set = [] → exec (.turnJobStart n) s = .next (u.turnRefused n.val a 6)) ∧
          (freeRecords u n.val j.set ≠ [] → ∃ v ∈ freeRecords u n.val j.set, ∃ (w t : State) (j' : TurnJob),
            exec (.turnJobStart n) s = .next t ∧ u.Only [.free] w ∧ t = w.turnBegin k a j v ∧ t.turn k = some j' ∧ j'.record = v ∧
            j'.part = n ∧ j'.state = .moving ∧ j'.attempt = 0 ∧ j'.landed = [] ∧ j'.desc = j.desc ∧
            (t.part n.val).turnWait = none ∧ (∀ i, i ≠ k → t.turn i = s.turn i)))))) ∧
  (∀ (s : State) (n : PartId) (a status : Nat),
    let b := partBase n.val
    let t := s.turnRefused n.val a status
    (t.part n.val).turnWait = none ∧ t.regF (b + 0x3018) 0 0 = 1 ∧ t.regF (b + 0x3018) 7 4 = status % 16 ∧
      t.regF (b + 0x3010) 11 0 = (s.regF (b + 0x3010) 11 0 + 1) % s.ringSlots (b + 0x3008) % 4096 ∧ t.turns = s.turns ∧
      t.mem = (s.vopWrite n.val a ⟨status, none⟩).mem) ∧
  (∀ (s : State) (k : Link) (n : PartId) (r : MemRead), s.live = true →
    (s.holding = true → exec (.switchbackBlock k n r) s = .next s) ∧
    (s.holding = false → blockFront s k.val n.val = none → exec (.switchbackBlock k n r) s = .next s.turnsReady) ∧
    (∀ f old, s.holding = false → blockFront s k.val n.val = some (f, old) → f.last = true →
      let past := blockAge s n.val (bitsOf f.msg 17 14) (leAt f.payload 0 4) == .past
      ∃ u : State, exec (.switchbackBlock k n r) s =
          .next (u.blockCame k.val n.val (BlockIn.add f n.val past old) r).turnsReady ∧
        (u.link k.val).rx = (s.link k.val).rx.erase f ∧ (∀ j, j ≠ k.val → u.link j = s.link j) ∧ s.Only [.links] u)) ∧
  (∀ (s : State) (k n t : Nat) (j : TurnJob) (b : BlockIn) (r : MemRead), turnOf s n (bitsOf b.msg 17 14) = some (t, j) →
    let i := leAt b.bytes 4 2
    let q := (w32At b.bytes 8, w32At b.bytes 0x0C)
    let data := b.bytes.drop 32
    let good := b.broken = false ∧ r ≠ .uncorrectable ∧ i < j.tensors ∧ (j.mine i).contains q = true ∧
      data.length = tBytes (j.de i) ∧ leAt b.bytes 0x10 16 = leNat (td128Bytes data)
    ((b.drop = true ∨ leAt b.bytes 0 4 ≠ j.epoch) → s.blockCame k n b r = s) ∧
    (b.drop = false → leAt b.bytes 0 4 = j.epoch →
      (bitsOf b.msg 30 18 ≠ j.rank → s.blockCame k n b r = s.forwardBlock k t j (bitsOf b.msg 30 18) b) ∧
      (bitsOf b.msg 30 18 = j.rank → good → s.blockCame k n b r = s.landBlock t (k / 8) j i q data) ∧
      (bitsOf b.msg 30 18 = j.rank → ¬ good → s.blockCame k n b r = s.blockError t (k / 8)))) ∧
  (∀ (s : State) (t die i : Nat) (j : TurnJob) (b : Nat × Nat) (bs : List Byte), s.turn t = some j → die < 4 →
    let p := pageBase (swbPage die)
    (j.landed.contains (i, b.1, b.2) = true → s.landBlock t die j i b bs = s) ∧
    (∀ u, j.landed.contains (i, b.1, b.2) = false → s.writeBlockAt j.part.val (blkPlace j.dstBase (j.de i) b.1 b.2) bs = (true, u) →
      ∃ w : State, s.landBlock t die j i b bs = State.countLayers (lyLayers j.dst + 1) t w ∧
        w.turn t = some { j with landed := j.landed ++ [(i, b.1, b.2)], progress := s.beatNum } ∧ w.mem = u.mem ∧
        (s.counting (swbPage die) = true → w.reg (p + 0x48) = satInc (s.reg (p + 0x48)) 1)) ∧
    (let e := s.blockError t die
     ∃ j', e.turn t = some j' ∧ j'.unclean = true ∧ j'.landed = j.landed ∧ e.mem = s.mem ∧
      (j.state = .moving → j'.state = .closing ∧ j'.close.verdict = some false) ∧ (j.state ≠ .moving → j'.state = j.state) ∧
      (s.counting (swbPage die) = true → e.reg (p + 0x50) = satInc (s.reg (p + 0x50)) 1) ∧
      (s.resetting (swbPage die) = false → (e.reg (p + 0x10)).getLsbD 1 = true))) ∧
  (∀ (s : State) (t : TurnSlot) (i bi bj : Nat) (r : MemRead), s.live = true →
    (localOk t i bi bj s = false → exec (.localBlockLanded t i bi bj r) s = .next s) ∧
    (∀ j, localOk t i bi bj s = true → s.turn t.val = some j →
      let die := placeDie (s.dieOf j.part.val) (blkPlace j.dstBase (j.de i) bi bj)
      (∀ bs u, s.makeBlock j die i (bi, bj) = (some bs, u) → r ≠ .uncorrectable →
        exec (.localBlockLanded t i bi bj r) s = .next (u.landBlock t.val die j i (bi, bj) bs).turnsReady) ∧
      (∀ x u, s.makeBlock j die i (bi, bj) = (x, u) → (x = none ∨ r = .uncorrectable) →
        exec (.localBlockLanded t i bi bj r) s = .next (u.blockError t.val die).turnsReady))) ∧
  (∀ (s : State) (t : TurnSlot), s.live = true →
    (budgetOk t s = false → exec (.turnBudgetExpiry t) s = .next s) ∧
    (∀ j, budgetOk t s = true → s.turn t.val = some j → ∃ u, exec (.turnBudgetExpiry t) s = .next u ∧
      u.turn t.val = some { j with reported := true } ∧ (∀ i, i ≠ t.val → u.turn i = s.turn i) ∧
      (s.resetting (swbPage 0) = false → (u.reg (pageBase (swbPage 0) + 0x10)).getLsbD 0 = true) ∧
      (∃ e, e.event = .overBudget ∧ u.mp = s.mp.take e) ∧ s.Only [.turns, .regs, .out, .msix, .mp] u)) ∧
  (∀ (s : State) (t : TurnSlot), Serves s .pf = true →
    (s.turn t.val = none → exec (.turnResolveClean t) s = .next s ∧ exec (.turnResolveAbort t) s = .next s) ∧
    (∀ j, s.turn t.val = some j →
      (j.state = .inDoubt → exec (.turnResolveClean t) s = .next (s.turnPublish t.val j) ∧
        exec (.turnResolveAbort t) s = .next (s.turnAbandon t.val j)) ∧
      (j.state = .failed → exec (.turnResolveAbort t) s = .next (s.turnAbandon t.val j)) ∧
      (j.state ≠ .inDoubt → exec (.turnResolveClean t) s = .next s) ∧
      (j.state ≠ .inDoubt → j.state ≠ .failed → exec (.turnResolveAbort t) s = .next s))) ∧
  (∀ (s : State) (t : TurnSlot) (j : TurnJob) (att retry : Nat), s.turn t.val = some j →
    s.outcome (.turn t) .clean att retry = s.turnPublish t.val j ∧
    s.outcome (.turn t) .finalFault att retry = s.turnAbandon t.val j ∧
    (s.outcome (.turn t) .fault att retry).turn t.val =
      some { j with state := .retryWait, close := { j.close with retryBeat := retry } } ∧
    (∃ u : State, s.turnPublish t.val j = ((u.turnStatus j 0).signal j.part.val j.signal).setTurn t.val none ∧
      u = s.makeCurrent j.part.val j.set j.record) ∧
    (s.turnPublish t.val j).turn t.val = none ∧ (s.turnAbandon t.val j).turn t.val = none ∧
    (s.resetting (swbPage 0) = false → ((s.turnAbandon t.val j).reg (pageBase (swbPage 0) + 0x10)).getLsbD 2 = true) ∧
    (∀ i, i ≠ t.val → (s.turnPublish t.val j).turn i = s.turn i ∧ (s.turnAbandon t.val j).turn i = s.turn i))

/-- R390, R391, R392, R394, R397, R398 and R400. What STEP_USED reads as after a SET_STEP is open (a free value). -/
def Obligations.UpdatesAreLearned : Prop :=
  (∀ (s : State) (n : PartId) (v : BitVec 32), Serves s (.vf n) = true →
    let b := partBase n.val
    (((s.part n.val).mode = .free ∨ s.ringSlots (b + 0x4008) ≤ v.toNat % 4096) → exec (.uqDoorbell n v) s = .next s) ∧
    ((s.part n.val).mode ≠ .free → v.toNat % 4096 < s.ringSlots (b + 0x4008) →
      ∃ t, exec (.uqDoorbell n v) s = .next t ∧ t.regF (b + 0x400C) 11 0 = v.toNat % 4096 ∧ s.RegsBut [b + 0x400C] t ∧ s.Only [.regs] t) ∧
    ((s.part n.val).mode = .free → exec (.uqResume n) s = .next s) ∧
    ((s.part n.val).mode ≠ .free → ∃ t, exec (.uqResume n) s = .next t ∧ t.regF (b + 0x4018) 0 0 = 0 ∧
      t.regF (b + 0x4018) 31 1 = s.regF (b + 0x4018) 31 1 ∧ s.RegsBut [b + 0x4018] t ∧ s.Only [.regs] t)) ∧
  (∀ (s : State) (n : PartId), s.live = true →
    let a := uqSlot s n.val
    let o := s.peek n.val a 64
    let k := uqStepAddr n.val (uopSlot o)
    ((uqReady s n.val = false ∨ uopCode o ≠ 2) → exec (.setStep n) s = .next s) ∧
    (uqReady s n.val = true → uopCode o = 2 → ∃ (u : State) (p : StepOp), exec (.setStep n) s = .next (u.uqFinish n.val p) ∧
      p.addr = a ∧ p.slot = o ∧ p.flags = 0#4 ∧ p.ueBlocks = 0 ∧ s.Only [.free, .regs] u ∧ s.RegsBut [k] u ∧
      (anySet o uopResv = false → p.status = 0 ∧ u.reg k = BitVec.ofNat 32 (w32At o 4)) ∧
      (anySet o uopResv = true → p.status = 1 ∧ u.reg k = s.reg k))) ∧
  (∀ (s : State) (n : PartId) (ue : List Nat), s.live = true →
    let a := uqSlot s n.val
    let o := s.peek n.val a 64
    let used := ((s.reg (uqStepAddr n.val (uopSlot o))).toNat + 1) % 2 ^ 32
    let s1 := s.setRegF (partBase n.val + 0x4018) 1 1 1
    (stepOk n s = false → exec (.fuuStep n ue) s = .next s) ∧
    (stepOk n s = true → ∃ (t : State) (p : StepOp), exec (.fuuStep n ue) s = .next t ∧ (t.part n.val).step = some p ∧ p.addr = a ∧ p.slot = o ∧
      p.used = used ∧ (∀ m, m ≠ n.val → t.part m = s.part m) ∧ t.regF (partBase n.val + 0x4018) 1 1 = 1 ∧
      (badStep o = true → p.status = 1) ∧
      (∀ st f u, s1.stepChecks n.val o ue = (.error (st, f), u) → p.status = st ∧ p.flags = f ∧ p.ueBlocks = 0 ∧ t.mem = s.mem) ∧
      (∀ c g segs u, s1.stepChecks n.val o ue = (.ok (c, g, segs), u) →
        (p.ueBlocks = 0 → p.status = 0) ∧ (p.ueBlocks ≠ 0 → p.status = 4)))) ∧
  (∀ (s : State) (c : StepCtx) (e : List Byte) (st j : Nat) (r : StepRun), c.bad.contains r.block = true →
    let q := s.stepBlock c e st j r
    q.1 = { r with ue := r.ue + 1, block := r.block + 1 } ∧ q.2.mem = s.mem ∧ q.2.parts = s.parts) ∧
  (∀ (s : State) (n : PartId), s.live = true →
    (((s.part n.val).step = none ∨ s.holding = true) → exec (.stepEnd n) s = .next s) ∧
    (∀ p, (s.part n.val).step = some p → s.holding = false →
      let k := uqStepAddr n.val (uopSlot p.slot)
      ∃ u : State, exec (.stepEnd n) s = .next (u.uqFinish n.val p) ∧ (u.part n.val).step = none ∧
        (∀ m, m ≠ n.val → u.part m = s.part m) ∧ u.regF (partBase n.val + 0x4018) 1 1 = 0 ∧
        ((p.status = 0 ∨ p.status = 4) → u.reg k = BitVec.ofNat 32 p.used) ∧
        (p.status ≠ 0 → p.status ≠ 4 → u.reg k = s.reg k) ∧ s.Only [.regs, .parts] u)) ∧
  (∀ (s : State) (n : PartId) (p : StepOp),
    let b := partBase n.val
    let sig := bitsOf (w32At p.slot 0x1C) 11 0
    let t := s.uqFinish n.val p
    t.regF (b + 0x4010) 11 0 = (s.regF (b + 0x4010) 11 0 + 1) % s.ringSlots (b + 0x4008) % 4096 ∧
      (∀ k, k < 16 → t.reg (uqStepAddr n.val k) = s.reg (uqStepAddr n.val k)) ∧
      (p.status = 0 → sig ≠ 0 → t.token n.val sig = (s.token n.val sig + 1) % 2 ^ 20) ∧
      (p.status = 0 → t.reg (b + 0x4018) = s.reg (b + 0x4018)) ∧
      (p.status ≠ 0 → t.regF (b + 0x4018) 0 0 = 1 ∧ t.regF (b + 0x4018) 7 4 = p.status % 16 ∧
        ∀ k, k < 4096 → t.token n.val k = s.token n.val k)) ∧
  (∀ (h : Hyper) (x : Word),
    (clipFactor false h x).1 = some (opFmul 0x3F800000#32 h.gscale).w ∧
    (((clipFactor true h x).1 = none) ↔
      fval x = .nan ∨ (∃ b, fval x = .inf b) ∨ Val.lt (fval x) (.fin false 0 0) = true) ∧
    (∀ b m e, fval x = .fin b m e → Val.lt (fval x) (.fin false 0 0) = false → fval h.maxNorm ≠ .nan →
      let norm := (LaneRes.fp (Val.sqrt (fval x))).w
      (Val.lt (fval h.maxNorm) (fval norm) = false → (clipFactor true h x).1 = some (opFmul 0x3F800000#32 h.gscale).w) ∧
      (Val.lt (fval h.maxNorm) (fval norm) = true →
        (clipFactor true h x).1 = some (opFmul (opFdiv h.maxNorm norm).w h.gscale).w))) ∧
  (∀ (m k : Nat) (g : Int), 0 < m → (k = 127 ∨ k = 1) →
    ∃ e : Int, scaleExp2 (.fin false m g) k = min (max e (-133)) 127 ∧
      Val.lt (.fin false k e) (.fin false m g) = false ∧ Val.lt (.fin false k (e - 1)) (.fin false m g) = true) ∧
  (∀ ms : List Word, (storeFirst ms).2.1.length = ms.length ∧ (∀ q ∈ (storeFirst ms).2.1, q < 256) ∧
    ((∀ w ∈ ms, (fval w).isZero = true) → storeFirst ms = (0, ms.map fun _ => 0, Gather.none)) ∧
    (storeSecond ms).2.1.length = ms.length ∧ (∀ q ∈ (storeSecond ms).2.1, q < 256))

/-- R407, R409 to R412, R415, R417, R419, R424 to R426, R429, R430, R433 to R436. -/
def Obligations.RequestsAreServed : Prop :=
  (∀ (s : State) (n : PartId) (v : BitVec 32), Serves s (.vf n) = true →
    let b := partBase n.val
    (((s.part n.val).mode = .free ∨ s.ringSlots (b + 0x5008) ≤ v.toNat % 4096) → exec (.rqDoorbell n v) s = .next s) ∧
    ((s.part n.val).mode ≠ .free → v.toNat % 4096 < s.ringSlots (b + 0x5008) →
      ∃ t, exec (.rqDoorbell n v) s = .next t ∧ t.regF (b + 0x500C) 11 0 = v.toNat % 4096 ∧ s.RegsBut [b + 0x500C] t ∧ s.Only [.regs] t)) ∧
  (∀ (s : State) (n : PartId) (c : Instr) (op : Nat) (f : List Byte → State → (RqEnd ⊕ RqCopy) × State), s.live = true →
    (c, op, f) ∈ [(Instr.reqOpen n, 1, openOp n.val), (.grow n, 2, growOp n.val), (.commit n, 3, commitOp n.val),
      (.retire n, 4, retireOp n.val), (.prefixDrop n, 5, prefixDropOp n.val), (.recount n, 6, recountOp n.val)] →
    let a := rqSlot s n.val
    let o := s.peek n.val a 32
    let u := s.markLost n.val
    let sig := bitsOf (w32At o 0x14) 11 0
    (rqOk n op s = false → exec c s = .next s) ∧
    (rqOk n op s = true → rqBad u n.val o = true →
      exec c s = .next ((u.rqAdvance n.val).rqFinish n.val a sig ⟨1, if rqCode o = 1 then some 0 else none⟩)) ∧
    (rqOk n op s = true → rqBad u n.val o = false →
      (∀ r w, f o u = (.inl r, w) → exec c s = .next ((w.rqAdvance n.val).rqFinish n.val a sig r)) ∧
      (∀ cp w, f o u = (.inr cp, w) → ∃ t, exec c s = .next t ∧ (t.part n.val).rqCopy = some cp ∧ t.mem = w.mem ∧
        t.regF (partBase n.val + 0x5010) 11 0 =
          (w.regF (partBase n.val + 0x5010) 11 0 + 1) % w.ringSlots (partBase n.val + 0x5008) % 4096))) ∧
  (∀ (s : State) (n : PartId) (a sig : Nat) (r : RqEnd), sig < 4096 →
    let t := (s.rqAdvance n.val).rqFinish n.val a sig r
    t.regF (partBase n.val + 0x5010) 11 0 =
        (s.regF (partBase n.val + 0x5010) 11 0 + 1) % s.ringSlots (partBase n.val + 0x5008) % 4096 ∧
      (sig ≠ 0 → t.token n.val sig = (s.token n.val sig + 1) % 2 ^ 20) ∧
      (∀ x, r.result = some x → let w := s.poke32 n.val (a + 0x1C) x
        t.mem = (w.poke32 n.val (a + 0x18) (putBits (w.peek32 n.val (a + 0x18)) 3 0 r.status)).mem)) ∧
  (∀ (s : State) (n : PartId) (o : List Byte),
    let a := recAddr s n.val (rqIdx o)
    let st := recState s n.val a
    (∀ r t, openOp n.val o s = (.inl r, t) → r.status ≠ 0 → t = s ∧ r.result = some 0) ∧
    (s.pdaOk n.val a 128 true = true → st ≠ 0 → openOp n.val o s = (.inl ⟨2, some 0⟩, s)) ∧
    (∀ r t, growOp n.val o s = (.inl r, t) → r.status ≠ 0 → t = s) ∧
    (s.pdaOk n.val a 128 true = true → st ≠ 1 → st ≠ 2 → growOp n.val o s = (.inl ⟨2, none⟩, s)) ∧
    (s.pdaOk n.val a 128 true = true → (st = 1 ∨ st = 2) →
      s.peek32 n.val (a + 0x0C) < s.peek32 n.val (a + 0x48) + rqArg o % 2 ^ 32 → growOp n.val o s = (.inl ⟨4, none⟩, s)) ∧
    (s.pdaOk n.val a 128 true = true → st = 0 → retireOp n.val o s = (.inl ⟨2, none⟩, s)) ∧
    (s.pdaOk n.val a 128 true = true → st ≠ 0 → bitOf (w32At o 0) 4 = false →
      retireOp n.val o s = (.inl ⟨0, none⟩, s.retireRecord n.val a)) ∧
    (s.pdaOk n.val a 128 true = false → openOp n.val o s = (.inl ⟨5, some 0⟩, s) ∧ growOp n.val o s = (.inl ⟨5, none⟩, s) ∧
      retireOp n.val o s = (.inl ⟨5, none⟩, s) ∧ recountOp n.val o s = (.inl ⟨5, none⟩, s)) ∧
    (∀ r t, prefixDropOp n.val o s = (.inl r, t) →
      (r.status = 6 ↔ ∃ e ∈ prefixes s n.val, prefixIn s n.val e = true ∧ s.peek64 n.val e = rqArg o ∧ entRefs s n.val e ≠ 0) ∧
      (r.status = 6 → t = s) ∧ (r.status ≠ 6 → r.status = 0)) ∧
    (∀ r t, recountOp n.val o s = (.inl r, t) → r.status ≠ 0 → t = s) ∧
    (s.pdaOk n.val a 128 true = true → (bitOf (s.peek32 n.val (a + 4)) 5 = false ∨ st = 0) →
      recountOp n.val o s = (.inl ⟨2, none⟩, s))) ∧
  (∀ (s : State) (n a : Nat) (miss : List (Nat × Nat)) (used : List Nat) (ws : List (Nat × Nat)),
    (∀ g ∈ s.usable n, g < 128) → takePages s n a miss used = some ws →
    ws.map (·.1) = miss.map (fun p => mapAddr s n a p.1 p.2) ∧ (ws.map (·.2)).Nodup ∧ ∀ w ∈ ws, w.2 ∉ used ∧ noPage w.2 = false) ∧
  (∀ (s : State) (n : Nat) (es : List (List Byte)),
    let r := (s.commitAll n es (0, 0)).1
    r.1 ≤ es.length ∧ (r.1 = 0 ↔ r.2 = 0)) ∧
  (∀ (s : State) (n : PartId) (e : List Byte) (tr : Trans),
    let a := recAddr s n.val (bitsOf (w32At e 0) 15 0)
    let d := 2 ^ 21 * tr.dpa + a % 2 ^ 21
    a < 2 ^ 48 → a % 2 ^ 21 + 128 ≤ 2 ^ 21 → (s.part n.val).tlb.find? (·.page == a / 2 ^ 21) = some tr → tr.write = true →
    s.mayWrite n.val tr.dpa = true → (∀ i, i < 128 → s.blockBad (d + i) = false) →
    (∀ st, dpaStack d = some st → (s.floor st).failed = false) →
    bitsOf (w32At e 0) 23 20 = 0 → bitsOf (s.peek32 n.val (a + 8)) 31 16 = 0 →
    let t := s.commitEntry n.val e
    let w := w32At e 0
    let due := s.peek64 n.val (a + 0x10)
    let late := due ≠ 0 ∧ due < s.beatNum
    t.peek32 n.val (a + 0x48) = (s.peek32 n.val (a + 0x48) + w32At e 4) % 2 ^ 32 ∧
      t.peek32 n.val (a + 0x34) = s.peek32 n.val (a + 0x34) ∧
      (bitOf (t.peek32 n.val (a + 4)) 3 = true ↔ late ∨ bitOf (s.peek32 n.val (a + 4)) 3 = true) ∧
      (bitOf w 16 = true → recState t n.val a = 3) ∧
      (bitOf w 16 = false → late → bitOf (s.peek32 n.val (a + 8)) 5 = false → recState t n.val a = 4) ∧
      (bitOf w 16 = false → (¬ late ∨ bitOf (s.peek32 n.val (a + 8)) 5 = true) →
        recState t n.val a = if bitOf w 17 = true ∧ recState s n.val a = 1 then 2 else recState s n.val a) ∧
      s.BytesBut d 128 t) ∧
  (∀ (s : State) (n : Nat) (cands : List Nat),
    (cands ≠ [] → (evictee s n cands).isSome = true) ∧
    (∀ x, evictee s n cands = some x → x ∈ cands ∧ ∀ y ∈ cands, useCount s n x < useCount s n y ∨
      (useCount s n x = useCount s n y ∧ s.peek64 n (x + 0x20) ≤ s.peek64 n (y + 0x20)))) ∧
  (∀ (s : State) (n : PartId), s.live = true →
    ((s.part n.val).rqCopy = none ∨ s.holding = true → exec (.adapterCopyLanded n) s = .next s ∧ exec (.prefixSaveLanded n) s = .next s) ∧
    (∀ c, (s.part n.val).rqCopy = some c → s.holding = false →
      (c.save = true → exec (.adapterCopyLanded n) s = .next s ∧
        ∃ u : State, exec (.prefixSaveLanded n) s = .next (u.rqFinish n.val c.addr c.signal ⟨c.status, none⟩) ∧
          (u.part n.val).rqCopy = none ∧ u.mem = (prefixLands n.val c s).mem) ∧
      (c.save = false → exec (.prefixSaveLanded n) s = .next s ∧
        ∃ u : State, exec (.adapterCopyLanded n) s = .next (u.rqFinish n.val c.addr c.signal ⟨c.status, some c.result⟩) ∧
          (u.part n.val).rqCopy = none ∧
          u.mem = (s.poke n.val (c.dst.headD 0) (s.peek n.val (c.src.headD 0) c.bytes)).mem))) ∧
  (∀ (s : State) (n : PartId), Serves s (.vf n) = true → s.Canonical →
    let b := partBase n.val
    (((s.part n.val).mode = .free ∨ s.regBit (b + 0x5080) 0 = true) → exec (.rcEnable n) s = .next s) ∧
    ((s.part n.val).mode ≠ .free → s.regBit (b + 0x5080) 0 = false →
      let gs := s.usable n.val
      let p := min (max (s.regF (b + 0x5084) 27 20) (s.regF (b + 0x5084) 6 0)) (gs.length - s.regF (b + 0x5084) 14 8)
      ∃ t, exec (.rcEnable n) s = .next t ∧ t.regBit (b + 0x5080) 0 = true ∧ (t.part n.val).rc = Rc.reset ∧
        (∀ i g, gs[i]? = some g → t.vale g = { s.vale g with set := if i < p then 1 else 2 }) ∧
        (∀ g, g ∉ gs → t.vale g = s.vale g) ∧ (∀ m, m ≠ n.val → t.part m = s.part m) ∧ s.RegsBut [b + 0x5080] t)) ∧
  (∀ (s : State) (n : PartId), s.live = true →
    let b := partBase n.val
    let r := (s.part n.val).rc
    let q := (s.requestsIn n.val 1).length
    let sl := rcSlack s n.val
    let pre := setVales s n.val 1
    let dec := setVales s n.val 2
    let up := s.regF (b + 0x5088) 30 16 ≤ q ∧ (s.regF (b + 0x508C) 31 16 : Int) ≤ sl ∧ s.regF (b + 0x5084) 14 8 < dec.length
    let down := (sl < (s.regF (b + 0x508C) 15 0 : Int) ∨ q ≤ s.regF (b + 0x5088) 14 0) ∧ s.regF (b + 0x5084) 6 0 < pre.length
    (rcEvaluateOk n s = false → exec (.rcEvaluate n) s = .next s) ∧
    (rcEvaluateOk n s = true → ∃ t, exec (.rcEvaluate n) s = .next t ∧ (∀ m, m ≠ n.val → t.part m = s.part m) ∧ s.Only [.parts] t ∧
      (t.part n.val).rc.last = some s.beatNum ∧ (t.part n.val).rc.due = r.due ∧
      (r.pending ≠ none → (t.part n.val).rc.pending = r.pending ∧ (t.part n.val).rc.hold = r.hold) ∧
      (r.pending = none → 0 < r.hold → (t.part n.val).rc.pending = none ∧ (t.part n.val).rc.hold = r.hold - 1) ∧
      (r.pending = none → r.hold = 0 → up → ∃ g, dec.head? = some g ∧ (t.part n.val).rc.pending = some { toPrefill := true, vale := g }) ∧
      (r.pending = none → r.hold = 0 → ¬ up → down →
        ∃ g, pre.getLast? = some g ∧ (t.part n.val).rc.pending = some { toPrefill := false, vale := g }) ∧
      (r.pending = none → r.hold = 0 → ¬ up → ¬ down → (t.part n.val).rc.pending = none ∧ (t.part n.val).rc.hold = 0)) ∧
    (((r.pending = none) ∨ r.due = false) → exec (.rcMoveApply n) s = .next s) ∧
    (∀ m, r.pending = some m → r.due = true → ∃ t, exec (.rcMoveApply n) s = .next t ∧
      t.vale m.vale = { s.vale m.vale with set := if m.toPrefill then 1 else 2 } ∧ (∀ g, g ≠ m.vale → t.vale g = s.vale g) ∧
      (t.part n.val).rc = { r with pending := none, due := false, hold := s.regF (b + 0x5084) 19 16 } ∧
      (∀ k, k ≠ n.val → t.part k = s.part k) ∧
      (s.counting (.part n) = true → t.reg (pageBase (.part n) + 0x5094) = satInc (s.reg (pageBase (.part n) + 0x5094)) 1) ∧
      (∃ e, e.event = .rcMove ∧ t.mp = s.mp.take e) ∧ s.Only [.regs, .vales, .parts, .mp] t))

/-- R442, R443, R444, R448, R454, R455, R495 and R496. -/
def Obligations.MemoryIsGranted : Prop :=
  (∀ (s : State) (n : PartId) (a : Nat) (w : Bool) (d : Nat) (tr : Trans), s.walk n.val a w = .ok d tr →
    d = 2 ^ 21 * tr.dpa + a % 2 ^ 21 ∧ tr.page = a / 2 ^ 21 ∧
      (w = true → (s.grant tr.dpa).writer = some n ∧ tr.write = true) ∧
      (w = false → (s.grant tr.dpa).writer = some n ∨ bitOf (s.grant tr.dpa).readers n.val = true)) ∧
  (∀ (s : State) (n : PartId) (k : BitVec 16) (c : Instr) (w : Bool), Serves s .pf = true →
    (c, w) ∈ [(Instr.grantWrite n k, true), (.grantRead n k, false)] →
    let first := s.regF 0x11040 20 0
    let inRun := fun p => first ≤ p ∧ p ≤ first + k.toNat
    let bad := fun p => pageGrantable p = false ∨ grantConflict s n.val w p = true
    (s.grantOp.isSome = true → exec c s = .next s) ∧
    (s.grantOp = none → ∃ t, exec c s = .next t ∧ t.grantOp = none ∧ s.RegsBut [0x11048, pageBase .mem + 0x10] t ∧
      s.Only [.grants, .regs, .out, .msix] t ∧ (s.resetting .mem = false → (t.reg (pageBase .mem + 0x10)).getLsbD 0 = true) ∧
      ((∀ p, inRun p → ¬ bad p) → t.regF 0x11048 3 0 = 0 ∧
        (∀ p, inRun p → (t.grant p).writer = (if w then some n else (s.grant p).writer) ∧
          ∀ m, m < 16 → bitOf (t.grant p).readers m = (bitOf (s.grant p).readers m || m == n.val)) ∧
        (∀ p, ¬ inRun p → t.grant p = s.grant p)) ∧
      (∀ p, inRun p → bad p → (∀ q, inRun q → q < p → ¬ bad q) → t.grants = s.grants ∧
        t.regF 0x11048 3 0 = if pageGrantable p then 2 else 1))) ∧
  (∀ (s : State) (n : PartId) (k : BitVec 16), Serves s .pf = true →
    let first := s.regF 0x11040 20 0
    let inRun := fun p => first ≤ p ∧ p ≤ first + k.toNat
    (s.grantOp.isSome = true → exec (.withdraw n k) s = .next s) ∧
    (s.grantOp = none → ∃ t, exec (.withdraw n k) s = .next t ∧ t.grants = s.grants ∧ s.Only [.grantOp, .regs, .out, .msix] t ∧
      ((∀ p, inRun p → pageGrantable p = true) →
        t.grantOp = some { withdraw := true, first := first, count := k.toNat + 1, part := n } ∧ t.regs = s.regs) ∧
      ((∃ p, inRun p ∧ pageGrantable p = false) → t.grantOp = none ∧ t.regF 0x11048 3 0 = 1))) ∧
  (∀ (s : State), s.live = true →
    ((s.grantOp = none ∨ s.holding = true) → exec .withdrawEnd s = .next s) ∧
    (∀ o, s.grantOp = some o → s.holding = false → ∃ t, exec .withdrawEnd s = .next t ∧ t.grantOp = none ∧ t.regF 0x11048 3 0 = 0 ∧
      (∀ p, o.first ≤ p → p < o.first + o.count → (t.grant p).writer ≠ some o.part ∧
        ((s.grant p).writer ≠ some o.part → (t.grant p).writer = (s.grant p).writer) ∧
        ∀ m, m < 16 → bitOf (t.grant p).readers m = (bitOf (s.grant p).readers m && m != o.part.val)) ∧
      (∀ p, p < o.first ∨ o.first + o.count ≤ p → t.grant p = s.grant p))) ∧
  (∀ (s : State) (n : PartId) (hi : BitVec 32), Serves s (.vf n) = true →
    let q := s.part n.val
    let page := 2048 * (hi.toNat % 2 ^ 16) + s.regF (partBase n.val + 0x6010) 31 21
    ((q.mode = .free ∨ q.tlbInv.isSome = true ∨ hi.getLsbD 31 = false) → exec (.tlbInv n hi) s = .next s) ∧
    (q.mode ≠ .free → q.tlbInv = none → hi.getLsbD 31 = true → ∃ t, exec (.tlbInv n hi) s = .next t ∧
      (t.part n.val).tlbInv.isSome = true ∧ (∀ m, m ≠ n.val → t.part m = s.part m) ∧ s.Only [.parts] t ∧
      (hi.getLsbD 30 = true → (t.part n.val).tlb = []) ∧
      (hi.getLsbD 30 = false → (t.part n.val).tlb = q.tlb.filter fun x => x.page != page))) ∧
  (∀ (s : State) (n : PartId), s.live = true →
    (s.holding = true → exec (.tlbInvEnd n) s = .next s) ∧
    (s.holding = false → ∃ t, exec (.tlbInvEnd n) s = .next t ∧ t.part n.val = { s.part n.val with tlbInv := none } ∧
      (∀ m, m ≠ n.val → t.part m = s.part m) ∧ s.Only [.parts] t)) ∧
  (∀ (s : State) (st : Stack) (r : MemRead), s.live = true →
    let b := pageBase (.floor st)
    let blk := s.regF (b + 0x44) 29 0
    let a := 2 ^ 36 * st.val + 64 * blk
    (s.regBit (b + 0x40) 8 = false → exec (.scrubStep st r) s = .next s) ∧
    (s.regBit (b + 0x40) 8 = true → ∃ t, exec (.scrubStep st r) s = .next t ∧ t.mem = s.mem ∧
      t.regF (b + 0x44) 29 0 = (blk + 1) % 2 ^ 30 ∧
      (blk + 1 < 2 ^ 30 → t.reg (b + 0x48) = s.reg (b + 0x48)) ∧
      (blk + 1 = 2 ^ 30 → (t.floor st.val).corrected = [] ∧
        (s.counting (.floor st) = true → t.reg (b + 0x48) = satInc (s.reg (b + 0x48)) 1)) ∧
      (r = .clean → s.blockBad a = false → t.bad = s.bad ∧ t.mp = s.mp ∧ t.health = s.health) ∧
      (r = .corrected → s.blockBad a = false → t.bad = s.bad ∧
        (s.counting (.floor st) = true → t.reg (b + 0x4C) = satInc (s.reg (b + 0x4C)) 1)) ∧
      ((r = .uncorrectable ∨ s.blockBad a = true) → (s.floor st.val).failed = false → t.blockBad a = true ∧
        t.regF (b + 0x58) 31 31 = 1 ∧ (s.counting (.floor st) = true → t.reg (b + 0x50) = satInc (s.reg (b + 0x50)) 1)))) ∧
  (∀ (s : State) (st : Stack) (k : Nat), s.live = true →
    let b := pageBase (.floor st)
    (k ≤ s.regF (b + 0x60) 23 0 → exec (.targetedRefresh st k) s = .next s) ∧
    (s.regF (b + 0x60) 23 0 < k → ∃ t, exec (.targetedRefresh st k) s = .next t ∧
      (s.counting (.floor st) = true → t.reg (b + 0x68) = satInc (s.reg (b + 0x68)) 1) ∧ s.RegsBut [b + 0x68] t ∧ s.Only [.regs] t)) ∧
  (∀ (s : State) (ofs n : Nat) (bs : List Byte), Serves s .pf = true →
    let d := s.reg64 0x100 + ofs
    (2 ^ 36 < ofs + n → exec (.bar2Access ofs (.read n)) s = .next s) ∧
    (2 ^ 36 < ofs + bs.length → exec (.bar2Access ofs (.write bs)) s = .next s) ∧
    (ofs + n ≤ 2 ^ 36 → (∀ i, i < n → dpaGrantable (d + i) = true → s.blockBad (d + i) = false) →
      ∃ t, exec (.bar2Access ofs (.read n)) s = .next t ∧ s.Only [.out] t ∧
        t.out = s.out ++ [.bar2Data ((List.range n).map fun i => if dpaGrantable (d + i) then s.byte (d + i) else 0#8) false]) ∧
    (ofs + n ≤ 2 ^ 36 → (∃ i, i < n ∧ dpaGrantable (d + i) = true ∧ s.blockBad (d + i) = true) →
      ∃ t data, exec (.bar2Access ofs (.read n)) s = .next t ∧ t.mem = s.mem ∧ .bar2Data data true ∈ t.out ∧ data.length = n) ∧
    (ofs + bs.length ≤ 2 ^ 36 → ∃ t, exec (.bar2Access ofs (.write bs)) s = .next t ∧ s.BytesBut d bs.length t ∧
      (∀ i, i < bs.length → dpaGrantable (d + i) = false → t.byte (d + i) = s.byte (d + i)) ∧
      (∀ i, i < bs.length → dpaGrantable (d + i) = true → s.blockBad (d + i) = false →
        (∀ st, dpaStack (d + i) = some st → (s.floor st).failed = false) → t.byte (d + i) = bs.getD i 0#8)))

/-- R457, R458, R459, R460 and R461. -/
def Obligations.ModelsAreResident : Prop :=
  (∀ (s : State) (n : PartId) (i : Fin 1024) (sig : Fin 4096) (c : Instr) (op : Nat) (f : Nat → State → Option Nat × State),
    Serves s (.vf n) = true →
    (c, op, f) ∈ [(Instr.load n i sig, 1, loadOp n.val i.val sig.val), (.evict n i sig, 2, evictOp n.val),
      (.resHold n i sig, 3, holdOp n.val), (.resRelease n i sig, 4, releaseOp n.val)] →
    let q := s.part n.val
    let a := resAddr s n.val i.val
    ((q.mode = .free ∨ q.res.isSome = true) → exec c s = .next s) ∧
    (q.mode ≠ .free → q.res = none → s.holding = true → ∃ t, exec c s = .next t ∧
      t.part n.val = { q with res := some { entry := i.val, signal := sig.val } } ∧
      t.terrace = { s.terrace with deferred := s.terrace.deferred ++ [.residency n op i.val sig.val] } ∧ s.Only [.parts, .terrace] t) ∧
    (q.mode ≠ .free → q.res = none → s.holding = false →
      (resCount s n.val ≤ i.val → exec c s = .next (s.resEnd n.val 1 sig.val)) ∧
      (i.val < resCount s n.val → s.pdaOk n.val a 128 true = false → exec c s = .next (s.resEnd n.val 5 sig.val)) ∧
      (i.val < resCount s n.val → s.pdaOk n.val a 128 true = true → resBad s n.val i.val = true →
        exec c s = .next (s.resEnd n.val 1 sig.val)) ∧
      (i.val < resCount s n.val → s.pdaOk n.val a 128 true = true → resBad s n.val i.val = false →
        (∀ st u, f a s = (some st, u) → exec c s = .next (u.resEnd n.val st sig.val)) ∧
        (∀ u, f a s = (none, u) → exec c s = .next u ∧
          ∃ o, (u.part n.val).res = some o ∧ o.entry = i.val ∧ o.signal = sig.val)))) ∧
  (∀ (s : State) (n : PartId) (st sig : Nat), sig < 4096 →
    let t := s.resEnd n.val st sig
    (t.part n.val).res = none ∧ t.regF (partBase n.val + 0x603C) 3 0 = st % 16 ∧ t.mem = s.mem ∧
      (sig ≠ 0 → t.token n.val sig = (s.token n.val sig + 1) % 2 ^ 20) ∧ (∀ m, m ≠ n.val → t.part m = s.part m)) ∧
  (∀ (s : State) (n : PartId) (i sig a : Nat),
    let refs := entRefs s n.val (a + 0x40)
    (resIn s n.val a = false → holdOp n.val a s = (some 2, s) ∧ releaseOp n.val a s = (some 2, s) ∧ evictOp n.val a s = (some 2, s)) ∧
    (resIn s n.val a = true → holdOp n.val a s = (some 0, (s.setEntRefs n.val (a + 0x40) (refs + 1)).useEntry n.val (a + 0x40)) ∧
      (refs = 0 → releaseOp n.val a s = (some 2, s) ∧ evictOp n.val a s = (some 0, s.setResBit n.val a 31 false)) ∧
      (refs ≠ 0 → releaseOp n.val a s = (some 0, s.setEntRefs n.val (a + 0x40) (refs - 1)) ∧ evictOp n.val a s = (some 4, s))) ∧
    ((resIn s n.val a = true ∨ resLoading s n.val a = true) → loadOp n.val i sig a s = (some 2, s)) ∧
    (resIn s n.val a = false → resLoading s n.val a = false →
      (∀ u, s.loadLayouts n.val a = (none, u) → loadOp n.val i sig a s = (some 5, u)) ∧
      (∀ src dst u, s.loadLayouts n.val a = (some (src, dst), u) →
        (loadLayoutsOk (bitsOf (u.peek32 n.val a) 28 16) src dst = false → loadOp n.val i sig a s = (some 1, u)) ∧
        (loadLayoutsOk (bitsOf (u.peek32 n.val a) 28 16) src dst = true →
          let room := u.resRoom n.val (u.peek32 n.val (a + 4)) (resCount u n.val + 1)
          (room.1 = none → loadOp n.val i sig a s = (some 3, room.2)) ∧
          (∀ r, room.1 = some r → (loadOp n.val i sig a s).1 = none ∧
            ((loadOp n.val i sig a s).2.part n.val).res = some { entry := i, signal := sig } ∧
            (loadOp n.val i sig a s).2.mem = ((room.2.setResBit n.val a 30 true).poke64 n.val (a + 0x28)
              (room.2.reg64 (partBase n.val + 0x602C) + 2 ^ 21 * r)).mem))))) ∧
  (∀ (s : State) (n count i : Nat), poolRun s n count = some i →
    i + count ≤ s.regF (partBase n + 0x6034) 26 0 ∧
      (∀ u ∈ resRuns s n, u.2 = 0 ∨ i + count ≤ u.1 ∨ u.1 + u.2 ≤ i) ∧
      (∀ k, k < i → ∃ u ∈ resRuns s n, u.2 ≠ 0 ∧ u.1 < k + count ∧ k < u.1 + u.2)) ∧
  (∀ (s : State) (n : PartId) (src : LoadSource), s.live = true →
    ((s.part n.val).res = none → exec (.loadEnd n src) s = .next s) ∧
    (∀ o, (s.part n.val).res = some o →
      let a := resAddr s n.val o.entry
      let base := s.peek64 n.val (a + 8)
      ((s.holding = true ∨ loadSourceOk base src = false) → exec (.loadEnd n src) s = .next s) ∧
      (s.holding = false → loadSourceOk base src = true →
        (∀ u, s.loadLayouts n.val a = (none, u) →
          exec (.loadEnd n src) s = .next ((u.setResBit n.val a 30 false).resEnd n.val 5 o.signal)) ∧
        (∀ sl dl u, s.loadLayouts n.val a = (some (sl, dl), u) →
          let r := u.loadBlocks n.val (base % 2 ^ 63) (u.peek64 n.val (a + 0x20)) (loadJob n u a sl dl) src
          (r.1 = .on → exec (.loadEnd n src) s = .next ((r.2.loadOk n.val a).resEnd n.val 0 o.signal)) ∧
          (∀ st, r.1 = .failed st → exec (.loadEnd n src) s = .next ((r.2.setResBit n.val a 30 false).resEnd n.val st o.signal)) ∧
          (r.1 = .waits → exec (.loadEnd n src) s = .next s))))) ∧
  (∀ (s : State) (n base list : Nat) (j : TurnJob) (src : LoadSource) (st : Nat),
    (s.loadBlocks n base list j src).1 = .failed st →
    st ∈ [5, 6, 7, 8] ∧ (st = 6 → list ≠ 0))

/-- R467 to R471, R482, R484, R485 and R586. What the words of a failed digest are is open. -/
def Obligations.HealthAndFences : Prop :=
  (∀ (s : State) (k : Nat), k < 8 →
    let a0 := if s.health.clearDue then 0 else s.health.a.getD k 0
    let w := s.reg (0x103060 + 4 * k)
    let b0 := if s.health.clearDue || s.health.last.isNone then s.regF 0x103048 15 0 * 256 else s.health.b
    (healthUpdate s).1.getD k 0 = min (a0 - a0 / 2 ^ fieldOf w 27 24 + (intervalFigure s k).2 * fieldOf w 23 0) 0xFFFFFFFF ∧
      (healthUpdate s).2 = b0 - b0 / 2 ^ s.regF 0x103048 19 16 ∧ (healthUpdate s).1.length = 8) ∧
  (∀ (s : State), s.live = true →
    (hmUpdateOk s = false → exec .hmUpdate s = .next s) ∧
    (hmUpdateOk s = true →
      let ab := healthUpdate s
      let risk := min 65535 ((ab.2 + ab.1.sum) / 256)
      let hit := s.regF 0x103050 15 0 ≤ risk ∧ s.regBit 0x103040 2 = true ∧ s.regBit 0x103044 16 = true
      ∃ t, exec .hmUpdate s = .next t ∧ t.health.a = ab.1 ∧ t.health.b = ab.2 ∧ t.health.events = [] ∧ t.health.clearDue = false ∧
        t.health.last = some s.beatNum ∧ t.regF 0x103044 15 0 = risk ∧ t.health.alert = decide (s.regF 0x10304C 15 0 ≤ risk) ∧
        (.alert ∈ t.pins ↔ s.regF 0x10304C 15 0 ≤ risk ∧ s.regBit 0x103040 1 = true) ∧
        (risk < s.regF 0x103054 15 0 → t.regBit 0x103044 16 = true) ∧
        (s.regF 0x103054 15 0 ≤ risk → hit → t.regBit 0x103044 16 = false) ∧
        (s.regF 0x103054 15 0 ≤ risk → ¬ hit → t.regBit 0x103044 16 = s.regBit 0x103044 16) ∧
        (t.terrace.riskDue = true ↔ s.terrace.riskDue = true ∨ (hit ∧ s.holding = false)) ∧
        (s.regF 0x10304C 15 0 ≤ risk → ∃ e, e.event = .alert ∧ t.mp = s.mp.take e) ∧
        s.Only [.out, .regs, .msix, .health, .terrace, .mp, .pins] t)) ∧
  (∀ (s : State), Serves s .pf = true → ∃ t, exec .hmClear s = .next t ∧ t.health = { s.health with clearDue := true } ∧ s.Only [.health] t) ∧
  (∀ (s : State) (g cause : Nat), g < 128 →
    let t := s.fenceVale g cause
    ((s.vale g).fenced = true → t = s) ∧
    ((s.vale g).fenced = false →
      t.vale g = { s.vale g with fenced := true, set := 0, lastSet := (s.vale g).set } ∧ (∀ h, h ≠ g → t.vale h = s.vale h) ∧
      (∀ n, (s.vale g).owner = some n → t.part n.val = partLosesVale g (s.part n.val) ∧ g ∈ (t.part n.val).recheck ∧
        g ∈ (t.part n.val).lostVales ∧ ∀ m, m ≠ n.val → t.part m = s.part m) ∧
      ((s.vale g).owner = none → t.parts = s.parts) ∧
      (s.resetting .health = false → (t.reg 0x103010).getLsbD 0 = true) ∧ (∃ e, e.event = .fenced ∧ t.mp = s.mp.take e) ∧
      s.Only [.out, .regs, .msix, .vales, .parts, .health, .mp] t)) ∧
  (∀ (s : State) (g : Vale) (cause : ValeCause), s.live = true →
    (s.holding = false → exec (.valeFence g cause) s = .next (s.fenceVale g.val (valeCauseCode cause))) ∧
    (s.holding = true → ∃ t, exec (.valeFence g cause) s = .next t ∧ t.vales = s.vales ∧ (∃ c, (g.val, c) ∈ t.terrace.fencesDue) ∧
      (∀ r ∈ t.terrace.regions, r.kind = causeRegion cause → r.unit = g.val → r.status ≠ .saved) ∧ s.Only [.terrace] t)) ∧
  (∀ (s : State) (p : Plain) (cause : PlainCause), s.live = true →
    let q := failedPlain p.val cause
    ∃ t, exec (.plainFence p cause) s = .next t ∧ (t.floor q).failed = true ∧ (∀ f, f ≠ q → t.floor f = s.floor f) ∧
      (∀ g, 8 * q ≤ g → g < 8 * q + 8 → (t.vale g).fenced = true) ∧ (∀ g, g < 8 * q ∨ 8 * q + 8 ≤ g → t.vale g = s.vale g) ∧
      t.mem = s.mem ∧ t.slots = s.slots) ∧
  (∀ (s : State) (pg : Page), Serves s .pf = true →
    ((fenceUnitOf pg = none ∨ s.resetting pg = true) → exec (.hostFence pg) s = .next s) ∧
    (∀ u, fenceUnitOf pg = some u → s.resetting pg = false →
      (s.holding = true → exec (.hostFence pg) s = .next (s.fenceLater u 0)) ∧
      (s.holding = false → u < 128 → exec (.hostFence pg) s = .next (s.fenceVale u 0)) ∧
      (s.holding = false → 128 ≤ u → exec (.hostFence pg) s = .next (s.fencePlain (u - 128) 0)))) ∧
  (∀ (s : State) (u cause : Nat), ∃ c, (u, c) ∈ (s.fenceLater u cause).terrace.fencesDue ∧ s.Only [.terrace] (s.fenceLater u cause)) ∧
  (∀ (s : State) (n : PartId) (sig : Fin 4096), Serves s (.vf n) = true →
    let b := partBase n.val
    let beat := s.reg64 (b + 0x7010)
    (((s.part n.val).mode = .free ∨ (s.part n.val).digest.isSome = true) → exec (.digestGo n sig) s = .next s) ∧
    ((s.part n.val).mode ≠ .free → (s.part n.val).digest = none → ∃ t, exec (.digestGo n sig) s = .next t ∧
      t.part n.val = { s.part n.val with digest := some { started := decide (beat ≤ s.beatNum), signal := sig.val, beat := beat } } ∧
      (∀ m, m ≠ n.val → t.part m = s.part m) ∧ t.regF (b + 0x701C) 4 4 = boolBit (decide (beat ≤ s.beatNum)) ∧
      s.RegsBut [b + 0x701C] t ∧ s.Only [.parts, .regs] t)) ∧
  (∀ (s : State) (n : PartId), s.live = true →
    (∀ d, (s.part n.val).digest = some d → d.started = false → d.beat ≤ s.beatNum → ∃ t, exec (.digestStart n) s = .next t ∧
      t.part n.val = { s.part n.val with digest := some { d with started := true } } ∧ (∀ m, m ≠ n.val → t.part m = s.part m) ∧
      s.Only [.parts] t) ∧
    ((∀ d, (s.part n.val).digest = some d → d.started = true ∨ s.beatNum < d.beat) → exec (.digestStart n) s = .next s)) ∧
  (∀ (s : State) (n : PartId) (r : MemRead), s.live = true →
    let b := partBase n.val
    ((∀ d, (s.part n.val).digest = some d → d.started = false) → exec (.digestEnd n r) s = .next s) ∧
    (∀ d, (s.part n.val).digest = some d → d.started = true → d.signal < 4096 →
      ∃ t, exec (.digestEnd n r) s = .next t ∧ (t.part n.val).digest = none ∧ (∀ m, m ≠ n.val → t.part m = s.part m) ∧ t.mem = s.mem ∧
        (d.signal ≠ 0 → t.token n.val d.signal = (s.token n.val d.signal + 1) % 2 ^ 20) ∧
        (r = .uncorrectable → t.regF (b + 0x701C) 3 0 ≠ 0) ∧
        (∀ bs u, r = .clean → s.readPda n.val (s.reg64 (b + 0x7000)) (s.reg64 (b + 0x7008)) = (.ok bs, u) →
          t.regF (b + 0x701C) 3 0 = 0 ∧ ∀ i, i < 4 → t.reg (b + 0x7020 + 4 * i) = (td128 bs).getD i 0#32) ∧
        (∀ u, r = .clean → s.readPda n.val (s.reg64 (b + 0x7000)) (s.reg64 (b + 0x7008)) = (.access, u) →
          t.regF (b + 0x701C) 3 0 = 1)))

/-- R471, R473, R475 to R479, R483 and R485 to R487. -/
def Obligations.TerracesHold : Prop :=
  (∀ (s : State), Serves s .pf = true →
    (s.holding = true → exec .terraceNow s = .next s ∧ exec .terraceInvalidate s = .next s ∧ exec .restore s = .next s) ∧
    (s.holding = false → (∃ t, exec .terraceNow s = .next t ∧ t.health.nowDue.isSome = true ∧
      t.health = { s.health with nowDue := t.health.nowDue } ∧ s.Only [.health] t) ∧
      (s.terrace.pushing = true → exec .terraceInvalidate s = .next s) ∧
      (s.terrace.pushing = false → ∃ t, exec .terraceInvalidate s = .next t ∧ t.terrace = { s.terrace with state := .empty } ∧
        s.Only [.terrace] t) ∧
      (s.terrace.restoring = true → exec .restore s = .next s) ∧
      (s.terrace.restoring = false →
        ((∀ n : PartId, (s.part n.val).mode = .free) → ∃ t, exec .restore s = .next t ∧
          t.terrace = { s.terrace with restoring := true } ∧ s.Only [.terrace] t) ∧
        ((∃ n : PartId, (s.part n.val).mode ≠ .free) → ∃ t, exec .restore s = .next t ∧ t.regF 0x1030E4 27 24 = 3 ∧
          t.regF 0x1030E4 15 0 = 0 ∧ s.RegsBut [0x1030E4] t ∧ s.Only [.regs] t)))) ∧
  (∀ (s : State), s.live = true →
    (holdStartOk s = false → exec .terraceHoldStart s = .next s) ∧
    (holdStartOk s = true → ∃ t, exec .terraceHoldStart s = .next t ∧ t.holding = true ∧ t.terrace.state = .writing ∧
      t.terrace.hold = some s.clock ∧ t.terrace.seq = s.terrace.seq + 1#32 ∧ t.terrace.beatStart = s.beat.num ∧
      t.terrace.cause = (if s.terrace.riskDue then 1 else 2) ∧ t.terrace.riskDue = false ∧ t.health.nowDue = none ∧
      (s.resetting .health = false → (t.reg 0x103010).getLsbD 2 = true) ∧
      (∀ g : Vale, ∃ r ∈ t.terrace.regions, r.kind = .valeStore ∧ r.unit = g.val ∧
        (r.status = .fenced ↔ (s.vale g.val).fenced = true) ∧
        ((s.vale g.val).fenced = false → r.status = .saved ∧ r.length = 2 ^ 25)) ∧
      s.Only [.free, .out, .regs, .bad, .msix, .floors, .health, .terrace, .mp] t)) ∧
  (∀ (s : State) (bad : List (Nat × RegionFault)), s.live = true →
    (s.terrace.hold = none → exec (.terraceHoldEnd bad) s = .next s) ∧
    (∀ c, s.terrace.hold = some c → ∃ t, exec (.terraceHoldEnd bad) s = .next t ∧ t.holding = false ∧ t.terrace.state = .valid ∧
      t.terrace.beatEnd = s.beat.num ∧ t.reg 0x1030D0 = BitVec.ofNat 32 (s.clock - c) ∧
      (s.resetting .health = false → (t.reg 0x103010).getLsbD 3 = true) ∧
      (∀ (g : Vale) k, (g.val, k) ∈ s.terrace.fencesDue → (t.vale g.val).fenced = true))) ∧
  (∀ (s : State), s.live = true →
    (pushEndOk s = false → exec .terracePushEnd s = .next s) ∧
    (pushEndOk s = true → ∃ t, exec .terracePushEnd s = .next t ∧ t.terrace.pushing = false ∧
      t.terrace.regions.length = s.terrace.regions.length ∧
      (∀ (i : Nat) (r : Region), s.terrace.regions[i]? = some r → ∃ r' : Region, t.terrace.regions[i]? = some r' ∧ r'.kind = r.kind ∧
        (r.kind ≠ .reference → r' = r) ∧ (r.kind = .reference → r'.status = .pushed ∨ r'.status = .pushFailed)) ∧
      (s.resetting .health = false → (t.reg 0x103010).getLsbD 4 = true) ∧ t.mem = s.mem)) ∧
  (∀ (s : State), s.live = true →
    ((s.terrace.restoring = false ∨ s.holding = true) → exec .restoreEnd s = .next s) ∧
    (s.terrace.restoring = true → s.holding = false → ∃ t, exec .restoreEnd s = .next t ∧ t.terrace.restoring = false ∧
      (s.resetting .health = false → (t.reg 0x103010).getLsbD 5 = true) ∧
      (s.terrace.state ≠ .valid → t.regF 0x1030E4 27 24 = 1 ∧ t.regF 0x1030E4 15 0 = 0 ∧ t.parts = s.parts) ∧
      (s.terrace.state = .valid → s.terrace.revs ≠ revisions s → t.regF 0x1030E4 27 24 = 2 ∧ t.regF 0x1030E4 15 0 = 0 ∧
        t.parts = s.parts) ∧
      (s.terrace.state = .valid → s.terrace.revs = revisions s →
        t.regF 0x1030E4 27 24 =
          (if ({ s with terrace := { s.terrace with restoring := false } } : State).restoreAll.1 = s.terrace.parts then 0 else 4)))) ∧
  (∀ (s : State) (k : Slot), s.live = true →
    (reissueOk k.val s = false → exec (.commandReissue k) s = .next s) ∧
    (∀ c, reissueOk k.val s = true → s.cmd k.val = some c →
      ((lostStore s c = true ∨ reissueVale s c = none) → ∃ u : State, exec (.commandReissue k) s = .next (u.endWith k.val 7 0) ∧
        s.Only [.slots] u ∧ (u.cmd k.val).isSome = true) ∧
      (∀ g, lostStore s c = false → reissueVale s c = some g → ∃ (t : State) (c' : Cmd), exec (.commandReissue k) s = .next t ∧
        t.cmd k.val = some c' ∧ c'.vale = g ∧ c'.reissued = true ∧ c'.dispatched = none ∧ c'.desc = c.desc ∧ c'.seqNo = c.seqNo ∧
        c'.coll = none ∧ c'.matrix = MatrixSt.fresh ∧ c'.status = 0 ∧ c'.flags = 0#4 ∧
        (s.metered c.part.val = true → 2 ∈ c'.voids) ∧ (c.bound = true → c'.bindings = c.bindings) ∧
        (∀ j, j ≠ k.val → (t.cmd j).isSome = (s.cmd j).isSome))))

/-- R28, R497, R498, R500, R503, R510 to R518, R566 and R572. What happens below the operating range is not specified; that the part then
stops is the model's choice (log entry 86), and what a function's configuration space holds after its reset is presumed (log entry 15). -/
def Obligations.ResetsAndBoot : Prop :=
  (∀ (s : State) (n : PartId), s.live = true →
    ∃ t, exec (.vfFlr n) s = .next t ∧ t.fn (n.val + 1) = FnState.reset ∧ (∀ f, f ≠ n.val + 1 → t.fn f = s.fn f) ∧
      (t.part n.val).mode = (if (s.part n.val).mode = .active then .destroying else (s.part n.val).mode) ∧ (t.part n.val).prgs = [] ∧
      (∀ m, m ≠ n.val → (t.part m).mode = (s.part m).mode) ∧ (s.resetting .device = false → (t.reg 0x10C).getLsbD 0 = true)) ∧
  (∀ (s : State) (c : Instr) (bit : Nat), s.live = true → (c, bit) ∈ [(Instr.pfFlr, 2), (.hotReset, 2), (.pcieLinkDown, 1), (.perst, 1)] →
    ∃ t, exec c s = .next t ∧ (∀ f, f < 17 → t.fn f = FnState.reset) ∧ t.reg 0x100 = 0#32 ∧ t.reg 0x104 = 0#32 ∧
      (t.reg 0x10C).getLsbD bit = true ∧
      (∀ n : PartId, (t.part n.val).mode = if (s.part n.val).mode = .active then .destroying else (s.part n.val).mode) ∧
      t.boot = { s.boot with hostTrained := s.boot.hostTrained + (if bit = 1 then 1 else 0) }) ∧
  (∀ (s : State) (fn : Fn) (v : Nat), Serves s fn = true →
    let e := s.msixOf (fnNum fn) v
    let go := e.pending = true ∧ (s.fn (fnNum fn)).fnMask = false ∧ (s.fn (fnNum fn)).msixOn = true
    (vectorsOf (fnNum fn) ≤ v → exec (.msixUnmask fn v) s = .next s) ∧
    (v < vectorsOf (fnNum fn) → ∃ t, exec (.msixUnmask fn v) s = .next t ∧
      t.out = s.out ++ (if go then [.msix fn v] else []) ∧
      t.msixOf (fnNum fn) v = { e with masked := false, pending := e.pending && !decide go } ∧ s.Only [.out, .msix] t)) ∧
  (∀ (s : State) (fn : Fn) (pasid page pages : Nat), s.live = true →
    let f := s.fn (fnNum fn)
    (f.ats = false → exec (.atsInvalidation fn pasid page pages) s = .next s) ∧
    (f.ats = true → ∃ t, exec (.atsInvalidation fn pasid page pages) s = .next t ∧
      t.out = s.out ++ [.invalidationDone fn pasid page] ∧ (∀ k, k ≠ fnNum fn → t.fn k = s.fn k) ∧
      (∀ e, e ∈ (t.fn (fnNum fn)).atsCache ↔ e ∈ f.atsCache ∧ ¬ (e.1 = pasid ∧ page ≤ e.2 ∧ e.2 < page + pages)) ∧
      s.Only [.out, .fns] t)) ∧
  (∀ (s : State) (ns : Nat),
    (ns < 1000 → exec (.resetAssert ns) s = .next s) ∧
    (1000 ≤ ns → ∃ t, exec (.resetAssert ns) s = .next t ∧ t.live = false ∧ t.boot.resetLow = true ∧ t.pending = s.pending ∧
      (t.boot.tripCleared = true ↔ s.boot.tripCleared = true ∨ (s.boot.tripped = true ∧ 10000 ≤ ns)) ∧ .alert ∉ t.pins ∧
      (.fault ∈ t.pins ↔ s.boot.tripped = true ∧ s.boot.powered = true) ∧
      (s.boot.resetLow = true → t.regs = s.regs ∧ t.mem = s.mem ∧ t.boot.count = s.boot.count) ∧
      (s.boot.resetLow = false → t.regs = [] ∧ t.vales = [] ∧ t.parts = [] ∧ t.slots = [] ∧ t.links = [] ∧ t.turns = [] ∧ t.fns = [] ∧
        t.msix = [] ∧ t.grants = [] ∧ t.grantOp = none ∧ t.echo = [] ∧ t.tests = [] ∧ t.resets = [] ∧ t.beat = Beat.reset ∧
        t.health = Health.reset ∧ t.census = Census.reset ∧ t.boot.phase = 1 ∧ t.boot.count = s.boot.count ∧
        (∀ a, t.byte a = if a < 20 * 2 ^ 36 then s.byte a else 0#8) ∧ t.terrace.state = s.terrace.state ∧
        t.terrace.regions = s.terrace.regions ∧ t.holding = false ∧ t.mp.flash = s.mp.flash ∧ t.mp.settingsA = s.mp.settingsA ∧
        t.mp.settingsB = s.mp.settingsB ∧ t.mp.seq = s.mp.seq ∧ t.mp.queue = [] ∧
        (s.Canonical → ∀ st, (t.floor st).candidates = (s.floor st).candidates ∧ (t.floor st).spared = (s.floor st).spared)))) ∧
  (∀ (s : State) (hw : Bool),
    let b := s.boot
    (b.resetLow = false → exec (.resetRelease hw) s = .next s) ∧
    (b.resetLow = true → b.tripped = true → b.tripCleared = false → ∃ t, exec (.resetRelease hw) s = .next t ∧
      t.boot = { b with resetLow := false, powered := true } ∧ t.live = false ∧ .therm ∈ t.pins) ∧
    (b.resetLow = true → (b.tripped = false ∨ b.tripCleared = true) → ∃ t, exec (.resetRelease hw) s = .next t ∧
      t.boot.powered = true ∧ t.boot.resetLow = false ∧ t.boot.tripped = false ∧ t.boot.phase = 1 ∧ t.boot.headwater = hw ∧
      t.boot.count = b.count + 1 ∧ t.boot.releaseClock = s.clock ∧ t.boot.startRecorded = false ∧ t.live = !b.dead ∧ t.ready = false ∧
      .fault ∉ t.pins ∧ .therm ∉ t.pins ∧ s.RegsBut [0x184] t ∧
      (b.tripped = true → t.regF 0x184 30 30 = 1) ∧ (b.tripped = false → t.regs = s.regs))) ∧
  (∀ (s : State) (r : BootResult), s.live = true →
    let own := match r with | .rom _ => 1 | .flash _ _ => 2 | .stacks _ _ => 3 | .processors _ _ => 4 | .links => 5
    let fails := fun (cause : Nat) => ∃ t, exec (.bootPhaseDone r) s = .next t ∧ t.boot.phase = 15 ∧ t.regF 0x140 15 12 = cause ∧
      .fault ∈ t.pins ∧ t.boot.startRecorded = true ∧ t.mem = s.mem
    (s.boot.phase ≠ own → exec (.bootPhaseDone r) s = .next s) ∧
    (s.boot.phase = own →
      (r = .rom true → ∃ t, exec (.bootPhaseDone r) s = .next t ∧ t.boot = { s.boot with phase := 2 } ∧ s.Only [.boot] t) ∧
      (r = .rom false → fails 4) ∧
      (∀ a b, r = .flash a b → (bootChoice s.mp fun k => if k = 0 then a else b).1 = none → fails 1) ∧
      (∀ a b slot v x, r = .flash a b → (bootChoice s.mp fun k => if k = 0 then a else b) = (some (slot, v), x) → slot < 2 → v < 2 →
        ∃ t, exec (.bootPhaseDone r) s = .next t ∧ t.boot.phase = 3 ∧ t.regF 0x140 8 8 = slot ∧ t.regF 0x140 9 9 = v ∧
          t.mp.bootSettings = t.mp.settings ∧ t.mem = s.mem) ∧
      (∀ m f, r = .stacks m f → (∃ st ∈ f, 16 ≤ st.val) → fails 2) ∧
      (∀ m f, r = .stacks m f → (∀ st ∈ f, st.val < 16) → ∃ t, exec (.bootPhaseDone r) s = .next t ∧ t.boot.phase = 4 ∧
        t.boot.marker = some s.boot.count ∧ t.boot.startRecorded = true ∧ t.regF 0x140 10 10 = boolBit (warmStart m s) ∧
        (∀ st : Stack, st ∈ f → (t.floor st.val).failed = true ∧
          ∀ g, 8 * st.val ≤ g → g < 8 * st.val + 8 → (t.vale g).fenced = true) ∧
        (warmStart m s = true → t.mem = s.mem) ∧ (warmStart m s = false → t.terrace = Terrace.reset ∧
          ∀ a, t.byte a = if a < 20 * 2 ^ 36 then 0#8 else s.byte a)) ∧
      (∀ vs, r = .processors vs true → fails 3) ∧
      (∀ vs, r = .processors vs false → ∃ t, exec (.bootPhaseDone r) s = .next t ∧ t.boot = { s.boot with phase := 5 } ∧
        (∀ g ∈ vs, (t.vale g.val).fenced = true) ∧ (∀ g : Vale, g ∉ vs → t.vale g.val = s.vale g.val) ∧
        (∀ k : Link, s.linkEn k.val = false → t.link k.val = s.link k.val) ∧
        (∀ k : Link, s.linkEn k.val = true → (s.link k.val).state = .down → (t.link k.val).state = .detect)) ∧
      (r = .links → ∃ t, exec (.bootPhaseDone r) s = .next t ∧ t.boot = { s.boot with phase := 6 } ∧ t.ready = true ∧ s.Only [.boot] t))) ∧
  (∀ (s : State), ∃ t, exec .powerLoss s = .next t ∧ t.boot = { s.boot with powered := false, marker := none } ∧ t.live = false ∧
    t.holding = false ∧ t.pins.all (fun p => p != .alert && p != .fault && p != .therm) = true ∧
    s.Only [.boot, .terrace, .pins, .out] t) ∧
  (∀ (s : State) (die : Fin 20) (reading : Nat),
    (s.boot.powered = false → exec (.thermalTrip die reading) s = .next s) ∧
    (s.boot.powered = true → ∃ t, exec (.thermalTrip die reading) s = .next t ∧
      t.boot = { s.boot with tripped := true, tripCleared := false, marker := none } ∧ t.live = false ∧ .fault ∈ t.pins ∧ .therm ∈ t.pins ∧
      .alert ∉ t.pins ∧ (s.mpLive = true → s.boot.tripped = false → ∃ e, e.event = .tripped ∧ t.mp = s.mp.take e) ∧
      ((s.mpLive = false ∨ s.boot.tripped = true) → t.mp = s.mp) ∧ t.mem = s.mem)) ∧
  (∀ (s : State) (d : PassFail), s.live = true → ∃ t, exec (.passDieFailure d) s = .next t ∧
    t.boot = { s.boot with dead := true, marker := none } ∧ t.live = false ∧ t.out = s.out ++ [.aer .pf .uncorrectableInternal] ∧
    s.Only [.out, .boot] t) ∧
  (State.reset.live = true ∧ State.reset.ready = false ∧ State.reset.boot.phase = 1 ∧ State.reset.pending = [] ∧
    State.reset.beat.state = .noBeat ∧ State.reset.holding = false ∧ (∀ a, State.reset.reg a = regDefault a) ∧
    (∀ n, (State.reset.part n).mode = .free) ∧ (∀ k, State.reset.cmd k = none ∧ (State.reset.link k).state = .down) ∧
    (∀ g, (State.reset.vale g).owner = none ∧ (State.reset.vale g).fenced = false) ∧
    (∀ f, (State.reset.fn f).msixOn = false) ∧ (∀ p, (State.reset.grant p).writer = none) ∧ ∀ t, State.reset.turn t = none)

/-- R521 to R524, R527 to R529 and R532. -/
def Obligations.CensusAssignsIds : Prop :=
  (∀ (rs : List CensusReport) (head : CensusReport),
    let fs := assignIds rs head
    (∃ d, fs[0]? = some d ∧ d.report = head ∧ d.depth = 0) ∧
    (∀ (i : Nat) (d : Reached), fs[i]? = some d → d.id = i ∧
      (0 < i → d.report ∈ rs ∧ ∃ (j : Nat) (p : Reached), j < i ∧ fs[j]? = some p ∧ d.depth = p.depth + 1 ∧ d.parent = p.report.serial ∧
        edgeAt rs p.report d.out = some (d.report, d.parentLink))) ∧
    (fs.map fun d => d.report.serial).Nodup) ∧
  (∀ (s : State),
    (Serves s .pf = true → censusStartOk s = false → exec .censusStart s = .next s) ∧
    (s.live = true → autoStartOk s = false → exec .censusAutoStart s = .next s) ∧
    (∀ c, ((c = .censusStart ∧ Serves s .pf = true ∧ censusStartOk s = true) ∨
        (c = .censusAutoStart ∧ s.live = true ∧ autoStartOk s = true)) →
      ∃ (t : State) (own : CensusReport), exec c s = .next t ∧ t.reg 0x154 = s.reg 0x154 + 1#32 ∧ t.regF 0x14C 3 0 = 1 ∧
        t.census.running = true ∧ t.census.gathering = true ∧ t.census.startClock = s.clock ∧ t.census.expect = s.regF 0x15C 13 0 ∧
        t.census.window = s.regF 0x160 15 0 ∧ t.census.reports = [own] ∧ own.serial = Config.serial ∧
        t.out = s.out ++ (linksUp s).map (fun k => .census (Fin.ofNat 32 k) (.call (s.reg 0x154 + 1#32) Config.serial)) ∧
        s.RegsBut [0x154, 0x14C] t ∧ s.Only [.free, .out, .regs, .links, .census] t)) ∧
  (∀ (s : State) (k : Link) (c : Instr) (num : BitVec 32) (f : State → State) (any : Bool), s.live = true →
    (∃ head, c = .censusCall k num head ∧ f = callDo k num head ∧ any = true) ∨
      (∃ r, c = .censusReport k num r ∧ f = reportDo k num r ∧ any = false) ∨
      (∃ a, c = .censusAssign k num a ∧ f = assignDo num a ∧ any = false) ∨
      (c = .censusLeftOut k num ∧ f = leftOutDo ∧ any = false) ∨
      (∃ down serial, c = .censusReady k num down serial ∧ f = (if down then readyDownDo num serial else readyUpDo num serial) ∧
        any = false) →
    let front := (s.link k.val).rx.find? fun x => x.type == 4 && x.vc == 16
    (front = none → exec c s = .next s) ∧
    (∀ x, front = some x → ∃ u : State, (u.link k.val).rx = (s.link k.val).rx.erase x ∧ (∀ j, j ≠ k.val → u.link j = s.link j) ∧
      s.Only [.links] u ∧
      ((s.ready = false ∨ (any = false ∧ num ≠ s.reg 0x154)) → exec c s = .next u) ∧
      (s.ready = true → (any = true ∨ num = s.reg 0x154) → exec c s = .next (f u)))) ∧
  (∀ (s : State) (k : Link) (num : BitVec 32) (head : BitVec 64),
    let t := callDo k num head s
    let heard := (s.boot.headwater = true ∧ head = Config.serial) ∨ (num, head) ∈ s.census.calls
    let two := s.boot.headwater = true ∨ ∃ x ∈ s.census.calls, x.2 ≠ head
    (heard → t = s) ∧
    (¬ heard → two → t.census = { s.census with calls := s.census.calls ++ [(num, head)], conflict := true } ∧
      t.regF 0x14C 3 0 = 6 ∧ (s.resetting .device = false → (t.reg 0x10).getLsbD 3 = true) ∧
      (∃ e, e.event = .censusConflict ∧ t.mp = s.mp.take e)) ∧
    (¬ heard → ¬ two → t.reg 0x154 = num ∧ t.regF 0x14C 3 0 = 2 ∧ t.census.gatherLink = some k.val ∧
      t.census.calls = s.census.calls ++ [(num, head)] ∧ t.mp = s.mp ∧
      ∃ r : CensusReport, r.serial = Config.serial ∧ t.out = s.out ++
        ((linksUp s).filter (· != k.val)).map (fun j => .census (Fin.ofNat 32 j) (.call num head)) ++ [.census k (.report num r)])) ∧
  (∀ (s : State) (k : Link) (num : BitVec 32) (r : CensusReport),
    let t := reportDo k num r s
    t.census.routes = s.census.routes.filter (·.1 != r.serial) ++ [(r.serial, k.val)] ∧
    (s.boot.headwater = true → t.out = s.out ∧ t.census.reports =
      if s.census.gathering = true ∧ (s.census.reports.any fun x => x.serial == r.serial) = false then s.census.reports ++ [r]
      else s.census.reports) ∧
    (∀ g, s.boot.headwater = false → s.census.gatherLink = some g →
      t.out = s.out ++ [.census (Fin.ofNat 32 g) (.report num r)] ∧ t.census.reports = s.census.reports)) ∧
  (∀ (s : State), s.live = true →
    (gatherCloseOk s = false → exec .gatherClose s = .next s) ∧
    (gatherCloseOk s = true → ∃ t, exec .gatherClose s = .next t ∧ t.census.gathering = false ∧
      (s.census.conflict = true → t.census.running = false ∧ t.census.table = censusTable s.census.reports [] ∧ s.Only [.census] t) ∧
      (s.census.conflict = false →
        let fs := assignIds s.census.reports (s.census.reports.headD (ownReport { s with census := { s.census with gathering := false } }))
        t.census.table = censusTable s.census.reports fs ∧ t.regF 0x148 31 31 = 1 ∧ t.regF 0x148 12 0 = 0 ∧
          t.regF 0x150 13 0 = fs.length % 2 ^ 14 ∧ t.beat.origin = true ∧ (t.regF 0x14C 3 0 = 3 ∨ t.regF 0x14C 3 0 = 4)))) ∧
  (∀ (s : State) (num : BitVec 32) (a : CensusAssign),
    let t := assignDo num a s
    (s.boot.headwater = true → t = s) ∧
    (s.boot.headwater = false → a.serial = Config.serial → t.regF 0x148 31 31 = 1 ∧ t.regF 0x148 12 0 = a.id.toNat ∧
      t.regF 0x150 13 0 = a.size.toNat ∧ t.regF 0x14C 28 16 = a.depth.toNat ∧ t.regF 0x14C 12 8 = a.parentLink.toNat ∧
      t.regF 0x14C 3 0 = 3 ∧ s.RegsBut [0x148, 0x14C, 0x150] t) ∧
    (∀ r, s.boot.headwater = false → a.serial ≠ Config.serial → s.census.routes.find? (·.1 == a.serial) = some r →
      t.out = s.out ++ [.census (Fin.ofNat 32 r.2) (.assign num a)] ∧ t.regs = s.regs)) ∧
  (∀ (s : State), let x := s.regF 0x14C 3 0
    ((s.boot.headwater = true ∨ (3 ≤ x ∧ x ≤ 5)) → leftOutDo s = s) ∧
    (s.boot.headwater = false → (x < 3 ∨ 5 < x) → (leftOutDo s).regF 0x14C 3 0 = 5 ∧
      (s.resetting .device = false → ((leftOutDo s).reg 0x10).getLsbD 3 = true) ∧
      (∃ e, e.event = .leftOut ∧ (leftOutDo s).mp = s.mp.take e))) ∧
  (∀ (s : State) (num : BitVec 32) (serial : BitVec 64),
    (s.boot.headwater = true → serial ∈ (readyUpDo num serial s).census.ready) ∧
    (∀ g, s.boot.headwater = false → s.census.gatherLink = some g →
      (readyUpDo num serial s).out = s.out ++ [.census (Fin.ofNat 32 g) (.ready num false serial)]) ∧
    (serial = Config.serial → s.regF 0x14C 3 0 = 3 → (readyDownDo num serial s).regF 0x14C 3 0 = 4) ∧
    (serial = Config.serial → s.regF 0x14C 3 0 ≠ 3 → readyDownDo num serial s = s) ∧
    (∀ r, serial ≠ Config.serial → s.census.routes.find? (·.1 == serial) = some r →
      (readyDownDo num serial s).out = s.out ++ [.census (Fin.ofNat 32 r.2) (.ready num true serial)]))

/-- R533 to R539, R541 to R550, R552 to R558, R571 and R574. The codes of GetStatus, the classification 0x000A, the order in which SPDM
requests are allowed, the encoding of the event receiver's setting what a torn entry holds and that MCTP
control code 2 asks for the EID are the model's own choices (log entries 88 to 92 and 97). -/
def Obligations.ManagementServes : Prop :=
  (∀ (s : State) (t : Transport) (c : Instr), s.mctpUp t = false →
    (c ∈ [.getPdrRepositoryInfo t, .getTid t, .getStatus t, .queryDeviceIdentifiers t, .getFirmwareParameters t, .getVersion t,
        .getCapabilities t, .negotiateAlgorithms t, .getDigests t] ∨
      ∃ (b : Byte) (n m k : Nat) (x y : BitVec 32) (o : Offer) (bs : List Byte) (v : Bool),
        c ∈ [.setEndpointId t b, .mctpControl t b, .getPdr t n, .getSensorReading t n, .getSensorThresholds t n,
          .setSensorThresholds t n x y, .setEventReceiver t b, .requestUpdate t b n, .passComponentTable t b n m,
          .updateComponent t b o, .firmwareData t bs, .activateFirmware t b v, .cancelUpdateComponent t b, .cancelUpdate t b,
          .getCertificate t n m k, .challenge t n bs, .getMeasurements t n v bs]) → exec c s = .next s) ∧
  (∀ (s : State) (c : Instr), s.boot.phase = 15 →
    (c ∈ [.getStatus .pcie, .queryDeviceIdentifiers .pcie, .getFirmwareParameters .pcie, .getVersion .pcie,
        .getCapabilities .pcie, .negotiateAlgorithms .pcie, .getDigests .pcie] ∨
      ∃ (b : Byte) (n m k : Nat) (o : Offer) (bs : List Byte) (v : Bool),
        c ∈ [.requestUpdate .pcie b n, .passComponentTable .pcie b n m, .updateComponent .pcie b o, .firmwareData .pcie bs,
          .activateFirmware .pcie b v, .cancelUpdateComponent .pcie b, .cancelUpdate .pcie b, .getCertificate .pcie n m k,
          .challenge .pcie n bs, .getMeasurements .pcie n v bs]) → exec c s = .next s) ∧
  (∀ (s : State) (t : Transport) (c : Instr) (r : Reply) (p : List Byte), s.mctpUp t = true →
    let shown := fun (id : Nat) => 1 ≤ id ∧ id ≤ 48 ∧ (s.reg (sensAddr id)).getLsbD 31 = true
    ((∃ code, c = .mctpControl t code ∧ r = .ok ∧ p = if code = 2 then [code, s.eid t] else [code]) ∨
      (c = .getPdrRepositoryInfo t ∧ r = .ok ∧ p = Config.fixedAnswer 0) ∨ (c = .getTid t ∧ r = .ok ∧ p = Config.fixedAnswer 1) ∨
      (∃ h, c = .getPdr t h ∧ Config.pdr h = some p ∧ r = .ok) ∨
      (∃ h, c = .getPdr t h ∧ Config.pdr h = none ∧ r = .error ∧ p = []) ∨
      (∃ id, c = .getSensorReading t id ∧ shown id ∧ r = .ok ∧ p = leBytes 3 (s.regF (sensAddr id) 23 0)) ∨
      (∃ id, c = .getSensorReading t id ∧ ¬ shown id ∧ r = .error ∧ p = []) ∨
      (∃ id, c = .getSensorThresholds t id ∧ 1 ≤ id ∧ id ≤ 47 ∧ r = .ok ∧
        p = leBytes 4 (s.mp.settings.value (0x100 + 2 * id)) ++ leBytes 4 (s.mp.settings.value (0x101 + 2 * id))) ∨
      (∃ id, (c = .getSensorThresholds t id ∨ ∃ a b, c = .setSensorThresholds t id a b) ∧ (id = 0 ∨ 47 < id) ∧ r = .error ∧ p = [])) →
    ∃ u, exec c s = .next u ∧ u.out = s.out ++ [.response t r p] ∧ s.Only [.out] u) ∧
  (∀ (s : State) (t : Transport), s.mctpUp t = true →
    (∀ eid, ∃ u, exec (.setEndpointId t eid) s = .next u ∧ u.out = s.out ++ [.response t .ok [eid]] ∧ s.Only [.out, .mp] u ∧
      u.mp = (match t with | .pcie => { s.mp with eidPcie := eid } | .i3c => { s.mp with eidI3c := eid })) ∧
    (∀ id warn crit, 1 ≤ id → id ≤ 47 → ∃ u, exec (.setSensorThresholds t id warn crit) s = .next u ∧
      u.out = s.out ++ [.response t .ok []] ∧ s.Only [.out, .mp] u ∧ u.mp.settings.value (0x100 + 2 * id) = warn.toNat ∧
      u.mp.settings.value (0x101 + 2 * id) = crit.toNat ∧ u.mp.settings.writes = s.mp.settings.writes + 2 ∧
      (∀ k, k ≠ 0x100 + 2 * id → k ≠ 0x101 + 2 * id → u.mp.settings.value k = s.mp.settings.value k) ∧ u.mp.flash = s.mp.flash) ∧
    (∀ eid, ∃ u, exec (.setEventReceiver t eid) s = .next u ∧ u.out = s.out ++ [.response t .ok []] ∧ s.Only [.out, .mp] u ∧
      u.mp.settings.value 4 = eid.toNat + (if t = .i3c then 256 else 0) ∧ u.mp.settings.writes = s.mp.settings.writes + 1 ∧
      (∀ k, k ≠ 4 → u.mp.settings.value k = s.mp.settings.value k) ∧ u.mp.flash = s.mp.flash)) ∧
  (∀ (s : State) (readings : List (BitVec 24)),
    let x := fun (id : Nat) => signedOf 24 (readings.getD (id - 1) 0#24).toNat
    (s.mpServes = false → exec (.sensorSample readings) s = .next s) ∧
    (s.mpServes = true → ∃ (u : State) (hot : Nat) (v : Nat → Int), exec (.sensorSample readings) s = .next u ∧
      1 ≤ hot ∧ hot ≤ 20 ∧ (∀ id, 1 ≤ id → id ≤ 20 → x id ≤ x hot) ∧ (∀ id, 1 ≤ id → id < hot → x id < x hot) ∧
      (∀ id, v id = if id = 43 then x hot else if id = 46 then x 44 * x 45 / 10000 else if id = 48 then (s.regF 0x103044 15 0 : Int)
        else x id) ∧
      (∀ id, 1 ≤ id → id ≤ 48 → u.reg (sensAddr id) = fields [(31, 31, 1), (23, 0, unsignedOf 24 (v id))]) ∧
      s.RegsBut ((List.range 48).map (fun i => sensAddr (i + 1)) ++ [0x184, 0x10]) u ∧
      (s.health.sampled = false → u.health.hottest = x hot / 8 ∧ u.health.ripple = (x 47).toNat) ∧
      (s.health.sampled = true → u.health.hottest = max s.health.hottest (x hot / 8) ∧
        u.health.ripple = max s.health.ripple (x 47).toNat) ∧
      (let warn : Int := s.regF 0x180 7 0
       let hyst : Int := s.regF 0x180 15 8
       let en := (s.reg 0x180).getLsbD 16
       s.live = true →
          u.regF 0x184 4 0 = hot - 1 ∧ u.regF 0x184 23 16 = unsignedOf 8 (x hot / 8) ∧
          (en = true → 8 * warn ≤ x hot → .therm ∈ u.pins ∧ u.regF 0x184 31 31 = 1 ∧
            (s.resetting .device = false → (u.reg 0x10).getLsbD 4 = true)) ∧
          ((en = false ∨ x hot < 8 * (warn - hyst)) → .therm ∉ u.pins ∧ u.regF 0x184 31 31 = 0 ∧ u.reg 0x10 = s.reg 0x10) ∧
          (en = true → x hot < 8 * warn → 8 * (warn - hyst) ≤ x hot →
            u.pins = s.pins ∧ u.regF 0x184 31 31 = s.regF 0x184 31 31 ∧ u.reg 0x10 = s.reg 0x10)) ∧
      (∀ id, 1 ≤ id → id ≤ 47 →
        let e := sensorEvent s.mp id
        let level := s.sensorLevel id (v id)
        (level = e.level → sensorEvent u.mp id = e) ∧
        (level ≠ e.level → windowOpen s e = true → sensorEvent u.mp id = { e with level := level, changed := true }) ∧
        (level ≠ e.level → windowOpen s e = false → sensorEvent u.mp id =
          { level := level, changed := false, window := s.receiver.map fun _ => s.clock } ∧
          ∀ t, s.receiver = some t → s.mctpUp t = true →
            Emit.response t .sensorEvent [BitVec.ofNat 8 id, BitVec.ofNat 8 level] ∈ u.out)))) ∧
  (∀ (s : State) (id : Nat),
    let e := sensorEvent s.mp id
    let due := s.mpServes = true ∧ e.window.isSome = true ∧ windowOpen s e = false
    (¬ due → exec (.pldmEventWindow id) s = .next s) ∧
    (due → ∃ u, exec (.pldmEventWindow id) s = .next u ∧ s.Only [.out, .mp] u ∧
      (∀ j, j ≠ id → sensorEvent u.mp j = sensorEvent s.mp j) ∧
      (e.changed = false → u.out = s.out ∧ sensorEvent u.mp id = { e with window := none }) ∧
      (e.changed = true → sensorEvent u.mp id = { e with changed := false, window := s.receiver.map fun _ => s.clock } ∧
        u.out = s.out ++ (match s.receiver with
          | some t => if s.mctpUp t = true then [.response t .sensorEvent [BitVec.ofNat 8 id, BitVec.ofNat 8 e.level]] else []
          | none => [])))) ∧
  (∀ (s : State) (t : Transport), s.mctpUp t = true → (s.boot.phase ≠ 15 ∨ t = .i3c) →
    let answers := fun (c : Instr) (r : Reply) (p : List Byte) =>
      ∃ u, exec c s = .next u ∧ u.out = s.out ++ [.response t r p] ∧ s.Only [.out] u
    let steps := fun (c : Instr) (k : Nat) (p : List Byte) =>
      ∃ u, exec c s = .next u ∧ u.out = s.out ++ [.response t .ok p] ∧ s.Only [.out, .mp] u ∧
        u.mp = (match t with | .pcie => { s.mp with spdmPcie := k } | .i3c => { s.mp with spdmI3c := k })
    answers (.getStatus t) .ok [BitVec.ofNat 8 (updateCode s.mp.update)] ∧
    answers (.queryDeviceIdentifiers t) .ok (Config.fixedAnswer 2) ∧
    answers (.getFirmwareParameters t) .ok (leBytes 2 1 ++ (s.mp.header s.bootSlot).stamp ++ (s.mp.header s.otherSlot).stamp) ∧
    steps (.getVersion t) 1 (Config.fixedAnswer 3) ∧
    (1 ≤ s.spdm t → steps (.getCapabilities t) 2 (Config.fixedAnswer 4)) ∧
    (2 ≤ s.spdm t → steps (.negotiateAlgorithms t) 3 (Config.fixedAnswer 5)) ∧
    (s.spdm t < 1 → answers (.getCapabilities t) .error []) ∧ (s.spdm t < 2 → answers (.negotiateAlgorithms t) .error []) ∧
    (s.spdm t < 3 → ∀ (slot ofs len : Nat) (nonce : List Byte) (sg : Bool) (c : Instr),
      c ∈ [.getDigests t, .getCertificate t slot ofs len, .challenge t slot nonce, .getMeasurements t slot sg nonce] →
      answers c .error []) ∧
    (3 ≤ s.spdm t → answers (.getDigests t) .ok (Config.sha512 Config.certChain) ∧
      (∀ ofs len, answers (.getCertificate t 0 ofs len) .ok ((Config.certChain.drop ofs).take len)) ∧
      (∀ nonce, answers (.challenge t 0 nonce) .ok
        (Config.sha512 Config.certChain ++ Config.signature (Config.sha512 Config.certChain ++ nonce))) ∧
      (∀ slot ofs len nonce, slot ≠ 0 → answers (.getCertificate t slot ofs len) .error [] ∧ answers (.challenge t slot nonce) .error []) ∧
      (∀ i sg nonce, measurements s i = none → answers (.getMeasurements t i sg nonce) .error []) ∧
      (∀ i nonce m, measurements s i = some m → answers (.getMeasurements t i false nonce) .ok m ∧
        answers (.getMeasurements t i true nonce) .ok (m ++ Config.signature (m ++ nonce)))) ∧
    (∀ agent max,
      (s.mp.update.isSome = true → answers (.requestUpdate t agent max) .alreadyInUpdateMode []) ∧
      (s.mp.update = none → max = 0 → answers (.requestUpdate t agent max) .error []) ∧
      (s.mp.update = none → max ≠ 0 → ∃ (u : State) (m : UpdateSt), exec (.requestUpdate t agent max) s = .next u ∧
        u.out = s.out ++ [.response t .ok []] ∧ u.mp = { s.mp with update := some m } ∧ m.transport = t ∧ m.agent = agent ∧
        m.maxTransfer = max ∧ m.offer = none ∧ m.verifying = false ∧ m.passed = false ∧ m.lastClock = s.clock ∧ s.Only [.out, .mp] u)) ∧
    (∀ (agent : Byte) (cl id : Nat) (o : Offer) (torn : Bool) (c : Instr),
      c ∈ [.passComponentTable t agent cl id, .updateComponent t agent o, .activateFirmware t agent torn,
        .cancelUpdateComponent t agent, .cancelUpdate t agent] →
      (∀ m, s.mp.update = some m → ¬ (m.transport = t ∧ m.agent = agent)) → answers c .error []) ∧
    (∀ (m : UpdateSt), s.mp.update = some m → m.transport = t →
      let m' := { m with lastClock := s.clock }
      let slot := s.otherSlot
      let base := slotBase slot
      let unstaged := fun (p : Mp) (c : Nat) => bitOf (p.flashByte (base + 0x1000 + c / 8)).toNat (c % 8) = true
      let size := fun (o : Offer) (at_ : Nat) => min (min m.maxTransfer 1024) (min (8192 - at_ % 8192) (o.imageLen - at_))
      let asks := fun (o : Offer) (at_ : Nat) => Emit.response t .requestData (leBytes 4 at_ ++ leBytes 4 (size o at_))
      let mode := fun (v : UpdateSt) => some v
      (∀ cl id, ∃ u, exec (.passComponentTable t m.agent cl id) s = .next u ∧ s.Only [.out, .mp] u ∧
        (cl = 0x000A → id = 1 → u.out = s.out ++ [.response t .ok []] ∧ u.mp = { s.mp with update := mode { m' with learned := true } }) ∧
        (¬ (cl = 0x000A ∧ id = 1) → u.out = s.out ++ [.response t .error []] ∧ u.mp = { s.mp with update := mode m' })) ∧
      (∀ o, (m.offer.isSome = true ∨ offerOk o = false) → ∃ u, exec (.updateComponent t m.agent o) s = .next u ∧
        u.out = s.out ++ [.response t .error []] ∧ u.mp = { s.mp with update := mode m' } ∧ s.Only [.out, .mp] u) ∧
      (∀ o, m.offer = none → offerOk o = true → s.mp.resumes slot o = true → ∃ u, exec (.updateComponent t m.agent o) s = .next u ∧
        u.mp.flash = s.mp.flash ∧ s.Only [.out, .mp, .regs] u ∧
        (∀ c, 8192 * c < o.imageLen → unstaged s.mp c → (∀ j, j < c → ¬ unstaged s.mp j) →
          u.mp.update = mode { m' with offer := some o, next := 8192 * c } ∧
          u.out = s.out ++ [.response t .ok [], asks o (8192 * c)]) ∧
        ((∀ c, 8192 * c < o.imageLen → ¬ unstaged s.mp c) →
          u.mp.update = mode { m' with offer := some o, next := o.imageLen, verifying := true } ∧
          u.out = s.out ++ [.response t .ok [], .response t .transferComplete []])) ∧
      (∀ o, m.offer = none → offerOk o = true → s.mp.resumes slot o = false → ∃ u, exec (.updateComponent t m.agent o) s = .next u ∧
        s.Only [.out, .mp, .regs] u ∧ u.mp.update = mode { m' with offer := some o, next := 0 } ∧
        u.out = s.out ++ [.response t .ok [], asks o 0] ∧
        u.mp.flashBytes base 128 =
          headerBytes { len := o.imageLen, state := 2, stamp := stampOf o, rev := 0xFFFF, fmt := 0xFFFF, min := 0xFFFF } ∧
        (∀ a, base + 128 ≤ a → a < base + 0x1400 → u.mp.flashByte a = 0xFF#8) ∧
        (∀ a, base + 0x10000 ≤ a → a < base + 0x3F00000 → u.mp.flashByte a = 0xFF#8) ∧
        (∀ a, (a < base ∨ (base + 0x1400 ≤ a ∧ a < base + 0x10000) ∨ base + 0x3F00000 ≤ a) → u.mp.flashByte a = s.mp.flashByte a)) ∧
      (∀ data, (m.offer = none ∨ m.verifying = true ∨ m.passed = true ∨ (∃ o, m.offer = some o ∧ data.length ≠ size o m.next)) →
        exec (.firmwareData t data) s = .next s) ∧
      (∀ o data, m.offer = some o → m.verifying = false → m.passed = false → data.length = size o m.next → m.next ≤ o.imageLen →
        o.imageLen ≤ 0x3EE0000 → ∃ u, exec (.firmwareData t data) s = .next u ∧ s.Only [.out, .mp] u ∧
          let e := m.next + data.length
          let map := base + 0x1000 + m.next / 8192 / 8
          u.mp.flashBytes (base + 0x10000 + m.next) data.length = data ∧
          (∀ a, (a < base + 0x10000 + m.next ∨ base + 0x10000 + e ≤ a) → a ≠ map → u.mp.flashByte a = s.mp.flashByte a) ∧
          (¬ (e % 8192 = 0 ∨ e = o.imageLen) → u.mp.flashByte map = s.mp.flashByte map ∧ u.out = s.out ++ [asks o e] ∧
            u.mp.update = mode { m' with next := e }) ∧
          ((e % 8192 = 0 ∨ e = o.imageLen) → ¬ unstaged u.mp (m.next / 8192) ∧
            (∀ c, 8192 * c < o.imageLen → c ≠ m.next / 8192 → (unstaged u.mp c ↔ unstaged s.mp c)) ∧
            (∀ c, 8192 * c < o.imageLen → unstaged u.mp c → (∀ j, j < c → ¬ unstaged u.mp j) →
              u.mp.update = mode { m' with next := 8192 * c } ∧ u.out = s.out ++ [asks o (8192 * c)]) ∧
            ((∀ c, 8192 * c < o.imageLen → ¬ unstaged u.mp c) → u.out = s.out ++ [.response t .transferComplete []] ∧
              u.mp.update = mode { m' with next := o.imageLen, verifying := true }))) ∧
      (∀ c, (c = .cancelUpdateComponent t m.agent ∨ c = .cancelUpdate t m.agent) → ∃ u, exec c s = .next u ∧
        u.out = s.out ++ [.response t .ok []] ∧ u.mp = { s.mp with update := none } ∧ s.Only [.out, .mp] u) ∧
      (∀ torn, (s.staging slot = true ∨ s.mp.selectable slot = false) → ∃ u, exec (.activateFirmware t m.agent torn) s = .next u ∧
        u.out = s.out ++ [.response t (if s.staging slot = true then .notReady else .error) []] ∧
        u.mp = { s.mp with update := mode m' } ∧ s.Only [.out, .mp] u) ∧
      (s.staging slot = false → s.mp.selectable slot = true → ∃ u, exec (.activateFirmware t m.agent false) s = .next u ∧
        u.out = s.out ++ [.response t .ok []] ∧ u.mp.update = none ∧ s.Only [.out, .mp] u ∧
        u.mp.flash = (s.activateSlot slot false).mp.flash) ∧
      (s.staging slot = false → s.mp.selectable slot = true → ∃ u, exec (.activateFirmware t m.agent true) s = .next u ∧
        u.out = s.out ∧ s.Only [.mp, .free] u ∧ u.mp.flash = (s.activateSlot slot true).mp.flash))) ∧
  (∀ (s : State) (slot : Nat),
    let base := slotBase slot
    let i := (s.mp.actSeq slot).2
    let old := (s.mp.actSeq s.bootSlot).1
    let entry := base + 0x80 + 8 * (if i < 496 then i else 0)
    let t := s.activateSlot slot false
    let x := s.activateSlot slot true
    let act := if old = 0xFFFFFFFF then 1 else (old + 1) % 2 ^ 32
    leNat (t.mp.flashBytes entry 4) = act ∧ leNat (t.mp.flashBytes (entry + 4) 4) = crc32 (leBytes 4 act) ∧
    (i < 496 → (∀ a, a < entry ∨ entry + 8 ≤ a → t.mp.flashByte a = s.mp.flashByte a ∧ x.mp.flashByte a = s.mp.flashByte a) ∧
      (let e := x.mp.flashBytes entry 8
       e = List.replicate 8 0xFF#8 ∨ leNat (e.drop 4) ≠ crc32 (e.take 4))) ∧
    (496 ≤ i → (∀ a, a < base ∨ base + 0x1000 ≤ a → t.mp.flashByte a = s.mp.flashByte a ∧ x.mp.flashByte a = s.mp.flashByte a) ∧
      t.mp.flashBytes base 128 = headerBytes { s.mp.header slot with state := 0 } ∧ x.mp.headerValid slot = false ∧
      ∀ a, base + 0x88 ≤ a → a < base + 0x1000 → t.mp.flashByte a = 0xFF#8) ∧
    s.Only [.mp] t ∧ s.Only [.mp, .free] x) ∧
  (∀ (s : State) (ok : Bool),
    ((∀ m, s.mp.update = some m → m.verifying = false) → exec (.slotVerifyEnd ok) s = .next s) ∧
    (∀ m, s.mp.update = some m → m.verifying = true → s.mpServes = true → ∃ u, exec (.slotVerifyEnd ok) s = .next u ∧
      let base := slotBase s.otherSlot
      (∀ a, a < base ∨ base + 0x1000 ≤ a → u.mp.flashByte a = s.mp.flashByte a) ∧
      (ok = true → (∃ rev fmt least, u.mp.flashBytes base 128 =
          headerBytes { s.mp.header s.otherSlot with state := 0, rev := rev, fmt := fmt, min := least }) ∧
        (∀ a, base + 128 ≤ a → a < base + 0x1000 → u.mp.flashByte a = 0xFF#8) ∧
        u.mp.update = some { m with verifying := false, passed := true } ∧
        (s.resetting .mp = false → (u.reg (pageBase .mp + 0x10)).getLsbD 2 = true) ∧
        Emit.response m.transport .verifyComplete [0#8] ∈ u.out ∧ Emit.response m.transport .applyComplete [0#8] ∈ u.out) ∧
      (ok = false → (∀ a, base ≤ a → a < base + 0x1000 → u.mp.flashByte a = 0xFF#8) ∧
        u.mp.update = some { m with verifying := false, offer := none } ∧
        u.out = s.out ++ [.response m.transport .verifyComplete [1#8]]))) ∧
  (∀ (s : State),
    let late := s.mpServes = true ∧ ∃ m, s.mp.update = some m ∧ m.lastClock + 252000000000 ≤ s.clock
    (¬ late → exec .updateTimeout s = .next s) ∧
    (late → ∃ (u : State) (e : MorEntry), exec .updateTimeout s = .next u ∧ e.event = .updateTimeout ∧
      u.mp = ({ s.mp with update := none } : Mp).take e ∧ s.Only [.regs, .mp] u)) ∧
  (∀ (s : State) (torn : Bool) (v : BitVec 32), s.live = true →
    let rows : List Instr := [.censusRead, .activateSlot torn, .ffClear, .settingRead, .settingWrite, .morIdxWrite v]
    (∀ c ∈ rows, ((s.ready = false ∧ s.boot.phase ≠ 15) ∨ (s.fn 0).d3 = true) → ∃ u, exec c s = .next u ∧
      u.out = s.out ++ [.unsupported .pf] ∧ s.Only [.out] u) ∧
    (∀ c ∈ [Instr.censusRead, .activateSlot torn, .ffClear], s.boot.phase = 15 → (s.fn 0).d3 = false → exec c s = .next s) ∧
    ((s.ready = true ∨ s.boot.phase = 15) → (s.fn 0).d3 = false →
      let k := s.mbArg 0
      let slot := s.mbArg 0 % 2
      let ends := fun (u : State) (result : Nat) (ws : List Nat) =>
        u.reg 0x3F0004C = BitVec.ofNat 32 result ∧ (∀ i, i < 16 → u.reg (0x3F00100 + 4 * i) = BitVec.ofNat 32 (ws.getD i 0)) ∧
        (s.resetting .mp = false → (u.reg 0x3F00010).getLsbD 0 = true) ∧
        s.RegsBut (0x3F0004C :: 0x3F00010 :: (List.range 16).map (fun i => 0x3F00100 + 4 * i)) u
      (∃ u, exec .settingRead s = .next u ∧ u.mp = s.mp ∧
        (settingKey k = true → ends u 0 [s.mp.settings.value k]) ∧ (settingKey k = false → ends u 2 [])) ∧
      (∃ u, exec .settingWrite s = .next u ∧
        (settingKey k = true → ends u 0 [] ∧ u.mp.settings.value k = s.mbArg 1 ∧ u.mp.settings.writes = s.mp.settings.writes + 1 ∧
          ∀ j, j ≠ k → u.mp.settings.value j = s.mp.settings.value j) ∧
        (settingKey k = false → ends u 2 [] ∧ u.mp = s.mp)) ∧
      (s.boot.phase ≠ 15 →
        (∃ u, exec .censusRead s = .next u ∧ ends u 0 (censusData s k) ∧ u.mp = s.mp) ∧
        (∃ u, exec .ffClear s = .next u ∧
          (k = s.mp.ffCount → ends u 0 [] ∧ ∀ i, u.mp.record i = if i < 256 then morDefault i else s.mp.record i) ∧
          (k ≠ s.mp.ffCount → ends u 3 [] ∧ u.mp = s.mp)) ∧
        ((s.mp.selectable slot = false ∨ s.staging slot = true) →
          ∃ u, exec (.activateSlot torn) s = .next u ∧ ends u 3 [] ∧ u.mp = s.mp) ∧
        (s.mp.selectable slot = true → s.staging slot = false →
          (∃ u, exec (.activateSlot false) s = .next u ∧ ends u 0 [] ∧ u.mp = (s.activateSlot slot false).mp) ∧
          exec (.activateSlot true) s = .next (s.activateSlot slot true))) ∧
      (s.resetting .mp = false → ∃ u, exec (.morIdxWrite v) s = .next u ∧ u.regF 0x3F00080 17 0 = bitsOf v.toNat 17 0 ∧
        (∀ i, i < 16 → u.reg (0x3F000C0 + 4 * i) = BitVec.ofNat 32 (w32At (s.mp.record (bitsOf v.toNat 17 0)) (4 * i))) ∧
        s.RegsBut (0x3F00080 :: (List.range 16).map (fun i => 0x3F000C0 + 4 * i)) u ∧ u.mp = s.mp))) ∧
  (∀ (s : State),
    ((s.mpLive = false ∨ s.boot.startRecorded = false ∨ s.mp.queue = []) → exec .moraineWrite s = .next s) ∧
    (∀ e rest, s.mpLive = true → s.boot.startRecorded = true → s.mp.queue = e :: rest → ∃ u, exec .moraineWrite s = .next u ∧
      let bs := morBytes (s.mp.seq % 2 ^ 32) s.boot.count e
      let first := 2 ≤ (Config.morSev (morNumber e.event)).toNat ∧ s.mp.ffCount < 256
      u.mp.record (256 + s.mp.seq % 261888) = bs ∧ u.mp.seq = s.mp.seq + 1 ∧
      (first → u.mp.record s.mp.ffCount = bs ∧ (s.resetting .mp = false → (u.reg (pageBase .mp + 0x10)).getLsbD 1 = true)) ∧
      (∀ i, i ≠ 256 + s.mp.seq % 261888 → (first → i ≠ s.mp.ffCount) → u.mp.record i = s.mp.record i) ∧
      (¬ first → u.regs = s.regs ∧ u.out = s.out) ∧
      (s.mp.dropped = 0 → u.mp.queue = rest ∧ u.mp.dropped = 0) ∧
      (0 < s.mp.dropped → rest.length < 1024 → u.mp.dropped = 0 ∧
        ∃ d : MorEntry, u.mp.queue = rest ++ [d] ∧ d.event = .dropped ∧ d.payload = [BitVec.ofNat 32 s.mp.dropped]) ∧
      u.mp.flash = s.mp.flash ∧ s.Only [.out, .regs, .msix, .mp] u)) ∧
  (∀ (s : State),
    (intervalEndOk s = false → exec .moraineIntervalEnd s = .next s) ∧
    (intervalEndOk s = true → ∃ u, exec .moraineIntervalEnd s = .next u ∧ u.mp.queued = [] ∧ s.Only [.regs, .mp] u ∧
      (s.mp.queue.length + (suppressedEntries s).length ≤ 1024 →
        u.mp.queue = s.mp.queue ++ suppressedEntries s ∧ u.mp.dropped = s.mp.dropped ∧ u.regs = s.regs)))

/-- R196. -/
def Obligations.MinMaxAbsNeg : Prop :=
  ∀ (s : State) (g : Vale) (i : RFmt) (k : Nat) (c : Cmd) (b : Blk), i.c = 0 → i.mod = 0 →
    let js := s.executing g.val b i.pred i.pneg
    let x := fun j => (s.lane g.val j).reg i.a.toNat
    let y := fun j => (s.lane g.val j).reg i.b.toNat
    let quiet := fun (r : Nat → LaneRes) => ∀ j, (r j).flags = 0#4 ∧ (r j).sat = 0
    let nan := fun (w : Word) => fval w = .nan
    (Issues s g (wordR i 0x05) k c b → ∃ (t : State) (r : Nat → LaneRes), exec (.fmin g i) s = .next t ∧
      LaneStep s t g k c b js i.d.toNat 1 r ∧ quiet r ∧ ∀ j,
        ((nan (x j) ∨ nan (y j)) → (r j).w = 0x7FC00000#32) ∧
        (¬ nan (x j) → ¬ nan (y j) → ((r j).w = x j ∨ (r j).w = y j) ∧
          Val.lt (fval (x j)) (fval (r j).w) = false ∧ Val.lt (fval (y j)) (fval (r j).w) = false) ∧
        ((x j = 0x80000000#32 ∧ y j = 0#32 ∨ x j = 0#32 ∧ y j = 0x80000000#32) → (r j).w = 0x80000000#32)) ∧
    (Issues s g (wordR i 0x06) k c b → ∃ (t : State) (r : Nat → LaneRes), exec (.fmax g i) s = .next t ∧
      LaneStep s t g k c b js i.d.toNat 1 r ∧ quiet r ∧ ∀ j,
        ((nan (x j) ∨ nan (y j)) → (r j).w = 0x7FC00000#32) ∧
        (¬ nan (x j) → ¬ nan (y j) → ((r j).w = x j ∨ (r j).w = y j) ∧
          Val.lt (fval (r j).w) (fval (x j)) = false ∧ Val.lt (fval (r j).w) (fval (y j)) = false) ∧
        ((x j = 0x80000000#32 ∧ y j = 0#32 ∨ x j = 0#32 ∧ y j = 0x80000000#32) → (r j).w = 0#32)) ∧
    (i.b = 0 → Issues s g (wordR i 0x07) k c b → ∃ (t : State) (r : Nat → LaneRes), exec (.fabs g i) s = .next t ∧
      LaneStep s t g k c b js i.d.toNat 1 r ∧ quiet r ∧ ∀ j, (nan (x j) → (r j).w = 0x7FC00000#32) ∧
        (¬ nan (x j) → ∀ m, m < 32 → (r j).w.getLsbD m = ((x j).getLsbD m && m != 31))) ∧
    (i.b = 0 → Issues s g (wordR i 0x08) k c b → ∃ (t : State) (r : Nat → LaneRes), exec (.fneg g i) s = .next t ∧
      LaneStep s t g k c b js i.d.toNat 1 r ∧ quiet r ∧ ∀ j, (nan (x j) → (r j).w = 0x7FC00000#32) ∧
        (¬ nan (x j) → ∀ m, m < 32 → (r j).w.getLsbD m = ((x j).getLsbD m != (m == 31))))

/-- R283: reads of the page's registers through the model's view of a register, reads that are commands, and every write. The page has no
soft reset (R587), which the premise on it says. -/
def Obligations.FreePartitionsPageIsClosed : Prop :=
  ∀ (s : State) (n : PartId), (s.part n.val).mode = .free → s.resetting (.part n) = false →
    (∀ o, 0x40 ≤ o → o < 0x20000 → viewReg s (partBase n.val + o) = 0#32) ∧
    (∀ o, o < 0x40 → ∀ m, viewReg (s.modPart n.val fun p => { p with mode := m }) (partBase n.val + o) = viewReg s (partBase n.val + o)) ∧
    (∀ o, Serves s (.vf n) = true → 0x40 ≤ o → o < 0x20000 → s.shadow (.vf n) (partBase n.val + o) = none →
      (rcAddr (.vf n) o = true → ∃ t, exec (.rcFieldRead (.vf n) o) s = .next t ∧ t.out = s.out ++ [.read (.vf n) o 0#64]) ∧
      (shadowAddr s (.vf n) o = true → ∃ t, exec (.lowWordRead (.vf n) o) s = .next t ∧ t.out = s.out ++ [.read (.vf n) o 0#64])) ∧
    (∀ (o width : Nat) (v : BitVec 64), Serves s (.vf n) = true → 0x40 ≤ o → o < 0x20000 →
      ∃ t, exec (.registerWrite (.bar (.vf n)) o width v) s = .next t ∧ s.RegsBut [] t ∧ s.Only [.regs] t) ∧
    (∀ (j : Job) (v : BitVec 32) (c : Instr), Serves s (.vf n) = true →
      c ∈ [.sqDoorbell n j v, .vqDoorbell n v, .uqDoorbell n v, .rqDoorbell n v, .cqHeadWrite n v] → exec c s = .next s)
end

