-- ==== Sys2Proof/Laws/Bits.lean ====
section
/-! SUPPORT. Bits: the bits of a field written into a register. -/

namespace Sys2Proof.Machine

/-- Bit i of a number with a field replaced. -/
theorem putBits_testBit (x hi lo v i : Nat) (h : lo ≤ hi) :
    (putBits x hi lo v).testBit i = if lo ≤ i ∧ i ≤ hi then v.testBit (i - lo) else x.testBit i := by
  unfold putBits bitsOf
  have hx : x = 2 ^ (hi + 1) * (x / 2 ^ (hi + 1)) + (2 ^ lo * ((x >>> lo) % 2 ^ (hi + 1 - lo)) + x % 2 ^ lo) := by
    have e : 2 ^ (hi + 1) = 2 ^ lo * 2 ^ (hi + 1 - lo) := by rw [← Nat.pow_add]; congr 1; omega
    have a := Nat.div_add_mod x (2 ^ lo)
    have b := Nat.div_add_mod (x / 2 ^ lo) (2 ^ (hi + 1 - lo))
    rw [Nat.div_div_eq_div_mul, ← e] at b
    rw [Nat.shiftRight_eq_div_pow]
    calc x = 2 ^ lo * (x / 2 ^ lo) + x % 2 ^ lo := a.symm
      _ = 2 ^ lo * (2 ^ (hi + 1 - lo) * (x / 2 ^ (hi + 1)) + x / 2 ^ lo % 2 ^ (hi + 1 - lo)) + x % 2 ^ lo := by rw [b]
      _ = _ := by rw [e]; simp only [Nat.mul_add, Nat.mul_assoc, Nat.add_assoc]
  generalize (x >>> lo) % 2 ^ (hi + 1 - lo) = f at hx ⊢
  have hl : x % 2 ^ lo < 2 ^ lo := Nat.mod_lt _ (Nat.two_pow_pos lo)
  generalize hm : x % 2 ^ lo = m at hx hl
  generalize hq : x / 2 ^ (hi + 1) = q at hx
  have hv : v % 2 ^ (hi + 1 - lo) < 2 ^ (hi + 1 - lo) := Nat.mod_lt _ (Nat.two_pow_pos _)
  have hsum : 2 ^ lo * (v % 2 ^ (hi + 1 - lo)) + m < 2 ^ (hi + 1) := by
    have e : 2 ^ (hi + 1) = 2 ^ lo * 2 ^ (hi + 1 - lo) := by rw [← Nat.pow_add]; congr 1; omega
    have : 2 ^ lo * (v % 2 ^ (hi + 1 - lo) + 1) ≤ 2 ^ lo * 2 ^ (hi + 1 - lo) := Nat.mul_le_mul_left _ hv
    rw [e]; rw [Nat.mul_add] at this; omega
  have hnew : x - f * 2 ^ lo + v % 2 ^ (hi + 1 - lo) * 2 ^ lo =
      2 ^ (hi + 1) * q + (2 ^ lo * (v % 2 ^ (hi + 1 - lo)) + m) := by
    rw [hx, Nat.mul_comm f, Nat.mul_comm (v % _)]; omega
  rw [hnew, Nat.testBit_two_pow_mul_add _ hsum, Nat.testBit_two_pow_mul_add _ hl]
  by_cases h1 : i < lo
  · have : i < hi + 1 := by omega
    rw [if_pos this, if_pos h1, if_neg (by omega), ← hm, Nat.testBit_mod_two_pow]; simp [h1]
  · by_cases h2 : i < hi + 1
    · rw [if_pos h2, if_neg h1, if_pos (by omega), Nat.testBit_mod_two_pow]
      have : i - lo < hi + 1 - lo := by omega
      simp [this]
    · rw [if_neg h2, if_neg (by omega), ← hq, Nat.testBit_div_two_pow]; congr 1; omega

/-- Bit i of a register with a field replaced. -/
theorem setField_bit (w : Word) (hi lo v i : Nat) (h : lo ≤ hi) (hh : hi < 32) :
    (setField w hi lo v).getLsbD i = if lo ≤ i ∧ i ≤ hi then v.testBit (i - lo) else w.getLsbD i := by
  unfold setField
  rw [BitVec.getLsbD_ofNat, putBits_testBit _ _ _ _ _ h]
  by_cases h3 : i < 32
  · simp [h3, BitVec.getLsbD]
  · have : ¬ (lo ≤ i ∧ i ≤ hi) := by omega
    simp [h3, this]
    exact BitVec.getLsbD_of_ge w i (by omega)

/-- Bit i of a field. -/
theorem fieldOf_testBit (w : Word) (hi lo i : Nat) (_ : lo ≤ hi) :
    (fieldOf w hi lo).testBit i = (decide (i < hi + 1 - lo) && w.getLsbD (lo + i)) := by
  unfold fieldOf bitsOf
  rw [Nat.testBit_mod_two_pow, Nat.testBit_shiftRight]; rfl

/-- A field read back after it was written. -/
theorem fieldOf_setField_same (w : Word) (hi lo v : Nat) (h : lo ≤ hi) (hh : hi < 32) :
    fieldOf (setField w hi lo v) hi lo = v % 2 ^ (hi + 1 - lo) := by
  apply Nat.eq_of_testBit_eq
  intro i
  rw [fieldOf_testBit _ _ _ _ h, setField_bit _ _ _ _ _ h hh, Nat.testBit_mod_two_pow]
  by_cases k : i < hi + 1 - lo
  · have : lo ≤ lo + i ∧ lo + i ≤ hi := by omega
    simp [k, this]
  · simp [k]

/-- A field that lies apart from the one written stays. -/
theorem fieldOf_setField_apart (w : Word) (hi lo v hi' lo' : Nat) (h : lo ≤ hi) (hh : hi < 32) (h' : lo' ≤ hi') (ha : hi' < lo ∨ hi < lo') :
    fieldOf (setField w hi lo v) hi' lo' = fieldOf w hi' lo' := by
  apply Nat.eq_of_testBit_eq
  intro i
  rw [fieldOf_testBit _ _ _ _ h', setField_bit _ _ _ _ _ h hh, fieldOf_testBit _ _ _ _ h']
  by_cases k : i < hi' + 1 - lo'
  · have : ¬ (lo ≤ lo' + i ∧ lo' + i ≤ hi) := by omega
    simp [this]
  · simp [k]

theorem and_mod_two (y x : Nat) : (y &&& x) % 2 = y % 2 * (x % 2) := by
  have h := Nat.and_mod_two_pow (a := y) (b := x) (n := 1)
  rw [Nat.pow_one] at h
  rw [h]
  rcases Nat.mod_two_eq_zero_or_one y with a | a <;> rcases Nat.mod_two_eq_zero_or_one x with b | b <;> rw [a, b] <;> rfl

theorem and_div_two' (y x : Nat) : (y &&& x) / 2 = y / 2 &&& x / 2 := by
  have := Nat.shiftRight_and_distrib (a := y) (b := x) (i := 1)
  simpa [Nat.shiftRight_succ] using this

/-- Bits cleared: y - (y &&& x) holds the bits of y that x does not. -/
theorem sub_and_testBit (y x i : Nat) : (y - (y &&& x)).testBit i = (y.testBit i && !x.testBit i) := by
  have hle : y &&& x ≤ y := Nat.and_le_left
  have hm := and_mod_two y x
  have hd := and_div_two' y x
  induction i generalizing y x with
  | zero =>
    simp only [Nat.testBit_zero]
    generalize (y &&& x) = z at *
    rcases Nat.mod_two_eq_zero_or_one y with a | a <;> rcases Nat.mod_two_eq_zero_or_one x with b | b <;>
      rw [a, b] at hm <;> simp [a, b] <;> omega
  | succ i ih =>
    have : (y - (y &&& x)) / 2 = y / 2 - (y / 2 &&& x / 2) := by
      rw [← hd]
      generalize (y &&& x) = z at *
      rcases Nat.mod_two_eq_zero_or_one y with a | a <;> rcases Nat.mod_two_eq_zero_or_one x with b | b <;>
        rw [a, b] at hm <;> omega
    rw [Nat.testBit_succ, Nat.testBit_succ, Nat.testBit_succ, this]
    exact ih (y / 2) (x / 2) Nat.and_le_left (and_mod_two _ _) (and_div_two' _ _)

end Sys2Proof.Machine
end

