-- ==== Sys2Proof/Laws/Sparse.lean ====
section
/-! SUPPORT. Sparse: the laws of sparse data: a read after a write, and that every operation keeps the canonical form. -/

namespace Sys2Proof.Machine

section
variable {α : Type} (d : Nat → α)

@[simp] theorem Sparse.get_nil (k : Nat) : Sparse.get d [] k = d k := rfl

theorem Sparse.get_insert_same (m : List (Nat × α)) (k : Nat) (v : α) :
    Sparse.get d (Sparse.insert k v (Sparse.erase k m)) k = v := by
  induction m with
  | nil => simp [Sparse.erase, Sparse.insert, Sparse.get]
  | cons e m ih =>
    obtain ⟨i, w⟩ := e
    by_cases h : i = k
    · simpa [Sparse.erase, h] using ih
    · by_cases hk : k < i
      · simp [Sparse.erase, h, Sparse.insert, hk, Sparse.get]
      · simpa [Sparse.erase, h, Sparse.insert, hk, Sparse.get] using ih

theorem Sparse.get_insert_other (m : List (Nat × α)) {k j : Nat} (v : α) (h : j ≠ k) :
    Sparse.get d (Sparse.insert k v m) j = Sparse.get d m j := by
  induction m with
  | nil => simp [Sparse.insert, Sparse.get, Ne.symm h]
  | cons e m ih =>
    obtain ⟨i, w⟩ := e
    by_cases hk : k < i
    · simp [Sparse.insert, hk, Sparse.get, Ne.symm h]
    · simp [Sparse.insert, hk, Sparse.get, ih]

theorem Sparse.get_erase_same (m : List (Nat × α)) (k : Nat) : Sparse.get d (Sparse.erase k m) k = d k := by
  induction m with
  | nil => rfl
  | cons e m ih =>
    obtain ⟨i, w⟩ := e
    by_cases h : i = k <;> simp [Sparse.erase, h, Sparse.get, ih]

theorem Sparse.get_erase_other (m : List (Nat × α)) {k j : Nat} (h : j ≠ k) :
    Sparse.get d (Sparse.erase k m) j = Sparse.get d m j := by
  induction m with
  | nil => rfl
  | cons e m ih =>
    obtain ⟨i, w⟩ := e
    by_cases hi : i = k
    · simp [Sparse.erase, hi, Sparse.get, ih, Ne.symm h]
    · simp [Sparse.erase, hi, Sparse.get, ih]

theorem Sparse.mem_erase {k : Nat} {m : List (Nat × α)} {e : Nat × α} :
    e ∈ Sparse.erase k m ↔ e ∈ m ∧ e.1 ≠ k := by
  induction m with
  | nil => simp [Sparse.erase]
  | cons f m ih =>
    obtain ⟨i, w⟩ := f
    by_cases h : i = k
    · simp only [Sparse.erase, h, if_true, ih, List.mem_cons]
      constructor
      · rintro ⟨h1, h2⟩; exact ⟨.inr h1, h2⟩
      · rintro ⟨h1 | h1, h2⟩
        · subst h1; exact absurd rfl h2
        · exact ⟨h1, h2⟩
    · simp only [Sparse.erase, h, if_false, ih, List.mem_cons]
      constructor
      · rintro (h1 | h1)
        · subst h1; exact ⟨.inl rfl, h⟩
        · exact ⟨.inr h1.1, h1.2⟩
      · rintro ⟨h1 | h1, h2⟩
        · exact .inl h1
        · exact .inr ⟨h1, h2⟩

theorem Sparse.mem_insert {k : Nat} {v : α} {m : List (Nat × α)} {e : Nat × α} :
    e ∈ Sparse.insert k v m ↔ e = (k, v) ∨ e ∈ m := by
  induction m with
  | nil => simp [Sparse.insert]
  | cons f m ih =>
    obtain ⟨i, w⟩ := f
    by_cases h : k < i
    · simp [Sparse.insert, h]
    · simp only [Sparse.insert, h, if_false, List.mem_cons, ih]; exact or_left_comm

theorem Sparse.rising_some_iff {lo : Nat} {m : List (Nat × α)} :
    Sparse.rising (some lo) m = true ↔ Sparse.rising none m = true ∧ ∀ e ∈ m, lo < e.1 := by
  induction m generalizing lo with
  | nil => simp [Sparse.rising]
  | cons f m ih =>
    obtain ⟨i, w⟩ := f
    simp only [Sparse.rising, Bool.and_eq_true, decide_eq_true_eq, List.mem_cons]
    constructor
    · rintro ⟨h1, h2⟩
      refine ⟨h2, ?_⟩
      rintro e (rfl | he)
      · exact h1
      · exact Nat.lt_trans h1 ((ih.1 h2).2 e he)
    · rintro ⟨h1, h2⟩; exact ⟨h2 (i, w) (.inl rfl), h1⟩

theorem Sparse.rising_cons {i : Nat} {w : α} {m : List (Nat × α)} :
    Sparse.rising none ((i, w) :: m) = true ↔ Sparse.rising none m = true ∧ ∀ e ∈ m, i < e.1 := by
  rw [← Sparse.rising_some_iff]; rfl

theorem Sparse.rising_filter (p : Nat × α → Bool) (m : List (Nat × α)) (hm : Sparse.rising none m = true) :
    Sparse.rising none (m.filter p) = true := by
  induction m with
  | nil => rfl
  | cons f m ih =>
    obtain ⟨i, w⟩ := f
    rw [Sparse.rising_cons] at hm
    by_cases h : p (i, w) = true
    · rw [List.filter_cons_of_pos h, Sparse.rising_cons]
      exact ⟨ih hm.1, fun e he => hm.2 e ((List.mem_filter.1 he).1)⟩
    · rw [List.filter_cons_of_neg h]; exact ih hm.1

theorem Sparse.rising_none_erase (k : Nat) (m : List (Nat × α)) (hm : Sparse.rising none m = true) :
    Sparse.rising none (Sparse.erase k m) = true := by
  induction m with
  | nil => rfl
  | cons f m ih =>
    obtain ⟨i, w⟩ := f
    rw [Sparse.rising_cons] at hm
    by_cases h : i = k
    · simpa [Sparse.erase, h] using ih hm.1
    · simp only [Sparse.erase, h, if_false, Sparse.rising_cons]
      exact ⟨ih hm.1, fun e he => hm.2 e (Sparse.mem_erase.1 he).1⟩

theorem Sparse.rising_none_insert (k : Nat) (v : α) (m : List (Nat × α)) (hm : Sparse.rising none m = true)
    (hk : ∀ e ∈ m, e.1 ≠ k) : Sparse.rising none (Sparse.insert k v m) = true := by
  induction m with
  | nil => rfl
  | cons f m ih =>
    obtain ⟨i, w⟩ := f
    have hi : i ≠ k := hk (i, w) (by simp)
    by_cases h : k < i
    · simp only [Sparse.insert, h, if_true]
      rw [Sparse.rising_cons]
      refine ⟨hm, ?_⟩
      rw [Sparse.rising_cons] at hm
      intro e he
      rcases List.mem_cons.1 he with rfl | he
      · exact h
      · exact Nat.lt_trans h (hm.2 e he)
    · rw [Sparse.rising_cons] at hm
      simp only [Sparse.insert, h, if_false, Sparse.rising_cons]
      refine ⟨ih hm.1 fun e he => hk e (by simp [he]), ?_⟩
      intro e he
      rcases Sparse.mem_insert.1 he with rfl | he
      · show i < k; omega
      · exact hm.2 e he

/-- A read after entries were dropped. -/
theorem Sparse.get_filter (m : List (Nat × α)) (p : Nat → Bool) (k : Nat) :
    Sparse.get d (m.filter fun e => p e.1) k = if p k then Sparse.get d m k else d k := by
  induction m with
  | nil => simp
  | cons f m ih =>
    obtain ⟨i, w⟩ := f
    by_cases hp : p i = true
    · rw [List.filter_cons_of_pos (by simpa using hp)]
      by_cases hi : i = k
      · subst hi; simp [Sparse.get, hp]
      · simp [Sparse.get, hi, ih]
    · rw [List.filter_cons_of_neg (by simpa using hp), ih]
      by_cases hi : i = k
      · subst hi; simp [hp]
      · simp [Sparse.get, hi]

end

section
variable {α : Type} [DecidableEq α] (d : Nat → α)

/-- A read of the key just written gives the value written. -/
@[simp] theorem Sparse.get_set_same (m : List (Nat × α)) (k : Nat) (v : α) : Sparse.get d (Sparse.set d m k v) k = v := by
  unfold Sparse.set
  split
  · rename_i h; rw [Sparse.get_erase_same, h]
  · exact Sparse.get_insert_same d m k v

/-- A write of one key leaves every other key alone. -/
theorem Sparse.get_set_other (m : List (Nat × α)) {k j : Nat} (v : α) (h : j ≠ k) :
    Sparse.get d (Sparse.set d m k v) j = Sparse.get d m j := by
  unfold Sparse.set
  split
  · exact Sparse.get_erase_other d m h
  · rw [Sparse.get_insert_other d _ v h, Sparse.get_erase_other d m h]

/-- A read after a write of one key. -/
theorem Sparse.get_set (m : List (Nat × α)) (k j : Nat) (v : α) :
    Sparse.get d (Sparse.set d m k v) j = if j = k then v else Sparse.get d m j := by
  split
  · rename_i h; rw [h, Sparse.get_set_same]
  · rename_i h; exact Sparse.get_set_other d m v h

theorem Sparse.wf_iff {m : List (Nat × α)} :
    Sparse.wf d m = true ↔ Sparse.rising none m = true ∧ ∀ e ∈ m, e.2 ≠ d e.1 := by
  simp [Sparse.wf]

/-- A write keeps the canonical form. -/
@[simp] theorem Sparse.set_wf (m : List (Nat × α)) (k : Nat) (v : α) (hm : Sparse.wf d m = true) :
    Sparse.wf d (Sparse.set d m k v) = true := by
  rw [Sparse.wf_iff] at hm ⊢
  unfold Sparse.set
  split
  · exact ⟨Sparse.rising_none_erase k m hm.1, fun e he => hm.2 e (Sparse.mem_erase.1 he).1⟩
  · rename_i hv
    refine ⟨Sparse.rising_none_insert k v _ (Sparse.rising_none_erase k m hm.1) fun e he => (Sparse.mem_erase.1 he).2, ?_⟩
    intro e he
    rcases Sparse.mem_insert.1 he with rfl | he
    · exact hv
    · exact hm.2 e (Sparse.mem_erase.1 he).1

/-- Dropping entries keeps the canonical form. -/
@[simp] theorem Sparse.filter_wf (m : List (Nat × α)) (p : Nat × α → Bool) (hm : Sparse.wf d m = true) :
    Sparse.wf d (m.filter p) = true := by
  rw [Sparse.wf_iff] at hm ⊢
  exact ⟨Sparse.rising_filter p m hm.1, fun e he => hm.2 e ((List.mem_filter.1 he).1)⟩

@[simp] theorem Sparse.wf_nil : Sparse.wf d ([] : List (Nat × α)) = true := rfl

end

end Sys2Proof.Machine
end

