-- ==== Sys2Proof/Laws/State.lean ====
section
/-! SUPPORT. State: one lemma per field per update of one unit, so that no proof unfolds a record update, and what each unit
reads as after an update. -/

namespace Sys2Proof.Machine

/-! ### setPart -/

@[simp] theorem State.setPart_pending (s : State) (n : Nat) (p : Part) : (s.setPart n p).pending = s.pending := rfl
@[simp] theorem State.setPart_clock (s : State) (n : Nat) (p : Part) : (s.setPart n p).clock = s.clock := rfl
@[simp] theorem State.setPart_free (s : State) (n : Nat) (p : Part) : (s.setPart n p).free = s.free := rfl
@[simp] theorem State.setPart_out (s : State) (n : Nat) (p : Part) : (s.setPart n p).out = s.out := rfl
@[simp] theorem State.setPart_regs (s : State) (n : Nat) (p : Part) : (s.setPart n p).regs = s.regs := rfl
@[simp] theorem State.setPart_shadows (s : State) (n : Nat) (p : Part) : (s.setPart n p).shadows = s.shadows := rfl
@[simp] theorem State.setPart_mem (s : State) (n : Nat) (p : Part) : (s.setPart n p).mem = s.mem := rfl
@[simp] theorem State.setPart_bad (s : State) (n : Nat) (p : Part) : (s.setPart n p).bad = s.bad := rfl
@[simp] theorem State.setPart_beat (s : State) (n : Nat) (p : Part) : (s.setPart n p).beat = s.beat := rfl
@[simp] theorem State.setPart_beatBefore (s : State) (n : Nat) (p : Part) : (s.setPart n p).beatBefore = s.beatBefore := rfl
@[simp] theorem State.setPart_fns (s : State) (n : Nat) (p : Part) : (s.setPart n p).fns = s.fns := rfl
@[simp] theorem State.setPart_msix (s : State) (n : Nat) (p : Part) : (s.setPart n p).msix = s.msix := rfl
@[simp] theorem State.setPart_grants (s : State) (n : Nat) (p : Part) : (s.setPart n p).grants = s.grants := rfl
@[simp] theorem State.setPart_grantOp (s : State) (n : Nat) (p : Part) : (s.setPart n p).grantOp = s.grantOp := rfl
@[simp] theorem State.setPart_vales (s : State) (n : Nat) (p : Part) : (s.setPart n p).vales = s.vales := rfl
@[simp] theorem State.setPart_slots (s : State) (n : Nat) (p : Part) : (s.setPart n p).slots = s.slots := rfl
@[simp] theorem State.setPart_links (s : State) (n : Nat) (p : Part) : (s.setPart n p).links = s.links := rfl
@[simp] theorem State.setPart_turns (s : State) (n : Nat) (p : Part) : (s.setPart n p).turns = s.turns := rfl
@[simp] theorem State.setPart_floors (s : State) (n : Nat) (p : Part) : (s.setPart n p).floors = s.floors := rfl
@[simp] theorem State.setPart_echo (s : State) (n : Nat) (p : Part) : (s.setPart n p).echo = s.echo := rfl
@[simp] theorem State.setPart_tests (s : State) (n : Nat) (p : Part) : (s.setPart n p).tests = s.tests := rfl
@[simp] theorem State.setPart_credits (s : State) (n : Nat) (p : Part) : (s.setPart n p).credits = s.credits := rfl
@[simp] theorem State.setPart_granted (s : State) (n : Nat) (p : Part) : (s.setPart n p).granted = s.granted := rfl
@[simp] theorem State.setPart_resets (s : State) (n : Nat) (p : Part) : (s.setPart n p).resets = s.resets := rfl
@[simp] theorem State.setPart_health (s : State) (n : Nat) (p : Part) : (s.setPart n p).health = s.health := rfl
@[simp] theorem State.setPart_terrace (s : State) (n : Nat) (p : Part) : (s.setPart n p).terrace = s.terrace := rfl
@[simp] theorem State.setPart_boot (s : State) (n : Nat) (p : Part) : (s.setPart n p).boot = s.boot := rfl
@[simp] theorem State.setPart_census (s : State) (n : Nat) (p : Part) : (s.setPart n p).census = s.census := rfl
@[simp] theorem State.setPart_mp (s : State) (n : Nat) (p : Part) : (s.setPart n p).mp = s.mp := rfl
@[simp] theorem State.setPart_pins (s : State) (n : Nat) (p : Part) : (s.setPart n p).pins = s.pins := rfl

/-! ### modPart -/

@[simp] theorem State.modPart_pending (s : State) (n : Nat) (f : Part → Part) : (s.modPart n f).pending = s.pending := rfl
@[simp] theorem State.modPart_clock (s : State) (n : Nat) (f : Part → Part) : (s.modPart n f).clock = s.clock := rfl
@[simp] theorem State.modPart_free (s : State) (n : Nat) (f : Part → Part) : (s.modPart n f).free = s.free := rfl
@[simp] theorem State.modPart_out (s : State) (n : Nat) (f : Part → Part) : (s.modPart n f).out = s.out := rfl
@[simp] theorem State.modPart_regs (s : State) (n : Nat) (f : Part → Part) : (s.modPart n f).regs = s.regs := rfl
@[simp] theorem State.modPart_shadows (s : State) (n : Nat) (f : Part → Part) : (s.modPart n f).shadows = s.shadows := rfl
@[simp] theorem State.modPart_mem (s : State) (n : Nat) (f : Part → Part) : (s.modPart n f).mem = s.mem := rfl
@[simp] theorem State.modPart_bad (s : State) (n : Nat) (f : Part → Part) : (s.modPart n f).bad = s.bad := rfl
@[simp] theorem State.modPart_beat (s : State) (n : Nat) (f : Part → Part) : (s.modPart n f).beat = s.beat := rfl
@[simp] theorem State.modPart_beatBefore (s : State) (n : Nat) (f : Part → Part) : (s.modPart n f).beatBefore = s.beatBefore := rfl
@[simp] theorem State.modPart_fns (s : State) (n : Nat) (f : Part → Part) : (s.modPart n f).fns = s.fns := rfl
@[simp] theorem State.modPart_msix (s : State) (n : Nat) (f : Part → Part) : (s.modPart n f).msix = s.msix := rfl
@[simp] theorem State.modPart_grants (s : State) (n : Nat) (f : Part → Part) : (s.modPart n f).grants = s.grants := rfl
@[simp] theorem State.modPart_grantOp (s : State) (n : Nat) (f : Part → Part) : (s.modPart n f).grantOp = s.grantOp := rfl
@[simp] theorem State.modPart_vales (s : State) (n : Nat) (f : Part → Part) : (s.modPart n f).vales = s.vales := rfl
@[simp] theorem State.modPart_slots (s : State) (n : Nat) (f : Part → Part) : (s.modPart n f).slots = s.slots := rfl
@[simp] theorem State.modPart_links (s : State) (n : Nat) (f : Part → Part) : (s.modPart n f).links = s.links := rfl
@[simp] theorem State.modPart_turns (s : State) (n : Nat) (f : Part → Part) : (s.modPart n f).turns = s.turns := rfl
@[simp] theorem State.modPart_floors (s : State) (n : Nat) (f : Part → Part) : (s.modPart n f).floors = s.floors := rfl
@[simp] theorem State.modPart_echo (s : State) (n : Nat) (f : Part → Part) : (s.modPart n f).echo = s.echo := rfl
@[simp] theorem State.modPart_tests (s : State) (n : Nat) (f : Part → Part) : (s.modPart n f).tests = s.tests := rfl
@[simp] theorem State.modPart_credits (s : State) (n : Nat) (f : Part → Part) : (s.modPart n f).credits = s.credits := rfl
@[simp] theorem State.modPart_granted (s : State) (n : Nat) (f : Part → Part) : (s.modPart n f).granted = s.granted := rfl
@[simp] theorem State.modPart_resets (s : State) (n : Nat) (f : Part → Part) : (s.modPart n f).resets = s.resets := rfl
@[simp] theorem State.modPart_health (s : State) (n : Nat) (f : Part → Part) : (s.modPart n f).health = s.health := rfl
@[simp] theorem State.modPart_terrace (s : State) (n : Nat) (f : Part → Part) : (s.modPart n f).terrace = s.terrace := rfl
@[simp] theorem State.modPart_boot (s : State) (n : Nat) (f : Part → Part) : (s.modPart n f).boot = s.boot := rfl
@[simp] theorem State.modPart_census (s : State) (n : Nat) (f : Part → Part) : (s.modPart n f).census = s.census := rfl
@[simp] theorem State.modPart_mp (s : State) (n : Nat) (f : Part → Part) : (s.modPart n f).mp = s.mp := rfl
@[simp] theorem State.modPart_pins (s : State) (n : Nat) (f : Part → Part) : (s.modPart n f).pins = s.pins := rfl

/-! ### setVale -/

@[simp] theorem State.setVale_pending (s : State) (g : Nat) (v : ValeSt) : (s.setVale g v).pending = s.pending := rfl
@[simp] theorem State.setVale_clock (s : State) (g : Nat) (v : ValeSt) : (s.setVale g v).clock = s.clock := rfl
@[simp] theorem State.setVale_free (s : State) (g : Nat) (v : ValeSt) : (s.setVale g v).free = s.free := rfl
@[simp] theorem State.setVale_out (s : State) (g : Nat) (v : ValeSt) : (s.setVale g v).out = s.out := rfl
@[simp] theorem State.setVale_regs (s : State) (g : Nat) (v : ValeSt) : (s.setVale g v).regs = s.regs := rfl
@[simp] theorem State.setVale_shadows (s : State) (g : Nat) (v : ValeSt) : (s.setVale g v).shadows = s.shadows := rfl
@[simp] theorem State.setVale_mem (s : State) (g : Nat) (v : ValeSt) : (s.setVale g v).mem = s.mem := rfl
@[simp] theorem State.setVale_bad (s : State) (g : Nat) (v : ValeSt) : (s.setVale g v).bad = s.bad := rfl
@[simp] theorem State.setVale_beat (s : State) (g : Nat) (v : ValeSt) : (s.setVale g v).beat = s.beat := rfl
@[simp] theorem State.setVale_beatBefore (s : State) (g : Nat) (v : ValeSt) : (s.setVale g v).beatBefore = s.beatBefore := rfl
@[simp] theorem State.setVale_fns (s : State) (g : Nat) (v : ValeSt) : (s.setVale g v).fns = s.fns := rfl
@[simp] theorem State.setVale_msix (s : State) (g : Nat) (v : ValeSt) : (s.setVale g v).msix = s.msix := rfl
@[simp] theorem State.setVale_grants (s : State) (g : Nat) (v : ValeSt) : (s.setVale g v).grants = s.grants := rfl
@[simp] theorem State.setVale_grantOp (s : State) (g : Nat) (v : ValeSt) : (s.setVale g v).grantOp = s.grantOp := rfl
@[simp] theorem State.setVale_parts (s : State) (g : Nat) (v : ValeSt) : (s.setVale g v).parts = s.parts := rfl
@[simp] theorem State.setVale_slots (s : State) (g : Nat) (v : ValeSt) : (s.setVale g v).slots = s.slots := rfl
@[simp] theorem State.setVale_links (s : State) (g : Nat) (v : ValeSt) : (s.setVale g v).links = s.links := rfl
@[simp] theorem State.setVale_turns (s : State) (g : Nat) (v : ValeSt) : (s.setVale g v).turns = s.turns := rfl
@[simp] theorem State.setVale_floors (s : State) (g : Nat) (v : ValeSt) : (s.setVale g v).floors = s.floors := rfl
@[simp] theorem State.setVale_echo (s : State) (g : Nat) (v : ValeSt) : (s.setVale g v).echo = s.echo := rfl
@[simp] theorem State.setVale_tests (s : State) (g : Nat) (v : ValeSt) : (s.setVale g v).tests = s.tests := rfl
@[simp] theorem State.setVale_credits (s : State) (g : Nat) (v : ValeSt) : (s.setVale g v).credits = s.credits := rfl
@[simp] theorem State.setVale_granted (s : State) (g : Nat) (v : ValeSt) : (s.setVale g v).granted = s.granted := rfl
@[simp] theorem State.setVale_resets (s : State) (g : Nat) (v : ValeSt) : (s.setVale g v).resets = s.resets := rfl
@[simp] theorem State.setVale_health (s : State) (g : Nat) (v : ValeSt) : (s.setVale g v).health = s.health := rfl
@[simp] theorem State.setVale_terrace (s : State) (g : Nat) (v : ValeSt) : (s.setVale g v).terrace = s.terrace := rfl
@[simp] theorem State.setVale_boot (s : State) (g : Nat) (v : ValeSt) : (s.setVale g v).boot = s.boot := rfl
@[simp] theorem State.setVale_census (s : State) (g : Nat) (v : ValeSt) : (s.setVale g v).census = s.census := rfl
@[simp] theorem State.setVale_mp (s : State) (g : Nat) (v : ValeSt) : (s.setVale g v).mp = s.mp := rfl
@[simp] theorem State.setVale_pins (s : State) (g : Nat) (v : ValeSt) : (s.setVale g v).pins = s.pins := rfl

/-! ### modVale -/

@[simp] theorem State.modVale_pending (s : State) (g : Nat) (f : ValeSt → ValeSt) : (s.modVale g f).pending = s.pending := rfl
@[simp] theorem State.modVale_clock (s : State) (g : Nat) (f : ValeSt → ValeSt) : (s.modVale g f).clock = s.clock := rfl
@[simp] theorem State.modVale_free (s : State) (g : Nat) (f : ValeSt → ValeSt) : (s.modVale g f).free = s.free := rfl
@[simp] theorem State.modVale_out (s : State) (g : Nat) (f : ValeSt → ValeSt) : (s.modVale g f).out = s.out := rfl
@[simp] theorem State.modVale_regs (s : State) (g : Nat) (f : ValeSt → ValeSt) : (s.modVale g f).regs = s.regs := rfl
@[simp] theorem State.modVale_shadows (s : State) (g : Nat) (f : ValeSt → ValeSt) : (s.modVale g f).shadows = s.shadows := rfl
@[simp] theorem State.modVale_mem (s : State) (g : Nat) (f : ValeSt → ValeSt) : (s.modVale g f).mem = s.mem := rfl
@[simp] theorem State.modVale_bad (s : State) (g : Nat) (f : ValeSt → ValeSt) : (s.modVale g f).bad = s.bad := rfl
@[simp] theorem State.modVale_beat (s : State) (g : Nat) (f : ValeSt → ValeSt) : (s.modVale g f).beat = s.beat := rfl
@[simp] theorem State.modVale_beatBefore (s : State) (g : Nat) (f : ValeSt → ValeSt) : (s.modVale g f).beatBefore = s.beatBefore := rfl
@[simp] theorem State.modVale_fns (s : State) (g : Nat) (f : ValeSt → ValeSt) : (s.modVale g f).fns = s.fns := rfl
@[simp] theorem State.modVale_msix (s : State) (g : Nat) (f : ValeSt → ValeSt) : (s.modVale g f).msix = s.msix := rfl
@[simp] theorem State.modVale_grants (s : State) (g : Nat) (f : ValeSt → ValeSt) : (s.modVale g f).grants = s.grants := rfl
@[simp] theorem State.modVale_grantOp (s : State) (g : Nat) (f : ValeSt → ValeSt) : (s.modVale g f).grantOp = s.grantOp := rfl
@[simp] theorem State.modVale_parts (s : State) (g : Nat) (f : ValeSt → ValeSt) : (s.modVale g f).parts = s.parts := rfl
@[simp] theorem State.modVale_slots (s : State) (g : Nat) (f : ValeSt → ValeSt) : (s.modVale g f).slots = s.slots := rfl
@[simp] theorem State.modVale_links (s : State) (g : Nat) (f : ValeSt → ValeSt) : (s.modVale g f).links = s.links := rfl
@[simp] theorem State.modVale_turns (s : State) (g : Nat) (f : ValeSt → ValeSt) : (s.modVale g f).turns = s.turns := rfl
@[simp] theorem State.modVale_floors (s : State) (g : Nat) (f : ValeSt → ValeSt) : (s.modVale g f).floors = s.floors := rfl
@[simp] theorem State.modVale_echo (s : State) (g : Nat) (f : ValeSt → ValeSt) : (s.modVale g f).echo = s.echo := rfl
@[simp] theorem State.modVale_tests (s : State) (g : Nat) (f : ValeSt → ValeSt) : (s.modVale g f).tests = s.tests := rfl
@[simp] theorem State.modVale_credits (s : State) (g : Nat) (f : ValeSt → ValeSt) : (s.modVale g f).credits = s.credits := rfl
@[simp] theorem State.modVale_granted (s : State) (g : Nat) (f : ValeSt → ValeSt) : (s.modVale g f).granted = s.granted := rfl
@[simp] theorem State.modVale_resets (s : State) (g : Nat) (f : ValeSt → ValeSt) : (s.modVale g f).resets = s.resets := rfl
@[simp] theorem State.modVale_health (s : State) (g : Nat) (f : ValeSt → ValeSt) : (s.modVale g f).health = s.health := rfl
@[simp] theorem State.modVale_terrace (s : State) (g : Nat) (f : ValeSt → ValeSt) : (s.modVale g f).terrace = s.terrace := rfl
@[simp] theorem State.modVale_boot (s : State) (g : Nat) (f : ValeSt → ValeSt) : (s.modVale g f).boot = s.boot := rfl
@[simp] theorem State.modVale_census (s : State) (g : Nat) (f : ValeSt → ValeSt) : (s.modVale g f).census = s.census := rfl
@[simp] theorem State.modVale_mp (s : State) (g : Nat) (f : ValeSt → ValeSt) : (s.modVale g f).mp = s.mp := rfl
@[simp] theorem State.modVale_pins (s : State) (g : Nat) (f : ValeSt → ValeSt) : (s.modVale g f).pins = s.pins := rfl

/-! ### setCmd -/

@[simp] theorem State.setCmd_pending (s : State) (c : Nat) (x : Option Cmd) : (s.setCmd c x).pending = s.pending := rfl
@[simp] theorem State.setCmd_clock (s : State) (c : Nat) (x : Option Cmd) : (s.setCmd c x).clock = s.clock := rfl
@[simp] theorem State.setCmd_free (s : State) (c : Nat) (x : Option Cmd) : (s.setCmd c x).free = s.free := rfl
@[simp] theorem State.setCmd_out (s : State) (c : Nat) (x : Option Cmd) : (s.setCmd c x).out = s.out := rfl
@[simp] theorem State.setCmd_regs (s : State) (c : Nat) (x : Option Cmd) : (s.setCmd c x).regs = s.regs := rfl
@[simp] theorem State.setCmd_shadows (s : State) (c : Nat) (x : Option Cmd) : (s.setCmd c x).shadows = s.shadows := rfl
@[simp] theorem State.setCmd_mem (s : State) (c : Nat) (x : Option Cmd) : (s.setCmd c x).mem = s.mem := rfl
@[simp] theorem State.setCmd_bad (s : State) (c : Nat) (x : Option Cmd) : (s.setCmd c x).bad = s.bad := rfl
@[simp] theorem State.setCmd_beat (s : State) (c : Nat) (x : Option Cmd) : (s.setCmd c x).beat = s.beat := rfl
@[simp] theorem State.setCmd_beatBefore (s : State) (c : Nat) (x : Option Cmd) : (s.setCmd c x).beatBefore = s.beatBefore := rfl
@[simp] theorem State.setCmd_fns (s : State) (c : Nat) (x : Option Cmd) : (s.setCmd c x).fns = s.fns := rfl
@[simp] theorem State.setCmd_msix (s : State) (c : Nat) (x : Option Cmd) : (s.setCmd c x).msix = s.msix := rfl
@[simp] theorem State.setCmd_grants (s : State) (c : Nat) (x : Option Cmd) : (s.setCmd c x).grants = s.grants := rfl
@[simp] theorem State.setCmd_grantOp (s : State) (c : Nat) (x : Option Cmd) : (s.setCmd c x).grantOp = s.grantOp := rfl
@[simp] theorem State.setCmd_vales (s : State) (c : Nat) (x : Option Cmd) : (s.setCmd c x).vales = s.vales := rfl
@[simp] theorem State.setCmd_parts (s : State) (c : Nat) (x : Option Cmd) : (s.setCmd c x).parts = s.parts := rfl
@[simp] theorem State.setCmd_links (s : State) (c : Nat) (x : Option Cmd) : (s.setCmd c x).links = s.links := rfl
@[simp] theorem State.setCmd_turns (s : State) (c : Nat) (x : Option Cmd) : (s.setCmd c x).turns = s.turns := rfl
@[simp] theorem State.setCmd_floors (s : State) (c : Nat) (x : Option Cmd) : (s.setCmd c x).floors = s.floors := rfl
@[simp] theorem State.setCmd_echo (s : State) (c : Nat) (x : Option Cmd) : (s.setCmd c x).echo = s.echo := rfl
@[simp] theorem State.setCmd_tests (s : State) (c : Nat) (x : Option Cmd) : (s.setCmd c x).tests = s.tests := rfl
@[simp] theorem State.setCmd_credits (s : State) (c : Nat) (x : Option Cmd) : (s.setCmd c x).credits = s.credits := rfl
@[simp] theorem State.setCmd_granted (s : State) (c : Nat) (x : Option Cmd) : (s.setCmd c x).granted = s.granted := rfl
@[simp] theorem State.setCmd_resets (s : State) (c : Nat) (x : Option Cmd) : (s.setCmd c x).resets = s.resets := rfl
@[simp] theorem State.setCmd_health (s : State) (c : Nat) (x : Option Cmd) : (s.setCmd c x).health = s.health := rfl
@[simp] theorem State.setCmd_terrace (s : State) (c : Nat) (x : Option Cmd) : (s.setCmd c x).terrace = s.terrace := rfl
@[simp] theorem State.setCmd_boot (s : State) (c : Nat) (x : Option Cmd) : (s.setCmd c x).boot = s.boot := rfl
@[simp] theorem State.setCmd_census (s : State) (c : Nat) (x : Option Cmd) : (s.setCmd c x).census = s.census := rfl
@[simp] theorem State.setCmd_mp (s : State) (c : Nat) (x : Option Cmd) : (s.setCmd c x).mp = s.mp := rfl
@[simp] theorem State.setCmd_pins (s : State) (c : Nat) (x : Option Cmd) : (s.setCmd c x).pins = s.pins := rfl

/-! ### modCmd -/

@[simp] theorem State.modCmd_pending (s : State) (c : Nat) (f : Cmd → Cmd) : (s.modCmd c f).pending = s.pending := by unfold State.modCmd; split <;> rfl
@[simp] theorem State.modCmd_clock (s : State) (c : Nat) (f : Cmd → Cmd) : (s.modCmd c f).clock = s.clock := by unfold State.modCmd; split <;> rfl
@[simp] theorem State.modCmd_free (s : State) (c : Nat) (f : Cmd → Cmd) : (s.modCmd c f).free = s.free := by unfold State.modCmd; split <;> rfl
@[simp] theorem State.modCmd_out (s : State) (c : Nat) (f : Cmd → Cmd) : (s.modCmd c f).out = s.out := by unfold State.modCmd; split <;> rfl
@[simp] theorem State.modCmd_regs (s : State) (c : Nat) (f : Cmd → Cmd) : (s.modCmd c f).regs = s.regs := by unfold State.modCmd; split <;> rfl
@[simp] theorem State.modCmd_shadows (s : State) (c : Nat) (f : Cmd → Cmd) : (s.modCmd c f).shadows = s.shadows := by unfold State.modCmd; split <;> rfl
@[simp] theorem State.modCmd_mem (s : State) (c : Nat) (f : Cmd → Cmd) : (s.modCmd c f).mem = s.mem := by unfold State.modCmd; split <;> rfl
@[simp] theorem State.modCmd_bad (s : State) (c : Nat) (f : Cmd → Cmd) : (s.modCmd c f).bad = s.bad := by unfold State.modCmd; split <;> rfl
@[simp] theorem State.modCmd_beat (s : State) (c : Nat) (f : Cmd → Cmd) : (s.modCmd c f).beat = s.beat := by unfold State.modCmd; split <;> rfl
@[simp] theorem State.modCmd_beatBefore (s : State) (c : Nat) (f : Cmd → Cmd) : (s.modCmd c f).beatBefore = s.beatBefore := by unfold State.modCmd; split <;> rfl
@[simp] theorem State.modCmd_fns (s : State) (c : Nat) (f : Cmd → Cmd) : (s.modCmd c f).fns = s.fns := by unfold State.modCmd; split <;> rfl
@[simp] theorem State.modCmd_msix (s : State) (c : Nat) (f : Cmd → Cmd) : (s.modCmd c f).msix = s.msix := by unfold State.modCmd; split <;> rfl
@[simp] theorem State.modCmd_grants (s : State) (c : Nat) (f : Cmd → Cmd) : (s.modCmd c f).grants = s.grants := by unfold State.modCmd; split <;> rfl
@[simp] theorem State.modCmd_grantOp (s : State) (c : Nat) (f : Cmd → Cmd) : (s.modCmd c f).grantOp = s.grantOp := by unfold State.modCmd; split <;> rfl
@[simp] theorem State.modCmd_vales (s : State) (c : Nat) (f : Cmd → Cmd) : (s.modCmd c f).vales = s.vales := by unfold State.modCmd; split <;> rfl
@[simp] theorem State.modCmd_parts (s : State) (c : Nat) (f : Cmd → Cmd) : (s.modCmd c f).parts = s.parts := by unfold State.modCmd; split <;> rfl
@[simp] theorem State.modCmd_links (s : State) (c : Nat) (f : Cmd → Cmd) : (s.modCmd c f).links = s.links := by unfold State.modCmd; split <;> rfl
@[simp] theorem State.modCmd_turns (s : State) (c : Nat) (f : Cmd → Cmd) : (s.modCmd c f).turns = s.turns := by unfold State.modCmd; split <;> rfl
@[simp] theorem State.modCmd_floors (s : State) (c : Nat) (f : Cmd → Cmd) : (s.modCmd c f).floors = s.floors := by unfold State.modCmd; split <;> rfl
@[simp] theorem State.modCmd_echo (s : State) (c : Nat) (f : Cmd → Cmd) : (s.modCmd c f).echo = s.echo := by unfold State.modCmd; split <;> rfl
@[simp] theorem State.modCmd_tests (s : State) (c : Nat) (f : Cmd → Cmd) : (s.modCmd c f).tests = s.tests := by unfold State.modCmd; split <;> rfl
@[simp] theorem State.modCmd_credits (s : State) (c : Nat) (f : Cmd → Cmd) : (s.modCmd c f).credits = s.credits := by unfold State.modCmd; split <;> rfl
@[simp] theorem State.modCmd_granted (s : State) (c : Nat) (f : Cmd → Cmd) : (s.modCmd c f).granted = s.granted := by unfold State.modCmd; split <;> rfl
@[simp] theorem State.modCmd_resets (s : State) (c : Nat) (f : Cmd → Cmd) : (s.modCmd c f).resets = s.resets := by unfold State.modCmd; split <;> rfl
@[simp] theorem State.modCmd_health (s : State) (c : Nat) (f : Cmd → Cmd) : (s.modCmd c f).health = s.health := by unfold State.modCmd; split <;> rfl
@[simp] theorem State.modCmd_terrace (s : State) (c : Nat) (f : Cmd → Cmd) : (s.modCmd c f).terrace = s.terrace := by unfold State.modCmd; split <;> rfl
@[simp] theorem State.modCmd_boot (s : State) (c : Nat) (f : Cmd → Cmd) : (s.modCmd c f).boot = s.boot := by unfold State.modCmd; split <;> rfl
@[simp] theorem State.modCmd_census (s : State) (c : Nat) (f : Cmd → Cmd) : (s.modCmd c f).census = s.census := by unfold State.modCmd; split <;> rfl
@[simp] theorem State.modCmd_mp (s : State) (c : Nat) (f : Cmd → Cmd) : (s.modCmd c f).mp = s.mp := by unfold State.modCmd; split <;> rfl
@[simp] theorem State.modCmd_pins (s : State) (c : Nat) (f : Cmd → Cmd) : (s.modCmd c f).pins = s.pins := by unfold State.modCmd; split <;> rfl

/-! ### setLink -/

@[simp] theorem State.setLink_pending (s : State) (k : Nat) (l : LinkSt) : (s.setLink k l).pending = s.pending := rfl
@[simp] theorem State.setLink_clock (s : State) (k : Nat) (l : LinkSt) : (s.setLink k l).clock = s.clock := rfl
@[simp] theorem State.setLink_free (s : State) (k : Nat) (l : LinkSt) : (s.setLink k l).free = s.free := rfl
@[simp] theorem State.setLink_out (s : State) (k : Nat) (l : LinkSt) : (s.setLink k l).out = s.out := rfl
@[simp] theorem State.setLink_regs (s : State) (k : Nat) (l : LinkSt) : (s.setLink k l).regs = s.regs := rfl
@[simp] theorem State.setLink_shadows (s : State) (k : Nat) (l : LinkSt) : (s.setLink k l).shadows = s.shadows := rfl
@[simp] theorem State.setLink_mem (s : State) (k : Nat) (l : LinkSt) : (s.setLink k l).mem = s.mem := rfl
@[simp] theorem State.setLink_bad (s : State) (k : Nat) (l : LinkSt) : (s.setLink k l).bad = s.bad := rfl
@[simp] theorem State.setLink_beat (s : State) (k : Nat) (l : LinkSt) : (s.setLink k l).beat = s.beat := rfl
@[simp] theorem State.setLink_beatBefore (s : State) (k : Nat) (l : LinkSt) : (s.setLink k l).beatBefore = s.beatBefore := rfl
@[simp] theorem State.setLink_fns (s : State) (k : Nat) (l : LinkSt) : (s.setLink k l).fns = s.fns := rfl
@[simp] theorem State.setLink_msix (s : State) (k : Nat) (l : LinkSt) : (s.setLink k l).msix = s.msix := rfl
@[simp] theorem State.setLink_grants (s : State) (k : Nat) (l : LinkSt) : (s.setLink k l).grants = s.grants := rfl
@[simp] theorem State.setLink_grantOp (s : State) (k : Nat) (l : LinkSt) : (s.setLink k l).grantOp = s.grantOp := rfl
@[simp] theorem State.setLink_vales (s : State) (k : Nat) (l : LinkSt) : (s.setLink k l).vales = s.vales := rfl
@[simp] theorem State.setLink_parts (s : State) (k : Nat) (l : LinkSt) : (s.setLink k l).parts = s.parts := rfl
@[simp] theorem State.setLink_slots (s : State) (k : Nat) (l : LinkSt) : (s.setLink k l).slots = s.slots := rfl
@[simp] theorem State.setLink_turns (s : State) (k : Nat) (l : LinkSt) : (s.setLink k l).turns = s.turns := rfl
@[simp] theorem State.setLink_floors (s : State) (k : Nat) (l : LinkSt) : (s.setLink k l).floors = s.floors := rfl
@[simp] theorem State.setLink_echo (s : State) (k : Nat) (l : LinkSt) : (s.setLink k l).echo = s.echo := rfl
@[simp] theorem State.setLink_tests (s : State) (k : Nat) (l : LinkSt) : (s.setLink k l).tests = s.tests := rfl
@[simp] theorem State.setLink_credits (s : State) (k : Nat) (l : LinkSt) : (s.setLink k l).credits = s.credits := rfl
@[simp] theorem State.setLink_granted (s : State) (k : Nat) (l : LinkSt) : (s.setLink k l).granted = s.granted := rfl
@[simp] theorem State.setLink_resets (s : State) (k : Nat) (l : LinkSt) : (s.setLink k l).resets = s.resets := rfl
@[simp] theorem State.setLink_health (s : State) (k : Nat) (l : LinkSt) : (s.setLink k l).health = s.health := rfl
@[simp] theorem State.setLink_terrace (s : State) (k : Nat) (l : LinkSt) : (s.setLink k l).terrace = s.terrace := rfl
@[simp] theorem State.setLink_boot (s : State) (k : Nat) (l : LinkSt) : (s.setLink k l).boot = s.boot := rfl
@[simp] theorem State.setLink_census (s : State) (k : Nat) (l : LinkSt) : (s.setLink k l).census = s.census := rfl
@[simp] theorem State.setLink_mp (s : State) (k : Nat) (l : LinkSt) : (s.setLink k l).mp = s.mp := rfl
@[simp] theorem State.setLink_pins (s : State) (k : Nat) (l : LinkSt) : (s.setLink k l).pins = s.pins := rfl

/-! ### modLink -/

@[simp] theorem State.modLink_pending (s : State) (k : Nat) (f : LinkSt → LinkSt) : (s.modLink k f).pending = s.pending := rfl
@[simp] theorem State.modLink_clock (s : State) (k : Nat) (f : LinkSt → LinkSt) : (s.modLink k f).clock = s.clock := rfl
@[simp] theorem State.modLink_free (s : State) (k : Nat) (f : LinkSt → LinkSt) : (s.modLink k f).free = s.free := rfl
@[simp] theorem State.modLink_out (s : State) (k : Nat) (f : LinkSt → LinkSt) : (s.modLink k f).out = s.out := rfl
@[simp] theorem State.modLink_regs (s : State) (k : Nat) (f : LinkSt → LinkSt) : (s.modLink k f).regs = s.regs := rfl
@[simp] theorem State.modLink_shadows (s : State) (k : Nat) (f : LinkSt → LinkSt) : (s.modLink k f).shadows = s.shadows := rfl
@[simp] theorem State.modLink_mem (s : State) (k : Nat) (f : LinkSt → LinkSt) : (s.modLink k f).mem = s.mem := rfl
@[simp] theorem State.modLink_bad (s : State) (k : Nat) (f : LinkSt → LinkSt) : (s.modLink k f).bad = s.bad := rfl
@[simp] theorem State.modLink_beat (s : State) (k : Nat) (f : LinkSt → LinkSt) : (s.modLink k f).beat = s.beat := rfl
@[simp] theorem State.modLink_beatBefore (s : State) (k : Nat) (f : LinkSt → LinkSt) : (s.modLink k f).beatBefore = s.beatBefore := rfl
@[simp] theorem State.modLink_fns (s : State) (k : Nat) (f : LinkSt → LinkSt) : (s.modLink k f).fns = s.fns := rfl
@[simp] theorem State.modLink_msix (s : State) (k : Nat) (f : LinkSt → LinkSt) : (s.modLink k f).msix = s.msix := rfl
@[simp] theorem State.modLink_grants (s : State) (k : Nat) (f : LinkSt → LinkSt) : (s.modLink k f).grants = s.grants := rfl
@[simp] theorem State.modLink_grantOp (s : State) (k : Nat) (f : LinkSt → LinkSt) : (s.modLink k f).grantOp = s.grantOp := rfl
@[simp] theorem State.modLink_vales (s : State) (k : Nat) (f : LinkSt → LinkSt) : (s.modLink k f).vales = s.vales := rfl
@[simp] theorem State.modLink_parts (s : State) (k : Nat) (f : LinkSt → LinkSt) : (s.modLink k f).parts = s.parts := rfl
@[simp] theorem State.modLink_slots (s : State) (k : Nat) (f : LinkSt → LinkSt) : (s.modLink k f).slots = s.slots := rfl
@[simp] theorem State.modLink_turns (s : State) (k : Nat) (f : LinkSt → LinkSt) : (s.modLink k f).turns = s.turns := rfl
@[simp] theorem State.modLink_floors (s : State) (k : Nat) (f : LinkSt → LinkSt) : (s.modLink k f).floors = s.floors := rfl
@[simp] theorem State.modLink_echo (s : State) (k : Nat) (f : LinkSt → LinkSt) : (s.modLink k f).echo = s.echo := rfl
@[simp] theorem State.modLink_tests (s : State) (k : Nat) (f : LinkSt → LinkSt) : (s.modLink k f).tests = s.tests := rfl
@[simp] theorem State.modLink_credits (s : State) (k : Nat) (f : LinkSt → LinkSt) : (s.modLink k f).credits = s.credits := rfl
@[simp] theorem State.modLink_granted (s : State) (k : Nat) (f : LinkSt → LinkSt) : (s.modLink k f).granted = s.granted := rfl
@[simp] theorem State.modLink_resets (s : State) (k : Nat) (f : LinkSt → LinkSt) : (s.modLink k f).resets = s.resets := rfl
@[simp] theorem State.modLink_health (s : State) (k : Nat) (f : LinkSt → LinkSt) : (s.modLink k f).health = s.health := rfl
@[simp] theorem State.modLink_terrace (s : State) (k : Nat) (f : LinkSt → LinkSt) : (s.modLink k f).terrace = s.terrace := rfl
@[simp] theorem State.modLink_boot (s : State) (k : Nat) (f : LinkSt → LinkSt) : (s.modLink k f).boot = s.boot := rfl
@[simp] theorem State.modLink_census (s : State) (k : Nat) (f : LinkSt → LinkSt) : (s.modLink k f).census = s.census := rfl
@[simp] theorem State.modLink_mp (s : State) (k : Nat) (f : LinkSt → LinkSt) : (s.modLink k f).mp = s.mp := rfl
@[simp] theorem State.modLink_pins (s : State) (k : Nat) (f : LinkSt → LinkSt) : (s.modLink k f).pins = s.pins := rfl

/-! ### setTurn -/

@[simp] theorem State.setTurn_pending (s : State) (t : Nat) (x : Option TurnJob) : (s.setTurn t x).pending = s.pending := rfl
@[simp] theorem State.setTurn_clock (s : State) (t : Nat) (x : Option TurnJob) : (s.setTurn t x).clock = s.clock := rfl
@[simp] theorem State.setTurn_free (s : State) (t : Nat) (x : Option TurnJob) : (s.setTurn t x).free = s.free := rfl
@[simp] theorem State.setTurn_out (s : State) (t : Nat) (x : Option TurnJob) : (s.setTurn t x).out = s.out := rfl
@[simp] theorem State.setTurn_regs (s : State) (t : Nat) (x : Option TurnJob) : (s.setTurn t x).regs = s.regs := rfl
@[simp] theorem State.setTurn_shadows (s : State) (t : Nat) (x : Option TurnJob) : (s.setTurn t x).shadows = s.shadows := rfl
@[simp] theorem State.setTurn_mem (s : State) (t : Nat) (x : Option TurnJob) : (s.setTurn t x).mem = s.mem := rfl
@[simp] theorem State.setTurn_bad (s : State) (t : Nat) (x : Option TurnJob) : (s.setTurn t x).bad = s.bad := rfl
@[simp] theorem State.setTurn_beat (s : State) (t : Nat) (x : Option TurnJob) : (s.setTurn t x).beat = s.beat := rfl
@[simp] theorem State.setTurn_beatBefore (s : State) (t : Nat) (x : Option TurnJob) : (s.setTurn t x).beatBefore = s.beatBefore := rfl
@[simp] theorem State.setTurn_fns (s : State) (t : Nat) (x : Option TurnJob) : (s.setTurn t x).fns = s.fns := rfl
@[simp] theorem State.setTurn_msix (s : State) (t : Nat) (x : Option TurnJob) : (s.setTurn t x).msix = s.msix := rfl
@[simp] theorem State.setTurn_grants (s : State) (t : Nat) (x : Option TurnJob) : (s.setTurn t x).grants = s.grants := rfl
@[simp] theorem State.setTurn_grantOp (s : State) (t : Nat) (x : Option TurnJob) : (s.setTurn t x).grantOp = s.grantOp := rfl
@[simp] theorem State.setTurn_vales (s : State) (t : Nat) (x : Option TurnJob) : (s.setTurn t x).vales = s.vales := rfl
@[simp] theorem State.setTurn_parts (s : State) (t : Nat) (x : Option TurnJob) : (s.setTurn t x).parts = s.parts := rfl
@[simp] theorem State.setTurn_slots (s : State) (t : Nat) (x : Option TurnJob) : (s.setTurn t x).slots = s.slots := rfl
@[simp] theorem State.setTurn_links (s : State) (t : Nat) (x : Option TurnJob) : (s.setTurn t x).links = s.links := rfl
@[simp] theorem State.setTurn_floors (s : State) (t : Nat) (x : Option TurnJob) : (s.setTurn t x).floors = s.floors := rfl
@[simp] theorem State.setTurn_echo (s : State) (t : Nat) (x : Option TurnJob) : (s.setTurn t x).echo = s.echo := rfl
@[simp] theorem State.setTurn_tests (s : State) (t : Nat) (x : Option TurnJob) : (s.setTurn t x).tests = s.tests := rfl
@[simp] theorem State.setTurn_credits (s : State) (t : Nat) (x : Option TurnJob) : (s.setTurn t x).credits = s.credits := rfl
@[simp] theorem State.setTurn_granted (s : State) (t : Nat) (x : Option TurnJob) : (s.setTurn t x).granted = s.granted := rfl
@[simp] theorem State.setTurn_resets (s : State) (t : Nat) (x : Option TurnJob) : (s.setTurn t x).resets = s.resets := rfl
@[simp] theorem State.setTurn_health (s : State) (t : Nat) (x : Option TurnJob) : (s.setTurn t x).health = s.health := rfl
@[simp] theorem State.setTurn_terrace (s : State) (t : Nat) (x : Option TurnJob) : (s.setTurn t x).terrace = s.terrace := rfl
@[simp] theorem State.setTurn_boot (s : State) (t : Nat) (x : Option TurnJob) : (s.setTurn t x).boot = s.boot := rfl
@[simp] theorem State.setTurn_census (s : State) (t : Nat) (x : Option TurnJob) : (s.setTurn t x).census = s.census := rfl
@[simp] theorem State.setTurn_mp (s : State) (t : Nat) (x : Option TurnJob) : (s.setTurn t x).mp = s.mp := rfl
@[simp] theorem State.setTurn_pins (s : State) (t : Nat) (x : Option TurnJob) : (s.setTurn t x).pins = s.pins := rfl

/-! ### modTurn -/

@[simp] theorem State.modTurn_pending (s : State) (t : Nat) (f : TurnJob → TurnJob) : (s.modTurn t f).pending = s.pending := by unfold State.modTurn; split <;> rfl
@[simp] theorem State.modTurn_clock (s : State) (t : Nat) (f : TurnJob → TurnJob) : (s.modTurn t f).clock = s.clock := by unfold State.modTurn; split <;> rfl
@[simp] theorem State.modTurn_free (s : State) (t : Nat) (f : TurnJob → TurnJob) : (s.modTurn t f).free = s.free := by unfold State.modTurn; split <;> rfl
@[simp] theorem State.modTurn_out (s : State) (t : Nat) (f : TurnJob → TurnJob) : (s.modTurn t f).out = s.out := by unfold State.modTurn; split <;> rfl
@[simp] theorem State.modTurn_regs (s : State) (t : Nat) (f : TurnJob → TurnJob) : (s.modTurn t f).regs = s.regs := by unfold State.modTurn; split <;> rfl
@[simp] theorem State.modTurn_shadows (s : State) (t : Nat) (f : TurnJob → TurnJob) : (s.modTurn t f).shadows = s.shadows := by unfold State.modTurn; split <;> rfl
@[simp] theorem State.modTurn_mem (s : State) (t : Nat) (f : TurnJob → TurnJob) : (s.modTurn t f).mem = s.mem := by unfold State.modTurn; split <;> rfl
@[simp] theorem State.modTurn_bad (s : State) (t : Nat) (f : TurnJob → TurnJob) : (s.modTurn t f).bad = s.bad := by unfold State.modTurn; split <;> rfl
@[simp] theorem State.modTurn_beat (s : State) (t : Nat) (f : TurnJob → TurnJob) : (s.modTurn t f).beat = s.beat := by unfold State.modTurn; split <;> rfl
@[simp] theorem State.modTurn_beatBefore (s : State) (t : Nat) (f : TurnJob → TurnJob) : (s.modTurn t f).beatBefore = s.beatBefore := by unfold State.modTurn; split <;> rfl
@[simp] theorem State.modTurn_fns (s : State) (t : Nat) (f : TurnJob → TurnJob) : (s.modTurn t f).fns = s.fns := by unfold State.modTurn; split <;> rfl
@[simp] theorem State.modTurn_msix (s : State) (t : Nat) (f : TurnJob → TurnJob) : (s.modTurn t f).msix = s.msix := by unfold State.modTurn; split <;> rfl
@[simp] theorem State.modTurn_grants (s : State) (t : Nat) (f : TurnJob → TurnJob) : (s.modTurn t f).grants = s.grants := by unfold State.modTurn; split <;> rfl
@[simp] theorem State.modTurn_grantOp (s : State) (t : Nat) (f : TurnJob → TurnJob) : (s.modTurn t f).grantOp = s.grantOp := by unfold State.modTurn; split <;> rfl
@[simp] theorem State.modTurn_vales (s : State) (t : Nat) (f : TurnJob → TurnJob) : (s.modTurn t f).vales = s.vales := by unfold State.modTurn; split <;> rfl
@[simp] theorem State.modTurn_parts (s : State) (t : Nat) (f : TurnJob → TurnJob) : (s.modTurn t f).parts = s.parts := by unfold State.modTurn; split <;> rfl
@[simp] theorem State.modTurn_slots (s : State) (t : Nat) (f : TurnJob → TurnJob) : (s.modTurn t f).slots = s.slots := by unfold State.modTurn; split <;> rfl
@[simp] theorem State.modTurn_links (s : State) (t : Nat) (f : TurnJob → TurnJob) : (s.modTurn t f).links = s.links := by unfold State.modTurn; split <;> rfl
@[simp] theorem State.modTurn_floors (s : State) (t : Nat) (f : TurnJob → TurnJob) : (s.modTurn t f).floors = s.floors := by unfold State.modTurn; split <;> rfl
@[simp] theorem State.modTurn_echo (s : State) (t : Nat) (f : TurnJob → TurnJob) : (s.modTurn t f).echo = s.echo := by unfold State.modTurn; split <;> rfl
@[simp] theorem State.modTurn_tests (s : State) (t : Nat) (f : TurnJob → TurnJob) : (s.modTurn t f).tests = s.tests := by unfold State.modTurn; split <;> rfl
@[simp] theorem State.modTurn_credits (s : State) (t : Nat) (f : TurnJob → TurnJob) : (s.modTurn t f).credits = s.credits := by unfold State.modTurn; split <;> rfl
@[simp] theorem State.modTurn_granted (s : State) (t : Nat) (f : TurnJob → TurnJob) : (s.modTurn t f).granted = s.granted := by unfold State.modTurn; split <;> rfl
@[simp] theorem State.modTurn_resets (s : State) (t : Nat) (f : TurnJob → TurnJob) : (s.modTurn t f).resets = s.resets := by unfold State.modTurn; split <;> rfl
@[simp] theorem State.modTurn_health (s : State) (t : Nat) (f : TurnJob → TurnJob) : (s.modTurn t f).health = s.health := by unfold State.modTurn; split <;> rfl
@[simp] theorem State.modTurn_terrace (s : State) (t : Nat) (f : TurnJob → TurnJob) : (s.modTurn t f).terrace = s.terrace := by unfold State.modTurn; split <;> rfl
@[simp] theorem State.modTurn_boot (s : State) (t : Nat) (f : TurnJob → TurnJob) : (s.modTurn t f).boot = s.boot := by unfold State.modTurn; split <;> rfl
@[simp] theorem State.modTurn_census (s : State) (t : Nat) (f : TurnJob → TurnJob) : (s.modTurn t f).census = s.census := by unfold State.modTurn; split <;> rfl
@[simp] theorem State.modTurn_mp (s : State) (t : Nat) (f : TurnJob → TurnJob) : (s.modTurn t f).mp = s.mp := by unfold State.modTurn; split <;> rfl
@[simp] theorem State.modTurn_pins (s : State) (t : Nat) (f : TurnJob → TurnJob) : (s.modTurn t f).pins = s.pins := by unfold State.modTurn; split <;> rfl

/-! ### modFloor -/

@[simp] theorem State.modFloor_pending (s : State) (st : Nat) (f : FloorSt → FloorSt) : (s.modFloor st f).pending = s.pending := rfl
@[simp] theorem State.modFloor_clock (s : State) (st : Nat) (f : FloorSt → FloorSt) : (s.modFloor st f).clock = s.clock := rfl
@[simp] theorem State.modFloor_free (s : State) (st : Nat) (f : FloorSt → FloorSt) : (s.modFloor st f).free = s.free := rfl
@[simp] theorem State.modFloor_out (s : State) (st : Nat) (f : FloorSt → FloorSt) : (s.modFloor st f).out = s.out := rfl
@[simp] theorem State.modFloor_regs (s : State) (st : Nat) (f : FloorSt → FloorSt) : (s.modFloor st f).regs = s.regs := rfl
@[simp] theorem State.modFloor_shadows (s : State) (st : Nat) (f : FloorSt → FloorSt) : (s.modFloor st f).shadows = s.shadows := rfl
@[simp] theorem State.modFloor_mem (s : State) (st : Nat) (f : FloorSt → FloorSt) : (s.modFloor st f).mem = s.mem := rfl
@[simp] theorem State.modFloor_bad (s : State) (st : Nat) (f : FloorSt → FloorSt) : (s.modFloor st f).bad = s.bad := rfl
@[simp] theorem State.modFloor_beat (s : State) (st : Nat) (f : FloorSt → FloorSt) : (s.modFloor st f).beat = s.beat := rfl
@[simp] theorem State.modFloor_beatBefore (s : State) (st : Nat) (f : FloorSt → FloorSt) : (s.modFloor st f).beatBefore = s.beatBefore := rfl
@[simp] theorem State.modFloor_fns (s : State) (st : Nat) (f : FloorSt → FloorSt) : (s.modFloor st f).fns = s.fns := rfl
@[simp] theorem State.modFloor_msix (s : State) (st : Nat) (f : FloorSt → FloorSt) : (s.modFloor st f).msix = s.msix := rfl
@[simp] theorem State.modFloor_grants (s : State) (st : Nat) (f : FloorSt → FloorSt) : (s.modFloor st f).grants = s.grants := rfl
@[simp] theorem State.modFloor_grantOp (s : State) (st : Nat) (f : FloorSt → FloorSt) : (s.modFloor st f).grantOp = s.grantOp := rfl
@[simp] theorem State.modFloor_vales (s : State) (st : Nat) (f : FloorSt → FloorSt) : (s.modFloor st f).vales = s.vales := rfl
@[simp] theorem State.modFloor_parts (s : State) (st : Nat) (f : FloorSt → FloorSt) : (s.modFloor st f).parts = s.parts := rfl
@[simp] theorem State.modFloor_slots (s : State) (st : Nat) (f : FloorSt → FloorSt) : (s.modFloor st f).slots = s.slots := rfl
@[simp] theorem State.modFloor_links (s : State) (st : Nat) (f : FloorSt → FloorSt) : (s.modFloor st f).links = s.links := rfl
@[simp] theorem State.modFloor_turns (s : State) (st : Nat) (f : FloorSt → FloorSt) : (s.modFloor st f).turns = s.turns := rfl
@[simp] theorem State.modFloor_echo (s : State) (st : Nat) (f : FloorSt → FloorSt) : (s.modFloor st f).echo = s.echo := rfl
@[simp] theorem State.modFloor_tests (s : State) (st : Nat) (f : FloorSt → FloorSt) : (s.modFloor st f).tests = s.tests := rfl
@[simp] theorem State.modFloor_credits (s : State) (st : Nat) (f : FloorSt → FloorSt) : (s.modFloor st f).credits = s.credits := rfl
@[simp] theorem State.modFloor_granted (s : State) (st : Nat) (f : FloorSt → FloorSt) : (s.modFloor st f).granted = s.granted := rfl
@[simp] theorem State.modFloor_resets (s : State) (st : Nat) (f : FloorSt → FloorSt) : (s.modFloor st f).resets = s.resets := rfl
@[simp] theorem State.modFloor_health (s : State) (st : Nat) (f : FloorSt → FloorSt) : (s.modFloor st f).health = s.health := rfl
@[simp] theorem State.modFloor_terrace (s : State) (st : Nat) (f : FloorSt → FloorSt) : (s.modFloor st f).terrace = s.terrace := rfl
@[simp] theorem State.modFloor_boot (s : State) (st : Nat) (f : FloorSt → FloorSt) : (s.modFloor st f).boot = s.boot := rfl
@[simp] theorem State.modFloor_census (s : State) (st : Nat) (f : FloorSt → FloorSt) : (s.modFloor st f).census = s.census := rfl
@[simp] theorem State.modFloor_mp (s : State) (st : Nat) (f : FloorSt → FloorSt) : (s.modFloor st f).mp = s.mp := rfl
@[simp] theorem State.modFloor_pins (s : State) (st : Nat) (f : FloorSt → FloorSt) : (s.modFloor st f).pins = s.pins := rfl

/-! ### modEcho -/

@[simp] theorem State.modEcho_pending (s : State) (p : Nat) (f : EchoSt → EchoSt) : (s.modEcho p f).pending = s.pending := rfl
@[simp] theorem State.modEcho_clock (s : State) (p : Nat) (f : EchoSt → EchoSt) : (s.modEcho p f).clock = s.clock := rfl
@[simp] theorem State.modEcho_free (s : State) (p : Nat) (f : EchoSt → EchoSt) : (s.modEcho p f).free = s.free := rfl
@[simp] theorem State.modEcho_out (s : State) (p : Nat) (f : EchoSt → EchoSt) : (s.modEcho p f).out = s.out := rfl
@[simp] theorem State.modEcho_regs (s : State) (p : Nat) (f : EchoSt → EchoSt) : (s.modEcho p f).regs = s.regs := rfl
@[simp] theorem State.modEcho_shadows (s : State) (p : Nat) (f : EchoSt → EchoSt) : (s.modEcho p f).shadows = s.shadows := rfl
@[simp] theorem State.modEcho_mem (s : State) (p : Nat) (f : EchoSt → EchoSt) : (s.modEcho p f).mem = s.mem := rfl
@[simp] theorem State.modEcho_bad (s : State) (p : Nat) (f : EchoSt → EchoSt) : (s.modEcho p f).bad = s.bad := rfl
@[simp] theorem State.modEcho_beat (s : State) (p : Nat) (f : EchoSt → EchoSt) : (s.modEcho p f).beat = s.beat := rfl
@[simp] theorem State.modEcho_beatBefore (s : State) (p : Nat) (f : EchoSt → EchoSt) : (s.modEcho p f).beatBefore = s.beatBefore := rfl
@[simp] theorem State.modEcho_fns (s : State) (p : Nat) (f : EchoSt → EchoSt) : (s.modEcho p f).fns = s.fns := rfl
@[simp] theorem State.modEcho_msix (s : State) (p : Nat) (f : EchoSt → EchoSt) : (s.modEcho p f).msix = s.msix := rfl
@[simp] theorem State.modEcho_grants (s : State) (p : Nat) (f : EchoSt → EchoSt) : (s.modEcho p f).grants = s.grants := rfl
@[simp] theorem State.modEcho_grantOp (s : State) (p : Nat) (f : EchoSt → EchoSt) : (s.modEcho p f).grantOp = s.grantOp := rfl
@[simp] theorem State.modEcho_vales (s : State) (p : Nat) (f : EchoSt → EchoSt) : (s.modEcho p f).vales = s.vales := rfl
@[simp] theorem State.modEcho_parts (s : State) (p : Nat) (f : EchoSt → EchoSt) : (s.modEcho p f).parts = s.parts := rfl
@[simp] theorem State.modEcho_slots (s : State) (p : Nat) (f : EchoSt → EchoSt) : (s.modEcho p f).slots = s.slots := rfl
@[simp] theorem State.modEcho_links (s : State) (p : Nat) (f : EchoSt → EchoSt) : (s.modEcho p f).links = s.links := rfl
@[simp] theorem State.modEcho_turns (s : State) (p : Nat) (f : EchoSt → EchoSt) : (s.modEcho p f).turns = s.turns := rfl
@[simp] theorem State.modEcho_floors (s : State) (p : Nat) (f : EchoSt → EchoSt) : (s.modEcho p f).floors = s.floors := rfl
@[simp] theorem State.modEcho_tests (s : State) (p : Nat) (f : EchoSt → EchoSt) : (s.modEcho p f).tests = s.tests := rfl
@[simp] theorem State.modEcho_credits (s : State) (p : Nat) (f : EchoSt → EchoSt) : (s.modEcho p f).credits = s.credits := rfl
@[simp] theorem State.modEcho_granted (s : State) (p : Nat) (f : EchoSt → EchoSt) : (s.modEcho p f).granted = s.granted := rfl
@[simp] theorem State.modEcho_resets (s : State) (p : Nat) (f : EchoSt → EchoSt) : (s.modEcho p f).resets = s.resets := rfl
@[simp] theorem State.modEcho_health (s : State) (p : Nat) (f : EchoSt → EchoSt) : (s.modEcho p f).health = s.health := rfl
@[simp] theorem State.modEcho_terrace (s : State) (p : Nat) (f : EchoSt → EchoSt) : (s.modEcho p f).terrace = s.terrace := rfl
@[simp] theorem State.modEcho_boot (s : State) (p : Nat) (f : EchoSt → EchoSt) : (s.modEcho p f).boot = s.boot := rfl
@[simp] theorem State.modEcho_census (s : State) (p : Nat) (f : EchoSt → EchoSt) : (s.modEcho p f).census = s.census := rfl
@[simp] theorem State.modEcho_mp (s : State) (p : Nat) (f : EchoSt → EchoSt) : (s.modEcho p f).mp = s.mp := rfl
@[simp] theorem State.modEcho_pins (s : State) (p : Nat) (f : EchoSt → EchoSt) : (s.modEcho p f).pins = s.pins := rfl

/-! ### setTest -/

@[simp] theorem State.setTest_pending (s : State) (i : Nat) (x : Option BgTest) : (s.setTest i x).pending = s.pending := rfl
@[simp] theorem State.setTest_clock (s : State) (i : Nat) (x : Option BgTest) : (s.setTest i x).clock = s.clock := rfl
@[simp] theorem State.setTest_free (s : State) (i : Nat) (x : Option BgTest) : (s.setTest i x).free = s.free := rfl
@[simp] theorem State.setTest_out (s : State) (i : Nat) (x : Option BgTest) : (s.setTest i x).out = s.out := rfl
@[simp] theorem State.setTest_regs (s : State) (i : Nat) (x : Option BgTest) : (s.setTest i x).regs = s.regs := rfl
@[simp] theorem State.setTest_shadows (s : State) (i : Nat) (x : Option BgTest) : (s.setTest i x).shadows = s.shadows := rfl
@[simp] theorem State.setTest_mem (s : State) (i : Nat) (x : Option BgTest) : (s.setTest i x).mem = s.mem := rfl
@[simp] theorem State.setTest_bad (s : State) (i : Nat) (x : Option BgTest) : (s.setTest i x).bad = s.bad := rfl
@[simp] theorem State.setTest_beat (s : State) (i : Nat) (x : Option BgTest) : (s.setTest i x).beat = s.beat := rfl
@[simp] theorem State.setTest_beatBefore (s : State) (i : Nat) (x : Option BgTest) : (s.setTest i x).beatBefore = s.beatBefore := rfl
@[simp] theorem State.setTest_fns (s : State) (i : Nat) (x : Option BgTest) : (s.setTest i x).fns = s.fns := rfl
@[simp] theorem State.setTest_msix (s : State) (i : Nat) (x : Option BgTest) : (s.setTest i x).msix = s.msix := rfl
@[simp] theorem State.setTest_grants (s : State) (i : Nat) (x : Option BgTest) : (s.setTest i x).grants = s.grants := rfl
@[simp] theorem State.setTest_grantOp (s : State) (i : Nat) (x : Option BgTest) : (s.setTest i x).grantOp = s.grantOp := rfl
@[simp] theorem State.setTest_vales (s : State) (i : Nat) (x : Option BgTest) : (s.setTest i x).vales = s.vales := rfl
@[simp] theorem State.setTest_parts (s : State) (i : Nat) (x : Option BgTest) : (s.setTest i x).parts = s.parts := rfl
@[simp] theorem State.setTest_slots (s : State) (i : Nat) (x : Option BgTest) : (s.setTest i x).slots = s.slots := rfl
@[simp] theorem State.setTest_links (s : State) (i : Nat) (x : Option BgTest) : (s.setTest i x).links = s.links := rfl
@[simp] theorem State.setTest_turns (s : State) (i : Nat) (x : Option BgTest) : (s.setTest i x).turns = s.turns := rfl
@[simp] theorem State.setTest_floors (s : State) (i : Nat) (x : Option BgTest) : (s.setTest i x).floors = s.floors := rfl
@[simp] theorem State.setTest_echo (s : State) (i : Nat) (x : Option BgTest) : (s.setTest i x).echo = s.echo := rfl
@[simp] theorem State.setTest_credits (s : State) (i : Nat) (x : Option BgTest) : (s.setTest i x).credits = s.credits := rfl
@[simp] theorem State.setTest_granted (s : State) (i : Nat) (x : Option BgTest) : (s.setTest i x).granted = s.granted := rfl
@[simp] theorem State.setTest_resets (s : State) (i : Nat) (x : Option BgTest) : (s.setTest i x).resets = s.resets := rfl
@[simp] theorem State.setTest_health (s : State) (i : Nat) (x : Option BgTest) : (s.setTest i x).health = s.health := rfl
@[simp] theorem State.setTest_terrace (s : State) (i : Nat) (x : Option BgTest) : (s.setTest i x).terrace = s.terrace := rfl
@[simp] theorem State.setTest_boot (s : State) (i : Nat) (x : Option BgTest) : (s.setTest i x).boot = s.boot := rfl
@[simp] theorem State.setTest_census (s : State) (i : Nat) (x : Option BgTest) : (s.setTest i x).census = s.census := rfl
@[simp] theorem State.setTest_mp (s : State) (i : Nat) (x : Option BgTest) : (s.setTest i x).mp = s.mp := rfl
@[simp] theorem State.setTest_pins (s : State) (i : Nat) (x : Option BgTest) : (s.setTest i x).pins = s.pins := rfl

/-! ### modFn -/

@[simp] theorem State.modFn_pending (s : State) (i : Nat) (f : FnState → FnState) : (s.modFn i f).pending = s.pending := rfl
@[simp] theorem State.modFn_clock (s : State) (i : Nat) (f : FnState → FnState) : (s.modFn i f).clock = s.clock := rfl
@[simp] theorem State.modFn_free (s : State) (i : Nat) (f : FnState → FnState) : (s.modFn i f).free = s.free := rfl
@[simp] theorem State.modFn_out (s : State) (i : Nat) (f : FnState → FnState) : (s.modFn i f).out = s.out := rfl
@[simp] theorem State.modFn_regs (s : State) (i : Nat) (f : FnState → FnState) : (s.modFn i f).regs = s.regs := rfl
@[simp] theorem State.modFn_shadows (s : State) (i : Nat) (f : FnState → FnState) : (s.modFn i f).shadows = s.shadows := rfl
@[simp] theorem State.modFn_mem (s : State) (i : Nat) (f : FnState → FnState) : (s.modFn i f).mem = s.mem := rfl
@[simp] theorem State.modFn_bad (s : State) (i : Nat) (f : FnState → FnState) : (s.modFn i f).bad = s.bad := rfl
@[simp] theorem State.modFn_beat (s : State) (i : Nat) (f : FnState → FnState) : (s.modFn i f).beat = s.beat := rfl
@[simp] theorem State.modFn_beatBefore (s : State) (i : Nat) (f : FnState → FnState) : (s.modFn i f).beatBefore = s.beatBefore := rfl
@[simp] theorem State.modFn_msix (s : State) (i : Nat) (f : FnState → FnState) : (s.modFn i f).msix = s.msix := rfl
@[simp] theorem State.modFn_grants (s : State) (i : Nat) (f : FnState → FnState) : (s.modFn i f).grants = s.grants := rfl
@[simp] theorem State.modFn_grantOp (s : State) (i : Nat) (f : FnState → FnState) : (s.modFn i f).grantOp = s.grantOp := rfl
@[simp] theorem State.modFn_vales (s : State) (i : Nat) (f : FnState → FnState) : (s.modFn i f).vales = s.vales := rfl
@[simp] theorem State.modFn_parts (s : State) (i : Nat) (f : FnState → FnState) : (s.modFn i f).parts = s.parts := rfl
@[simp] theorem State.modFn_slots (s : State) (i : Nat) (f : FnState → FnState) : (s.modFn i f).slots = s.slots := rfl
@[simp] theorem State.modFn_links (s : State) (i : Nat) (f : FnState → FnState) : (s.modFn i f).links = s.links := rfl
@[simp] theorem State.modFn_turns (s : State) (i : Nat) (f : FnState → FnState) : (s.modFn i f).turns = s.turns := rfl
@[simp] theorem State.modFn_floors (s : State) (i : Nat) (f : FnState → FnState) : (s.modFn i f).floors = s.floors := rfl
@[simp] theorem State.modFn_echo (s : State) (i : Nat) (f : FnState → FnState) : (s.modFn i f).echo = s.echo := rfl
@[simp] theorem State.modFn_tests (s : State) (i : Nat) (f : FnState → FnState) : (s.modFn i f).tests = s.tests := rfl
@[simp] theorem State.modFn_credits (s : State) (i : Nat) (f : FnState → FnState) : (s.modFn i f).credits = s.credits := rfl
@[simp] theorem State.modFn_granted (s : State) (i : Nat) (f : FnState → FnState) : (s.modFn i f).granted = s.granted := rfl
@[simp] theorem State.modFn_resets (s : State) (i : Nat) (f : FnState → FnState) : (s.modFn i f).resets = s.resets := rfl
@[simp] theorem State.modFn_health (s : State) (i : Nat) (f : FnState → FnState) : (s.modFn i f).health = s.health := rfl
@[simp] theorem State.modFn_terrace (s : State) (i : Nat) (f : FnState → FnState) : (s.modFn i f).terrace = s.terrace := rfl
@[simp] theorem State.modFn_boot (s : State) (i : Nat) (f : FnState → FnState) : (s.modFn i f).boot = s.boot := rfl
@[simp] theorem State.modFn_census (s : State) (i : Nat) (f : FnState → FnState) : (s.modFn i f).census = s.census := rfl
@[simp] theorem State.modFn_mp (s : State) (i : Nat) (f : FnState → FnState) : (s.modFn i f).mp = s.mp := rfl
@[simp] theorem State.modFn_pins (s : State) (i : Nat) (f : FnState → FnState) : (s.modFn i f).pins = s.pins := rfl

/-! ### modMsix -/

@[simp] theorem State.modMsix_pending (s : State) (i v : Nat) (f : MsixEntry → MsixEntry) : (s.modMsix i v f).pending = s.pending := rfl
@[simp] theorem State.modMsix_clock (s : State) (i v : Nat) (f : MsixEntry → MsixEntry) : (s.modMsix i v f).clock = s.clock := rfl
@[simp] theorem State.modMsix_free (s : State) (i v : Nat) (f : MsixEntry → MsixEntry) : (s.modMsix i v f).free = s.free := rfl
@[simp] theorem State.modMsix_out (s : State) (i v : Nat) (f : MsixEntry → MsixEntry) : (s.modMsix i v f).out = s.out := rfl
@[simp] theorem State.modMsix_regs (s : State) (i v : Nat) (f : MsixEntry → MsixEntry) : (s.modMsix i v f).regs = s.regs := rfl
@[simp] theorem State.modMsix_shadows (s : State) (i v : Nat) (f : MsixEntry → MsixEntry) : (s.modMsix i v f).shadows = s.shadows := rfl
@[simp] theorem State.modMsix_mem (s : State) (i v : Nat) (f : MsixEntry → MsixEntry) : (s.modMsix i v f).mem = s.mem := rfl
@[simp] theorem State.modMsix_bad (s : State) (i v : Nat) (f : MsixEntry → MsixEntry) : (s.modMsix i v f).bad = s.bad := rfl
@[simp] theorem State.modMsix_beat (s : State) (i v : Nat) (f : MsixEntry → MsixEntry) : (s.modMsix i v f).beat = s.beat := rfl
@[simp] theorem State.modMsix_beatBefore (s : State) (i v : Nat) (f : MsixEntry → MsixEntry) : (s.modMsix i v f).beatBefore = s.beatBefore := rfl
@[simp] theorem State.modMsix_fns (s : State) (i v : Nat) (f : MsixEntry → MsixEntry) : (s.modMsix i v f).fns = s.fns := rfl
@[simp] theorem State.modMsix_grants (s : State) (i v : Nat) (f : MsixEntry → MsixEntry) : (s.modMsix i v f).grants = s.grants := rfl
@[simp] theorem State.modMsix_grantOp (s : State) (i v : Nat) (f : MsixEntry → MsixEntry) : (s.modMsix i v f).grantOp = s.grantOp := rfl
@[simp] theorem State.modMsix_vales (s : State) (i v : Nat) (f : MsixEntry → MsixEntry) : (s.modMsix i v f).vales = s.vales := rfl
@[simp] theorem State.modMsix_parts (s : State) (i v : Nat) (f : MsixEntry → MsixEntry) : (s.modMsix i v f).parts = s.parts := rfl
@[simp] theorem State.modMsix_slots (s : State) (i v : Nat) (f : MsixEntry → MsixEntry) : (s.modMsix i v f).slots = s.slots := rfl
@[simp] theorem State.modMsix_links (s : State) (i v : Nat) (f : MsixEntry → MsixEntry) : (s.modMsix i v f).links = s.links := rfl
@[simp] theorem State.modMsix_turns (s : State) (i v : Nat) (f : MsixEntry → MsixEntry) : (s.modMsix i v f).turns = s.turns := rfl
@[simp] theorem State.modMsix_floors (s : State) (i v : Nat) (f : MsixEntry → MsixEntry) : (s.modMsix i v f).floors = s.floors := rfl
@[simp] theorem State.modMsix_echo (s : State) (i v : Nat) (f : MsixEntry → MsixEntry) : (s.modMsix i v f).echo = s.echo := rfl
@[simp] theorem State.modMsix_tests (s : State) (i v : Nat) (f : MsixEntry → MsixEntry) : (s.modMsix i v f).tests = s.tests := rfl
@[simp] theorem State.modMsix_credits (s : State) (i v : Nat) (f : MsixEntry → MsixEntry) : (s.modMsix i v f).credits = s.credits := rfl
@[simp] theorem State.modMsix_granted (s : State) (i v : Nat) (f : MsixEntry → MsixEntry) : (s.modMsix i v f).granted = s.granted := rfl
@[simp] theorem State.modMsix_resets (s : State) (i v : Nat) (f : MsixEntry → MsixEntry) : (s.modMsix i v f).resets = s.resets := rfl
@[simp] theorem State.modMsix_health (s : State) (i v : Nat) (f : MsixEntry → MsixEntry) : (s.modMsix i v f).health = s.health := rfl
@[simp] theorem State.modMsix_terrace (s : State) (i v : Nat) (f : MsixEntry → MsixEntry) : (s.modMsix i v f).terrace = s.terrace := rfl
@[simp] theorem State.modMsix_boot (s : State) (i v : Nat) (f : MsixEntry → MsixEntry) : (s.modMsix i v f).boot = s.boot := rfl
@[simp] theorem State.modMsix_census (s : State) (i v : Nat) (f : MsixEntry → MsixEntry) : (s.modMsix i v f).census = s.census := rfl
@[simp] theorem State.modMsix_mp (s : State) (i v : Nat) (f : MsixEntry → MsixEntry) : (s.modMsix i v f).mp = s.mp := rfl
@[simp] theorem State.modMsix_pins (s : State) (i v : Nat) (f : MsixEntry → MsixEntry) : (s.modMsix i v f).pins = s.pins := rfl

/-! ### setGrant -/

@[simp] theorem State.setGrant_pending (s : State) (p : Nat) (g : Grant) : (s.setGrant p g).pending = s.pending := rfl
@[simp] theorem State.setGrant_clock (s : State) (p : Nat) (g : Grant) : (s.setGrant p g).clock = s.clock := rfl
@[simp] theorem State.setGrant_free (s : State) (p : Nat) (g : Grant) : (s.setGrant p g).free = s.free := rfl
@[simp] theorem State.setGrant_out (s : State) (p : Nat) (g : Grant) : (s.setGrant p g).out = s.out := rfl
@[simp] theorem State.setGrant_regs (s : State) (p : Nat) (g : Grant) : (s.setGrant p g).regs = s.regs := rfl
@[simp] theorem State.setGrant_shadows (s : State) (p : Nat) (g : Grant) : (s.setGrant p g).shadows = s.shadows := rfl
@[simp] theorem State.setGrant_mem (s : State) (p : Nat) (g : Grant) : (s.setGrant p g).mem = s.mem := rfl
@[simp] theorem State.setGrant_bad (s : State) (p : Nat) (g : Grant) : (s.setGrant p g).bad = s.bad := rfl
@[simp] theorem State.setGrant_beat (s : State) (p : Nat) (g : Grant) : (s.setGrant p g).beat = s.beat := rfl
@[simp] theorem State.setGrant_beatBefore (s : State) (p : Nat) (g : Grant) : (s.setGrant p g).beatBefore = s.beatBefore := rfl
@[simp] theorem State.setGrant_fns (s : State) (p : Nat) (g : Grant) : (s.setGrant p g).fns = s.fns := rfl
@[simp] theorem State.setGrant_msix (s : State) (p : Nat) (g : Grant) : (s.setGrant p g).msix = s.msix := rfl
@[simp] theorem State.setGrant_grantOp (s : State) (p : Nat) (g : Grant) : (s.setGrant p g).grantOp = s.grantOp := rfl
@[simp] theorem State.setGrant_vales (s : State) (p : Nat) (g : Grant) : (s.setGrant p g).vales = s.vales := rfl
@[simp] theorem State.setGrant_parts (s : State) (p : Nat) (g : Grant) : (s.setGrant p g).parts = s.parts := rfl
@[simp] theorem State.setGrant_slots (s : State) (p : Nat) (g : Grant) : (s.setGrant p g).slots = s.slots := rfl
@[simp] theorem State.setGrant_links (s : State) (p : Nat) (g : Grant) : (s.setGrant p g).links = s.links := rfl
@[simp] theorem State.setGrant_turns (s : State) (p : Nat) (g : Grant) : (s.setGrant p g).turns = s.turns := rfl
@[simp] theorem State.setGrant_floors (s : State) (p : Nat) (g : Grant) : (s.setGrant p g).floors = s.floors := rfl
@[simp] theorem State.setGrant_echo (s : State) (p : Nat) (g : Grant) : (s.setGrant p g).echo = s.echo := rfl
@[simp] theorem State.setGrant_tests (s : State) (p : Nat) (g : Grant) : (s.setGrant p g).tests = s.tests := rfl
@[simp] theorem State.setGrant_credits (s : State) (p : Nat) (g : Grant) : (s.setGrant p g).credits = s.credits := rfl
@[simp] theorem State.setGrant_granted (s : State) (p : Nat) (g : Grant) : (s.setGrant p g).granted = s.granted := rfl
@[simp] theorem State.setGrant_resets (s : State) (p : Nat) (g : Grant) : (s.setGrant p g).resets = s.resets := rfl
@[simp] theorem State.setGrant_health (s : State) (p : Nat) (g : Grant) : (s.setGrant p g).health = s.health := rfl
@[simp] theorem State.setGrant_terrace (s : State) (p : Nat) (g : Grant) : (s.setGrant p g).terrace = s.terrace := rfl
@[simp] theorem State.setGrant_boot (s : State) (p : Nat) (g : Grant) : (s.setGrant p g).boot = s.boot := rfl
@[simp] theorem State.setGrant_census (s : State) (p : Nat) (g : Grant) : (s.setGrant p g).census = s.census := rfl
@[simp] theorem State.setGrant_mp (s : State) (p : Nat) (g : Grant) : (s.setGrant p g).mp = s.mp := rfl
@[simp] theorem State.setGrant_pins (s : State) (p : Nat) (g : Grant) : (s.setGrant p g).pins = s.pins := rfl

/-! ### setReg -/

@[simp] theorem State.setReg_pending (s : State) (a : Nat) (w : Word) : (s.setReg a w).pending = s.pending := rfl
@[simp] theorem State.setReg_clock (s : State) (a : Nat) (w : Word) : (s.setReg a w).clock = s.clock := rfl
@[simp] theorem State.setReg_free (s : State) (a : Nat) (w : Word) : (s.setReg a w).free = s.free := rfl
@[simp] theorem State.setReg_out (s : State) (a : Nat) (w : Word) : (s.setReg a w).out = s.out := rfl
@[simp] theorem State.setReg_shadows (s : State) (a : Nat) (w : Word) : (s.setReg a w).shadows = s.shadows := rfl
@[simp] theorem State.setReg_mem (s : State) (a : Nat) (w : Word) : (s.setReg a w).mem = s.mem := rfl
@[simp] theorem State.setReg_bad (s : State) (a : Nat) (w : Word) : (s.setReg a w).bad = s.bad := rfl
@[simp] theorem State.setReg_beat (s : State) (a : Nat) (w : Word) : (s.setReg a w).beat = s.beat := rfl
@[simp] theorem State.setReg_beatBefore (s : State) (a : Nat) (w : Word) : (s.setReg a w).beatBefore = s.beatBefore := rfl
@[simp] theorem State.setReg_fns (s : State) (a : Nat) (w : Word) : (s.setReg a w).fns = s.fns := rfl
@[simp] theorem State.setReg_msix (s : State) (a : Nat) (w : Word) : (s.setReg a w).msix = s.msix := rfl
@[simp] theorem State.setReg_grants (s : State) (a : Nat) (w : Word) : (s.setReg a w).grants = s.grants := rfl
@[simp] theorem State.setReg_grantOp (s : State) (a : Nat) (w : Word) : (s.setReg a w).grantOp = s.grantOp := rfl
@[simp] theorem State.setReg_vales (s : State) (a : Nat) (w : Word) : (s.setReg a w).vales = s.vales := rfl
@[simp] theorem State.setReg_parts (s : State) (a : Nat) (w : Word) : (s.setReg a w).parts = s.parts := rfl
@[simp] theorem State.setReg_slots (s : State) (a : Nat) (w : Word) : (s.setReg a w).slots = s.slots := rfl
@[simp] theorem State.setReg_links (s : State) (a : Nat) (w : Word) : (s.setReg a w).links = s.links := rfl
@[simp] theorem State.setReg_turns (s : State) (a : Nat) (w : Word) : (s.setReg a w).turns = s.turns := rfl
@[simp] theorem State.setReg_floors (s : State) (a : Nat) (w : Word) : (s.setReg a w).floors = s.floors := rfl
@[simp] theorem State.setReg_echo (s : State) (a : Nat) (w : Word) : (s.setReg a w).echo = s.echo := rfl
@[simp] theorem State.setReg_tests (s : State) (a : Nat) (w : Word) : (s.setReg a w).tests = s.tests := rfl
@[simp] theorem State.setReg_credits (s : State) (a : Nat) (w : Word) : (s.setReg a w).credits = s.credits := rfl
@[simp] theorem State.setReg_granted (s : State) (a : Nat) (w : Word) : (s.setReg a w).granted = s.granted := rfl
@[simp] theorem State.setReg_resets (s : State) (a : Nat) (w : Word) : (s.setReg a w).resets = s.resets := rfl
@[simp] theorem State.setReg_health (s : State) (a : Nat) (w : Word) : (s.setReg a w).health = s.health := rfl
@[simp] theorem State.setReg_terrace (s : State) (a : Nat) (w : Word) : (s.setReg a w).terrace = s.terrace := rfl
@[simp] theorem State.setReg_boot (s : State) (a : Nat) (w : Word) : (s.setReg a w).boot = s.boot := rfl
@[simp] theorem State.setReg_census (s : State) (a : Nat) (w : Word) : (s.setReg a w).census = s.census := rfl
@[simp] theorem State.setReg_mp (s : State) (a : Nat) (w : Word) : (s.setReg a w).mp = s.mp := rfl
@[simp] theorem State.setReg_pins (s : State) (a : Nat) (w : Word) : (s.setReg a w).pins = s.pins := rfl

/-! ### setRegF -/

@[simp] theorem State.setRegF_pending (s : State) (a hi lo v : Nat) : (s.setRegF a hi lo v).pending = s.pending := rfl
@[simp] theorem State.setRegF_clock (s : State) (a hi lo v : Nat) : (s.setRegF a hi lo v).clock = s.clock := rfl
@[simp] theorem State.setRegF_free (s : State) (a hi lo v : Nat) : (s.setRegF a hi lo v).free = s.free := rfl
@[simp] theorem State.setRegF_out (s : State) (a hi lo v : Nat) : (s.setRegF a hi lo v).out = s.out := rfl
@[simp] theorem State.setRegF_shadows (s : State) (a hi lo v : Nat) : (s.setRegF a hi lo v).shadows = s.shadows := rfl
@[simp] theorem State.setRegF_mem (s : State) (a hi lo v : Nat) : (s.setRegF a hi lo v).mem = s.mem := rfl
@[simp] theorem State.setRegF_bad (s : State) (a hi lo v : Nat) : (s.setRegF a hi lo v).bad = s.bad := rfl
@[simp] theorem State.setRegF_beat (s : State) (a hi lo v : Nat) : (s.setRegF a hi lo v).beat = s.beat := rfl
@[simp] theorem State.setRegF_beatBefore (s : State) (a hi lo v : Nat) : (s.setRegF a hi lo v).beatBefore = s.beatBefore := rfl
@[simp] theorem State.setRegF_fns (s : State) (a hi lo v : Nat) : (s.setRegF a hi lo v).fns = s.fns := rfl
@[simp] theorem State.setRegF_msix (s : State) (a hi lo v : Nat) : (s.setRegF a hi lo v).msix = s.msix := rfl
@[simp] theorem State.setRegF_grants (s : State) (a hi lo v : Nat) : (s.setRegF a hi lo v).grants = s.grants := rfl
@[simp] theorem State.setRegF_grantOp (s : State) (a hi lo v : Nat) : (s.setRegF a hi lo v).grantOp = s.grantOp := rfl
@[simp] theorem State.setRegF_vales (s : State) (a hi lo v : Nat) : (s.setRegF a hi lo v).vales = s.vales := rfl
@[simp] theorem State.setRegF_parts (s : State) (a hi lo v : Nat) : (s.setRegF a hi lo v).parts = s.parts := rfl
@[simp] theorem State.setRegF_slots (s : State) (a hi lo v : Nat) : (s.setRegF a hi lo v).slots = s.slots := rfl
@[simp] theorem State.setRegF_links (s : State) (a hi lo v : Nat) : (s.setRegF a hi lo v).links = s.links := rfl
@[simp] theorem State.setRegF_turns (s : State) (a hi lo v : Nat) : (s.setRegF a hi lo v).turns = s.turns := rfl
@[simp] theorem State.setRegF_floors (s : State) (a hi lo v : Nat) : (s.setRegF a hi lo v).floors = s.floors := rfl
@[simp] theorem State.setRegF_echo (s : State) (a hi lo v : Nat) : (s.setRegF a hi lo v).echo = s.echo := rfl
@[simp] theorem State.setRegF_tests (s : State) (a hi lo v : Nat) : (s.setRegF a hi lo v).tests = s.tests := rfl
@[simp] theorem State.setRegF_credits (s : State) (a hi lo v : Nat) : (s.setRegF a hi lo v).credits = s.credits := rfl
@[simp] theorem State.setRegF_granted (s : State) (a hi lo v : Nat) : (s.setRegF a hi lo v).granted = s.granted := rfl
@[simp] theorem State.setRegF_resets (s : State) (a hi lo v : Nat) : (s.setRegF a hi lo v).resets = s.resets := rfl
@[simp] theorem State.setRegF_health (s : State) (a hi lo v : Nat) : (s.setRegF a hi lo v).health = s.health := rfl
@[simp] theorem State.setRegF_terrace (s : State) (a hi lo v : Nat) : (s.setRegF a hi lo v).terrace = s.terrace := rfl
@[simp] theorem State.setRegF_boot (s : State) (a hi lo v : Nat) : (s.setRegF a hi lo v).boot = s.boot := rfl
@[simp] theorem State.setRegF_census (s : State) (a hi lo v : Nat) : (s.setRegF a hi lo v).census = s.census := rfl
@[simp] theorem State.setRegF_mp (s : State) (a hi lo v : Nat) : (s.setRegF a hi lo v).mp = s.mp := rfl
@[simp] theorem State.setRegF_pins (s : State) (a hi lo v : Nat) : (s.setRegF a hi lo v).pins = s.pins := rfl

/-! ### setReg64 -/

@[simp] theorem State.setReg64_pending (s : State) (a v : Nat) : (s.setReg64 a v).pending = s.pending := rfl
@[simp] theorem State.setReg64_clock (s : State) (a v : Nat) : (s.setReg64 a v).clock = s.clock := rfl
@[simp] theorem State.setReg64_free (s : State) (a v : Nat) : (s.setReg64 a v).free = s.free := rfl
@[simp] theorem State.setReg64_out (s : State) (a v : Nat) : (s.setReg64 a v).out = s.out := rfl
@[simp] theorem State.setReg64_shadows (s : State) (a v : Nat) : (s.setReg64 a v).shadows = s.shadows := rfl
@[simp] theorem State.setReg64_mem (s : State) (a v : Nat) : (s.setReg64 a v).mem = s.mem := rfl
@[simp] theorem State.setReg64_bad (s : State) (a v : Nat) : (s.setReg64 a v).bad = s.bad := rfl
@[simp] theorem State.setReg64_beat (s : State) (a v : Nat) : (s.setReg64 a v).beat = s.beat := rfl
@[simp] theorem State.setReg64_beatBefore (s : State) (a v : Nat) : (s.setReg64 a v).beatBefore = s.beatBefore := rfl
@[simp] theorem State.setReg64_fns (s : State) (a v : Nat) : (s.setReg64 a v).fns = s.fns := rfl
@[simp] theorem State.setReg64_msix (s : State) (a v : Nat) : (s.setReg64 a v).msix = s.msix := rfl
@[simp] theorem State.setReg64_grants (s : State) (a v : Nat) : (s.setReg64 a v).grants = s.grants := rfl
@[simp] theorem State.setReg64_grantOp (s : State) (a v : Nat) : (s.setReg64 a v).grantOp = s.grantOp := rfl
@[simp] theorem State.setReg64_vales (s : State) (a v : Nat) : (s.setReg64 a v).vales = s.vales := rfl
@[simp] theorem State.setReg64_parts (s : State) (a v : Nat) : (s.setReg64 a v).parts = s.parts := rfl
@[simp] theorem State.setReg64_slots (s : State) (a v : Nat) : (s.setReg64 a v).slots = s.slots := rfl
@[simp] theorem State.setReg64_links (s : State) (a v : Nat) : (s.setReg64 a v).links = s.links := rfl
@[simp] theorem State.setReg64_turns (s : State) (a v : Nat) : (s.setReg64 a v).turns = s.turns := rfl
@[simp] theorem State.setReg64_floors (s : State) (a v : Nat) : (s.setReg64 a v).floors = s.floors := rfl
@[simp] theorem State.setReg64_echo (s : State) (a v : Nat) : (s.setReg64 a v).echo = s.echo := rfl
@[simp] theorem State.setReg64_tests (s : State) (a v : Nat) : (s.setReg64 a v).tests = s.tests := rfl
@[simp] theorem State.setReg64_credits (s : State) (a v : Nat) : (s.setReg64 a v).credits = s.credits := rfl
@[simp] theorem State.setReg64_granted (s : State) (a v : Nat) : (s.setReg64 a v).granted = s.granted := rfl
@[simp] theorem State.setReg64_resets (s : State) (a v : Nat) : (s.setReg64 a v).resets = s.resets := rfl
@[simp] theorem State.setReg64_health (s : State) (a v : Nat) : (s.setReg64 a v).health = s.health := rfl
@[simp] theorem State.setReg64_terrace (s : State) (a v : Nat) : (s.setReg64 a v).terrace = s.terrace := rfl
@[simp] theorem State.setReg64_boot (s : State) (a v : Nat) : (s.setReg64 a v).boot = s.boot := rfl
@[simp] theorem State.setReg64_census (s : State) (a v : Nat) : (s.setReg64 a v).census = s.census := rfl
@[simp] theorem State.setReg64_mp (s : State) (a v : Nat) : (s.setReg64 a v).mp = s.mp := rfl
@[simp] theorem State.setReg64_pins (s : State) (a v : Nat) : (s.setReg64 a v).pins = s.pins := rfl

/-! ### emit -/

@[simp] theorem State.emit_pending (s : State) (e : Emit) : (s.emit e).pending = s.pending := rfl
@[simp] theorem State.emit_clock (s : State) (e : Emit) : (s.emit e).clock = s.clock := rfl
@[simp] theorem State.emit_free (s : State) (e : Emit) : (s.emit e).free = s.free := rfl
@[simp] theorem State.emit_regs (s : State) (e : Emit) : (s.emit e).regs = s.regs := rfl
@[simp] theorem State.emit_shadows (s : State) (e : Emit) : (s.emit e).shadows = s.shadows := rfl
@[simp] theorem State.emit_mem (s : State) (e : Emit) : (s.emit e).mem = s.mem := rfl
@[simp] theorem State.emit_bad (s : State) (e : Emit) : (s.emit e).bad = s.bad := rfl
@[simp] theorem State.emit_beat (s : State) (e : Emit) : (s.emit e).beat = s.beat := rfl
@[simp] theorem State.emit_beatBefore (s : State) (e : Emit) : (s.emit e).beatBefore = s.beatBefore := rfl
@[simp] theorem State.emit_fns (s : State) (e : Emit) : (s.emit e).fns = s.fns := rfl
@[simp] theorem State.emit_msix (s : State) (e : Emit) : (s.emit e).msix = s.msix := rfl
@[simp] theorem State.emit_grants (s : State) (e : Emit) : (s.emit e).grants = s.grants := rfl
@[simp] theorem State.emit_grantOp (s : State) (e : Emit) : (s.emit e).grantOp = s.grantOp := rfl
@[simp] theorem State.emit_vales (s : State) (e : Emit) : (s.emit e).vales = s.vales := rfl
@[simp] theorem State.emit_parts (s : State) (e : Emit) : (s.emit e).parts = s.parts := rfl
@[simp] theorem State.emit_slots (s : State) (e : Emit) : (s.emit e).slots = s.slots := rfl
@[simp] theorem State.emit_links (s : State) (e : Emit) : (s.emit e).links = s.links := rfl
@[simp] theorem State.emit_turns (s : State) (e : Emit) : (s.emit e).turns = s.turns := rfl
@[simp] theorem State.emit_floors (s : State) (e : Emit) : (s.emit e).floors = s.floors := rfl
@[simp] theorem State.emit_echo (s : State) (e : Emit) : (s.emit e).echo = s.echo := rfl
@[simp] theorem State.emit_tests (s : State) (e : Emit) : (s.emit e).tests = s.tests := rfl
@[simp] theorem State.emit_credits (s : State) (e : Emit) : (s.emit e).credits = s.credits := rfl
@[simp] theorem State.emit_granted (s : State) (e : Emit) : (s.emit e).granted = s.granted := rfl
@[simp] theorem State.emit_resets (s : State) (e : Emit) : (s.emit e).resets = s.resets := rfl
@[simp] theorem State.emit_health (s : State) (e : Emit) : (s.emit e).health = s.health := rfl
@[simp] theorem State.emit_terrace (s : State) (e : Emit) : (s.emit e).terrace = s.terrace := rfl
@[simp] theorem State.emit_boot (s : State) (e : Emit) : (s.emit e).boot = s.boot := rfl
@[simp] theorem State.emit_census (s : State) (e : Emit) : (s.emit e).census = s.census := rfl
@[simp] theorem State.emit_mp (s : State) (e : Emit) : (s.emit e).mp = s.mp := rfl
@[simp] theorem State.emit_pins (s : State) (e : Emit) : (s.emit e).pins = s.pins := rfl

/-! ### setByte -/

@[simp] theorem State.setByte_pending (s : State) (a : Nat) (b : Byte) : (s.setByte a b).pending = s.pending := rfl
@[simp] theorem State.setByte_clock (s : State) (a : Nat) (b : Byte) : (s.setByte a b).clock = s.clock := rfl
@[simp] theorem State.setByte_free (s : State) (a : Nat) (b : Byte) : (s.setByte a b).free = s.free := rfl
@[simp] theorem State.setByte_out (s : State) (a : Nat) (b : Byte) : (s.setByte a b).out = s.out := rfl
@[simp] theorem State.setByte_regs (s : State) (a : Nat) (b : Byte) : (s.setByte a b).regs = s.regs := rfl
@[simp] theorem State.setByte_shadows (s : State) (a : Nat) (b : Byte) : (s.setByte a b).shadows = s.shadows := rfl
@[simp] theorem State.setByte_bad (s : State) (a : Nat) (b : Byte) : (s.setByte a b).bad = s.bad := rfl
@[simp] theorem State.setByte_beat (s : State) (a : Nat) (b : Byte) : (s.setByte a b).beat = s.beat := rfl
@[simp] theorem State.setByte_beatBefore (s : State) (a : Nat) (b : Byte) : (s.setByte a b).beatBefore = s.beatBefore := rfl
@[simp] theorem State.setByte_fns (s : State) (a : Nat) (b : Byte) : (s.setByte a b).fns = s.fns := rfl
@[simp] theorem State.setByte_msix (s : State) (a : Nat) (b : Byte) : (s.setByte a b).msix = s.msix := rfl
@[simp] theorem State.setByte_grants (s : State) (a : Nat) (b : Byte) : (s.setByte a b).grants = s.grants := rfl
@[simp] theorem State.setByte_grantOp (s : State) (a : Nat) (b : Byte) : (s.setByte a b).grantOp = s.grantOp := rfl
@[simp] theorem State.setByte_vales (s : State) (a : Nat) (b : Byte) : (s.setByte a b).vales = s.vales := rfl
@[simp] theorem State.setByte_parts (s : State) (a : Nat) (b : Byte) : (s.setByte a b).parts = s.parts := rfl
@[simp] theorem State.setByte_slots (s : State) (a : Nat) (b : Byte) : (s.setByte a b).slots = s.slots := rfl
@[simp] theorem State.setByte_links (s : State) (a : Nat) (b : Byte) : (s.setByte a b).links = s.links := rfl
@[simp] theorem State.setByte_turns (s : State) (a : Nat) (b : Byte) : (s.setByte a b).turns = s.turns := rfl
@[simp] theorem State.setByte_floors (s : State) (a : Nat) (b : Byte) : (s.setByte a b).floors = s.floors := rfl
@[simp] theorem State.setByte_echo (s : State) (a : Nat) (b : Byte) : (s.setByte a b).echo = s.echo := rfl
@[simp] theorem State.setByte_tests (s : State) (a : Nat) (b : Byte) : (s.setByte a b).tests = s.tests := rfl
@[simp] theorem State.setByte_credits (s : State) (a : Nat) (b : Byte) : (s.setByte a b).credits = s.credits := rfl
@[simp] theorem State.setByte_granted (s : State) (a : Nat) (b : Byte) : (s.setByte a b).granted = s.granted := rfl
@[simp] theorem State.setByte_resets (s : State) (a : Nat) (b : Byte) : (s.setByte a b).resets = s.resets := rfl
@[simp] theorem State.setByte_health (s : State) (a : Nat) (b : Byte) : (s.setByte a b).health = s.health := rfl
@[simp] theorem State.setByte_terrace (s : State) (a : Nat) (b : Byte) : (s.setByte a b).terrace = s.terrace := rfl
@[simp] theorem State.setByte_boot (s : State) (a : Nat) (b : Byte) : (s.setByte a b).boot = s.boot := rfl
@[simp] theorem State.setByte_census (s : State) (a : Nat) (b : Byte) : (s.setByte a b).census = s.census := rfl
@[simp] theorem State.setByte_mp (s : State) (a : Nat) (b : Byte) : (s.setByte a b).mp = s.mp := rfl
@[simp] theorem State.setByte_pins (s : State) (a : Nat) (b : Byte) : (s.setByte a b).pins = s.pins := rfl

/-! ### clearRange -/

@[simp] theorem State.clearRange_pending (s : State) (lo hi : Nat) : (s.clearRange lo hi).pending = s.pending := rfl
@[simp] theorem State.clearRange_clock (s : State) (lo hi : Nat) : (s.clearRange lo hi).clock = s.clock := rfl
@[simp] theorem State.clearRange_free (s : State) (lo hi : Nat) : (s.clearRange lo hi).free = s.free := rfl
@[simp] theorem State.clearRange_out (s : State) (lo hi : Nat) : (s.clearRange lo hi).out = s.out := rfl
@[simp] theorem State.clearRange_regs (s : State) (lo hi : Nat) : (s.clearRange lo hi).regs = s.regs := rfl
@[simp] theorem State.clearRange_shadows (s : State) (lo hi : Nat) : (s.clearRange lo hi).shadows = s.shadows := rfl
@[simp] theorem State.clearRange_bad (s : State) (lo hi : Nat) : (s.clearRange lo hi).bad = s.bad := rfl
@[simp] theorem State.clearRange_beat (s : State) (lo hi : Nat) : (s.clearRange lo hi).beat = s.beat := rfl
@[simp] theorem State.clearRange_beatBefore (s : State) (lo hi : Nat) : (s.clearRange lo hi).beatBefore = s.beatBefore := rfl
@[simp] theorem State.clearRange_fns (s : State) (lo hi : Nat) : (s.clearRange lo hi).fns = s.fns := rfl
@[simp] theorem State.clearRange_msix (s : State) (lo hi : Nat) : (s.clearRange lo hi).msix = s.msix := rfl
@[simp] theorem State.clearRange_grants (s : State) (lo hi : Nat) : (s.clearRange lo hi).grants = s.grants := rfl
@[simp] theorem State.clearRange_grantOp (s : State) (lo hi : Nat) : (s.clearRange lo hi).grantOp = s.grantOp := rfl
@[simp] theorem State.clearRange_vales (s : State) (lo hi : Nat) : (s.clearRange lo hi).vales = s.vales := rfl
@[simp] theorem State.clearRange_parts (s : State) (lo hi : Nat) : (s.clearRange lo hi).parts = s.parts := rfl
@[simp] theorem State.clearRange_slots (s : State) (lo hi : Nat) : (s.clearRange lo hi).slots = s.slots := rfl
@[simp] theorem State.clearRange_links (s : State) (lo hi : Nat) : (s.clearRange lo hi).links = s.links := rfl
@[simp] theorem State.clearRange_turns (s : State) (lo hi : Nat) : (s.clearRange lo hi).turns = s.turns := rfl
@[simp] theorem State.clearRange_floors (s : State) (lo hi : Nat) : (s.clearRange lo hi).floors = s.floors := rfl
@[simp] theorem State.clearRange_echo (s : State) (lo hi : Nat) : (s.clearRange lo hi).echo = s.echo := rfl
@[simp] theorem State.clearRange_tests (s : State) (lo hi : Nat) : (s.clearRange lo hi).tests = s.tests := rfl
@[simp] theorem State.clearRange_credits (s : State) (lo hi : Nat) : (s.clearRange lo hi).credits = s.credits := rfl
@[simp] theorem State.clearRange_granted (s : State) (lo hi : Nat) : (s.clearRange lo hi).granted = s.granted := rfl
@[simp] theorem State.clearRange_resets (s : State) (lo hi : Nat) : (s.clearRange lo hi).resets = s.resets := rfl
@[simp] theorem State.clearRange_health (s : State) (lo hi : Nat) : (s.clearRange lo hi).health = s.health := rfl
@[simp] theorem State.clearRange_terrace (s : State) (lo hi : Nat) : (s.clearRange lo hi).terrace = s.terrace := rfl
@[simp] theorem State.clearRange_boot (s : State) (lo hi : Nat) : (s.clearRange lo hi).boot = s.boot := rfl
@[simp] theorem State.clearRange_census (s : State) (lo hi : Nat) : (s.clearRange lo hi).census = s.census := rfl
@[simp] theorem State.clearRange_mp (s : State) (lo hi : Nat) : (s.clearRange lo hi).mp = s.mp := rfl
@[simp] theorem State.clearRange_pins (s : State) (lo hi : Nat) : (s.clearRange lo hi).pins = s.pins := rfl

/-! ### setBytes -/

@[simp] theorem State.setBytes_pending (s : State) (a : Nat) (bs : List Byte) : (s.setBytes a bs).pending = s.pending := by
  induction bs generalizing s a with
  | nil => rfl
  | cons x bs ih => exact ih (s.setByte a x) (a + 1)
@[simp] theorem State.setBytes_clock (s : State) (a : Nat) (bs : List Byte) : (s.setBytes a bs).clock = s.clock := by
  induction bs generalizing s a with
  | nil => rfl
  | cons x bs ih => exact ih (s.setByte a x) (a + 1)
@[simp] theorem State.setBytes_free (s : State) (a : Nat) (bs : List Byte) : (s.setBytes a bs).free = s.free := by
  induction bs generalizing s a with
  | nil => rfl
  | cons x bs ih => exact ih (s.setByte a x) (a + 1)
@[simp] theorem State.setBytes_out (s : State) (a : Nat) (bs : List Byte) : (s.setBytes a bs).out = s.out := by
  induction bs generalizing s a with
  | nil => rfl
  | cons x bs ih => exact ih (s.setByte a x) (a + 1)
@[simp] theorem State.setBytes_regs (s : State) (a : Nat) (bs : List Byte) : (s.setBytes a bs).regs = s.regs := by
  induction bs generalizing s a with
  | nil => rfl
  | cons x bs ih => exact ih (s.setByte a x) (a + 1)
@[simp] theorem State.setBytes_shadows (s : State) (a : Nat) (bs : List Byte) : (s.setBytes a bs).shadows = s.shadows := by
  induction bs generalizing s a with
  | nil => rfl
  | cons x bs ih => exact ih (s.setByte a x) (a + 1)
@[simp] theorem State.setBytes_bad (s : State) (a : Nat) (bs : List Byte) : (s.setBytes a bs).bad = s.bad := by
  induction bs generalizing s a with
  | nil => rfl
  | cons x bs ih => exact ih (s.setByte a x) (a + 1)
@[simp] theorem State.setBytes_beat (s : State) (a : Nat) (bs : List Byte) : (s.setBytes a bs).beat = s.beat := by
  induction bs generalizing s a with
  | nil => rfl
  | cons x bs ih => exact ih (s.setByte a x) (a + 1)
@[simp] theorem State.setBytes_beatBefore (s : State) (a : Nat) (bs : List Byte) : (s.setBytes a bs).beatBefore = s.beatBefore := by
  induction bs generalizing s a with
  | nil => rfl
  | cons x bs ih => exact ih (s.setByte a x) (a + 1)
@[simp] theorem State.setBytes_fns (s : State) (a : Nat) (bs : List Byte) : (s.setBytes a bs).fns = s.fns := by
  induction bs generalizing s a with
  | nil => rfl
  | cons x bs ih => exact ih (s.setByte a x) (a + 1)
@[simp] theorem State.setBytes_msix (s : State) (a : Nat) (bs : List Byte) : (s.setBytes a bs).msix = s.msix := by
  induction bs generalizing s a with
  | nil => rfl
  | cons x bs ih => exact ih (s.setByte a x) (a + 1)
@[simp] theorem State.setBytes_grants (s : State) (a : Nat) (bs : List Byte) : (s.setBytes a bs).grants = s.grants := by
  induction bs generalizing s a with
  | nil => rfl
  | cons x bs ih => exact ih (s.setByte a x) (a + 1)
@[simp] theorem State.setBytes_grantOp (s : State) (a : Nat) (bs : List Byte) : (s.setBytes a bs).grantOp = s.grantOp := by
  induction bs generalizing s a with
  | nil => rfl
  | cons x bs ih => exact ih (s.setByte a x) (a + 1)
@[simp] theorem State.setBytes_vales (s : State) (a : Nat) (bs : List Byte) : (s.setBytes a bs).vales = s.vales := by
  induction bs generalizing s a with
  | nil => rfl
  | cons x bs ih => exact ih (s.setByte a x) (a + 1)
@[simp] theorem State.setBytes_parts (s : State) (a : Nat) (bs : List Byte) : (s.setBytes a bs).parts = s.parts := by
  induction bs generalizing s a with
  | nil => rfl
  | cons x bs ih => exact ih (s.setByte a x) (a + 1)
@[simp] theorem State.setBytes_slots (s : State) (a : Nat) (bs : List Byte) : (s.setBytes a bs).slots = s.slots := by
  induction bs generalizing s a with
  | nil => rfl
  | cons x bs ih => exact ih (s.setByte a x) (a + 1)
@[simp] theorem State.setBytes_links (s : State) (a : Nat) (bs : List Byte) : (s.setBytes a bs).links = s.links := by
  induction bs generalizing s a with
  | nil => rfl
  | cons x bs ih => exact ih (s.setByte a x) (a + 1)
@[simp] theorem State.setBytes_turns (s : State) (a : Nat) (bs : List Byte) : (s.setBytes a bs).turns = s.turns := by
  induction bs generalizing s a with
  | nil => rfl
  | cons x bs ih => exact ih (s.setByte a x) (a + 1)
@[simp] theorem State.setBytes_floors (s : State) (a : Nat) (bs : List Byte) : (s.setBytes a bs).floors = s.floors := by
  induction bs generalizing s a with
  | nil => rfl
  | cons x bs ih => exact ih (s.setByte a x) (a + 1)
@[simp] theorem State.setBytes_echo (s : State) (a : Nat) (bs : List Byte) : (s.setBytes a bs).echo = s.echo := by
  induction bs generalizing s a with
  | nil => rfl
  | cons x bs ih => exact ih (s.setByte a x) (a + 1)
@[simp] theorem State.setBytes_tests (s : State) (a : Nat) (bs : List Byte) : (s.setBytes a bs).tests = s.tests := by
  induction bs generalizing s a with
  | nil => rfl
  | cons x bs ih => exact ih (s.setByte a x) (a + 1)
@[simp] theorem State.setBytes_credits (s : State) (a : Nat) (bs : List Byte) : (s.setBytes a bs).credits = s.credits := by
  induction bs generalizing s a with
  | nil => rfl
  | cons x bs ih => exact ih (s.setByte a x) (a + 1)
@[simp] theorem State.setBytes_granted (s : State) (a : Nat) (bs : List Byte) : (s.setBytes a bs).granted = s.granted := by
  induction bs generalizing s a with
  | nil => rfl
  | cons x bs ih => exact ih (s.setByte a x) (a + 1)
@[simp] theorem State.setBytes_resets (s : State) (a : Nat) (bs : List Byte) : (s.setBytes a bs).resets = s.resets := by
  induction bs generalizing s a with
  | nil => rfl
  | cons x bs ih => exact ih (s.setByte a x) (a + 1)
@[simp] theorem State.setBytes_health (s : State) (a : Nat) (bs : List Byte) : (s.setBytes a bs).health = s.health := by
  induction bs generalizing s a with
  | nil => rfl
  | cons x bs ih => exact ih (s.setByte a x) (a + 1)
@[simp] theorem State.setBytes_terrace (s : State) (a : Nat) (bs : List Byte) : (s.setBytes a bs).terrace = s.terrace := by
  induction bs generalizing s a with
  | nil => rfl
  | cons x bs ih => exact ih (s.setByte a x) (a + 1)
@[simp] theorem State.setBytes_boot (s : State) (a : Nat) (bs : List Byte) : (s.setBytes a bs).boot = s.boot := by
  induction bs generalizing s a with
  | nil => rfl
  | cons x bs ih => exact ih (s.setByte a x) (a + 1)
@[simp] theorem State.setBytes_census (s : State) (a : Nat) (bs : List Byte) : (s.setBytes a bs).census = s.census := by
  induction bs generalizing s a with
  | nil => rfl
  | cons x bs ih => exact ih (s.setByte a x) (a + 1)
@[simp] theorem State.setBytes_mp (s : State) (a : Nat) (bs : List Byte) : (s.setBytes a bs).mp = s.mp := by
  induction bs generalizing s a with
  | nil => rfl
  | cons x bs ih => exact ih (s.setByte a x) (a + 1)
@[simp] theorem State.setBytes_pins (s : State) (a : Nat) (bs : List Byte) : (s.setBytes a bs).pins = s.pins := by
  induction bs generalizing s a with
  | nil => rfl
  | cons x bs ih => exact ih (s.setByte a x) (a + 1)

/-! ### Reads after writes -/

/-- part after setPart. -/
theorem State.setPart_part (s : State) (n j : Nat) (p : Part) : (s.setPart n p).part j = if j = n then p else s.part j :=
  Sparse.get_set _ _ _ _ _
/-- vale after setVale. -/
theorem State.setVale_vale (s : State) (g j : Nat) (v : ValeSt) : (s.setVale g v).vale j = if j = g then v else s.vale j :=
  Sparse.get_set _ _ _ _ _
/-- cmd after setCmd. -/
theorem State.setCmd_cmd (s : State) (c j : Nat) (x : Option Cmd) : (s.setCmd c x).cmd j = if j = c then x else s.cmd j :=
  Sparse.get_set _ _ _ _ _
/-- link after setLink. -/
theorem State.setLink_link (s : State) (k j : Nat) (l : LinkSt) : (s.setLink k l).link j = if j = k then l else s.link j :=
  Sparse.get_set _ _ _ _ _
/-- turn after setTurn. -/
theorem State.setTurn_turn (s : State) (t j : Nat) (x : Option TurnJob) : (s.setTurn t x).turn j = if j = t then x else s.turn j :=
  Sparse.get_set _ _ _ _ _
/-- test after setTest. -/
theorem State.setTest_test (s : State) (i j : Nat) (x : Option BgTest) : (s.setTest i x).test j = if j = i then x else s.test j :=
  Sparse.get_set _ _ _ _ _
/-- grant after setGrant. -/
theorem State.setGrant_grant (s : State) (p j : Nat) (g : Grant) : (s.setGrant p g).grant j = if j = p then g else s.grant j :=
  Sparse.get_set _ _ _ _ _
/-- reg after setReg. -/
theorem State.setReg_reg (s : State) (a j : Nat) (w : Word) : (s.setReg a w).reg j = if j = a then w else s.reg j :=
  Sparse.get_set _ _ _ _ _
/-- byte after setByte. -/
theorem State.setByte_byte (s : State) (a j : Nat) (b : Byte) : (s.setByte a b).byte j = if j = a then b else s.byte j :=
  Sparse.get_set _ _ _ _ _
/-- part after modPart. -/
theorem State.modPart_part (s : State) (n j : Nat) (f : Part → Part) :
    (s.modPart n f).part j = if j = n then f (s.part n) else s.part j :=
  Sparse.get_set _ _ _ _ _
/-- vale after modVale. -/
theorem State.modVale_vale (s : State) (g j : Nat) (f : ValeSt → ValeSt) :
    (s.modVale g f).vale j = if j = g then f (s.vale g) else s.vale j :=
  Sparse.get_set _ _ _ _ _
/-- link after modLink. -/
theorem State.modLink_link (s : State) (k j : Nat) (f : LinkSt → LinkSt) :
    (s.modLink k f).link j = if j = k then f (s.link k) else s.link j :=
  Sparse.get_set _ _ _ _ _
/-- floor after modFloor. -/
theorem State.modFloor_floor (s : State) (st j : Nat) (f : FloorSt → FloorSt) :
    (s.modFloor st f).floor j = if j = st then f (s.floor st) else s.floor j :=
  Sparse.get_set _ _ _ _ _
/-- echoOf after modEcho. -/
theorem State.modEcho_echoOf (s : State) (p j : Nat) (f : EchoSt → EchoSt) :
    (s.modEcho p f).echoOf j = if j = p then f (s.echoOf p) else s.echoOf j :=
  Sparse.get_set _ _ _ _ _
/-- fn after modFn. -/
theorem State.modFn_fn (s : State) (i j : Nat) (f : FnState → FnState) :
    (s.modFn i f).fn j = if j = i then f (s.fn i) else s.fn j :=
  Sparse.get_set _ _ _ _ _
/-- cmd after modCmd. -/
theorem State.modCmd_cmd (s : State) (c j : Nat) (f : Cmd → Cmd) :
    (s.modCmd c f).cmd j = if j = c then (s.cmd c).map f else s.cmd j := by
  unfold State.modCmd
  split
  · rename_i h; split
    · rename_i hj; simp [hj, h]
    · rfl
  · rename_i x h
    rw [State.setCmd_cmd, h]; rfl
/-- turn after modTurn. -/
theorem State.modTurn_turn (s : State) (t j : Nat) (f : TurnJob → TurnJob) :
    (s.modTurn t f).turn j = if j = t then (s.turn t).map f else s.turn j := by
  unfold State.modTurn
  split
  · rename_i h; split
    · rename_i hj; simp [hj, h]
    · rfl
  · rename_i x h
    rw [State.setTurn_turn, h]; rfl

/-! ### A unit's accessor sees its own field only -/

@[simp] theorem State.setPart_vale_other (s : State) (n : Nat) (p : Part) (j : Nat) : (s.setPart n p).vale j = s.vale j := rfl
@[simp] theorem State.setPart_cmd_other (s : State) (n : Nat) (p : Part) (j : Nat) : (s.setPart n p).cmd j = s.cmd j := rfl
@[simp] theorem State.setPart_link_other (s : State) (n : Nat) (p : Part) (j : Nat) : (s.setPart n p).link j = s.link j := rfl
@[simp] theorem State.setPart_turn_other (s : State) (n : Nat) (p : Part) (j : Nat) : (s.setPart n p).turn j = s.turn j := rfl
@[simp] theorem State.setPart_floor_other (s : State) (n : Nat) (p : Part) (j : Nat) : (s.setPart n p).floor j = s.floor j := rfl
@[simp] theorem State.setPart_echoOf_other (s : State) (n : Nat) (p : Part) (j : Nat) : (s.setPart n p).echoOf j = s.echoOf j := rfl
@[simp] theorem State.setPart_test_other (s : State) (n : Nat) (p : Part) (j : Nat) : (s.setPart n p).test j = s.test j := rfl
@[simp] theorem State.setPart_fn_other (s : State) (n : Nat) (p : Part) (j : Nat) : (s.setPart n p).fn j = s.fn j := rfl
@[simp] theorem State.setPart_grant_other (s : State) (n : Nat) (p : Part) (j : Nat) : (s.setPart n p).grant j = s.grant j := rfl
@[simp] theorem State.setPart_reg_other (s : State) (n : Nat) (p : Part) (j : Nat) : (s.setPart n p).reg j = s.reg j := rfl
@[simp] theorem State.setPart_byte_other (s : State) (n : Nat) (p : Part) (j : Nat) : (s.setPart n p).byte j = s.byte j := rfl
@[simp] theorem State.modPart_vale_other (s : State) (n : Nat) (f : Part → Part) (j : Nat) : (s.modPart n f).vale j = s.vale j := rfl
@[simp] theorem State.modPart_cmd_other (s : State) (n : Nat) (f : Part → Part) (j : Nat) : (s.modPart n f).cmd j = s.cmd j := rfl
@[simp] theorem State.modPart_link_other (s : State) (n : Nat) (f : Part → Part) (j : Nat) : (s.modPart n f).link j = s.link j := rfl
@[simp] theorem State.modPart_turn_other (s : State) (n : Nat) (f : Part → Part) (j : Nat) : (s.modPart n f).turn j = s.turn j := rfl
@[simp] theorem State.modPart_floor_other (s : State) (n : Nat) (f : Part → Part) (j : Nat) : (s.modPart n f).floor j = s.floor j := rfl
@[simp] theorem State.modPart_echoOf_other (s : State) (n : Nat) (f : Part → Part) (j : Nat) : (s.modPart n f).echoOf j = s.echoOf j := rfl
@[simp] theorem State.modPart_test_other (s : State) (n : Nat) (f : Part → Part) (j : Nat) : (s.modPart n f).test j = s.test j := rfl
@[simp] theorem State.modPart_fn_other (s : State) (n : Nat) (f : Part → Part) (j : Nat) : (s.modPart n f).fn j = s.fn j := rfl
@[simp] theorem State.modPart_grant_other (s : State) (n : Nat) (f : Part → Part) (j : Nat) : (s.modPart n f).grant j = s.grant j := rfl
@[simp] theorem State.modPart_reg_other (s : State) (n : Nat) (f : Part → Part) (j : Nat) : (s.modPart n f).reg j = s.reg j := rfl
@[simp] theorem State.modPart_byte_other (s : State) (n : Nat) (f : Part → Part) (j : Nat) : (s.modPart n f).byte j = s.byte j := rfl
@[simp] theorem State.setVale_part_other (s : State) (g : Nat) (v : ValeSt) (j : Nat) : (s.setVale g v).part j = s.part j := rfl
@[simp] theorem State.setVale_cmd_other (s : State) (g : Nat) (v : ValeSt) (j : Nat) : (s.setVale g v).cmd j = s.cmd j := rfl
@[simp] theorem State.setVale_link_other (s : State) (g : Nat) (v : ValeSt) (j : Nat) : (s.setVale g v).link j = s.link j := rfl
@[simp] theorem State.setVale_turn_other (s : State) (g : Nat) (v : ValeSt) (j : Nat) : (s.setVale g v).turn j = s.turn j := rfl
@[simp] theorem State.setVale_floor_other (s : State) (g : Nat) (v : ValeSt) (j : Nat) : (s.setVale g v).floor j = s.floor j := rfl
@[simp] theorem State.setVale_echoOf_other (s : State) (g : Nat) (v : ValeSt) (j : Nat) : (s.setVale g v).echoOf j = s.echoOf j := rfl
@[simp] theorem State.setVale_test_other (s : State) (g : Nat) (v : ValeSt) (j : Nat) : (s.setVale g v).test j = s.test j := rfl
@[simp] theorem State.setVale_fn_other (s : State) (g : Nat) (v : ValeSt) (j : Nat) : (s.setVale g v).fn j = s.fn j := rfl
@[simp] theorem State.setVale_grant_other (s : State) (g : Nat) (v : ValeSt) (j : Nat) : (s.setVale g v).grant j = s.grant j := rfl
@[simp] theorem State.setVale_reg_other (s : State) (g : Nat) (v : ValeSt) (j : Nat) : (s.setVale g v).reg j = s.reg j := rfl
@[simp] theorem State.setVale_byte_other (s : State) (g : Nat) (v : ValeSt) (j : Nat) : (s.setVale g v).byte j = s.byte j := rfl
@[simp] theorem State.modVale_part_other (s : State) (g : Nat) (f : ValeSt → ValeSt) (j : Nat) : (s.modVale g f).part j = s.part j := rfl
@[simp] theorem State.modVale_cmd_other (s : State) (g : Nat) (f : ValeSt → ValeSt) (j : Nat) : (s.modVale g f).cmd j = s.cmd j := rfl
@[simp] theorem State.modVale_link_other (s : State) (g : Nat) (f : ValeSt → ValeSt) (j : Nat) : (s.modVale g f).link j = s.link j := rfl
@[simp] theorem State.modVale_turn_other (s : State) (g : Nat) (f : ValeSt → ValeSt) (j : Nat) : (s.modVale g f).turn j = s.turn j := rfl
@[simp] theorem State.modVale_floor_other (s : State) (g : Nat) (f : ValeSt → ValeSt) (j : Nat) : (s.modVale g f).floor j = s.floor j := rfl
@[simp] theorem State.modVale_echoOf_other (s : State) (g : Nat) (f : ValeSt → ValeSt) (j : Nat) : (s.modVale g f).echoOf j = s.echoOf j := rfl
@[simp] theorem State.modVale_test_other (s : State) (g : Nat) (f : ValeSt → ValeSt) (j : Nat) : (s.modVale g f).test j = s.test j := rfl
@[simp] theorem State.modVale_fn_other (s : State) (g : Nat) (f : ValeSt → ValeSt) (j : Nat) : (s.modVale g f).fn j = s.fn j := rfl
@[simp] theorem State.modVale_grant_other (s : State) (g : Nat) (f : ValeSt → ValeSt) (j : Nat) : (s.modVale g f).grant j = s.grant j := rfl
@[simp] theorem State.modVale_reg_other (s : State) (g : Nat) (f : ValeSt → ValeSt) (j : Nat) : (s.modVale g f).reg j = s.reg j := rfl
@[simp] theorem State.modVale_byte_other (s : State) (g : Nat) (f : ValeSt → ValeSt) (j : Nat) : (s.modVale g f).byte j = s.byte j := rfl
@[simp] theorem State.setCmd_part_other (s : State) (c : Nat) (x : Option Cmd) (j : Nat) : (s.setCmd c x).part j = s.part j := rfl
@[simp] theorem State.setCmd_vale_other (s : State) (c : Nat) (x : Option Cmd) (j : Nat) : (s.setCmd c x).vale j = s.vale j := rfl
@[simp] theorem State.setCmd_link_other (s : State) (c : Nat) (x : Option Cmd) (j : Nat) : (s.setCmd c x).link j = s.link j := rfl
@[simp] theorem State.setCmd_turn_other (s : State) (c : Nat) (x : Option Cmd) (j : Nat) : (s.setCmd c x).turn j = s.turn j := rfl
@[simp] theorem State.setCmd_floor_other (s : State) (c : Nat) (x : Option Cmd) (j : Nat) : (s.setCmd c x).floor j = s.floor j := rfl
@[simp] theorem State.setCmd_echoOf_other (s : State) (c : Nat) (x : Option Cmd) (j : Nat) : (s.setCmd c x).echoOf j = s.echoOf j := rfl
@[simp] theorem State.setCmd_test_other (s : State) (c : Nat) (x : Option Cmd) (j : Nat) : (s.setCmd c x).test j = s.test j := rfl
@[simp] theorem State.setCmd_fn_other (s : State) (c : Nat) (x : Option Cmd) (j : Nat) : (s.setCmd c x).fn j = s.fn j := rfl
@[simp] theorem State.setCmd_grant_other (s : State) (c : Nat) (x : Option Cmd) (j : Nat) : (s.setCmd c x).grant j = s.grant j := rfl
@[simp] theorem State.setCmd_reg_other (s : State) (c : Nat) (x : Option Cmd) (j : Nat) : (s.setCmd c x).reg j = s.reg j := rfl
@[simp] theorem State.setCmd_byte_other (s : State) (c : Nat) (x : Option Cmd) (j : Nat) : (s.setCmd c x).byte j = s.byte j := rfl
@[simp] theorem State.modCmd_part_other (s : State) (c : Nat) (f : Cmd → Cmd) (j : Nat) : (s.modCmd c f).part j = s.part j := by simp [State.part]
@[simp] theorem State.modCmd_vale_other (s : State) (c : Nat) (f : Cmd → Cmd) (j : Nat) : (s.modCmd c f).vale j = s.vale j := by simp [State.vale]
@[simp] theorem State.modCmd_link_other (s : State) (c : Nat) (f : Cmd → Cmd) (j : Nat) : (s.modCmd c f).link j = s.link j := by simp [State.link]
@[simp] theorem State.modCmd_turn_other (s : State) (c : Nat) (f : Cmd → Cmd) (j : Nat) : (s.modCmd c f).turn j = s.turn j := by simp [State.turn]
@[simp] theorem State.modCmd_floor_other (s : State) (c : Nat) (f : Cmd → Cmd) (j : Nat) : (s.modCmd c f).floor j = s.floor j := by simp [State.floor]
@[simp] theorem State.modCmd_echoOf_other (s : State) (c : Nat) (f : Cmd → Cmd) (j : Nat) : (s.modCmd c f).echoOf j = s.echoOf j := by simp [State.echoOf]
@[simp] theorem State.modCmd_test_other (s : State) (c : Nat) (f : Cmd → Cmd) (j : Nat) : (s.modCmd c f).test j = s.test j := by simp [State.test]
@[simp] theorem State.modCmd_fn_other (s : State) (c : Nat) (f : Cmd → Cmd) (j : Nat) : (s.modCmd c f).fn j = s.fn j := by simp [State.fn]
@[simp] theorem State.modCmd_grant_other (s : State) (c : Nat) (f : Cmd → Cmd) (j : Nat) : (s.modCmd c f).grant j = s.grant j := by simp [State.grant]
@[simp] theorem State.modCmd_reg_other (s : State) (c : Nat) (f : Cmd → Cmd) (j : Nat) : (s.modCmd c f).reg j = s.reg j := by simp [State.reg]
@[simp] theorem State.modCmd_byte_other (s : State) (c : Nat) (f : Cmd → Cmd) (j : Nat) : (s.modCmd c f).byte j = s.byte j := by simp [State.byte]
@[simp] theorem State.setLink_part_other (s : State) (k : Nat) (l : LinkSt) (j : Nat) : (s.setLink k l).part j = s.part j := rfl
@[simp] theorem State.setLink_vale_other (s : State) (k : Nat) (l : LinkSt) (j : Nat) : (s.setLink k l).vale j = s.vale j := rfl
@[simp] theorem State.setLink_cmd_other (s : State) (k : Nat) (l : LinkSt) (j : Nat) : (s.setLink k l).cmd j = s.cmd j := rfl
@[simp] theorem State.setLink_turn_other (s : State) (k : Nat) (l : LinkSt) (j : Nat) : (s.setLink k l).turn j = s.turn j := rfl
@[simp] theorem State.setLink_floor_other (s : State) (k : Nat) (l : LinkSt) (j : Nat) : (s.setLink k l).floor j = s.floor j := rfl
@[simp] theorem State.setLink_echoOf_other (s : State) (k : Nat) (l : LinkSt) (j : Nat) : (s.setLink k l).echoOf j = s.echoOf j := rfl
@[simp] theorem State.setLink_test_other (s : State) (k : Nat) (l : LinkSt) (j : Nat) : (s.setLink k l).test j = s.test j := rfl
@[simp] theorem State.setLink_fn_other (s : State) (k : Nat) (l : LinkSt) (j : Nat) : (s.setLink k l).fn j = s.fn j := rfl
@[simp] theorem State.setLink_grant_other (s : State) (k : Nat) (l : LinkSt) (j : Nat) : (s.setLink k l).grant j = s.grant j := rfl
@[simp] theorem State.setLink_reg_other (s : State) (k : Nat) (l : LinkSt) (j : Nat) : (s.setLink k l).reg j = s.reg j := rfl
@[simp] theorem State.setLink_byte_other (s : State) (k : Nat) (l : LinkSt) (j : Nat) : (s.setLink k l).byte j = s.byte j := rfl
@[simp] theorem State.modLink_part_other (s : State) (k : Nat) (f : LinkSt → LinkSt) (j : Nat) : (s.modLink k f).part j = s.part j := rfl
@[simp] theorem State.modLink_vale_other (s : State) (k : Nat) (f : LinkSt → LinkSt) (j : Nat) : (s.modLink k f).vale j = s.vale j := rfl
@[simp] theorem State.modLink_cmd_other (s : State) (k : Nat) (f : LinkSt → LinkSt) (j : Nat) : (s.modLink k f).cmd j = s.cmd j := rfl
@[simp] theorem State.modLink_turn_other (s : State) (k : Nat) (f : LinkSt → LinkSt) (j : Nat) : (s.modLink k f).turn j = s.turn j := rfl
@[simp] theorem State.modLink_floor_other (s : State) (k : Nat) (f : LinkSt → LinkSt) (j : Nat) : (s.modLink k f).floor j = s.floor j := rfl
@[simp] theorem State.modLink_echoOf_other (s : State) (k : Nat) (f : LinkSt → LinkSt) (j : Nat) : (s.modLink k f).echoOf j = s.echoOf j := rfl
@[simp] theorem State.modLink_test_other (s : State) (k : Nat) (f : LinkSt → LinkSt) (j : Nat) : (s.modLink k f).test j = s.test j := rfl
@[simp] theorem State.modLink_fn_other (s : State) (k : Nat) (f : LinkSt → LinkSt) (j : Nat) : (s.modLink k f).fn j = s.fn j := rfl
@[simp] theorem State.modLink_grant_other (s : State) (k : Nat) (f : LinkSt → LinkSt) (j : Nat) : (s.modLink k f).grant j = s.grant j := rfl
@[simp] theorem State.modLink_reg_other (s : State) (k : Nat) (f : LinkSt → LinkSt) (j : Nat) : (s.modLink k f).reg j = s.reg j := rfl
@[simp] theorem State.modLink_byte_other (s : State) (k : Nat) (f : LinkSt → LinkSt) (j : Nat) : (s.modLink k f).byte j = s.byte j := rfl
@[simp] theorem State.setTurn_part_other (s : State) (t : Nat) (x : Option TurnJob) (j : Nat) : (s.setTurn t x).part j = s.part j := rfl
@[simp] theorem State.setTurn_vale_other (s : State) (t : Nat) (x : Option TurnJob) (j : Nat) : (s.setTurn t x).vale j = s.vale j := rfl
@[simp] theorem State.setTurn_cmd_other (s : State) (t : Nat) (x : Option TurnJob) (j : Nat) : (s.setTurn t x).cmd j = s.cmd j := rfl
@[simp] theorem State.setTurn_link_other (s : State) (t : Nat) (x : Option TurnJob) (j : Nat) : (s.setTurn t x).link j = s.link j := rfl
@[simp] theorem State.setTurn_floor_other (s : State) (t : Nat) (x : Option TurnJob) (j : Nat) : (s.setTurn t x).floor j = s.floor j := rfl
@[simp] theorem State.setTurn_echoOf_other (s : State) (t : Nat) (x : Option TurnJob) (j : Nat) : (s.setTurn t x).echoOf j = s.echoOf j := rfl
@[simp] theorem State.setTurn_test_other (s : State) (t : Nat) (x : Option TurnJob) (j : Nat) : (s.setTurn t x).test j = s.test j := rfl
@[simp] theorem State.setTurn_fn_other (s : State) (t : Nat) (x : Option TurnJob) (j : Nat) : (s.setTurn t x).fn j = s.fn j := rfl
@[simp] theorem State.setTurn_grant_other (s : State) (t : Nat) (x : Option TurnJob) (j : Nat) : (s.setTurn t x).grant j = s.grant j := rfl
@[simp] theorem State.setTurn_reg_other (s : State) (t : Nat) (x : Option TurnJob) (j : Nat) : (s.setTurn t x).reg j = s.reg j := rfl
@[simp] theorem State.setTurn_byte_other (s : State) (t : Nat) (x : Option TurnJob) (j : Nat) : (s.setTurn t x).byte j = s.byte j := rfl
@[simp] theorem State.modTurn_part_other (s : State) (t : Nat) (f : TurnJob → TurnJob) (j : Nat) : (s.modTurn t f).part j = s.part j := by simp [State.part]
@[simp] theorem State.modTurn_vale_other (s : State) (t : Nat) (f : TurnJob → TurnJob) (j : Nat) : (s.modTurn t f).vale j = s.vale j := by simp [State.vale]
@[simp] theorem State.modTurn_cmd_other (s : State) (t : Nat) (f : TurnJob → TurnJob) (j : Nat) : (s.modTurn t f).cmd j = s.cmd j := by simp [State.cmd]
@[simp] theorem State.modTurn_link_other (s : State) (t : Nat) (f : TurnJob → TurnJob) (j : Nat) : (s.modTurn t f).link j = s.link j := by simp [State.link]
@[simp] theorem State.modTurn_floor_other (s : State) (t : Nat) (f : TurnJob → TurnJob) (j : Nat) : (s.modTurn t f).floor j = s.floor j := by simp [State.floor]
@[simp] theorem State.modTurn_echoOf_other (s : State) (t : Nat) (f : TurnJob → TurnJob) (j : Nat) : (s.modTurn t f).echoOf j = s.echoOf j := by simp [State.echoOf]
@[simp] theorem State.modTurn_test_other (s : State) (t : Nat) (f : TurnJob → TurnJob) (j : Nat) : (s.modTurn t f).test j = s.test j := by simp [State.test]
@[simp] theorem State.modTurn_fn_other (s : State) (t : Nat) (f : TurnJob → TurnJob) (j : Nat) : (s.modTurn t f).fn j = s.fn j := by simp [State.fn]
@[simp] theorem State.modTurn_grant_other (s : State) (t : Nat) (f : TurnJob → TurnJob) (j : Nat) : (s.modTurn t f).grant j = s.grant j := by simp [State.grant]
@[simp] theorem State.modTurn_reg_other (s : State) (t : Nat) (f : TurnJob → TurnJob) (j : Nat) : (s.modTurn t f).reg j = s.reg j := by simp [State.reg]
@[simp] theorem State.modTurn_byte_other (s : State) (t : Nat) (f : TurnJob → TurnJob) (j : Nat) : (s.modTurn t f).byte j = s.byte j := by simp [State.byte]
@[simp] theorem State.modFloor_part_other (s : State) (st : Nat) (f : FloorSt → FloorSt) (j : Nat) : (s.modFloor st f).part j = s.part j := rfl
@[simp] theorem State.modFloor_vale_other (s : State) (st : Nat) (f : FloorSt → FloorSt) (j : Nat) : (s.modFloor st f).vale j = s.vale j := rfl
@[simp] theorem State.modFloor_cmd_other (s : State) (st : Nat) (f : FloorSt → FloorSt) (j : Nat) : (s.modFloor st f).cmd j = s.cmd j := rfl
@[simp] theorem State.modFloor_link_other (s : State) (st : Nat) (f : FloorSt → FloorSt) (j : Nat) : (s.modFloor st f).link j = s.link j := rfl
@[simp] theorem State.modFloor_turn_other (s : State) (st : Nat) (f : FloorSt → FloorSt) (j : Nat) : (s.modFloor st f).turn j = s.turn j := rfl
@[simp] theorem State.modFloor_echoOf_other (s : State) (st : Nat) (f : FloorSt → FloorSt) (j : Nat) : (s.modFloor st f).echoOf j = s.echoOf j := rfl
@[simp] theorem State.modFloor_test_other (s : State) (st : Nat) (f : FloorSt → FloorSt) (j : Nat) : (s.modFloor st f).test j = s.test j := rfl
@[simp] theorem State.modFloor_fn_other (s : State) (st : Nat) (f : FloorSt → FloorSt) (j : Nat) : (s.modFloor st f).fn j = s.fn j := rfl
@[simp] theorem State.modFloor_grant_other (s : State) (st : Nat) (f : FloorSt → FloorSt) (j : Nat) : (s.modFloor st f).grant j = s.grant j := rfl
@[simp] theorem State.modFloor_reg_other (s : State) (st : Nat) (f : FloorSt → FloorSt) (j : Nat) : (s.modFloor st f).reg j = s.reg j := rfl
@[simp] theorem State.modFloor_byte_other (s : State) (st : Nat) (f : FloorSt → FloorSt) (j : Nat) : (s.modFloor st f).byte j = s.byte j := rfl
@[simp] theorem State.modEcho_part_other (s : State) (p : Nat) (f : EchoSt → EchoSt) (j : Nat) : (s.modEcho p f).part j = s.part j := rfl
@[simp] theorem State.modEcho_vale_other (s : State) (p : Nat) (f : EchoSt → EchoSt) (j : Nat) : (s.modEcho p f).vale j = s.vale j := rfl
@[simp] theorem State.modEcho_cmd_other (s : State) (p : Nat) (f : EchoSt → EchoSt) (j : Nat) : (s.modEcho p f).cmd j = s.cmd j := rfl
@[simp] theorem State.modEcho_link_other (s : State) (p : Nat) (f : EchoSt → EchoSt) (j : Nat) : (s.modEcho p f).link j = s.link j := rfl
@[simp] theorem State.modEcho_turn_other (s : State) (p : Nat) (f : EchoSt → EchoSt) (j : Nat) : (s.modEcho p f).turn j = s.turn j := rfl
@[simp] theorem State.modEcho_floor_other (s : State) (p : Nat) (f : EchoSt → EchoSt) (j : Nat) : (s.modEcho p f).floor j = s.floor j := rfl
@[simp] theorem State.modEcho_test_other (s : State) (p : Nat) (f : EchoSt → EchoSt) (j : Nat) : (s.modEcho p f).test j = s.test j := rfl
@[simp] theorem State.modEcho_fn_other (s : State) (p : Nat) (f : EchoSt → EchoSt) (j : Nat) : (s.modEcho p f).fn j = s.fn j := rfl
@[simp] theorem State.modEcho_grant_other (s : State) (p : Nat) (f : EchoSt → EchoSt) (j : Nat) : (s.modEcho p f).grant j = s.grant j := rfl
@[simp] theorem State.modEcho_reg_other (s : State) (p : Nat) (f : EchoSt → EchoSt) (j : Nat) : (s.modEcho p f).reg j = s.reg j := rfl
@[simp] theorem State.modEcho_byte_other (s : State) (p : Nat) (f : EchoSt → EchoSt) (j : Nat) : (s.modEcho p f).byte j = s.byte j := rfl
@[simp] theorem State.setTest_part_other (s : State) (i : Nat) (x : Option BgTest) (j : Nat) : (s.setTest i x).part j = s.part j := rfl
@[simp] theorem State.setTest_vale_other (s : State) (i : Nat) (x : Option BgTest) (j : Nat) : (s.setTest i x).vale j = s.vale j := rfl
@[simp] theorem State.setTest_cmd_other (s : State) (i : Nat) (x : Option BgTest) (j : Nat) : (s.setTest i x).cmd j = s.cmd j := rfl
@[simp] theorem State.setTest_link_other (s : State) (i : Nat) (x : Option BgTest) (j : Nat) : (s.setTest i x).link j = s.link j := rfl
@[simp] theorem State.setTest_turn_other (s : State) (i : Nat) (x : Option BgTest) (j : Nat) : (s.setTest i x).turn j = s.turn j := rfl
@[simp] theorem State.setTest_floor_other (s : State) (i : Nat) (x : Option BgTest) (j : Nat) : (s.setTest i x).floor j = s.floor j := rfl
@[simp] theorem State.setTest_echoOf_other (s : State) (i : Nat) (x : Option BgTest) (j : Nat) : (s.setTest i x).echoOf j = s.echoOf j := rfl
@[simp] theorem State.setTest_fn_other (s : State) (i : Nat) (x : Option BgTest) (j : Nat) : (s.setTest i x).fn j = s.fn j := rfl
@[simp] theorem State.setTest_grant_other (s : State) (i : Nat) (x : Option BgTest) (j : Nat) : (s.setTest i x).grant j = s.grant j := rfl
@[simp] theorem State.setTest_reg_other (s : State) (i : Nat) (x : Option BgTest) (j : Nat) : (s.setTest i x).reg j = s.reg j := rfl
@[simp] theorem State.setTest_byte_other (s : State) (i : Nat) (x : Option BgTest) (j : Nat) : (s.setTest i x).byte j = s.byte j := rfl
@[simp] theorem State.modFn_part_other (s : State) (i : Nat) (f : FnState → FnState) (j : Nat) : (s.modFn i f).part j = s.part j := rfl
@[simp] theorem State.modFn_vale_other (s : State) (i : Nat) (f : FnState → FnState) (j : Nat) : (s.modFn i f).vale j = s.vale j := rfl
@[simp] theorem State.modFn_cmd_other (s : State) (i : Nat) (f : FnState → FnState) (j : Nat) : (s.modFn i f).cmd j = s.cmd j := rfl
@[simp] theorem State.modFn_link_other (s : State) (i : Nat) (f : FnState → FnState) (j : Nat) : (s.modFn i f).link j = s.link j := rfl
@[simp] theorem State.modFn_turn_other (s : State) (i : Nat) (f : FnState → FnState) (j : Nat) : (s.modFn i f).turn j = s.turn j := rfl
@[simp] theorem State.modFn_floor_other (s : State) (i : Nat) (f : FnState → FnState) (j : Nat) : (s.modFn i f).floor j = s.floor j := rfl
@[simp] theorem State.modFn_echoOf_other (s : State) (i : Nat) (f : FnState → FnState) (j : Nat) : (s.modFn i f).echoOf j = s.echoOf j := rfl
@[simp] theorem State.modFn_test_other (s : State) (i : Nat) (f : FnState → FnState) (j : Nat) : (s.modFn i f).test j = s.test j := rfl
@[simp] theorem State.modFn_grant_other (s : State) (i : Nat) (f : FnState → FnState) (j : Nat) : (s.modFn i f).grant j = s.grant j := rfl
@[simp] theorem State.modFn_reg_other (s : State) (i : Nat) (f : FnState → FnState) (j : Nat) : (s.modFn i f).reg j = s.reg j := rfl
@[simp] theorem State.modFn_byte_other (s : State) (i : Nat) (f : FnState → FnState) (j : Nat) : (s.modFn i f).byte j = s.byte j := rfl
@[simp] theorem State.modMsix_part_other (s : State) (i v : Nat) (f : MsixEntry → MsixEntry) (j : Nat) : (s.modMsix i v f).part j = s.part j := rfl
@[simp] theorem State.modMsix_vale_other (s : State) (i v : Nat) (f : MsixEntry → MsixEntry) (j : Nat) : (s.modMsix i v f).vale j = s.vale j := rfl
@[simp] theorem State.modMsix_cmd_other (s : State) (i v : Nat) (f : MsixEntry → MsixEntry) (j : Nat) : (s.modMsix i v f).cmd j = s.cmd j := rfl
@[simp] theorem State.modMsix_link_other (s : State) (i v : Nat) (f : MsixEntry → MsixEntry) (j : Nat) : (s.modMsix i v f).link j = s.link j := rfl
@[simp] theorem State.modMsix_turn_other (s : State) (i v : Nat) (f : MsixEntry → MsixEntry) (j : Nat) : (s.modMsix i v f).turn j = s.turn j := rfl
@[simp] theorem State.modMsix_floor_other (s : State) (i v : Nat) (f : MsixEntry → MsixEntry) (j : Nat) : (s.modMsix i v f).floor j = s.floor j := rfl
@[simp] theorem State.modMsix_echoOf_other (s : State) (i v : Nat) (f : MsixEntry → MsixEntry) (j : Nat) : (s.modMsix i v f).echoOf j = s.echoOf j := rfl
@[simp] theorem State.modMsix_test_other (s : State) (i v : Nat) (f : MsixEntry → MsixEntry) (j : Nat) : (s.modMsix i v f).test j = s.test j := rfl
@[simp] theorem State.modMsix_fn_other (s : State) (i v : Nat) (f : MsixEntry → MsixEntry) (j : Nat) : (s.modMsix i v f).fn j = s.fn j := rfl
@[simp] theorem State.modMsix_grant_other (s : State) (i v : Nat) (f : MsixEntry → MsixEntry) (j : Nat) : (s.modMsix i v f).grant j = s.grant j := rfl
@[simp] theorem State.modMsix_reg_other (s : State) (i v : Nat) (f : MsixEntry → MsixEntry) (j : Nat) : (s.modMsix i v f).reg j = s.reg j := rfl
@[simp] theorem State.modMsix_byte_other (s : State) (i v : Nat) (f : MsixEntry → MsixEntry) (j : Nat) : (s.modMsix i v f).byte j = s.byte j := rfl
@[simp] theorem State.setGrant_part_other (s : State) (p : Nat) (g : Grant) (j : Nat) : (s.setGrant p g).part j = s.part j := rfl
@[simp] theorem State.setGrant_vale_other (s : State) (p : Nat) (g : Grant) (j : Nat) : (s.setGrant p g).vale j = s.vale j := rfl
@[simp] theorem State.setGrant_cmd_other (s : State) (p : Nat) (g : Grant) (j : Nat) : (s.setGrant p g).cmd j = s.cmd j := rfl
@[simp] theorem State.setGrant_link_other (s : State) (p : Nat) (g : Grant) (j : Nat) : (s.setGrant p g).link j = s.link j := rfl
@[simp] theorem State.setGrant_turn_other (s : State) (p : Nat) (g : Grant) (j : Nat) : (s.setGrant p g).turn j = s.turn j := rfl
@[simp] theorem State.setGrant_floor_other (s : State) (p : Nat) (g : Grant) (j : Nat) : (s.setGrant p g).floor j = s.floor j := rfl
@[simp] theorem State.setGrant_echoOf_other (s : State) (p : Nat) (g : Grant) (j : Nat) : (s.setGrant p g).echoOf j = s.echoOf j := rfl
@[simp] theorem State.setGrant_test_other (s : State) (p : Nat) (g : Grant) (j : Nat) : (s.setGrant p g).test j = s.test j := rfl
@[simp] theorem State.setGrant_fn_other (s : State) (p : Nat) (g : Grant) (j : Nat) : (s.setGrant p g).fn j = s.fn j := rfl
@[simp] theorem State.setGrant_reg_other (s : State) (p : Nat) (g : Grant) (j : Nat) : (s.setGrant p g).reg j = s.reg j := rfl
@[simp] theorem State.setGrant_byte_other (s : State) (p : Nat) (g : Grant) (j : Nat) : (s.setGrant p g).byte j = s.byte j := rfl
@[simp] theorem State.setReg_part_other (s : State) (a : Nat) (w : Word) (j : Nat) : (s.setReg a w).part j = s.part j := rfl
@[simp] theorem State.setReg_vale_other (s : State) (a : Nat) (w : Word) (j : Nat) : (s.setReg a w).vale j = s.vale j := rfl
@[simp] theorem State.setReg_cmd_other (s : State) (a : Nat) (w : Word) (j : Nat) : (s.setReg a w).cmd j = s.cmd j := rfl
@[simp] theorem State.setReg_link_other (s : State) (a : Nat) (w : Word) (j : Nat) : (s.setReg a w).link j = s.link j := rfl
@[simp] theorem State.setReg_turn_other (s : State) (a : Nat) (w : Word) (j : Nat) : (s.setReg a w).turn j = s.turn j := rfl
@[simp] theorem State.setReg_floor_other (s : State) (a : Nat) (w : Word) (j : Nat) : (s.setReg a w).floor j = s.floor j := rfl
@[simp] theorem State.setReg_echoOf_other (s : State) (a : Nat) (w : Word) (j : Nat) : (s.setReg a w).echoOf j = s.echoOf j := rfl
@[simp] theorem State.setReg_test_other (s : State) (a : Nat) (w : Word) (j : Nat) : (s.setReg a w).test j = s.test j := rfl
@[simp] theorem State.setReg_fn_other (s : State) (a : Nat) (w : Word) (j : Nat) : (s.setReg a w).fn j = s.fn j := rfl
@[simp] theorem State.setReg_grant_other (s : State) (a : Nat) (w : Word) (j : Nat) : (s.setReg a w).grant j = s.grant j := rfl
@[simp] theorem State.setReg_byte_other (s : State) (a : Nat) (w : Word) (j : Nat) : (s.setReg a w).byte j = s.byte j := rfl
@[simp] theorem State.setRegF_part_other (s : State) (a hi lo v : Nat) (j : Nat) : (s.setRegF a hi lo v).part j = s.part j := rfl
@[simp] theorem State.setRegF_vale_other (s : State) (a hi lo v : Nat) (j : Nat) : (s.setRegF a hi lo v).vale j = s.vale j := rfl
@[simp] theorem State.setRegF_cmd_other (s : State) (a hi lo v : Nat) (j : Nat) : (s.setRegF a hi lo v).cmd j = s.cmd j := rfl
@[simp] theorem State.setRegF_link_other (s : State) (a hi lo v : Nat) (j : Nat) : (s.setRegF a hi lo v).link j = s.link j := rfl
@[simp] theorem State.setRegF_turn_other (s : State) (a hi lo v : Nat) (j : Nat) : (s.setRegF a hi lo v).turn j = s.turn j := rfl
@[simp] theorem State.setRegF_floor_other (s : State) (a hi lo v : Nat) (j : Nat) : (s.setRegF a hi lo v).floor j = s.floor j := rfl
@[simp] theorem State.setRegF_echoOf_other (s : State) (a hi lo v : Nat) (j : Nat) : (s.setRegF a hi lo v).echoOf j = s.echoOf j := rfl
@[simp] theorem State.setRegF_test_other (s : State) (a hi lo v : Nat) (j : Nat) : (s.setRegF a hi lo v).test j = s.test j := rfl
@[simp] theorem State.setRegF_fn_other (s : State) (a hi lo v : Nat) (j : Nat) : (s.setRegF a hi lo v).fn j = s.fn j := rfl
@[simp] theorem State.setRegF_grant_other (s : State) (a hi lo v : Nat) (j : Nat) : (s.setRegF a hi lo v).grant j = s.grant j := rfl
@[simp] theorem State.setRegF_byte_other (s : State) (a hi lo v : Nat) (j : Nat) : (s.setRegF a hi lo v).byte j = s.byte j := rfl
@[simp] theorem State.setReg64_part_other (s : State) (a v : Nat) (j : Nat) : (s.setReg64 a v).part j = s.part j := rfl
@[simp] theorem State.setReg64_vale_other (s : State) (a v : Nat) (j : Nat) : (s.setReg64 a v).vale j = s.vale j := rfl
@[simp] theorem State.setReg64_cmd_other (s : State) (a v : Nat) (j : Nat) : (s.setReg64 a v).cmd j = s.cmd j := rfl
@[simp] theorem State.setReg64_link_other (s : State) (a v : Nat) (j : Nat) : (s.setReg64 a v).link j = s.link j := rfl
@[simp] theorem State.setReg64_turn_other (s : State) (a v : Nat) (j : Nat) : (s.setReg64 a v).turn j = s.turn j := rfl
@[simp] theorem State.setReg64_floor_other (s : State) (a v : Nat) (j : Nat) : (s.setReg64 a v).floor j = s.floor j := rfl
@[simp] theorem State.setReg64_echoOf_other (s : State) (a v : Nat) (j : Nat) : (s.setReg64 a v).echoOf j = s.echoOf j := rfl
@[simp] theorem State.setReg64_test_other (s : State) (a v : Nat) (j : Nat) : (s.setReg64 a v).test j = s.test j := rfl
@[simp] theorem State.setReg64_fn_other (s : State) (a v : Nat) (j : Nat) : (s.setReg64 a v).fn j = s.fn j := rfl
@[simp] theorem State.setReg64_grant_other (s : State) (a v : Nat) (j : Nat) : (s.setReg64 a v).grant j = s.grant j := rfl
@[simp] theorem State.setReg64_byte_other (s : State) (a v : Nat) (j : Nat) : (s.setReg64 a v).byte j = s.byte j := rfl
@[simp] theorem State.emit_part_other (s : State) (e : Emit) (j : Nat) : (s.emit e).part j = s.part j := rfl
@[simp] theorem State.emit_vale_other (s : State) (e : Emit) (j : Nat) : (s.emit e).vale j = s.vale j := rfl
@[simp] theorem State.emit_cmd_other (s : State) (e : Emit) (j : Nat) : (s.emit e).cmd j = s.cmd j := rfl
@[simp] theorem State.emit_link_other (s : State) (e : Emit) (j : Nat) : (s.emit e).link j = s.link j := rfl
@[simp] theorem State.emit_turn_other (s : State) (e : Emit) (j : Nat) : (s.emit e).turn j = s.turn j := rfl
@[simp] theorem State.emit_floor_other (s : State) (e : Emit) (j : Nat) : (s.emit e).floor j = s.floor j := rfl
@[simp] theorem State.emit_echoOf_other (s : State) (e : Emit) (j : Nat) : (s.emit e).echoOf j = s.echoOf j := rfl
@[simp] theorem State.emit_test_other (s : State) (e : Emit) (j : Nat) : (s.emit e).test j = s.test j := rfl
@[simp] theorem State.emit_fn_other (s : State) (e : Emit) (j : Nat) : (s.emit e).fn j = s.fn j := rfl
@[simp] theorem State.emit_grant_other (s : State) (e : Emit) (j : Nat) : (s.emit e).grant j = s.grant j := rfl
@[simp] theorem State.emit_reg_other (s : State) (e : Emit) (j : Nat) : (s.emit e).reg j = s.reg j := rfl
@[simp] theorem State.emit_byte_other (s : State) (e : Emit) (j : Nat) : (s.emit e).byte j = s.byte j := rfl
@[simp] theorem State.setByte_part_other (s : State) (a : Nat) (b : Byte) (j : Nat) : (s.setByte a b).part j = s.part j := rfl
@[simp] theorem State.setByte_vale_other (s : State) (a : Nat) (b : Byte) (j : Nat) : (s.setByte a b).vale j = s.vale j := rfl
@[simp] theorem State.setByte_cmd_other (s : State) (a : Nat) (b : Byte) (j : Nat) : (s.setByte a b).cmd j = s.cmd j := rfl
@[simp] theorem State.setByte_link_other (s : State) (a : Nat) (b : Byte) (j : Nat) : (s.setByte a b).link j = s.link j := rfl
@[simp] theorem State.setByte_turn_other (s : State) (a : Nat) (b : Byte) (j : Nat) : (s.setByte a b).turn j = s.turn j := rfl
@[simp] theorem State.setByte_floor_other (s : State) (a : Nat) (b : Byte) (j : Nat) : (s.setByte a b).floor j = s.floor j := rfl
@[simp] theorem State.setByte_echoOf_other (s : State) (a : Nat) (b : Byte) (j : Nat) : (s.setByte a b).echoOf j = s.echoOf j := rfl
@[simp] theorem State.setByte_test_other (s : State) (a : Nat) (b : Byte) (j : Nat) : (s.setByte a b).test j = s.test j := rfl
@[simp] theorem State.setByte_fn_other (s : State) (a : Nat) (b : Byte) (j : Nat) : (s.setByte a b).fn j = s.fn j := rfl
@[simp] theorem State.setByte_grant_other (s : State) (a : Nat) (b : Byte) (j : Nat) : (s.setByte a b).grant j = s.grant j := rfl
@[simp] theorem State.setByte_reg_other (s : State) (a : Nat) (b : Byte) (j : Nat) : (s.setByte a b).reg j = s.reg j := rfl
@[simp] theorem State.clearRange_part_other (s : State) (lo hi : Nat) (j : Nat) : (s.clearRange lo hi).part j = s.part j := rfl
@[simp] theorem State.clearRange_vale_other (s : State) (lo hi : Nat) (j : Nat) : (s.clearRange lo hi).vale j = s.vale j := rfl
@[simp] theorem State.clearRange_cmd_other (s : State) (lo hi : Nat) (j : Nat) : (s.clearRange lo hi).cmd j = s.cmd j := rfl
@[simp] theorem State.clearRange_link_other (s : State) (lo hi : Nat) (j : Nat) : (s.clearRange lo hi).link j = s.link j := rfl
@[simp] theorem State.clearRange_turn_other (s : State) (lo hi : Nat) (j : Nat) : (s.clearRange lo hi).turn j = s.turn j := rfl
@[simp] theorem State.clearRange_floor_other (s : State) (lo hi : Nat) (j : Nat) : (s.clearRange lo hi).floor j = s.floor j := rfl
@[simp] theorem State.clearRange_echoOf_other (s : State) (lo hi : Nat) (j : Nat) : (s.clearRange lo hi).echoOf j = s.echoOf j := rfl
@[simp] theorem State.clearRange_test_other (s : State) (lo hi : Nat) (j : Nat) : (s.clearRange lo hi).test j = s.test j := rfl
@[simp] theorem State.clearRange_fn_other (s : State) (lo hi : Nat) (j : Nat) : (s.clearRange lo hi).fn j = s.fn j := rfl
@[simp] theorem State.clearRange_grant_other (s : State) (lo hi : Nat) (j : Nat) : (s.clearRange lo hi).grant j = s.grant j := rfl
@[simp] theorem State.clearRange_reg_other (s : State) (lo hi : Nat) (j : Nat) : (s.clearRange lo hi).reg j = s.reg j := rfl

end Sys2Proof.Machine
end

