-- ==== Sys2Proof/Laws/Leads.lean ====
section
/-! SUPPORT. Leads: what every part of a step does to the queue, the clock, the canonical form and the fields it does not name: the
relation that the lemmas of the other Leads files carry through every shared operation and every meaning. -/

namespace Sys2Proof.Machine

/-- F lets the field f change. A lemma about an operation lists so the fields that the operation can change. -/
class May (F : StateField → Bool) (f : StateField) : Prop where
  may : F f = true

theorem May.ne {F : StateField → Bool} {f : StateField} [h : May F f] (e : F f = false) : False := by
  rw [h.may] at e; cases e

/-- A field's new content y beside its old content x: F lets it change, or it stays. -/
def Kept (F : StateField → Bool) (f : StateField) {α : Type} (y x : α) : Prop := F f = true ∨ y = x

@[simp] theorem Kept.of_may (F : StateField → Bool) (f : StateField) [h : May F f] {α : Type} (y x : α) : Kept F f y x := Or.inl h.may

@[simp] theorem Kept.of_same (F : StateField → Bool) (f : StateField) {α : Type} (x : α) : Kept F f x x := Or.inr rfl

/-- t comes from s by work of the part: the queue stays, the clock does not go back, what was in canonical form stays so, and only
the fields that F names change. -/
structure State.Leads (F : StateField → Bool) (s t : State) : Prop where
  pending : t.pending = s.pending
  clock : s.clock ≤ t.clock
  canonical : s.Canonical → t.Canonical
  within : State.Within F s t

@[simp] theorem State.Leads.refl (F : StateField → Bool) (s : State) : State.Leads F s s :=
  ⟨rfl, Nat.le_refl _, id, fun f _ => by cases f <;> rfl⟩

theorem StateField.same_trans (f : StateField) {r s t : State} (h : f.same r s) (k : f.same s t) : f.same r t := by
  cases f <;> exact Eq.trans k h

theorem State.Leads.trans {F : StateField → Bool} {r s t : State} (h : State.Leads F r s) (k : State.Leads F s t) : State.Leads F r t :=
  ⟨k.pending.trans h.pending, Nat.le_trans h.clock k.clock, fun c => k.canonical (h.canonical c),
    fun f e => f.same_trans (h.within f e) (k.within f e)⟩

/-- An update of any fields but the queue and the clock, that keeps each sparse field canonical. -/
@[simp] theorem State.leads_mk {F : StateField → Bool} {r s : State} (h : State.Leads F r s) {free' : Nat} {out' : List Emit} {regs' : List (Nat × Word)} {shadows' : List (Nat × Word)} {mem' : List Host.Cell} {bad' : List (Nat × Bool)} {beat' : Beat} {beatBefore' : Beat} {fns' : List (Nat × FnState)} {msix' : List (Nat × MsixEntry)} {grants' : List (Nat × Grant)} {grantOp' : Option GrantOp} {vales' : List (Nat × ValeSt)} {parts' : List (Nat × Part)} {slots' : List (Nat × Option Cmd)} {links' : List (Nat × LinkSt)} {turns' : List (Nat × Option TurnJob)} {floors' : List (Nat × FloorSt)} {echo' : List (Nat × EchoSt)} {tests' : List (Nat × Option BgTest)} {credits' : List (Nat × (Nat × Nat))} {granted' : List (Nat × (Nat × Nat))} {resets' : List Nat} {health' : Health} {terrace' : Terrace} {boot' : Boot} {census' : Census} {mp' : Mp} {pins' : List Pin}
    (h_regs : Sparse.wf regDefault s.regs = true → Sparse.wf regDefault regs' = true)
    (h_mem : Sparse.wf memDefault s.mem = true → Sparse.wf memDefault mem' = true)
    (h_bad : Sparse.wf (fun _ => false) s.bad = true → Sparse.wf (fun _ => false) bad' = true)
    (h_fns : Sparse.wf (fun _ => FnState.reset) s.fns = true → Sparse.wf (fun _ => FnState.reset) fns' = true)
    (h_msix : Sparse.wf (fun _ => MsixEntry.reset) s.msix = true → Sparse.wf (fun _ => MsixEntry.reset) msix' = true)
    (h_grants : Sparse.wf (fun _ => Grant.none) s.grants = true → Sparse.wf (fun _ => Grant.none) grants' = true)
    (h_vales : Sparse.wf (fun _ => ValeSt.reset) s.vales = true → Sparse.wf (fun _ => ValeSt.reset) vales' = true)
    (h_parts : Sparse.wf (fun _ => Part.reset) s.parts = true → Sparse.wf (fun _ => Part.reset) parts' = true)
    (h_slots : Sparse.wf (fun _ => none) s.slots = true → Sparse.wf (fun _ => none) slots' = true)
    (h_links : Sparse.wf (fun _ => LinkSt.reset) s.links = true → Sparse.wf (fun _ => LinkSt.reset) links' = true)
    (h_turns : Sparse.wf (fun _ => none) s.turns = true → Sparse.wf (fun _ => none) turns' = true)
    (h_floors : Sparse.wf (fun _ => FloorSt.reset) s.floors = true → Sparse.wf (fun _ => FloorSt.reset) floors' = true)
    (h_echo : Sparse.wf (fun _ => EchoSt.reset) s.echo = true → Sparse.wf (fun _ => EchoSt.reset) echo' = true)
    (h_tests : Sparse.wf (fun _ => none) s.tests = true → Sparse.wf (fun _ => none) tests' = true)
    (h_credits : Sparse.wf (fun _ => (0, 0)) s.credits = true → Sparse.wf (fun _ => (0, 0)) credits' = true)
    (h_granted : Sparse.wf (fun _ => (0, 0)) s.granted = true → Sparse.wf (fun _ => (0, 0)) granted' = true)
    (w_free : Kept F .free free' s.free := by first | exact Kept.of_same _ _ _ | exact Kept.of_may _ _ _ _)
    (w_out : Kept F .out out' s.out := by first | exact Kept.of_same _ _ _ | exact Kept.of_may _ _ _ _)
    (w_regs : Kept F .regs regs' s.regs := by first | exact Kept.of_same _ _ _ | exact Kept.of_may _ _ _ _)
    (w_shadows : Kept F .shadows shadows' s.shadows := by first | exact Kept.of_same _ _ _ | exact Kept.of_may _ _ _ _)
    (w_mem : Kept F .mem mem' s.mem := by first | exact Kept.of_same _ _ _ | exact Kept.of_may _ _ _ _)
    (w_bad : Kept F .bad bad' s.bad := by first | exact Kept.of_same _ _ _ | exact Kept.of_may _ _ _ _)
    (w_beat : Kept F .beat beat' s.beat := by first | exact Kept.of_same _ _ _ | exact Kept.of_may _ _ _ _)
    (w_beatBefore : Kept F .beatBefore beatBefore' s.beatBefore := by first | exact Kept.of_same _ _ _ | exact Kept.of_may _ _ _ _)
    (w_fns : Kept F .fns fns' s.fns := by first | exact Kept.of_same _ _ _ | exact Kept.of_may _ _ _ _)
    (w_msix : Kept F .msix msix' s.msix := by first | exact Kept.of_same _ _ _ | exact Kept.of_may _ _ _ _)
    (w_grants : Kept F .grants grants' s.grants := by first | exact Kept.of_same _ _ _ | exact Kept.of_may _ _ _ _)
    (w_grantOp : Kept F .grantOp grantOp' s.grantOp := by first | exact Kept.of_same _ _ _ | exact Kept.of_may _ _ _ _)
    (w_vales : Kept F .vales vales' s.vales := by first | exact Kept.of_same _ _ _ | exact Kept.of_may _ _ _ _)
    (w_parts : Kept F .parts parts' s.parts := by first | exact Kept.of_same _ _ _ | exact Kept.of_may _ _ _ _)
    (w_slots : Kept F .slots slots' s.slots := by first | exact Kept.of_same _ _ _ | exact Kept.of_may _ _ _ _)
    (w_links : Kept F .links links' s.links := by first | exact Kept.of_same _ _ _ | exact Kept.of_may _ _ _ _)
    (w_turns : Kept F .turns turns' s.turns := by first | exact Kept.of_same _ _ _ | exact Kept.of_may _ _ _ _)
    (w_floors : Kept F .floors floors' s.floors := by first | exact Kept.of_same _ _ _ | exact Kept.of_may _ _ _ _)
    (w_echo : Kept F .echo echo' s.echo := by first | exact Kept.of_same _ _ _ | exact Kept.of_may _ _ _ _)
    (w_tests : Kept F .tests tests' s.tests := by first | exact Kept.of_same _ _ _ | exact Kept.of_may _ _ _ _)
    (w_credits : Kept F .credits credits' s.credits := by first | exact Kept.of_same _ _ _ | exact Kept.of_may _ _ _ _)
    (w_granted : Kept F .granted granted' s.granted := by first | exact Kept.of_same _ _ _ | exact Kept.of_may _ _ _ _)
    (w_resets : Kept F .resets resets' s.resets := by first | exact Kept.of_same _ _ _ | exact Kept.of_may _ _ _ _)
    (w_health : Kept F .health health' s.health := by first | exact Kept.of_same _ _ _ | exact Kept.of_may _ _ _ _)
    (w_terrace : Kept F .terrace terrace' s.terrace := by first | exact Kept.of_same _ _ _ | exact Kept.of_may _ _ _ _)
    (w_boot : Kept F .boot boot' s.boot := by first | exact Kept.of_same _ _ _ | exact Kept.of_may _ _ _ _)
    (w_census : Kept F .census census' s.census := by first | exact Kept.of_same _ _ _ | exact Kept.of_may _ _ _ _)
    (w_mp : Kept F .mp mp' s.mp := by first | exact Kept.of_same _ _ _ | exact Kept.of_may _ _ _ _)
    (w_pins : Kept F .pins pins' s.pins := by first | exact Kept.of_same _ _ _ | exact Kept.of_may _ _ _ _) :
    State.Leads F r (State.mk s.pending s.clock free' out' regs' shadows' mem' bad' beat' beatBefore' fns' msix' grants' grantOp' vales' parts' slots' links' turns' floors' echo' tests' credits' granted' resets' health' terrace' boot' census' mp' pins') :=
  h.trans ⟨rfl, Nat.le_refl _, fun c => ⟨h_regs c.regs, h_mem c.mem, h_bad c.bad, h_fns c.fns, h_msix c.msix, h_grants c.grants, h_vales c.vales, h_parts c.parts, h_slots c.slots, h_links c.links, h_turns c.turns, h_floors c.floors, h_echo c.echo, h_tests c.tests, h_credits c.credits, h_granted c.granted⟩, fun f e => by
    cases f
    · rfl
    · rfl
    · exact w_free.resolve_left (by simp [e])
    · exact w_out.resolve_left (by simp [e])
    · exact w_regs.resolve_left (by simp [e])
    · exact w_shadows.resolve_left (by simp [e])
    · exact w_mem.resolve_left (by simp [e])
    · exact w_bad.resolve_left (by simp [e])
    · exact w_beat.resolve_left (by simp [e])
    · exact w_beatBefore.resolve_left (by simp [e])
    · exact w_fns.resolve_left (by simp [e])
    · exact w_msix.resolve_left (by simp [e])
    · exact w_grants.resolve_left (by simp [e])
    · exact w_grantOp.resolve_left (by simp [e])
    · exact w_vales.resolve_left (by simp [e])
    · exact w_parts.resolve_left (by simp [e])
    · exact w_slots.resolve_left (by simp [e])
    · exact w_links.resolve_left (by simp [e])
    · exact w_turns.resolve_left (by simp [e])
    · exact w_floors.resolve_left (by simp [e])
    · exact w_echo.resolve_left (by simp [e])
    · exact w_tests.resolve_left (by simp [e])
    · exact w_credits.resolve_left (by simp [e])
    · exact w_granted.resolve_left (by simp [e])
    · exact w_resets.resolve_left (by simp [e])
    · exact w_health.resolve_left (by simp [e])
    · exact w_terrace.resolve_left (by simp [e])
    · exact w_boot.resolve_left (by simp [e])
    · exact w_census.resolve_left (by simp [e])
    · exact w_mp.resolve_left (by simp [e])
    · exact w_pins.resolve_left (by simp [e])⟩

theorem State.leads_terrace {F : StateField → Bool} [May F .terrace] {r s : State} (h : State.Leads F r s) (x : Terrace) : State.Leads F r { s with terrace := x } :=
  State.leads_mk h id id id id id id id id id id id id id id id id

theorem State.leads_health {F : StateField → Bool} [May F .health] {r s : State} (h : State.Leads F r s) (x : Health) : State.Leads F r { s with health := x } :=
  State.leads_mk h id id id id id id id id id id id id id id id id

theorem State.leads_mp {F : StateField → Bool} [May F .mp] {r s : State} (h : State.Leads F r s) (x : Mp) : State.Leads F r { s with mp := x } :=
  State.leads_mk h id id id id id id id id id id id id id id id id

theorem State.leads_census {F : StateField → Bool} [May F .census] {r s : State} (h : State.Leads F r s) (x : Census) : State.Leads F r { s with census := x } :=
  State.leads_mk h id id id id id id id id id id id id id id id id

theorem State.leads_beat {F : StateField → Bool} [May F .beat] {r s : State} (h : State.Leads F r s) (x : Beat) : State.Leads F r { s with beat := x } :=
  State.leads_mk h id id id id id id id id id id id id id id id id

theorem State.leads_boot {F : StateField → Bool} [May F .boot] {r s : State} (h : State.Leads F r s) (x : Boot) : State.Leads F r { s with boot := x } :=
  State.leads_mk h id id id id id id id id id id id id id id id id

/-- Time passes. -/
@[simp] theorem State.leads_tick {F : StateField → Bool} [May F .clock] {r s : State} (h : State.Leads F r s) (k : Nat) :
    State.Leads F r { s with clock := s.clock + k } :=
  h.trans ⟨rfl, Nat.le_add_right _ _, fun c => ⟨c.regs, c.mem, c.bad, c.fns, c.msix, c.grants, c.vales, c.parts, c.slots, c.links, c.turns, c.floors, c.echo, c.tests, c.credits, c.granted⟩, fun f e => by
    cases f <;> first | rfl | exact (May.ne e).elim⟩

@[simp] theorem State.leads_ite {F : StateField → Bool} {r s t : State} {p : Prop} [Decidable p] (h : State.Leads F r s) (k : State.Leads F r t) :
    State.Leads F r (if p then s else t) := by split <;> assumption

@[simp] theorem State.leads_foldl {F : StateField → Bool} {r s : State} {α : Type} {f : State → α → State} {l : List α} (h : State.Leads F r s)
    (k : ∀ t a, State.Leads F r t → State.Leads F r (f t a)) : State.Leads F r (l.foldl f s) := by
  induction l generalizing s with
  | nil => exact h
  | cons a l ih => exact ih (k s a h)

@[simp] theorem State.leads_ite_fst {F : StateField → Bool} {r : State} {α : Type} {x y : State × α} {p : Prop} [Decidable p]
    (h : State.Leads F r x.1) (k : State.Leads F r y.1) : State.Leads F r (if p then x else y).1 := by split <;> assumption

@[simp] theorem State.leads_foldl_fst {F : StateField → Bool} {r : State} {α : Type} {γ : Type} {f : State × α → γ → State × α} {l : List γ} {x : State × α}
    (h : State.Leads F r x.1) (k : ∀ t a, State.Leads F r t.1 → State.Leads F r (f t a).1) :
    State.Leads F r (l.foldl f x).1 := by
  induction l generalizing x with
  | nil => exact h
  | cons a l ih => exact ih (k x a h)

@[simp] theorem State.leads_ite_snd {F : StateField → Bool} {r : State} {α : Type} {x y : α × State} {p : Prop} [Decidable p]
    (h : State.Leads F r x.2) (k : State.Leads F r y.2) : State.Leads F r (if p then x else y).2 := by split <;> assumption

@[simp] theorem State.leads_foldl_snd {F : StateField → Bool} {r : State} {α : Type} {γ : Type} {f : α × State → γ → α × State} {l : List γ} {x : α × State}
    (h : State.Leads F r x.2) (k : ∀ t a, State.Leads F r t.2 → State.Leads F r (f t a).2) :
    State.Leads F r (l.foldl f x).2 := by
  induction l generalizing x with
  | nil => exact h
  | cons a l ih => exact ih (k x a h)

@[simp] theorem State.leads_ite_snd_snd {F : StateField → Bool} {r : State} {α β : Type} {x y : α × β × State} {p : Prop} [Decidable p]
    (h : State.Leads F r x.2.2) (k : State.Leads F r y.2.2) : State.Leads F r (if p then x else y).2.2 := by split <;> assumption

@[simp] theorem State.leads_foldl_snd_snd {F : StateField → Bool} {r : State} {α β : Type} {γ : Type} {f : α × β × State → γ → α × β × State} {l : List γ} {x : α × β × State}
    (h : State.Leads F r x.2.2) (k : ∀ t a, State.Leads F r t.2.2 → State.Leads F r (f t a).2.2) :
    State.Leads F r (l.foldl f x).2.2 := by
  induction l generalizing x with
  | nil => exact h
  | cons a l ih => exact ih (k x a h)

/-- A meaning that answers a next state leads to it. -/
structure State.LeadsOut (F : StateField → Bool) (s : State) (o : Host.Outcome State Fault Refusal) : Prop where
  out : ∀ t, o = .next t → State.Leads F s t

@[simp] theorem State.leadsOut_act {F : StateField → Bool} {s : State} {f : State → State} (h : State.Leads F s (f s)) :
    State.LeadsOut F s (act s f) := by
  refine ⟨fun t e => ?_⟩
  cases e; split
  · exact h
  · exact State.Leads.refl F s

@[simp] theorem State.leadsOut_next {F : StateField → Bool} {s t : State} (h : State.Leads F s t) : State.LeadsOut F s (.next t) := by
  refine ⟨fun u e => ?_⟩
  cases e; exact h

end Sys2Proof.Machine
end

