-- ==== Sys2Proof/Laws/LeadsOps.lean ====
section
/-! SUPPORT. LeadsOps: one lemma for each operation of the shared operations, registers, health, streams and the matrix and element engines: where it leads (Laws/Leads.lean). -/

namespace Sys2Proof.Machine

/-! ### Access -/

@[simp] theorem State.setPart_leads {F : StateField → Bool} [May F .parts] {r : State} {s : State} (n) (p) (h : State.Leads F r s) :
    State.Leads F r (State.setPart s n p) := by
  unfold State.setPart
  simp (maxDischargeDepth := 99) +contextual [h]

@[simp] theorem State.modPart_leads {F : StateField → Bool} [May F .parts] {r : State} {s : State} (n) (f) (h : State.Leads F r s) :
    State.Leads F r (State.modPart s n f) := by
  unfold State.modPart
  simp (maxDischargeDepth := 99) +contextual [h]

@[simp] theorem State.setVale_leads {F : StateField → Bool} [May F .vales] {r : State} {s : State} (g) (v) (h : State.Leads F r s) :
    State.Leads F r (State.setVale s g v) := by
  unfold State.setVale
  simp (maxDischargeDepth := 99) +contextual [h]

@[simp] theorem State.modVale_leads {F : StateField → Bool} [May F .vales] {r : State} {s : State} (g) (f) (h : State.Leads F r s) :
    State.Leads F r (State.modVale s g f) := by
  unfold State.modVale
  simp (maxDischargeDepth := 99) +contextual [h]

@[simp] theorem State.setCmd_leads {F : StateField → Bool} [May F .slots] {r : State} {s : State} (c) (x) (h : State.Leads F r s) :
    State.Leads F r (State.setCmd s c x) := by
  unfold State.setCmd
  simp (maxDischargeDepth := 99) +contextual [h]

@[simp] theorem State.modCmd_leads {F : StateField → Bool} [May F .slots] {r : State} {s : State} (c) (f) (h : State.Leads F r s) :
    State.Leads F r (State.modCmd s c f) := by
  unfold State.modCmd
  split <;> simp (maxDischargeDepth := 99) +contextual [h]

@[simp] theorem State.setLink_leads {F : StateField → Bool} [May F .links] {r : State} {s : State} (k) (l) (h : State.Leads F r s) :
    State.Leads F r (State.setLink s k l) := by
  unfold State.setLink
  simp (maxDischargeDepth := 99) +contextual [h]

@[simp] theorem State.modLink_leads {F : StateField → Bool} [May F .links] {r : State} {s : State} (k) (f) (h : State.Leads F r s) :
    State.Leads F r (State.modLink s k f) := by
  unfold State.modLink
  simp (maxDischargeDepth := 99) +contextual [h]

@[simp] theorem State.setTurn_leads {F : StateField → Bool} [May F .turns] {r : State} {s : State} (t) (x) (h : State.Leads F r s) :
    State.Leads F r (State.setTurn s t x) := by
  unfold State.setTurn
  simp (maxDischargeDepth := 99) +contextual [h]

@[simp] theorem State.modTurn_leads {F : StateField → Bool} [May F .turns] {r : State} {s : State} (t) (f) (h : State.Leads F r s) :
    State.Leads F r (State.modTurn s t f) := by
  unfold State.modTurn
  split <;> simp (maxDischargeDepth := 99) +contextual [h]

@[simp] theorem State.modFloor_leads {F : StateField → Bool} [May F .floors] {r : State} {s : State} (st) (f) (h : State.Leads F r s) :
    State.Leads F r (State.modFloor s st f) := by
  unfold State.modFloor
  simp (maxDischargeDepth := 99) +contextual [h]

@[simp] theorem State.modEcho_leads {F : StateField → Bool} [May F .echo] {r : State} {s : State} (p) (f) (h : State.Leads F r s) :
    State.Leads F r (State.modEcho s p f) := by
  unfold State.modEcho
  simp (maxDischargeDepth := 99) +contextual [h]

@[simp] theorem State.setTest_leads {F : StateField → Bool} [May F .tests] {r : State} {s : State} (i) (x) (h : State.Leads F r s) :
    State.Leads F r (State.setTest s i x) := by
  unfold State.setTest
  simp (maxDischargeDepth := 99) +contextual [h]

@[simp] theorem State.modFn_leads {F : StateField → Bool} [May F .fns] {r : State} {s : State} (f) (g) (h : State.Leads F r s) :
    State.Leads F r (State.modFn s f g) := by
  unfold State.modFn
  simp (maxDischargeDepth := 99) +contextual [h]

@[simp] theorem State.modMsix_leads {F : StateField → Bool} [May F .msix] {r : State} {s : State} (f) (v) (g) (h : State.Leads F r s) :
    State.Leads F r (State.modMsix s f v g) := by
  unfold State.modMsix
  simp (maxDischargeDepth := 99) +contextual [h]

@[simp] theorem State.setGrant_leads {F : StateField → Bool} [May F .grants] {r : State} {s : State} (p) (g) (h : State.Leads F r s) :
    State.Leads F r (State.setGrant s p g) := by
  unfold State.setGrant
  simp (maxDischargeDepth := 99) +contextual [h]

@[simp] theorem State.setReg_leads {F : StateField → Bool} [May F .regs] {r : State} {s : State} (a) (w) (h : State.Leads F r s) :
    State.Leads F r (State.setReg s a w) := by
  unfold State.setReg
  simp (maxDischargeDepth := 99) +contextual [h]

@[simp] theorem State.setRegF_leads {F : StateField → Bool} [May F .regs] {r : State} {s : State} (a) (hi) (lo) (v) (h : State.Leads F r s) :
    State.Leads F r (State.setRegF s a hi lo v) := by
  unfold State.setRegF
  simp (maxDischargeDepth := 99) +contextual [h]

@[simp] theorem State.setReg64_leads {F : StateField → Bool} [May F .regs] {r : State} {s : State} (a) (v) (h : State.Leads F r s) :
    State.Leads F r (State.setReg64 s a v) := by
  unfold State.setReg64
  simp (maxDischargeDepth := 99) +contextual [h]

@[simp] theorem State.count_leads {F : StateField → Bool} [May F .regs] {r : State} {s : State} (pg) (o) (k) (h : State.Leads F r s) :
    State.Leads F r (State.count s pg o k) := by
  unfold State.count
  simp (maxDischargeDepth := 99) +contextual [h]

@[simp] theorem State.count64_leads {F : StateField → Bool} [May F .regs] {r : State} {s : State} (pg) (o) (k) (h : State.Leads F r s) :
    State.Leads F r (State.count64 s pg o k) := by
  unfold State.count64
  simp (maxDischargeDepth := 99) +contextual [h]

@[simp] theorem State.accrue_leads {F : StateField → Bool} [May F .regs] {r : State} {s : State} (pg) (f) (k) (h : State.Leads F r s) :
    State.Leads F r (State.accrue s pg f k) := by
  unfold State.accrue
  simp (maxDischargeDepth := 99) +contextual [h]

@[simp] theorem State.emit_leads {F : StateField → Bool} [May F .out] {r : State} {s : State} (e) (h : State.Leads F r s) :
    State.Leads F r (State.emit s e) := by
  unfold State.emit
  simp (maxDischargeDepth := 99) +contextual [h]

@[simp] theorem State.freeWord_leads {F : StateField → Bool} [May F .free] {r : State} {s : State} (h : State.Leads F r s) :
    State.Leads F r (State.freeWord s).2 := by
  unfold State.freeWord
  simp (maxDischargeDepth := 99) +contextual [h]

@[simp] theorem State.freeBool_leads {F : StateField → Bool} [May F .free] {r : State} {s : State} (h : State.Leads F r s) :
    State.Leads F r (State.freeBool s).2 := by
  unfold State.freeBool
  simp (maxDischargeDepth := 99) +contextual [h]

@[simp] theorem State.freeBytes_leads {F : StateField → Bool} [May F .free] {r : State} {s : State} (n) (h : State.Leads F r s) :
    State.Leads F r (State.freeBytes s n).2 := by
  unfold State.freeBytes
  simp (maxDischargeDepth := 99) +contextual [h]

@[simp] theorem State.sendMsix_leads {F : StateField → Bool} [May F .out] [May F .msix] {r : State} {s : State} (f) (v) (h : State.Leads F r s) :
    State.Leads F r (State.sendMsix s f v) := by
  unfold State.sendMsix
  simp (maxDischargeDepth := 99) +contextual [h]

@[simp] theorem State.withIrq_leads {F : StateField → Bool} [May F .out] [May F .msix] {r : State} {s : State} (pg) (f) (h : State.Leads F r s) (hf : ∀ t, State.Leads F r t → State.Leads F r (f t)) :
    State.Leads F r (State.withIrq s pg f) := by
  unfold State.withIrq
  split <;> simp (maxDischargeDepth := 99) +contextual [h, hf]

@[simp] theorem State.raise_leads {F : StateField → Bool} [May F .out] [May F .regs] [May F .msix] {r : State} {s : State} (pg) (bits) (h : State.Leads F r s) :
    State.Leads F r (State.raise s pg bits) := by
  unfold State.raise
  simp (maxDischargeDepth := 99) +contextual [h]

@[simp] theorem State.beatEvent_leads {F : StateField → Bool} [May F .out] [May F .regs] [May F .msix] {r : State} {s : State} (bits) (h : State.Leads F r s) :
    State.Leads F r (State.beatEvent s bits) := by
  unfold State.beatEvent
  simp (maxDischargeDepth := 99) +contextual [h]

@[simp] theorem State.hifEvent_leads {F : StateField → Bool} [May F .out] [May F .regs] [May F .msix] {r : State} {s : State} (bits) (h : State.Leads F r s) :
    State.Leads F r (State.hifEvent s bits) := by
  unfold State.hifEvent
  simp (maxDischargeDepth := 99) +contextual [h]

@[simp] theorem actBar_leads {F : StateField → Bool} [May F .out] (fn : Fn) {s : State} {f : State → State} (h : State.Leads F s (f s)) :
    State.LeadsOut F s (actBar fn s f) := by
  unfold actBar; simp (maxDischargeDepth := 99) [h]

/-! ### Ops -/

@[simp] theorem State.moraine_leads {F : StateField → Bool} [May F .regs] [May F .mp] {r : State} {s : State} (ev) (pg) (payload) (h : State.Leads F r s) :
    State.Leads F r (State.moraine s ev pg payload) := by
  unfold State.moraine
  simp (maxDischargeDepth := 99) +contextual [h]

@[simp] theorem State.healthEvent_leads {F : StateField → Bool} [May F .health] {r : State} {s : State} (k) (unit) (n) (h : State.Leads F r s) :
    State.Leads F r (State.healthEvent s k unit n) := by
  unfold State.healthEvent
  simp (maxDischargeDepth := 99) +contextual [h]

@[simp] theorem State.setByte_leads {F : StateField → Bool} [May F .mem] {r : State} {s : State} (a) (x2) (h : State.Leads F r s) :
    State.Leads F r (State.setByte s a x2) := by
  unfold State.setByte
  simp (maxDischargeDepth := 99) +contextual [h]

@[simp] theorem State.setBytes_leads {F : StateField → Bool} [May F .mem] {r : State} {s : State} (a) (bs) (h : State.Leads F r s) :
    State.Leads F r (State.setBytes s a bs) := by
  induction bs generalizing s a with
  | nil => exact h
  | cons x bs ih => exact ih (a + 1) (State.setByte_leads a x h)

@[simp] theorem State.clearRange_leads {F : StateField → Bool} [May F .mem] {r : State} {s : State} (lo) (hi) (h : State.Leads F r s) :
    State.Leads F r (State.clearRange s lo hi) := by
  unfold State.clearRange
  simp (maxDischargeDepth := 99) +contextual [h]

@[simp] theorem State.repairCandidate_leads {F : StateField → Bool} [May F .out] [May F .regs] [May F .msix] [May F .floors] [May F .mp] {r : State} {s : State} (st) (blk) (h : State.Leads F r s) :
    State.Leads F r (State.repairCandidate s st blk) := by
  unfold State.repairCandidate
  simp (maxDischargeDepth := 99) +contextual [h]

@[simp] theorem State.corrected_leads {F : StateField → Bool} [May F .out] [May F .regs] [May F .msix] [May F .floors] [May F .health] [May F .mp] {r : State} {s : State} (a) (h : State.Leads F r s) :
    State.Leads F r (State.corrected s a) := by
  unfold State.corrected
  (repeat' split) <;> simp (maxDischargeDepth := 99) +contextual [h]

@[simp] theorem State.uncorrectable_leads {F : StateField → Bool} [May F .out] [May F .regs] [May F .bad] [May F .msix] [May F .floors] [May F .health] [May F .mp] {r : State} {s : State} (a) (scrub) (h : State.Leads F r s) :
    State.Leads F r (State.uncorrectable s a scrub) := by
  unfold State.uncorrectable
  (repeat' split) <;> simp (maxDischargeDepth := 99) +contextual [h]

@[simp] theorem State.readDpa_leads {F : StateField → Bool} [May F .out] [May F .regs] [May F .bad] [May F .msix] [May F .floors] [May F .health] [May F .mp] {r : State} {s : State} (a) (n) (h : State.Leads F r s) :
    State.Leads F r (State.readDpa s a n).2 := by
  unfold State.readDpa
  dsimp only
  (repeat' (split <;> (try first | (rename_i heq; have e := congrArg Prod.snd heq; dsimp only at e; subst e) | (rename_i heq _; have e := congrArg Prod.snd heq; dsimp only at e; subst e) | (rename_i heq _ _; have e := congrArg Prod.snd heq; dsimp only at e; subst e)))) <;> simp (maxDischargeDepth := 99) +contextual [h]

@[simp] theorem State.writeBlock_leads {F : StateField → Bool} [May F .out] [May F .regs] [May F .mem] [May F .bad] [May F .msix] [May F .floors] [May F .health] [May F .mp] {r : State} {s : State} (a) (bs) (h : State.Leads F r s) :
    State.Leads F r (State.writeBlock s a bs).2 := by
  have k := State.setBytes_leads a bs h
  unfold State.writeBlock
  simp only [apply_ite Prod.snd]
  exact State.leads_ite h (State.leads_ite
    (State.leads_mk k id id (fun c => Sparse.set_wf _ _ _ _ (by simpa using c)) id id id id id id id id id id id id id)
    (State.leads_ite (State.uncorrectable_leads a false h) k))

@[simp] theorem State.writeDpaFuel_leads {F : StateField → Bool} [May F .out] [May F .regs] [May F .mem] [May F .bad] [May F .msix] [May F .floors] [May F .health] [May F .mp] {r : State} (f) {s : State} (a) (bs) (h : State.Leads F r s) :
    State.Leads F r (State.writeDpaFuel f s a bs).2 := by
  induction f generalizing s a bs with
  | zero => exact h
  | succ f ih =>
    cases bs with
    | nil => exact h
    | cons x bs => exact ih _ _ (State.writeBlock_leads a _ h)

@[simp] theorem State.writeDpa_leads {F : StateField → Bool} [May F .out] [May F .regs] [May F .mem] [May F .bad] [May F .msix] [May F .floors] [May F .health] [May F .mp] {r : State} {s : State} (a) (bs) (h : State.Leads F r s) :
    State.Leads F r (State.writeDpa s a bs).2 := by
  unfold State.writeDpa
  simp (maxDischargeDepth := 99) +contextual [h]

@[simp] theorem State.cacheTrans_leads {F : StateField → Bool} [May F .parts] {r : State} {s : State} (n) (t) (h : State.Leads F r s) :
    State.Leads F r (State.cacheTrans s n t) := by
  unfold State.cacheTrans
  simp (maxDischargeDepth := 99) +contextual [h]

@[simp] theorem State.readPdaFuel_leads {F : StateField → Bool} [May F .out] [May F .regs] [May F .bad] [May F .msix] [May F .floors] [May F .health] [May F .mp] {r : State} (f) {s : State} (n a len) (h : State.Leads F r s) :
    State.Leads F r (State.readPdaFuel f s n a len).2 := by
  induction f generalizing s a len with
  | zero => exact h
  | succ f ih =>
    unfold State.readPdaFuel
    split
    · exact h
    · dsimp only
      split
      · exact h
      · exact h
      · exact State.uncorrectable_leads _ _ h
      · rename_i d t _
        have k := State.readDpa_leads d (min len (2 ^ 21 - a % 2 ^ 21)) h
        split
        · rename_i heq; rw [heq] at k; exact k
        · rename_i heq; rw [heq] at k
          split
          · rename_i s2 heq2
            have k2 := ih (a + min len (2 ^ 21 - a % 2 ^ 21)) (len - min len (2 ^ 21 - a % 2 ^ 21)) k
            rw [heq2] at k2; exact k2
          · exact ih _ _ k

@[simp] theorem State.readPda_leads {F : StateField → Bool} [May F .out] [May F .regs] [May F .bad] [May F .msix] [May F .floors] [May F .health] [May F .mp] {r : State} {s : State} (n) (a) (len) (h : State.Leads F r s) :
    State.Leads F r (State.readPda s n a len).2 := by
  unfold State.readPda
  simp (maxDischargeDepth := 99) +contextual [h]

@[simp] theorem State.writePdaFuel_leads {F : StateField → Bool} [May F .out] [May F .regs] [May F .mem] [May F .bad] [May F .msix] [May F .floors] [May F .health] [May F .mp] {r : State} (f) {s : State} (n a bs) (h : State.Leads F r s) :
    State.Leads F r (State.writePdaFuel f s n a bs).2 := by
  induction f generalizing s a bs with
  | zero => exact h
  | succ f ih =>
    cases bs with
    | nil => exact h
    | cons x bs =>
      unfold State.writePdaFuel
      dsimp only
      split
      · exact h
      · exact h
      · exact State.uncorrectable_leads _ _ h
      · rename_i d t _
        have k := ih (a + (2 ^ 21 - a % 2 ^ 21)) ((x :: bs).drop (2 ^ 21 - a % 2 ^ 21)) (State.writeDpa_leads d ((x :: bs).take (2 ^ 21 - a % 2 ^ 21)) h)
        split
        · rename_i heq; rw [heq] at k; exact k
        · exact k

@[simp] theorem State.writePda_leads {F : StateField → Bool} [May F .out] [May F .regs] [May F .mem] [May F .bad] [May F .msix] [May F .floors] [May F .health] [May F .mp] {r : State} {s : State} (n) (a) (bs) (h : State.Leads F r s) :
    State.Leads F r (State.writePda s n a bs).2 := by
  unfold State.writePda
  simp (maxDischargeDepth := 99) +contextual [h]

@[simp] theorem State.poke_leads {F : StateField → Bool} [May F .out] [May F .regs] [May F .mem] [May F .bad] [May F .msix] [May F .floors] [May F .health] [May F .mp] {r : State} {s : State} (n) (a) (bs) (h : State.Leads F r s) :
    State.Leads F r (State.poke s n a bs) := by
  unfold State.poke
  simp (maxDischargeDepth := 99) +contextual [h]

@[simp] theorem State.poke32_leads {F : StateField → Bool} [May F .out] [May F .regs] [May F .mem] [May F .bad] [May F .msix] [May F .floors] [May F .health] [May F .mp] {r : State} {s : State} (n) (a) (v) (h : State.Leads F r s) :
    State.Leads F r (State.poke32 s n a v) := by
  unfold State.poke32
  simp (maxDischargeDepth := 99) +contextual [h]

@[simp] theorem State.poke64_leads {F : StateField → Bool} [May F .out] [May F .regs] [May F .mem] [May F .bad] [May F .msix] [May F .floors] [May F .health] [May F .mp] {r : State} {s : State} (n) (a) (v) (h : State.Leads F r s) :
    State.Leads F r (State.poke64 s n a v) := by
  unfold State.poke64
  simp (maxDischargeDepth := 99) +contextual [h]

@[simp] theorem State.boundary_leads {F : StateField → Bool} [May F .parts] {r : State} {s : State} (n) (t) (h : State.Leads F r s) :
    State.Leads F r (State.boundary s n t) := by
  unfold State.boundary
  split <;> simp (maxDischargeDepth := 99) +contextual [h]

@[simp] theorem State.latchBindings_leads {F : StateField → Bool} [May F .slots] {r : State} {s : State} (n) (h : State.Leads F r s) :
    State.Leads F r (State.latchBindings s n) := by
  unfold State.latchBindings
  simp (maxDischargeDepth := 99) +contextual [h]

@[simp] theorem State.signal_leads {F : StateField → Bool} [May F .regs] [May F .parts] [May F .slots] {r : State} {s : State} (n) (t) (h : State.Leads F r s) :
    State.Leads F r (State.signal s n t) := by
  unfold State.signal
  simp (maxDischargeDepth := 99) +contextual [h]

@[simp] theorem State.valeClocks_leads {F : StateField → Bool} [May F .regs] {r : State} (k) {s : State} (g) (h : State.Leads F r s) :
    State.Leads F r (State.valeClocks k s g) := by
  unfold State.valeClocks
  simp (maxDischargeDepth := 99) +contextual [h]

@[simp] theorem State.pass_leads {F : StateField → Bool} [May F .clock] [May F .regs] {r : State} {s : State} (k) (h : State.Leads F r s) :
    State.Leads F r (State.pass s k) := by
  unfold State.pass
  simp (maxDischargeDepth := 99) +contextual [h]

/-! ### Registers -/

@[simp] theorem State.resend_leads {F : StateField → Bool} [May F .out] [May F .msix] {r : State} {s : State} (pg) (h : State.Leads F r s) :
    State.Leads F r (State.resend s pg) := by
  unfold State.resend
  split <;> simp (maxDischargeDepth := 99) +contextual [h]

@[simp] theorem State.storeFields_leads {F : StateField → Bool} [May F .out] [May F .regs] [May F .msix] {r : State} {s : State} (a) (v) (p) (h : State.Leads F r s) :
    State.Leads F r (State.storeFields s a v p) := by
  unfold State.storeFields
  (repeat' split) <;> simp (maxDischargeDepth := 99) +contextual [h]

@[simp] theorem State.storeReg_leads {F : StateField → Bool} [May F .out] [May F .regs] [May F .msix] {r : State} {s : State} (a) (v) (h : State.Leads F r s) :
    State.Leads F r (State.storeReg s a v) := by
  unfold State.storeReg
  simp (maxDischargeDepth := 99) +contextual [h]

@[simp] theorem State.setShadow_leads {F : StateField → Bool} [May F .shadows] {r : State} {s : State} (fn) (a) (w) (h : State.Leads F r s) :
    State.Leads F r (State.setShadow s fn a w) := by
  unfold State.setShadow
  simp (maxDischargeDepth := 99) +contextual [h]

@[simp] theorem State.hostRead_leads {F : StateField → Bool} [May F .regs] [May F .shadows] {r : State} {s : State} (fn) (a) (h : State.Leads F r s) :
    State.Leads F r (State.hostRead s fn a).2 := by
  unfold State.hostRead
  split <;> simp (maxDischargeDepth := 99) +contextual [h]

@[simp] theorem State.readOut_leads {F : StateField → Bool} [May F .out] [May F .regs] [May F .shadows] {r : State} {s : State} (fn) (ofs) (h : State.Leads F r s) :
    State.Leads F r (State.readOut s fn ofs) := by
  unfold State.readOut
  split <;> simp (maxDischargeDepth := 99) +contextual [h]

@[simp] theorem State.softResetRegs_leads {F : StateField → Bool} [May F .regs] {r : State} {s : State} (pg) (h : State.Leads F r s) :
    State.Leads F r (State.softResetRegs s pg) := by
  refine State.leads_mk h (fun c => ?_) id id id id id id id id id id id id id id id
  have : ∀ (l : List (Nat × Word)) (m : List (Nat × Word)), Sparse.wf regDefault m = true →
      Sparse.wf regDefault (l.foldl (fun m e => if pageBase pg ≤ e.1 ∧ e.1 < pageBase pg + 0x1000 then
        Sparse.set regDefault m e.1 (softResetWord pg (e.1 - pageBase pg) e.2) else m) m) = true := by
    intro l
    induction l with
    | nil => intro m hm; exact hm
    | cons e l ih =>
      intro m hm
      refine ih _ ?_
      dsimp only
      split
      · exact Sparse.set_wf _ _ _ _ hm
      · exact hm
  exact this _ _ c

@[simp] theorem State.softResetUnit_leads {F : StateField → Bool} [May F .mem] [May F .vales] {r : State} {s : State} (pg) (h : State.Leads F r s) :
    State.Leads F r (State.softResetUnit s pg) := by
  unfold State.softResetUnit
  split <;> simp (maxDischargeDepth := 99) +contextual [h]

@[simp] theorem softResetDo_leads {F : StateField → Bool} [May F .regs] [May F .mem] [May F .vales] [May F .resets] {r : State} (pg) {s : State} (h : State.Leads F r s) :
    State.Leads F r (softResetDo pg s) := by
  unfold softResetDo
  simp (maxDischargeDepth := 99) +contextual [h]

@[simp] theorem actMp_leads {F : StateField → Bool} [May F .out] {s : State} {f : State → State} (h : State.Leads F s (f s)) :
    State.LeadsOut F s (actMp s f) := by
  unfold actMp; simp (maxDischargeDepth := 99) [h]

@[simp] theorem actAt_leads {F : StateField → Bool} [May F .out] (mp : Bool) (fn : Fn) {s : State} {f : State → State} (h : State.Leads F s (f s)) :
    State.LeadsOut F s (actAt mp fn s f) := by
  unfold actAt; split <;> simp (maxDischargeDepth := 99) [h]

theorem execRcFieldRead_leads {F : StateField → Bool} [May F .out] [May F .regs] [May F .shadows] (fn) (ofs) {s : State} : State.LeadsOut F s (execRcFieldRead fn ofs s) := by
  simp (maxDischargeDepth := 99) [execRcFieldRead]

theorem execLowWordRead_leads {F : StateField → Bool} [May F .out] [May F .regs] [May F .shadows] (fn) (ofs) {s : State} : State.LeadsOut F s (execLowWordRead fn ofs s) := by
  simp (maxDischargeDepth := 99) [execLowWordRead]

theorem execCgTestOutRead_leads {F : StateField → Bool} [May F .out] {s : State} : State.LeadsOut F s (execCgTestOutRead s) := by
  simp (maxDischargeDepth := 99) [execCgTestOutRead]

theorem execIrqStatWrite_leads {F : StateField → Bool} [May F .out] [May F .regs] [May F .msix] (pg) (v) {s : State} : State.LeadsOut F s (execIrqStatWrite pg v s) := by
  simp (maxDischargeDepth := 99) [execIrqStatWrite]

theorem execIrqForceWrite_leads {F : StateField → Bool} [May F .out] [May F .regs] [May F .msix] (pg) (v) {s : State} : State.LeadsOut F s (execIrqForceWrite pg v s) := by
  simp (maxDischargeDepth := 99) [execIrqForceWrite]

theorem execSoftReset_leads {F : StateField → Bool} [May F .out] [May F .regs] [May F .mem] [May F .vales] [May F .resets] (pg) {s : State} : State.LeadsOut F s (execSoftReset pg s) := by
  simp (maxDischargeDepth := 99) [execSoftReset]

theorem execSoftResetEnd_leads {F : StateField → Bool} [May F .resets] (pg) {s : State} : State.LeadsOut F s (execSoftResetEnd pg s) := by
  simp (maxDischargeDepth := 99) [execSoftResetEnd]

/-! ### Health -/

@[simp] theorem State.setPin_leads {F : StateField → Bool} [May F .out] [May F .pins] {r : State} {s : State} (p) (on) (h : State.Leads F r s) :
    State.Leads F r (State.setPin s p on) := by
  unfold State.setPin
  simp (maxDischargeDepth := 99) +contextual [h]

@[simp] theorem State.driveAlert_leads {F : StateField → Bool} [May F .out] [May F .pins] {r : State} {s : State} (h : State.Leads F r s) :
    State.Leads F r (State.driveAlert s) := by
  unfold State.driveAlert
  simp (maxDischargeDepth := 99) +contextual [h]

@[simp] theorem State.setSrcLast_leads {F : StateField → Bool} [May F .regs] {r : State} {s : State} (k) (h : State.Leads F r s) :
    State.Leads F r (State.setSrcLast s k) := by
  unfold State.setSrcLast
  simp (maxDischargeDepth := 99) +contextual [h]

@[simp] theorem State.alertAt_leads {F : StateField → Bool} [May F .out] [May F .regs] [May F .msix] [May F .health] [May F .mp] [May F .pins] {r : State} {s : State} (risk) (was) (h : State.Leads F r s) :
    State.Leads F r (State.alertAt s risk was) := by
  unfold State.alertAt
  simp (maxDischargeDepth := 99) +contextual [h]

@[simp] theorem State.triggerAt_leads {F : StateField → Bool} [May F .regs] [May F .terrace] {r : State} {s : State} (risk) (h : State.Leads F r s) :
    State.Leads F r (State.triggerAt s risk) := by
  unfold State.triggerAt
  dsimp only
  generalize (decide (s.regF 0x103050 15 0 ≤ risk) && s.regBit 0x103040 2 && s.regBit 0x103044 16) = q
  have k : State.Leads F r (if q = true then s.setRegF 0x103044 16 16 0 else s) := by
    simp (maxDischargeDepth := 99) [h]
  generalize (if q = true then s.setRegF 0x103044 16 16 0 else s) = t at k ⊢
  simp (maxDischargeDepth := 99) [k]

@[simp] theorem hmUpdateDo_leads {F : StateField → Bool} [May F .out] [May F .regs] [May F .msix] [May F .health] [May F .terrace] [May F .mp] [May F .pins] {r : State} {s : State} (h : State.Leads F r s) :
    State.Leads F r (hmUpdateDo s) := by
  unfold hmUpdateDo
  simp (maxDischargeDepth := 99) +contextual [h]

@[simp] theorem hmClearDo_leads {F : StateField → Bool} [May F .health] {r : State} {s : State} (h : State.Leads F r s) :
    State.Leads F r (hmClearDo s) := by
  unfold hmClearDo
  simp (maxDischargeDepth := 99) +contextual [h]

@[simp] theorem State.fenceVale_leads {F : StateField → Bool} [May F .out] [May F .regs] [May F .msix] [May F .vales] [May F .parts] [May F .health] [May F .mp] {r : State} {s : State} (g) (cause) (h : State.Leads F r s) :
    State.Leads F r (State.fenceVale s g cause) := by
  unfold State.fenceVale
  (repeat' split) <;> simp (maxDischargeDepth := 99) +contextual [h]

@[simp] theorem State.fencePlain_leads {F : StateField → Bool} [May F .out] [May F .regs] [May F .msix] [May F .vales] [May F .parts] [May F .floors] [May F .health] [May F .mp] {r : State} {s : State} (p) (cause) (h : State.Leads F r s) :
    State.Leads F r (State.fencePlain s p cause) := by
  unfold State.fencePlain
  simp (maxDischargeDepth := 99) +contextual [h]

@[simp] theorem State.fenceUnit_leads {F : StateField → Bool} [May F .out] [May F .regs] [May F .msix] [May F .vales] [May F .parts] [May F .floors] [May F .health] [May F .mp] {r : State} {s : State} (u) (cause) (h : State.Leads F r s) :
    State.Leads F r (State.fenceUnit s u cause) := by
  unfold State.fenceUnit
  simp (maxDischargeDepth := 99) +contextual [h]

@[simp] theorem State.fenceLater_leads {F : StateField → Bool} [May F .terrace] {r : State} {s : State} (u) (cause) (h : State.Leads F r s) :
    State.Leads F r (State.fenceLater s u cause) := by
  unfold State.fenceLater
  simp (maxDischargeDepth := 99) +contextual [h]

@[simp] theorem valeFenceDo_leads {F : StateField → Bool} [May F .out] [May F .regs] [May F .msix] [May F .vales] [May F .parts] [May F .health] [May F .terrace] [May F .mp] {r : State} (g) (cause) {s : State} (h : State.Leads F r s) :
    State.Leads F r (valeFenceDo g cause s) := by
  unfold valeFenceDo
  simp (maxDischargeDepth := 99) +contextual [h]

@[simp] theorem State.showD2d_leads {F : StateField → Bool} [May F .out] [May F .regs] [May F .msix] {r : State} {s : State} (p) (side) (h : State.Leads F r s) :
    State.Leads F r (State.showD2d s p side) := by
  unfold State.showD2d
  split <;> simp (maxDischargeDepth := 99) +contextual [h]

@[simp] theorem plainFenceDo_leads {F : StateField → Bool} [May F .out] [May F .regs] [May F .msix] [May F .vales] [May F .parts] [May F .floors] [May F .health] [May F .mp] {r : State} (p) (cause) {s : State} (h : State.Leads F r s) :
    State.Leads F r (plainFenceDo p cause s) := by
  unfold plainFenceDo
  split <;> simp (maxDischargeDepth := 99) +contextual [h]

@[simp] theorem hostFenceDo_leads {F : StateField → Bool} [May F .out] [May F .regs] [May F .msix] [May F .vales] [May F .parts] [May F .floors] [May F .health] [May F .terrace] [May F .mp] {r : State} (pg) {s : State} (h : State.Leads F r s) :
    State.Leads F r (hostFenceDo pg s) := by
  unfold hostFenceDo
  split <;> simp (maxDischargeDepth := 99) +contextual [h]

@[simp] theorem State.met_leads {F : StateField → Bool} [May F .out] [May F .regs] [May F .bad] [May F .msix] [May F .floors] [May F .health] [May F .mp] {r : State} {s : State} (x1) (dpa) (h : State.Leads F r s) :
    State.Leads F r (State.met s x1 dpa) := by
  unfold State.met
  split <;> simp (maxDischargeDepth := 99) +contextual [h]

@[simp] theorem digestGoDo_leads {F : StateField → Bool} [May F .regs] [May F .parts] {r : State} (n) (signal) {s : State} (h : State.Leads F r s) :
    State.Leads F r (digestGoDo n signal s) := by
  unfold digestGoDo
  simp (maxDischargeDepth := 99) +contextual [h]

@[simp] theorem State.setResult_leads {F : StateField → Bool} [May F .regs] {r : State} {s : State} (n) (ws) (h : State.Leads F r s) :
    State.Leads F r (State.setResult s n ws) := by
  unfold State.setResult
  simp (maxDischargeDepth := 99) +contextual [h]

@[simp] theorem State.freeWords4_leads {F : StateField → Bool} [May F .free] {r : State} {s : State} (h : State.Leads F r s) :
    State.Leads F r (State.freeWords4 s).2 := by
  unfold State.freeWords4
  simp (maxDischargeDepth := 99) +contextual [h]

@[simp] theorem digestEndDo_leads {F : StateField → Bool} [May F .free] [May F .out] [May F .regs] [May F .bad] [May F .msix] [May F .parts] [May F .slots] [May F .floors] [May F .health] [May F .mp] {r : State} (n) (x1) (d) {s : State} (h : State.Leads F r s) :
    State.Leads F r (digestEndDo n x1 d s) := by
  unfold digestEndDo
  dsimp only
  (repeat' (split <;> (try first | (rename_i heq; have e := congrArg Prod.snd heq; dsimp only at e; subst e) | (rename_i heq _; have e := congrArg Prod.snd heq; dsimp only at e; subst e) | (rename_i heq _ _; have e := congrArg Prod.snd heq; dsimp only at e; subst e)))) <;> simp (maxDischargeDepth := 99) +contextual [h]

theorem execHmUpdate_leads {F : StateField → Bool} [May F .out] [May F .regs] [May F .msix] [May F .health] [May F .terrace] [May F .mp] [May F .pins] {s : State} : State.LeadsOut F s (execHmUpdate s) := by
  simp (maxDischargeDepth := 99) [execHmUpdate]

theorem execHmClear_leads {F : StateField → Bool} [May F .out] [May F .health] {s : State} : State.LeadsOut F s (execHmClear s) := by
  simp (maxDischargeDepth := 99) [execHmClear]

theorem execValeFence_leads {F : StateField → Bool} [May F .out] [May F .regs] [May F .msix] [May F .vales] [May F .parts] [May F .health] [May F .terrace] [May F .mp] (g) (cause) {s : State} : State.LeadsOut F s (execValeFence g cause s) := by
  simp (maxDischargeDepth := 99) [execValeFence]

theorem execPlainFence_leads {F : StateField → Bool} [May F .out] [May F .regs] [May F .msix] [May F .vales] [May F .parts] [May F .floors] [May F .health] [May F .mp] (p) (cause) {s : State} : State.LeadsOut F s (execPlainFence p cause s) := by
  simp (maxDischargeDepth := 99) [execPlainFence]

theorem execHostFence_leads {F : StateField → Bool} [May F .out] [May F .regs] [May F .msix] [May F .vales] [May F .parts] [May F .floors] [May F .health] [May F .terrace] [May F .mp] (pg) {s : State} : State.LeadsOut F s (execHostFence pg s) := by
  simp (maxDischargeDepth := 99) [execHostFence]

theorem execDigestGo_leads {F : StateField → Bool} [May F .out] [May F .regs] [May F .parts] (n) (signal) {s : State} : State.LeadsOut F s (execDigestGo n signal s) := by
  simp (maxDischargeDepth := 99) [execDigestGo]

theorem execDigestStart_leads {F : StateField → Bool} [May F .parts] (n) {s : State} : State.LeadsOut F s (execDigestStart n s) := by
  simp (maxDischargeDepth := 99) [execDigestStart]

theorem execDigestEnd_leads {F : StateField → Bool} [May F .free] [May F .out] [May F .regs] [May F .bad] [May F .msix] [May F .parts] [May F .slots] [May F .floors] [May F .health] [May F .mp] (n x1) {s : State} : State.LeadsOut F s (execDigestEnd n x1 s) := by
  unfold execDigestEnd
  refine State.leadsOut_act ?_
  split
  · rename_i d _
    refine State.leads_ite ?_ (State.Leads.refl F s)
    have k : State.Leads F s (match s.pdaDpa n.val (s.reg64 (partBase n.val + 0x7000)) with | some dpa => s.met x1 dpa | none => s) := by
      split <;> simp (maxDischargeDepth := 99)
    unfold digestEndDo
    refine State.signal_leads _ _ (State.modPart_leads _ _ (State.setRegF_leads _ _ _ _ ?_))
    have k2 := State.readPda_leads n.val (s.reg64 (partBase n.val + 0x7000)) ((match s.pdaDpa n.val (s.reg64 (partBase n.val + 0x7000)) with | some dpa => s.met x1 dpa | none => s).reg64 (partBase n.val + 0x7008)) k
    split
    · exact State.leads_ite_snd (State.setResult_leads _ _ (State.freeWords4_leads k2)) (State.setResult_leads _ _ k2)
    · exact State.setResult_leads _ _ (State.freeWords4_leads k2)
    · exact State.setResult_leads _ _ (State.freeWords4_leads k2)
  · exact State.Leads.refl F s

/-! ### Operands -/

@[simp] theorem State.qPut_leads {F : StateField → Bool} [May F .mem] {r : State} {s : State} (q p bs) (h : State.Leads F r s) :
    State.Leads F r (State.qPut s q p bs) := by
  induction bs generalizing s p with
  | nil => exact h
  | cons x bs ih => exact ih _ (State.setByte_leads _ x h)

@[simp] theorem State.slotPut_leads {F : StateField → Bool} [May F .mem] {r : State} {s : State} (q i p bs) (h : State.Leads F r s) :
    State.Leads F r (State.slotPut s q i p bs) := by
  induction bs generalizing s p with
  | nil => exact h
  | cons x bs ih => exact ih _ (State.setByte_leads _ x h)

@[simp] theorem State.qPutElem_leads {F : StateField → Bool} [May F .mem] {r : State} {s : State} (q) (p) (w) (x) (h : State.Leads F r s) :
    State.Leads F r (State.qPutElem s q p w x) := by
  unfold State.qPutElem
  simp (maxDischargeDepth := 99) +contextual [h]

@[simp] theorem State.qAppend_leads {F : StateField → Bool} [May F .mem] [May F .slots] {r : State} {s : State} (k) (c) (i) (bs) (h : State.Leads F r s) :
    State.Leads F r (State.qAppend s k c i bs) := by
  unfold State.qAppend
  simp (maxDischargeDepth := 99) +contextual [h]

/-! ### Scales -/

theorem gotRec_leads {F : StateField → Bool} [May F .slots] {r : State} (k) (p : Got × State) (h : State.Leads F r p.2) :
    State.Leads F r (gotRec k p).2 := by
  obtain ⟨g, t⟩ := p
  cases g <;> simp_all (maxDischargeDepth := 99) [gotRec]
@[simp] theorem State.readRec_leads {F : StateField → Bool} [May F .out] [May F .regs] [May F .bad] [May F .msix] [May F .slots] [May F .floors] [May F .health] [May F .mp] {r : State} {s : State} (k c tag) (h : State.Leads F r s) :
    State.Leads F r (State.readRec s k c tag).2 := by
  unfold State.readRec
  exact gotRec_leads k _ (State.readPda_leads _ _ _ h)

@[simp] theorem State.updateRec_leads {F : StateField → Bool} [May F .out] [May F .regs] [May F .mem] [May F .bad] [May F .msix] [May F .slots] [May F .floors] [May F .health] [May F .mp] {r : State} {s : State} (k c tag f) (h : State.Leads F r s) :
    State.Leads F r (State.updateRec s k c tag f) := by
  unfold State.updateRec
  dsimp only
  refine State.leads_ite (by simp [h]) ?_
  have q := State.readPda_leads c.part.val (scaleAddr s c.part.val tag) 128 h
  split
  · rename_i heq; rw [heq] at q; simp (maxDischargeDepth := 99) [q]
  · rename_i heq; rw [heq] at q; simp (maxDischargeDepth := 99) [q]
  · rename_i heq; rw [heq] at q; simp (maxDischargeDepth := 99) [q]

@[simp] theorem State.foldTag_leads {F : StateField → Bool} [May F .out] [May F .regs] [May F .mem] [May F .bad] [May F .msix] [May F .slots] [May F .floors] [May F .health] [May F .mp] {r : State} {s : State} (k) (c) (tag) (xs) (h : State.Leads F r s) :
    State.Leads F r (State.foldTag s k c tag xs) := by
  unfold State.foldTag
  simp (maxDischargeDepth := 99) +contextual [h]

@[simp] theorem State.satEvents_leads {F : StateField → Bool} [May F .out] [May F .regs] [May F .mem] [May F .bad] [May F .msix] [May F .slots] [May F .floors] [May F .health] [May F .mp] {r : State} {s : State} (k) (c) (n) (h : State.Leads F r s) :
    State.Leads F r (State.satEvents s k c n) := by
  unfold State.satEvents
  simp (maxDischargeDepth := 99) +contextual [h]

@[simp] theorem State.setBankWord_leads {F : StateField → Bool} [May F .mem] {r : State} {s : State} (g) (a) (row) (col) (w) (h : State.Leads F r s) :
    State.Leads F r (State.setBankWord s g a row col w) := by
  unfold State.setBankWord
  simp (maxDischargeDepth := 99) +contextual [h]

@[simp] theorem State.modArray_leads {F : StateField → Bool} [May F .vales] {r : State} {s : State} (g) (a) (f) (h : State.Leads F r s) :
    State.Leads F r (State.modArray s g a f) := by
  unfold State.modArray
  simp (maxDischargeDepth := 99) +contextual [h]

/-! ### Matrix -/

@[simp] theorem State.readZeros_leads {F : StateField → Bool} [May F .out] [May F .regs] [May F .bad] [May F .msix] [May F .floors] [May F .health] [May F .mp] {r : State} {s : State} (d) (n) (h : State.Leads F r s) :
    State.Leads F r (State.readZeros s d n).2.2 := by
  unfold State.readZeros
  simp (maxDischargeDepth := 99) +contextual [h]

@[simp] theorem State.sideRead_leads {F : StateField → Bool} [May F .out] [May F .regs] [May F .bad] [May F .msix] [May F .parts] [May F .slots] [May F .floors] [May F .health] [May F .mp] {r : State} {s : State} (k) (c) (a) (n) (h : State.Leads F r s) :
    State.Leads F r (State.sideRead s k c a n).2.2 := by
  unfold State.sideRead
  split <;> simp (maxDischargeDepth := 99) +contextual [h]

theorem bytesOnly_leads {F : StateField → Bool}  {r : State} {x : List Byte × Bool × State} (h : State.Leads F r x.2.2) :
    State.Leads F r (bytesOnly x).2 := h
@[simp] theorem State.tileTable_leads {F : StateField → Bool} [May F .out] [May F .regs] [May F .bad] [May F .msix] [May F .parts] [May F .slots] [May F .floors] [May F .health] [May F .mp] {r : State} {s : State} (k) (c) (rank) (h : State.Leads F r s) :
    State.Leads F r (State.tileTable s k c rank).2 := by
  unfold State.tileTable
  exact State.leads_ite_snd (bytesOnly_leads (State.sideRead_leads _ _ _ _ (State.readRec_leads _ _ _ h))) h

@[simp] theorem State.landTable_leads {F : StateField → Bool} [May F .out] [May F .regs] [May F .mem] [May F .bad] [May F .msix] [May F .parts] [May F .slots] [May F .floors] [May F .health] [May F .mp] {r : State} {s : State} (k a n) (h : State.Leads F r s) :
    State.Leads F r (State.landTable s k a n) := by
  unfold State.landTable
  split
  · exact h
  · split
    · exact h
    · exact State.slotPut_leads _ _ _ _ (State.tileTable_leads _ _ _ h)

@[simp] theorem State.fillShadow_leads {F : StateField → Bool} [May F .out] [May F .regs] [May F .bad] [May F .msix] [May F .vales] [May F .parts] [May F .slots] [May F .floors] [May F .health] [May F .mp] {r : State} {s : State} (g) (a) (h : State.Leads F r s) :
    State.Leads F r (State.fillShadow s g a) := by
  unfold State.fillShadow
  refine State.leads_ite h ?_
  split
  · exact h
  · dsimp only
    exact State.leads_ite h (State.modCmd_leads _ _ (State.modArray_leads _ _ _ h))

@[simp] theorem State.fillShadows_leads {F : StateField → Bool} [May F .out] [May F .regs] [May F .bad] [May F .msix] [May F .vales] [May F .parts] [May F .slots] [May F .floors] [May F .health] [May F .mp] {r : State} {s : State} (g) (h : State.Leads F r s) :
    State.Leads F r (State.fillShadows s g) := by
  unfold State.fillShadows
  simp (maxDischargeDepth := 99) +contextual [h]

@[simp] theorem State.echoStat_leads {F : StateField → Bool} [May F .regs] {r : State} {s : State} (p) (h : State.Leads F r s) :
    State.Leads F r (State.echoStat s p) := by
  unfold State.echoStat
  simp (maxDischargeDepth := 99) +contextual [h]

@[simp] theorem State.beginCapture_leads {F : StateField → Bool} [May F .out] [May F .regs] [May F .msix] [May F .echo] {r : State} {s : State} (k) (c) (a) (col) (x5) (cols) (i) (j) (h : State.Leads F r s) :
    State.Leads F r (State.beginCapture s k c a col x5 cols i j) := by
  unfold State.beginCapture
  simp (maxDischargeDepth := 99) +contextual [h]

@[simp] theorem State.captureRow_leads {F : StateField → Bool} [May F .out] [May F .regs] [May F .msix] [May F .echo] {r : State} {s : State} (k) (c) (a) (rank) (x5) (h : State.Leads F r s) :
    State.Leads F r (State.captureRow s k c a rank x5) := by
  unfold State.captureRow
  split <;> simp (maxDischargeDepth := 99) +contextual [h]

@[simp] theorem State.watchSat_leads {F : StateField → Bool} [May F .regs] {r : State} {s : State} (g) (a) (tag) (n) (h : State.Leads F r s) :
    State.Leads F r (State.watchSat s g a tag n) := by
  unfold State.watchSat
  simp (maxDischargeDepth := 99) +contextual [h]

@[simp] theorem State.arrayEvents_leads {F : StateField → Bool} [May F .out] [May F .regs] [May F .mem] [May F .bad] [May F .msix] [May F .slots] [May F .floors] [May F .health] [May F .mp] {r : State} {s : State} (k) (c) (a) (f) (n) (h : State.Leads F r s) :
    State.Leads F r (State.arrayEvents s k c a f n) := by
  unfold State.arrayEvents
  simp (maxDischargeDepth := 99) +contextual [h]

@[simp] theorem State.rowThrough_leads {F : StateField → Bool} [May F .out] [May F .regs] [May F .mem] [May F .bad] [May F .msix] [May F .slots] [May F .floors] [May F .echo] [May F .health] [May F .mp] {r : State} {s : State} (k) (c) (xs) (t) (x5) (a) (rank) (h : State.Leads F r s) :
    State.Leads F r (State.rowThrough s k c xs t x5 a rank) := by
  unfold State.rowThrough
  split <;> simp (maxDischargeDepth := 99) +contextual [h]

@[simp] theorem State.streamRow_leads {F : StateField → Bool} [May F .out] [May F .regs] [May F .mem] [May F .bad] [May F .msix] [May F .slots] [May F .floors] [May F .echo] [May F .health] [May F .mp] {r : State} {s : State} (k) (c) (h : State.Leads F r s) :
    State.Leads F r (State.streamRow s k c) := by
  unfold State.streamRow
  simp (maxDischargeDepth := 99) +contextual [h]

@[simp] theorem State.streamRows_leads {F : StateField → Bool} [May F .out] [May F .regs] [May F .mem] [May F .bad] [May F .msix] [May F .slots] [May F .floors] [May F .echo] [May F .health] [May F .mp] {r : State} (f) {s : State} (k) (h : State.Leads F r s) :
    State.Leads F r (State.streamRows f s k) := by
  induction f generalizing s with
  | zero => exact h
  | succ f ih =>
    unfold State.streamRows
    split
    · exact h
    · exact State.leads_ite (ih (State.streamRow_leads _ _ h)) h

@[simp] theorem State.markWaiting_leads {F : StateField → Bool} [May F .vales] {r : State} {s : State} (k) (h : State.Leads F r s) :
    State.Leads F r (State.markWaiting s k) := by
  unfold State.markWaiting
  split <;> simp (maxDischargeDepth := 99) +contextual [h]

@[simp] theorem State.matrixGo_leads {F : StateField → Bool} [May F .out] [May F .regs] [May F .mem] [May F .bad] [May F .msix] [May F .vales] [May F .parts] [May F .slots] [May F .floors] [May F .echo] [May F .health] [May F .mp] {r : State} {s : State} (k) (h : State.Leads F r s) :
    State.Leads F r (State.matrixGo s k) := by
  unfold State.matrixGo
  split <;> simp (maxDischargeDepth := 99) +contextual [h]

@[simp] theorem State.latchMatrix_leads {F : StateField → Bool} [May F .out] [May F .regs] [May F .bad] [May F .msix] [May F .slots] [May F .floors] [May F .health] [May F .mp] {r : State} {s : State} (k) (c) (h : State.Leads F r s) :
    State.Leads F r (State.latchMatrix s k c) := by
  unfold State.latchMatrix
  simp (maxDischargeDepth := 99) +contextual [h]

@[simp] theorem matrixStartDo_leads {F : StateField → Bool} [May F .out] [May F .regs] [May F .bad] [May F .msix] [May F .slots] [May F .floors] [May F .health] [May F .mp] {r : State} (k) {s : State} (h : State.Leads F r s) :
    State.Leads F r (matrixStartDo k s) := by
  unfold matrixStartDo
  split <;> simp (maxDischargeDepth := 99) +contextual [h]

@[simp] theorem State.activate_leads {F : StateField → Bool} [May F .out] [May F .regs] [May F .mem] [May F .bad] [May F .msix] [May F .vales] [May F .parts] [May F .slots] [May F .floors] [May F .health] [May F .mp] {r : State} {s : State} (k) (c) (good) (a) (h : State.Leads F r s) :
    State.Leads F r (State.activate s k c good a) := by
  unfold State.activate
  split <;> simp (maxDischargeDepth := 99) +contextual [h]

@[simp] theorem tileSwapDo_leads {F : StateField → Bool} [May F .out] [May F .regs] [May F .mem] [May F .bad] [May F .msix] [May F .vales] [May F .parts] [May F .slots] [May F .floors] [May F .echo] [May F .health] [May F .terrace] [May F .mp] {r : State} (k) (parity) {s : State} (h : State.Leads F r s) :
    State.Leads F r (tileSwapDo k parity s) := by
  unfold tileSwapDo
  split <;> simp (maxDischargeDepth := 99) +contextual [h]

@[simp] theorem State.accCorrected_leads {F : StateField → Bool} [May F .regs] [May F .health] {r : State} {s : State} (g) (as) (h : State.Leads F r s) :
    State.Leads F r (State.accCorrected s g as) := by
  unfold State.accCorrected
  simp (maxDischargeDepth := 99) +contextual [h]

@[simp] theorem rowReleaseDo_leads {F : StateField → Bool} [May F .regs] [May F .slots] [May F .health] {r : State} (k) (corrected) {s : State} (h : State.Leads F r s) :
    State.Leads F r (rowReleaseDo k corrected s) := by
  unfold rowReleaseDo
  split <;> simp (maxDischargeDepth := 99) +contextual [h]

@[simp] theorem arrCntClrDo_leads {F : StateField → Bool} [May F .regs] {r : State} (g) (a) {s : State} (h : State.Leads F r s) :
    State.Leads F r (arrCntClrDo g a s) := by
  unfold arrCntClrDo
  simp (maxDischargeDepth := 99) +contextual [h]

@[simp] theorem satWatchTagDo_leads {F : StateField → Bool} [May F .out] [May F .regs] [May F .msix] {r : State} (g) (a) (i) (v) {s : State} (h : State.Leads F r s) :
    State.Leads F r (satWatchTagDo g a i v s) := by
  unfold satWatchTagDo
  simp (maxDischargeDepth := 99) +contextual [h]

theorem execMatrixStageStart_leads {F : StateField → Bool} [May F .out] [May F .regs] [May F .bad] [May F .msix] [May F .slots] [May F .floors] [May F .health] [May F .mp] (k) {s : State} : State.LeadsOut F s (execMatrixStageStart k s) := by
  simp (maxDischargeDepth := 99) [execMatrixStageStart]

theorem execTileSwap_leads {F : StateField → Bool} [May F .out] [May F .regs] [May F .mem] [May F .bad] [May F .msix] [May F .vales] [May F .parts] [May F .slots] [May F .floors] [May F .echo] [May F .health] [May F .terrace] [May F .mp] (k) (parity) {s : State} : State.LeadsOut F s (execTileSwap k parity s) := by
  simp (maxDischargeDepth := 99) [execTileSwap]

theorem execBankRowRelease_leads {F : StateField → Bool} [May F .regs] [May F .slots] [May F .health] (k) (corrected) {s : State} : State.LeadsOut F s (execBankRowRelease k corrected s) := by
  simp (maxDischargeDepth := 99) [execBankRowRelease]

theorem execArrCntClr_leads {F : StateField → Bool} [May F .out] [May F .regs] (g) (a) {s : State} : State.LeadsOut F s (execArrCntClr g a s) := by
  simp (maxDischargeDepth := 99) [execArrCntClr]

theorem execSatWatchTagWrite_leads {F : StateField → Bool} [May F .out] [May F .regs] [May F .msix] (g) (a) (i) (v) {s : State} : State.LeadsOut F s (execSatWatchTagWrite g a i v s) := by
  simp (maxDischargeDepth := 99) [execSatWatchTagWrite]

/-! ### Rings -/

@[simp] theorem State.putStore_leads {F : StateField → Bool} [May F .mem] {r : State} {s : State} (g o bs) (h : State.Leads F r s) :
    State.Leads F r (State.putStore s g o bs) := by
  induction bs generalizing s o with
  | nil => exact h
  | cons x bs ih => exact ih _ (State.setByte_leads _ x h)

@[simp] theorem State.collFeed_leads {F : StateField → Bool} [May F .mem] [May F .slots] {r : State} {s : State} (k) (h : State.Leads F r s) :
    State.Leads F r (State.collFeed s k) := by
  unfold State.collFeed
  (repeat' split) <;> simp (maxDischargeDepth := 99) +contextual [h]

/-! ### Streaming -/

@[simp] theorem State.modLine_leads {F : StateField → Bool} [May F .vales] {r : State} {s : State} (g) (ln) (f) (h : State.Leads F r s) :
    State.Leads F r (State.modLine s g ln f) := by
  unfold State.modLine
  simp (maxDischargeDepth := 99) +contextual [h]

@[simp] theorem State.issueXfer_leads {F : StateField → Bool} [May F .vales] [May F .slots] {r : State} {s : State} (k) (x) (h : State.Leads F r s) :
    State.Leads F r (State.issueXfer s k x) := by
  unfold State.issueXfer
  split <;> simp (maxDischargeDepth := 99) +contextual [h]

@[simp] theorem State.atsUse_leads {F : StateField → Bool} [May F .fns] {r : State} {s : State} (n) (a) (h : State.Leads F r s) :
    State.Leads F r (State.atsUse s n a) := by
  unfold State.atsUse
  simp (maxDischargeDepth := 99) +contextual [h]

@[simp] theorem State.xRead_leads {F : StateField → Bool} [May F .out] [May F .regs] [May F .bad] [May F .fns] [May F .msix] [May F .parts] [May F .floors] [May F .health] [May F .mp] {r : State} {s : State} (c) (e) (pos) (n) (x5) (host) (h : State.Leads F r s) :
    State.Leads F r (State.xRead s c e pos n x5 host).2 := by
  unfold State.xRead
  dsimp only
  (repeat' (split <;> (try first | (rename_i heq; have e := congrArg Prod.snd heq; dsimp only at e; subst e) | (rename_i heq _; have e := congrArg Prod.snd heq; dsimp only at e; subst e) | (rename_i heq _ _; have e := congrArg Prod.snd heq; dsimp only at e; subst e)))) <;> simp (maxDischargeDepth := 99) +contextual [h]

@[simp] theorem State.putPiece_leads {F : StateField → Bool}  {r : State} {s : State} (a p w) (h : State.Leads F r s)
    (hw : ∀ t x y, State.Leads F r t → State.Leads F r (w t x y).2) : State.Leads F r (State.putPiece s a p w).2 := by
  unfold State.putPiece
  exact State.leads_foldl_snd h fun t e ht => hw _ _ _ ht

@[simp] theorem State.hostBytes_leads {F : StateField → Bool} [May F .free] {r : State} {s : State} (p) (h : State.Leads F r s) :
    State.Leads F r (State.hostBytes s p).2 := by
  unfold State.hostBytes
  simp (maxDischargeDepth := 99) +contextual [h]

@[simp] theorem State.xWrite_leads {F : StateField → Bool} [May F .free] [May F .out] [May F .regs] [May F .mem] [May F .bad] [May F .fns] [May F .msix] [May F .parts] [May F .slots] [May F .floors] [May F .health] [May F .mp] {r : State} {s : State} (k) (c) (e) (pos) (p) (h : State.Leads F r s) :
    State.Leads F r (State.xWrite s k c e pos p).2 := by
  unfold State.xWrite
  dsimp only
  (repeat' (split <;> (try first | (rename_i heq; have e := congrArg Prod.snd heq; dsimp only at e; subst e) | (rename_i heq _; have e := congrArg Prod.snd heq; dsimp only at e; subst e) | (rename_i heq _ _; have e := congrArg Prod.snd heq; dsimp only at e; subst e)))) <;> simp (maxDischargeDepth := 99) +contextual [h]

@[simp] theorem State.learn_leads {F : StateField → Bool} [May F .slots] {r : State} {s : State} (k) (x) (m) (h : State.Leads F r s) :
    State.Leads F r (State.learn s k x m) := by
  unfold State.learn
  simp (maxDischargeDepth := 99) +contextual [h]

@[simp] theorem State.deliver_leads {F : StateField → Bool} [May F .mem] [May F .slots] {r : State} {s : State} (k) (x) (e) (pos) (bs) (h : State.Leads F r s) :
    State.Leads F r (State.deliver s k x e pos bs) := by
  unfold State.deliver
  (repeat' split) <;> simp (maxDischargeDepth := 99) +contextual [h]

@[simp] theorem fetchLand_leads {F : StateField → Bool} [May F .out] [May F .regs] [May F .mem] [May F .bad] [May F .fns] [May F .msix] [May F .vales] [May F .parts] [May F .slots] [May F .floors] [May F .echo] [May F .health] [May F .mp] {r : State} (k x c n x4 host) {s : State} (h : State.Leads F r s) :
    State.Leads F r (fetchLand k x c n x4 host s) := by
  unfold fetchLand
  split
  · exact h
  · dsimp only
    refine State.matrixGo_leads _ (State.leads_ite (State.landTable_leads _ _ _ ?_) ?_) <;>
      exact State.deliver_leads _ _ _ _ _ (State.learn_leads _ _ _
        (State.leads_ite_snd h (State.leads_ite_snd h (State.xRead_leads _ _ _ _ _ _ h))))

@[simp] theorem State.storeData_leads {F : StateField → Bool} [May F .out] [May F .regs] [May F .mem] [May F .bad] [May F .msix] [May F .slots] [May F .floors] [May F .health] [May F .mp] {r : State} {s : State} (k c e pos n) (h : State.Leads F r s) :
    State.Leads F r (State.storeData s k c e pos n).2 := by
  unfold State.storeData
  refine State.leads_ite_snd (State.modCmd_leads _ _ h) (State.leads_ite_snd ?_ h)
  exact State.leads_foldl h fun t e ht => State.leads_ite ht (State.arrayEvents_leads _ _ _ _ _ ht)

@[simp] theorem storeLand_leads {F : StateField → Bool} [May F .free] [May F .out] [May F .regs] [May F .mem] [May F .bad] [May F .fns] [May F .msix] [May F .parts] [May F .slots] [May F .floors] [May F .health] [May F .mp] {r : State} (k) (x) (c) (n) {s : State} (h : State.Leads F r s) :
    State.Leads F r (storeLand k x c n s) := by
  unfold storeLand
  split <;> simp (maxDischargeDepth := 99) +contextual [h]

@[simp] theorem subBlockDo_leads {F : StateField → Bool} [May F .free] [May F .out] [May F .regs] [May F .mem] [May F .bad] [May F .fns] [May F .msix] [May F .vales] [May F .parts] [May F .slots] [May F .floors] [May F .echo] [May F .health] [May F .mp] {r : State} (k) (x) (x2) (host) {s : State} (h : State.Leads F r s) :
    State.Leads F r (subBlockDo k x x2 host s) := by
  unfold subBlockDo
  split <;> simp (maxDischargeDepth := 99) +contextual [h]

@[simp] theorem State.landLine_leads {F : StateField → Bool} [May F .vales] [May F .slots] {r : State} {s : State} (g) (ln) (fill) (h : State.Leads F r s) :
    State.Leads F r (State.landLine s g ln fill) := by
  unfold State.landLine
  split <;> simp (maxDischargeDepth := 99) +contextual [h]

@[simp] theorem State.faultMessage_leads {F : StateField → Bool} [May F .out] [May F .msix] [May F .parts] {r : State} {s : State} (n) (h : State.Leads F r s) :
    State.Leads F r (State.faultMessage s n) := by
  unfold State.faultMessage
  simp (maxDischargeDepth := 99) +contextual [h]

@[simp] theorem State.writeFault_leads {F : StateField → Bool} [May F .out] [May F .msix] [May F .parts] {r : State} {s : State} (k) (c) (x) (level) (resumable) (i) (h : State.Leads F r s) :
    State.Leads F r (State.writeFault s k c x level resumable i) := by
  unfold State.writeFault
  simp (maxDischargeDepth := 99) +contextual [h]

@[simp] theorem State.endXfer_leads {F : StateField → Bool} [May F .slots] {r : State} {s : State} (k) (x) (h : State.Leads F r s) :
    State.Leads F r (State.endXfer s k x) := by
  unfold State.endXfer
  simp (maxDischargeDepth := 99) +contextual [h]

@[simp] theorem State.askPage_leads {F : StateField → Bool} [May F .out] [May F .msix] [May F .parts] [May F .slots] {r : State} {s : State} (k) (c) (x) (h : State.Leads F r s) :
    State.Leads F r (State.askPage s k c x) := by
  unfold State.askPage
  dsimp only
  (repeat' (split <;> (try first | (rename_i heq; have e := congrArg Prod.snd heq; dsimp only at e; subst e) | (rename_i heq _; have e := congrArg Prod.snd heq; dsimp only at e; subst e) | (rename_i heq _ _; have e := congrArg Prod.snd heq; dsimp only at e; subst e)))) <;> simp (maxDischargeDepth := 99) +contextual [h]

@[simp] theorem State.meteredFault_leads {F : StateField → Bool} [May F .out] [May F .regs] [May F .msix] [May F .parts] [May F .slots] {r : State} {s : State} (k) (c) (x) (level) (h : State.Leads F r s) :
    State.Leads F r (State.meteredFault s k c x level) := by
  unfold State.meteredFault
  dsimp only
  (repeat' (split <;> (try first | (rename_i heq; have e := congrArg Prod.snd heq; dsimp only at e; subst e) | (rename_i heq _; have e := congrArg Prod.snd heq; dsimp only at e; subst e) | (rename_i heq _ _; have e := congrArg Prod.snd heq; dsimp only at e; subst e)))) <;> simp (maxDischargeDepth := 99) +contextual [h]

@[simp] theorem faultDo_leads {F : StateField → Bool} [May F .out] [May F .regs] [May F .msix] [May F .parts] [May F .slots] {r : State} (k) (x) {s : State} (h : State.Leads F r s) :
    State.Leads F r (faultDo k x s) := by
  unfold faultDo
  split <;> simp (maxDischargeDepth := 99) +contextual [h]

@[simp] theorem State.sendWaiting_leads {F : StateField → Bool} [May F .out] [May F .msix] [May F .parts] [May F .slots] {r : State} {s : State} (n) (h : State.Leads F r s) :
    State.Leads F r (State.sendWaiting s n) := by
  unfold State.sendWaiting
  refine State.leads_foldl h ?_
  intro t a ht
  (repeat' split) <;> simp (maxDischargeDepth := 99) +contextual [ht]

@[simp] theorem State.resumeXfer_leads {F : StateField → Bool} [May F .out] [May F .regs] [May F .msix] [May F .parts] [May F .slots] {r : State} {s : State} (k) (x) (h : State.Leads F r s) :
    State.Leads F r (State.resumeXfer s k x) := by
  unfold State.resumeXfer
  dsimp only
  (repeat' (split <;> (try first | (rename_i heq; have e := congrArg Prod.snd heq; dsimp only at e; subst e) | (rename_i heq _; have e := congrArg Prod.snd heq; dsimp only at e; subst e) | (rename_i heq _ _; have e := congrArg Prod.snd heq; dsimp only at e; subst e)))) <;> simp (maxDischargeDepth := 99) +contextual [h]

@[simp] theorem prgDo_leads {F : StateField → Bool} [May F .out] [May F .regs] [May F .fns] [May F .msix] [May F .parts] [May F .slots] {r : State} (n) (prg) (code) {s : State} (h : State.Leads F r s) :
    State.Leads F r (prgDo n prg code s) := by
  unfold prgDo
  (repeat' split) <;> simp (maxDischargeDepth := 99) +contextual [h]

@[simp] theorem State.deferOr_leads {F : StateField → Bool} [May F .terrace] {r : State} {s : State} (d) (f) (h : State.Leads F r s) (hf : ∀ t, State.Leads F r t → State.Leads F r (f t)) :
    State.Leads F r (State.deferOr s d f) := by
  unfold State.deferOr
  simp (maxDischargeDepth := 99) +contextual [h, hf]

@[simp] theorem State.freeFault_leads {F : StateField → Bool} [May F .parts] {r : State} {s : State} (n) (i) (h : State.Leads F r s) :
    State.Leads F r (State.freeFault s n i) := by
  unfold State.freeFault
  simp (maxDischargeDepth := 99) +contextual [h]

@[simp] theorem faultResumeDo_leads {F : StateField → Bool} [May F .out] [May F .regs] [May F .msix] [May F .parts] [May F .slots] {r : State} (n) (i) {s : State} (h : State.Leads F r s) :
    State.Leads F r (faultResumeDo n i s) := by
  unfold faultResumeDo
  split <;> simp (maxDischargeDepth := 99) +contextual [h]

@[simp] theorem faultEndDo_leads {F : StateField → Bool} [May F .out] [May F .msix] [May F .parts] [May F .slots] {r : State} (n) (i) {s : State} (h : State.Leads F r s) :
    State.Leads F r (faultEndDo n i s) := by
  unfold faultEndDo
  split <;> simp (maxDischargeDepth := 99) +contextual [h]

@[simp] theorem fqNextDo_leads {F : StateField → Bool} [May F .out] [May F .parts] {r : State} (n) {s : State} (h : State.Leads F r s) :
    State.Leads F r (fqNextDo n s) := by
  unfold fqNextDo
  (repeat' split) <;> simp (maxDischargeDepth := 99) +contextual [h]

@[simp] theorem hostFailDo_leads {F : StateField → Bool} [May F .out] [May F .slots] {r : State} (k) (x) (why) {s : State} (h : State.Leads F r s) :
    State.Leads F r (hostFailDo k x why s) := by
  unfold hostFailDo
  (repeat' split) <;> simp (maxDischargeDepth := 99) +contextual [h]

@[simp] theorem spillDo_leads {F : StateField → Bool} [May F .out] [May F .regs] [May F .msix] [May F .vales] [May F .slots] {r : State} (g) {s : State} (h : State.Leads F r s) :
    State.Leads F r (spillDo g s) := by
  unfold spillDo
  split <;> simp (maxDischargeDepth := 99) +contextual [h]

@[simp] theorem State.watchStall_leads {F : StateField → Bool} [May F .vales] {r : State} {s : State} (g) (h : State.Leads F r s) :
    State.Leads F r (State.watchStall s g) := by
  unfold State.watchStall
  simp (maxDischargeDepth := 99) +contextual [h]

@[simp] theorem strmCntClrDo_leads {F : StateField → Bool} [May F .regs] {r : State} (g) {s : State} (h : State.Leads F r s) :
    State.Leads F r (strmCntClrDo g s) := by
  unfold strmCntClrDo
  simp (maxDischargeDepth := 99) +contextual [h]

theorem execSubBlockLands_leads {F : StateField → Bool} [May F .free] [May F .out] [May F .regs] [May F .mem] [May F .bad] [May F .fns] [May F .msix] [May F .vales] [May F .parts] [May F .slots] [May F .floors] [May F .echo] [May F .health] [May F .mp] (k) (x) (x2) (host) {s : State} : State.LeadsOut F s (execSubBlockLands k x x2 host s) := by
  simp (maxDischargeDepth := 99) [execSubBlockLands]

theorem execLineFillLanded_leads {F : StateField → Bool} [May F .vales] [May F .slots] (g) (line) {s : State} : State.LeadsOut F s (execLineFillLanded g line s) := by
  simp (maxDischargeDepth := 99) [execLineFillLanded]

theorem execLineDrainDone_leads {F : StateField → Bool} [May F .vales] [May F .slots] (g) (line) {s : State} : State.LeadsOut F s (execLineDrainDone g line s) := by
  simp (maxDischargeDepth := 99) [execLineDrainDone]

theorem execTranslationFault_leads {F : StateField → Bool} [May F .out] [May F .regs] [May F .msix] [May F .parts] [May F .slots] (k) (x) {s : State} : State.LeadsOut F s (execTranslationFault k x s) := by
  simp (maxDischargeDepth := 99) [execTranslationFault]

theorem execPrgResponse_leads {F : StateField → Bool} [May F .out] [May F .regs] [May F .fns] [May F .msix] [May F .parts] [May F .slots] [May F .terrace] (n) (prg) (code) {s : State} : State.LeadsOut F s (execPrgResponse n prg code s) := by
  unfold execPrgResponse
  simp (maxDischargeDepth := 99) +contextual

theorem execFaultResume_leads {F : StateField → Bool} [May F .out] [May F .regs] [May F .msix] [May F .parts] [May F .slots] [May F .terrace] (n) (i) {s : State} : State.LeadsOut F s (execFaultResume n i s) := by
  unfold execFaultResume
  simp (maxDischargeDepth := 99) +contextual

theorem execFaultEnd_leads {F : StateField → Bool} [May F .out] [May F .msix] [May F .parts] [May F .slots] [May F .terrace] (n) (i) {s : State} : State.LeadsOut F s (execFaultEnd n i s) := by
  unfold execFaultEnd
  simp (maxDischargeDepth := 99) +contextual

theorem execFqNextRead_leads {F : StateField → Bool} [May F .out] [May F .parts] (n) {s : State} : State.LeadsOut F s (execFqNextRead n s) := by
  simp (maxDischargeDepth := 99) [execFqNextRead]

theorem execHostReadFailure_leads {F : StateField → Bool} [May F .out] [May F .slots] (k) (x) (why) {s : State} : State.LeadsOut F s (execHostReadFailure k x why s) := by
  simp (maxDischargeDepth := 99) [execHostReadFailure]

theorem execCircularWaitSpill_leads {F : StateField → Bool} [May F .out] [May F .regs] [May F .msix] [May F .vales] [May F .slots] (g) {s : State} : State.LeadsOut F s (execCircularWaitSpill g s) := by
  simp (maxDischargeDepth := 99) [execCircularWaitSpill]

theorem execStrmCntClr_leads {F : StateField → Bool} [May F .out] [May F .regs] (g) {s : State} : State.LeadsOut F s (execStrmCntClr g s) := by
  simp (maxDischargeDepth := 99) [execStrmCntClr]

/-! ### Seeds -/

@[simp] theorem seedEndDo_leads {F : StateField → Bool} [May F .out] [May F .regs] [May F .mem] [May F .bad] [May F .msix] [May F .slots] [May F .floors] [May F .health] [May F .mp] {r : State} (k) (tag) (fmt) {s : State} (h : State.Leads F r s) :
    State.Leads F r (seedEndDo k tag fmt s) := by
  unfold seedEndDo
  split <;> simp (maxDischargeDepth := 99) +contextual [h]

theorem execSeedPassEnd_leads {F : StateField → Bool} [May F .out] [May F .regs] [May F .mem] [May F .bad] [May F .msix] [May F .slots] [May F .floors] [May F .health] [May F .mp] (k) (tag) (fmt) {s : State} : State.LeadsOut F s (execSeedPassEnd k tag fmt s) := by
  simp (maxDischargeDepth := 99) [execSeedPassEnd]

/-! ### Element -/

@[simp] theorem State.modElem_leads {F : StateField → Bool} [May F .vales] {r : State} {s : State} (g) (f) (h : State.Leads F r s) :
    State.Leads F r (State.modElem s g f) := by
  unfold State.modElem
  simp (maxDischargeDepth := 99) +contextual [h]

@[simp] theorem State.setLane_leads {F : StateField → Bool} [May F .vales] {r : State} {s : State} (g) (i) (l) (h : State.Leads F r s) :
    State.Leads F r (State.setLane s g i l) := by
  unfold State.setLane
  simp (maxDischargeDepth := 99) +contextual [h]

@[simp] theorem State.setMask_leads {F : StateField → Bool} [May F .vales] {r : State} {s : State} (c) (live) (start) (h : State.Leads F r s) :
    State.Leads F r (State.setMask s c live start) := by
  unfold State.setMask
  simp (maxDischargeDepth := 99) +contextual [h]

@[simp] theorem State.openBlock_leads {F : StateField → Bool} [May F .vales] {r : State} {s : State} (k) (c) (n) (final) (h : State.Leads F r s) :
    State.Leads F r (State.openBlock s k c n final) := by
  unfold State.openBlock
  simp (maxDischargeDepth := 99) +contextual [h]

@[simp] theorem State.endElement_leads {F : StateField → Bool} [May F .vales] [May F .slots] {r : State} {s : State} (k) (h : State.Leads F r s) :
    State.Leads F r (State.endElement s k) := by
  unfold State.endElement
  split <;> simp (maxDischargeDepth := 99) +contextual [h]

@[simp] theorem State.gatherFlags_leads {F : StateField → Bool} [May F .regs] [May F .slots] {r : State} {s : State} (k) (g) (h : State.Leads F r s) :
    State.Leads F r (State.gatherFlags s k g) := by
  unfold State.gatherFlags
  simp (maxDischargeDepth := 99) +contextual [h]

@[simp] theorem State.programError_leads {F : StateField → Bool} [May F .regs] [May F .vales] [May F .slots] {r : State} {s : State} (k) (g) (code) (pc) (h : State.Leads F r s) :
    State.Leads F r (State.programError s k g code pc) := by
  unfold State.programError
  simp (maxDischargeDepth := 99) +contextual [h]

@[simp] theorem State.tryEndStage_leads {F : StateField → Bool} [May F .vales] [May F .slots] {r : State} {s : State} (k) (h : State.Leads F r s) :
    State.Leads F r (State.tryEndStage s k) := by
  unfold State.tryEndStage
  split <;> simp (maxDischargeDepth := 99) +contextual [h]

@[simp] theorem State.putCounts_leads {F : StateField → Bool} [May F .mem] [May F .slots] {r : State} {s : State} (k) (c) (x3) (h : State.Leads F r s) :
    State.Leads F r (State.putCounts s k c x3) := by
  unfold State.putCounts
  split <;> simp (maxDischargeDepth := 99) +contextual [h]

@[simp] theorem State.endBlock_leads {F : StateField → Bool} [May F .regs] [May F .mem] [May F .vales] [May F .slots] {r : State} {s : State} (k) (c) (x3) (h : State.Leads F r s) :
    State.Leads F r (State.endBlock s k c x3) := by
  unfold State.endBlock
  simp (maxDischargeDepth := 99) +contextual [h]

@[simp] theorem State.retireInstr_leads {F : StateField → Bool} [May F .regs] [May F .mem] [May F .vales] [May F .slots] {r : State} {s : State} (g) (n) (f) (h : State.Leads F r s) :
    State.Leads F r (State.retireInstr s g n f) := by
  unfold State.retireInstr
  dsimp only
  (repeat' (split <;> (try first | (rename_i heq; have e := congrArg Prod.snd heq; dsimp only at e; subst e) | (rename_i heq _; have e := congrArg Prod.snd heq; dsimp only at e; subst e) | (rename_i heq _ _; have e := congrArg Prod.snd heq; dsimp only at e; subst e)))) <;> simp (maxDischargeDepth := 99) +contextual [h]

@[simp] theorem State.issue_leads {F : StateField → Bool} [May F .regs] [May F .mem] [May F .vales] [May F .slots] {r : State} {s : State} (g err wait clocks run next) (h : State.Leads F r s)
    (hrun : ∀ k c x, State.Leads F r (run s k c x)) : State.Leads F r (State.issue s g err wait clocks run next) := by
  unfold State.issue
  split
  · exact h
  · rename_i k c x _
    exact State.leads_ite (State.programError_leads _ _ _ _ h)
      (State.leads_ite (State.modElem_leads _ _ h) (State.retireInstr_leads _ _ _ (hrun k c x)))

@[simp] theorem State.elemSat_leads {F : StateField → Bool} [May F .out] [May F .regs] [May F .mem] [May F .bad] [May F .msix] [May F .slots] [May F .floors] [May F .health] [May F .mp] {r : State} {s : State} (k) (c) (n) (h : State.Leads F r s) :
    State.Leads F r (State.elemSat s k c n) := by
  unfold State.elemSat
  simp (maxDischargeDepth := 99) +contextual [h]

@[simp] theorem State.putLanes_leads {F : StateField → Bool} [May F .vales] {r : State} {s : State} (g) (d) (rs) (h : State.Leads F r s) :
    State.Leads F r (State.putLanes s g d rs).1 := by
  unfold State.putLanes
  simp (maxDischargeDepth := 99) +contextual [h]

@[simp] theorem State.writeLanes_leads {F : StateField → Bool} [May F .out] [May F .regs] [May F .mem] [May F .bad] [May F .msix] [May F .vales] [May F .slots] [May F .floors] [May F .health] [May F .mp] {r : State} {s : State} (k) (c) (d) (rs) (h : State.Leads F r s) :
    State.Leads F r (State.writeLanes s k c d rs) := by
  unfold State.writeLanes
  simp (maxDischargeDepth := 99) +contextual [h]

@[simp] theorem State.issueLane_leads {F : StateField → Bool} [May F .out] [May F .regs] [May F .mem] [May F .bad] [May F .msix] [May F .vales] [May F .slots] [May F .floors] [May F .health] [May F .mp] {r : State} {s : State} (g) (i) (bad) (clocks) (f) (h : State.Leads F r s) :
    State.Leads F r (State.issueLane s g i bad clocks f) := by
  unfold State.issueLane
  simp (maxDischargeDepth := 99) +contextual [h]

@[simp] theorem State.issuePred_leads {F : StateField → Bool} [May F .regs] [May F .mem] [May F .vales] [May F .slots] {r : State} {s : State} (g) (i) (bad) (f) (h : State.Leads F r s) :
    State.Leads F r (State.issuePred s g i bad f) := by
  unfold State.issuePred
  simp (maxDischargeDepth := 99) +contextual [h]

@[simp] theorem State.latchSlot_leads {F : StateField → Bool} [May F .out] [May F .regs] [May F .bad] [May F .msix] [May F .slots] [May F .floors] [May F .health] [May F .mp] {r : State} {s : State} (k) (c) (i) (h : State.Leads F r s) :
    State.Leads F r (State.latchSlot s k c i) := by
  unfold State.latchSlot
  simp (maxDischargeDepth := 99) +contextual [h]

@[simp] theorem State.loadBlock_leads {F : StateField → Bool} [May F .out] [May F .regs] [May F .mem] [May F .bad] [May F .msix] [May F .vales] [May F .parts] [May F .slots] [May F .floors] [May F .health] [May F .mp] {r : State} {s : State} (k) (c) (j) (h : State.Leads F r s) :
    State.Leads F r (State.loadBlock s k c j) := by
  unfold State.loadBlock
  simp (maxDischargeDepth := 99) +contextual [h]

@[simp] theorem State.zeroLines_leads {F : StateField → Bool} [May F .regs] [May F .mem] {r : State} {s : State} (c) (h : State.Leads F r s) :
    State.Leads F r (State.zeroLines s c) := by
  unfold State.zeroLines
  simp (maxDischargeDepth := 99) +contextual [h]

@[simp] theorem State.beginElement_leads {F : StateField → Bool} [May F .out] [May F .regs] [May F .mem] [May F .bad] [May F .msix] [May F .vales] [May F .parts] [May F .slots] [May F .floors] [May F .health] [May F .mp] {r : State} {s : State} (k) (c) (inWidth) (h : State.Leads F r s) :
    State.Leads F r (State.beginElement s k c inWidth) := by
  unfold State.beginElement
  dsimp only
  (repeat' (split <;> (try first | (rename_i heq; have e := congrArg Prod.snd heq; dsimp only at e; subst e) | (rename_i heq _; have e := congrArg Prod.snd heq; dsimp only at e; subst e) | (rename_i heq _ _; have e := congrArg Prod.snd heq; dsimp only at e; subst e)))) <;> simp (maxDischargeDepth := 99) +contextual [h]

@[simp] theorem elementStartDo_leads {F : StateField → Bool} [May F .out] [May F .regs] [May F .mem] [May F .bad] [May F .msix] [May F .vales] [May F .parts] [May F .slots] [May F .floors] [May F .health] [May F .mp] {r : State} (k) (inWidth) {s : State} (h : State.Leads F r s) :
    State.Leads F r (elementStartDo k inWidth s) := by
  unfold elementStartDo
  split <;> simp (maxDischargeDepth := 99) +contextual [h]

@[simp] theorem State.flushPm_leads {F : StateField → Bool} [May F .vales] {r : State} {s : State} (g) (h : State.Leads F r s) :
    State.Leads F r (State.flushPm s g) := by
  unfold State.flushPm
  simp (maxDischargeDepth := 99) +contextual [h]

@[simp] theorem pmFlushDo_leads {F : StateField → Bool} [May F .vales] {r : State} (g) {s : State} (h : State.Leads F r s) :
    State.Leads F r (pmFlushDo g s) := by
  unfold pmFlushDo
  simp (maxDischargeDepth := 99) +contextual [h]

@[simp] theorem elemCntClrDo_leads {F : StateField → Bool} [May F .regs] {r : State} (g) {s : State} (h : State.Leads F r s) :
    State.Leads F r (elemCntClrDo g s) := by
  unfold elemCntClrDo
  simp (maxDischargeDepth := 99) +contextual [h]

@[simp] theorem State.cleanElement_leads {F : StateField → Bool} [May F .mem] [May F .vales] {r : State} {s : State} (g) (h : State.Leads F r s) :
    State.Leads F r (State.cleanElement s g) := by
  unfold State.cleanElement
  simp (maxDischargeDepth := 99) +contextual [h]

theorem execElementStageStart_leads {F : StateField → Bool} [May F .out] [May F .regs] [May F .mem] [May F .bad] [May F .msix] [May F .vales] [May F .parts] [May F .slots] [May F .floors] [May F .health] [May F .mp] (k) (inWidth) {s : State} : State.LeadsOut F s (execElementStageStart k inWidth s) := by
  simp (maxDischargeDepth := 99) [execElementStageStart]

theorem execPmFlush_leads {F : StateField → Bool} [May F .out] [May F .vales] (g) {s : State} : State.LeadsOut F s (execPmFlush g s) := by
  simp (maxDischargeDepth := 99) [execPmFlush]

theorem execElemCntClr_leads {F : StateField → Bool} [May F .out] [May F .regs] (g) {s : State} : State.LeadsOut F s (execElemCntClr g s) := by
  simp (maxDischargeDepth := 99) [execElemCntClr]

end Sys2Proof.Machine
end

