-- ==== Sys2Proof/Laws/LeadsWork.lean ====
section
/-! SUPPORT. LeadsWork: one lemma for each operation of the element instructions, completion, commands, the beat, versions, partitions and Moraine: where it leads (Laws/Leads.lean). -/

namespace Sys2Proof.Machine

/-! ### Echo -/

@[simp] theorem State.bumpRec_leads {F : StateField → Bool} [May F .out] [May F .regs] [May F .mem] [May F .bad] [May F .msix] [May F .floors] [May F .health] [May F .mp] {r : State} {s : State} (n) (tag) (o) (h : State.Leads F r s) :
    State.Leads F r (State.bumpRec s n tag o) := by
  unfold State.bumpRec
  simp (maxDischargeDepth := 99) +contextual [h]

@[simp] theorem State.echoLast_leads {F : StateField → Bool} [May F .regs] {r : State} {s : State} (pg) (t) (d) (h : State.Leads F r s) :
    State.Leads F r (State.echoLast s pg t d) := by
  unfold State.echoLast
  simp (maxDischargeDepth := 99) +contextual [h]

@[simp] theorem State.echoTile_leads {F : StateField → Bool} [May F .out] [May F .regs] [May F .mem] [May F .bad] [May F .msix] [May F .floors] [May F .echo] [May F .health] [May F .mp] {r : State} {s : State} (p) (t) (h : State.Leads F r s) :
    State.Leads F r (State.echoTile s p t) := by
  unfold State.echoTile
  simp (maxDischargeDepth := 99) +contextual [h]

@[simp] theorem echoFailDo_leads {F : StateField → Bool} [May F .regs] [May F .echo] [May F .mp] {r : State} (p) {s : State} (h : State.Leads F r s) :
    State.Leads F r (echoFailDo p s) := by
  unfold echoFailDo
  simp (maxDischargeDepth := 99) +contextual [h]

theorem execEchoRecompute_leads {F : StateField → Bool} [May F .out] [May F .regs] [May F .mem] [May F .bad] [May F .msix] [May F .floors] [May F .echo] [May F .health] [May F .mp] (p) {s : State} : State.LeadsOut F s (execEchoRecompute p s) := by
  unfold execEchoRecompute
  refine State.leadsOut_act ?_
  (repeat' split) <;> simp (maxDischargeDepth := 99) +contextual

theorem execEchoUnitFailure_leads {F : StateField → Bool} [May F .regs] [May F .echo] [May F .mp] (p) {s : State} : State.LeadsOut F s (execEchoUnitFailure p s) := by
  simp (maxDischargeDepth := 99) [execEchoUnitFailure]

/-! ### Completion -/

@[simp] theorem State.postRecord_leads {F : StateField → Bool} [May F .out] [May F .regs] [May F .mem] [May F .bad] [May F .msix] [May F .parts] [May F .floors] [May F .health] [May F .mp] {r : State} {s : State} (n) (bs) (h : State.Leads F r s) :
    State.Leads F r (State.postRecord s n bs) := by
  unfold State.postRecord
  simp (maxDischargeDepth := 99) +contextual [h]

@[simp] theorem State.haltJob_leads {F : StateField → Bool} [May F .regs] {r : State} {s : State} (n) (j) (status) (detail) (h : State.Leads F r s) :
    State.Leads F r (State.haltJob s n j status detail) := by
  unfold State.haltJob
  simp (maxDischargeDepth := 99) +contextual [h]

@[simp] theorem openFields_leads {F : StateField → Bool} [May F .free] {r : State} (c) {s : State} (h : State.Leads F r s) :
    State.Leads F r (openFields c s).2.2 := by
  unfold openFields
  simp (maxDischargeDepth := 99) +contextual [h]

@[simp] theorem meteredVoid_leads {F : StateField → Bool} [May F .free] [May F .health] {r : State} {s : State} (c) (h : State.Leads F r s) :
    State.Leads F r (meteredVoid s c).2 := by
  unfold meteredVoid
  split <;> simp (maxDischargeDepth := 99) +contextual [h]

@[simp] theorem voidOf_leads {F : StateField → Bool} [May F .free] [May F .health] {r : State} {s : State} (c) (h : State.Leads F r s) :
    State.Leads F r (voidOf s c).2 := by
  unfold voidOf
  simp (maxDischargeDepth := 99) +contextual [h]

@[simp] theorem State.reportVoid_leads {F : StateField → Bool} [May F .out] [May F .regs] [May F .msix] [May F .mp] {r : State} {s : State} (c) (v) (h : State.Leads F r s) :
    State.Leads F r (State.reportVoid s c v) := by
  unfold State.reportVoid
  simp (maxDischargeDepth := 99) +contextual [h]

@[simp] theorem State.reportRefusal_leads {F : StateField → Bool} [May F .out] [May F .regs] [May F .msix] {r : State} {s : State} (h : State.Leads F r s) :
    State.Leads F r (State.reportRefusal s) := by
  unfold State.reportRefusal
  simp (maxDischargeDepth := 99) +contextual [h]

@[simp] theorem State.stepClose_leads {F : StateField → Bool} [May F .out] [May F .regs] [May F .mem] [May F .bad] [May F .msix] [May F .slots] [May F .floors] [May F .health] [May F .mp] {r : State} {s : State} (k) (c) (h : State.Leads F r s) :
    State.Leads F r (State.stepClose s k c).2 := by
  unfold State.stepClose
  dsimp only
  (repeat' (split <;> (try first | (rename_i heq; have e := congrArg Prod.snd heq; dsimp only at e; subst e) | (rename_i heq _; have e := congrArg Prod.snd heq; dsimp only at e; subst e) | (rename_i heq _ _; have e := congrArg Prod.snd heq; dsimp only at e; subst e)))) <;> simp (maxDischargeDepth := 99) +contextual [h]

@[simp] theorem State.releaseUnits_leads {F : StateField → Bool} [May F .regs] [May F .vales] [May F .parts] [May F .echo] {r : State} {s : State} (k) (c) (h : State.Leads F r s) :
    State.Leads F r (State.releaseUnits s k c) := by
  unfold State.releaseUnits
  have k0 : State.Leads F r ((List.range (c.fetch.length + c.store.length)).foldl (fun s x =>
    match c.xferAt x with
    | none => s
    | some t =>
      let e := c.entry x
      if !t.started ∨ (xDst e ≠ 0x0A ∧ xSrc e ≠ 0x0A) then s
      else ((xLines e).filter fun l => !t.lines.contains l.1).foldl (fun s l =>
        s.modLine c.vale l.1 fun y => if xDst e = 0x0A then { y with fills := y.fills - 1 } else { y with drains := y.drains - 1 }) s) s) := by
    refine State.leads_foldl h ?_
    intro t a ht
    split
    · exact ht
    · exact State.leads_ite ht (State.leads_foldl ht fun u l hu => State.modLine_leads _ _ _ hu)
  exact State.modPart_leads _ _ (State.leads_ite (State.echoStat_leads _ (State.modEcho_leads _ _ k0)) k0)

@[simp] theorem State.freeSlot_leads {F : StateField → Bool} [May F .slots] {r : State} {s : State} (k) (h : State.Leads F r s) :
    State.Leads F r (State.freeSlot s k) := by
  unfold State.freeSlot
  simp (maxDischargeDepth := 99) +contextual [h]

@[simp] theorem State.finish_leads {F : StateField → Bool} [May F .free] [May F .out] [May F .regs] [May F .mem] [May F .bad] [May F .msix] [May F .vales] [May F .parts] [May F .slots] [May F .floors] [May F .echo] [May F .health] [May F .mp] {r : State} {s : State} (k) (h : State.Leads F r s) :
    State.Leads F r (State.finish s k) := by
  unfold State.finish
  split
  · exact h
  · rename_i c _
    have k0 := State.stepClose_leads k c h
    dsimp only
    split
    · exact k0
    · have k1 := fun (p : Prop) [Decidable p] n a d => State.leads_ite (p := p) (State.signal_leads n a (State.signal_leads n d k0)) k0
      have k2 := fun (p : Prop) [Decidable p] n a d x => openFields_leads x (voidOf_leads x (k1 p n a d))
      refine State.freeSlot_leads _ (State.releaseUnits_leads _ _ ?_)
      have k3 := fun (p : Prop) [Decidable p] n a d x m bs => State.postRecord_leads m bs (k2 p n a d x)
      have k4 := fun (p : Prop) [Decidable p] n a d x m bs (q : Prop) [Decidable q] y v => State.leads_ite (p := q) (State.reportVoid_leads y v (k3 p n a d x m bs)) (k3 p n a d x m bs)
      have k5 := fun (p : Prop) [Decidable p] n a d x m bs (q : Prop) [Decidable q] y v (q2 : Prop) [Decidable q2] => State.leads_ite (p := q2) (State.reportRefusal_leads (k4 p n a d x m bs q y v)) (k4 p n a d x m bs q y v)
      exact State.leads_ite (State.haltJob_leads _ _ _ _ (k5 _ _ _ _ _ _ _ _ _ _ _)) (k5 _ _ _ _ _ _ _ _ _ _ _)

@[simp] theorem State.endWith_leads {F : StateField → Bool} [May F .free] [May F .out] [May F .regs] [May F .mem] [May F .bad] [May F .msix] [May F .vales] [May F .parts] [May F .slots] [May F .floors] [May F .echo] [May F .health] [May F .mp] {r : State} {s : State} (k) (status) (detail) (h : State.Leads F r s) :
    State.Leads F r (State.endWith s k status detail) := by
  unfold State.endWith
  simp (maxDischargeDepth := 99) +contextual [h]

/-! ### Commands -/

@[simp] theorem sqDoorbellDo_leads {F : StateField → Bool} [May F .regs] {r : State} (n) (j) (tail) {s : State} (h : State.Leads F r s) :
    State.Leads F r (sqDoorbellDo n j tail s) := by
  unfold sqDoorbellDo
  simp (maxDischargeDepth := 99) +contextual [h]

@[simp] theorem cqHeadDo_leads {F : StateField → Bool} [May F .regs] [May F .parts] {r : State} (n) (v) {s : State} (h : State.Leads F r s) :
    State.Leads F r (cqHeadDo n v s) := by
  unfold cqHeadDo
  simp (maxDischargeDepth := 99) +contextual [h]

@[simp] theorem cqConfigDo_leads {F : StateField → Bool} [May F .out] [May F .regs] [May F .msix] [May F .parts] {r : State} (n) (x1) (v) {s : State} (h : State.Leads F r s) :
    State.Leads F r (cqConfigDo n x1 v s) := by
  unfold cqConfigDo
  simp (maxDischargeDepth := 99) +contextual [h]

@[simp] theorem jobResumeDo_leads {F : StateField → Bool} [May F .regs] {r : State} (n) (j) {s : State} (h : State.Leads F r s) :
    State.Leads F r (jobResumeDo n j s) := by
  unfold jobResumeDo
  simp (maxDischargeDepth := 99) +contextual [h]

@[simp] theorem State.endAll_leads {F : StateField → Bool} [May F .free] [May F .out] [May F .regs] [May F .mem] [May F .bad] [May F .msix] [May F .vales] [May F .parts] [May F .slots] [May F .floors] [May F .echo] [May F .health] [May F .mp] {r : State} {s : State} (es) (status) (detail) (h : State.Leads F r s) :
    State.Leads F r (State.endAll s es status detail) := by
  unfold State.endAll
  simp (maxDischargeDepth := 99) +contextual [h]

@[simp] theorem jobCancelDo_leads {F : StateField → Bool} [May F .free] [May F .out] [May F .regs] [May F .mem] [May F .bad] [May F .msix] [May F .vales] [May F .parts] [May F .slots] [May F .floors] [May F .echo] [May F .health] [May F .mp] {r : State} (n) (j) {s : State} (h : State.Leads F r s) :
    State.Leads F r (jobCancelDo n j s) := by
  unfold jobCancelDo
  simp (maxDischargeDepth := 99) +contextual [h]

@[simp] theorem seqCntClrDo_leads {F : StateField → Bool} [May F .regs] {r : State} (g) {s : State} (h : State.Leads F r s) :
    State.Leads F r (seqCntClrDo g s) := by
  unfold seqCntClrDo
  simp (maxDischargeDepth := 99) +contextual [h]

@[simp] theorem State.readOr_leads {F : StateField → Bool} [May F .out] [May F .regs] [May F .bad] [May F .msix] [May F .floors] [May F .health] [May F .mp] {r : State} {s : State} (n a len) (h : State.Leads F r s) :
    State.Leads F r (State.readOr s n a len).2 := by
  unfold State.readOr
  have q := State.readPda_leads n a len h
  split
  · rename_i heq; rw [heq] at q; exact q
  · rename_i heq; rw [heq] at q; exact q

@[simp] theorem State.readQueue_leads {F : StateField → Bool} [May F .out] [May F .regs] [May F .bad] [May F .msix] [May F .floors] [May F .health] [May F .mp] {r : State} {s : State} (n) (isHost) (a) (len) (host) (h : State.Leads F r s) :
    State.Leads F r (State.readQueue s n isHost a len host).2.2 := by
  unfold State.readQueue
  simp (maxDischargeDepth := 99) +contextual [h]

@[simp] theorem State.judge_leads {F : StateField → Bool} [May F .free] [May F .out] [May F .regs] [May F .mem] [May F .bad] [May F .msix] [May F .vales] [May F .parts] [May F .slots] [May F .floors] [May F .echo] [May F .health] [May F .mp] {r : State} {s : State} (k) (c) (sqHost) (h : State.Leads F r s) :
    State.Leads F r (State.judge s k c sqHost) := by
  unfold State.judge
  simp (maxDischargeDepth := 99) +contextual [h]

@[simp] theorem takeOn_leads {F : StateField → Bool} [May F .free] [May F .out] [May F .regs] [May F .mem] [May F .bad] [May F .msix] [May F .vales] [May F .parts] [May F .slots] [May F .floors] [May F .echo] [May F .health] [May F .mp] {r : State} (n j k) {s : State} (d g) (h : State.Leads F r s) (hd : State.Leads F r d.2.2) :
    State.Leads F r (takeOn n j k s d g) := by
  unfold takeOn
  split
  · exact h
  · refine State.judge_leads _ _ _ (State.setCmd_leads _ _ (State.modPart_leads _ _ (State.setRegF_leads _ _ _ _ ?_)))
    exact State.leads_ite_snd (State.readOr_leads _ _ _ (State.readQueue_leads _ _ _ _ _ hd)) (State.readQueue_leads _ _ _ _ _ hd)

@[simp] theorem takeDo_leads {F : StateField → Bool} [May F .free] [May F .out] [May F .regs] [May F .mem] [May F .bad] [May F .msix] [May F .vales] [May F .parts] [May F .slots] [May F .floors] [May F .echo] [May F .health] [May F .mp] {r : State} (n j k host) {s : State} (h : State.Leads F r s) :
    State.Leads F r (takeDo n j k host s) := by
  unfold takeDo
  exact takeOn_leads _ _ _ _ _ h (State.readQueue_leads _ _ _ _ _ h)

@[simp] theorem State.startFetch_leads {F : StateField → Bool} [May F .vales] [May F .slots] {r : State} {s : State} (k) (h : State.Leads F r s) :
    State.Leads F r (State.startFetch s k) := by
  unfold State.startFetch
  split <;> simp (maxDischargeDepth := 99) +contextual [h]

@[simp] theorem State.dispatch_leads {F : StateField → Bool} [May F .out] [May F .regs] [May F .mem] [May F .bad] [May F .msix] [May F .vales] [May F .parts] [May F .slots] [May F .floors] [May F .echo] [May F .health] [May F .mp] {r : State} {s : State} (k) (c) (h : State.Leads F r s) :
    State.Leads F r (State.dispatch s k c) := by
  unfold State.dispatch
  simp (maxDischargeDepth := 99) +contextual [h]

@[simp] theorem scheduledDo_leads {F : StateField → Bool} [May F .clock] [May F .out] [May F .regs] [May F .mem] [May F .bad] [May F .msix] [May F .vales] [May F .parts] [May F .slots] [May F .floors] [May F .echo] [May F .health] [May F .mp] {r : State} (k) {s : State} (h : State.Leads F r s) :
    State.Leads F r (scheduledDo k s) := by
  unfold scheduledDo
  split <;> simp (maxDischargeDepth := 99) +contextual [h]

@[simp] theorem earlyDo_leads {F : StateField → Bool} [May F .vales] [May F .slots] {r : State} (k) {s : State} (h : State.Leads F r s) :
    State.Leads F r (earlyDo k s) := by
  unfold earlyDo
  simp (maxDischargeDepth := 99) +contextual [h]

@[simp] theorem completeDo_leads {F : StateField → Bool} [May F .free] [May F .out] [May F .regs] [May F .mem] [May F .bad] [May F .msix] [May F .vales] [May F .parts] [May F .slots] [May F .floors] [May F .echo] [May F .health] [May F .mp] {r : State} (k) {s : State} (h : State.Leads F r s) :
    State.Leads F r (completeDo k s) := by
  unfold completeDo
  split <;> simp (maxDischargeDepth := 99) +contextual [h]

@[simp] theorem State.recheckCmd_leads {F : StateField → Bool} [May F .free] [May F .out] [May F .regs] [May F .mem] [May F .bad] [May F .msix] [May F .vales] [May F .parts] [May F .slots] [May F .floors] [May F .echo] [May F .health] [May F .mp] {r : State} {s : State} (k) (h : State.Leads F r s) :
    State.Leads F r (State.recheckCmd s k) := by
  unfold State.recheckCmd
  split <;> simp (maxDischargeDepth := 99) +contextual [h]

@[simp] theorem rearmDo_leads {F : StateField → Bool} [May F .free] [May F .out] [May F .regs] [May F .mem] [May F .bad] [May F .beat] [May F .msix] [May F .vales] [May F .parts] [May F .slots] [May F .floors] [May F .echo] [May F .health] [May F .mp] {r : State} {s : State} (h : State.Leads F r s) :
    State.Leads F r (rearmDo s) := by
  unfold rearmDo
  simp (maxDischargeDepth := 99) +contextual [h]

@[simp] theorem reissueDo_leads {F : StateField → Bool} [May F .free] [May F .out] [May F .regs] [May F .mem] [May F .bad] [May F .msix] [May F .vales] [May F .parts] [May F .slots] [May F .floors] [May F .echo] [May F .health] [May F .mp] {r : State} (k) {s : State} (h : State.Leads F r s) :
    State.Leads F r (reissueDo k s) := by
  unfold reissueDo
  dsimp only
  (repeat' (split <;> (try first | (rename_i heq; have e := congrArg Prod.snd heq; dsimp only at e; subst e) | (rename_i heq _; have e := congrArg Prod.snd heq; dsimp only at e; subst e) | (rename_i heq _ _; have e := congrArg Prod.snd heq; dsimp only at e; subst e)))) <;> simp (maxDischargeDepth := 99) +contextual [h]

theorem execSqDoorbell_leads {F : StateField → Bool} [May F .out] [May F .regs] (n) (j) (tail) {s : State} : State.LeadsOut F s (execSqDoorbell n j tail s) := by
  simp (maxDischargeDepth := 99) [execSqDoorbell]

theorem execCqHeadWrite_leads {F : StateField → Bool} [May F .out] [May F .regs] [May F .parts] (n) (v) {s : State} : State.LeadsOut F s (execCqHeadWrite n v s) := by
  simp (maxDischargeDepth := 99) [execCqHeadWrite]

theorem execCqConfigWrite_leads {F : StateField → Bool} [May F .out] [May F .regs] [May F .msix] [May F .parts] (n) (x1) (v) {s : State} : State.LeadsOut F s (execCqConfigWrite n x1 v s) := by
  simp (maxDischargeDepth := 99) [execCqConfigWrite]

theorem execJobResume_leads {F : StateField → Bool} [May F .out] [May F .regs] (n) (j) {s : State} : State.LeadsOut F s (execJobResume n j s) := by
  simp (maxDischargeDepth := 99) [execJobResume]

theorem execJobCancel_leads {F : StateField → Bool} [May F .free] [May F .out] [May F .regs] [May F .mem] [May F .bad] [May F .msix] [May F .vales] [May F .parts] [May F .slots] [May F .floors] [May F .echo] [May F .health] [May F .mp] (n) (j) {s : State} : State.LeadsOut F s (execJobCancel n j s) := by
  simp (maxDischargeDepth := 99) [execJobCancel]

theorem execSeqCntClr_leads {F : StateField → Bool} [May F .out] [May F .regs] (g) {s : State} : State.LeadsOut F s (execSeqCntClr g s) := by
  simp (maxDischargeDepth := 99) [execSeqCntClr]

theorem execDescriptorTake_leads {F : StateField → Bool} [May F .free] [May F .out] [May F .regs] [May F .mem] [May F .bad] [May F .msix] [May F .vales] [May F .parts] [May F .slots] [May F .floors] [May F .echo] [May F .health] [May F .mp] (n) (j) (k) (host) {s : State} : State.LeadsOut F s (execDescriptorTake n j k host s) := by
  simp (maxDischargeDepth := 99) [execDescriptorTake]

theorem execScheduledDispatch_leads {F : StateField → Bool} [May F .clock] [May F .out] [May F .regs] [May F .mem] [May F .bad] [May F .msix] [May F .vales] [May F .parts] [May F .slots] [May F .floors] [May F .echo] [May F .health] [May F .mp] (k) {s : State} : State.LeadsOut F s (execScheduledDispatch k s) := by
  simp (maxDischargeDepth := 99) [execScheduledDispatch]

theorem execOpenDispatch_leads {F : StateField → Bool} [May F .out] [May F .regs] [May F .mem] [May F .bad] [May F .msix] [May F .vales] [May F .parts] [May F .slots] [May F .floors] [May F .echo] [May F .health] [May F .mp] (k) {s : State} : State.LeadsOut F s (execOpenDispatch k s) := by
  unfold execOpenDispatch
  refine State.leadsOut_act ?_
  (repeat' split) <;> simp (maxDischargeDepth := 99) +contextual

theorem execEarlyFetch_leads {F : StateField → Bool} [May F .vales] [May F .slots] (k) {s : State} : State.LeadsOut F s (execEarlyFetch k s) := by
  simp (maxDischargeDepth := 99) [execEarlyFetch]

theorem execStoreStageStart_leads {F : StateField → Bool} [May F .vales] [May F .slots] (k) {s : State} : State.LeadsOut F s (execStoreStageStart k s) := by
  unfold execStoreStageStart
  refine State.leadsOut_act ?_
  (repeat' split) <;> simp (maxDischargeDepth := 99) +contextual

theorem execCommandComplete_leads {F : StateField → Bool} [May F .free] [May F .out] [May F .regs] [May F .mem] [May F .bad] [May F .msix] [May F .vales] [May F .parts] [May F .slots] [May F .floors] [May F .echo] [May F .health] [May F .mp] (k) {s : State} : State.LeadsOut F s (execCommandComplete k s) := by
  simp (maxDischargeDepth := 99) [execCommandComplete]

theorem execRearm_leads {F : StateField → Bool} [May F .free] [May F .out] [May F .regs] [May F .mem] [May F .bad] [May F .beat] [May F .msix] [May F .vales] [May F .parts] [May F .slots] [May F .floors] [May F .echo] [May F .health] [May F .mp] {s : State} : State.LeadsOut F s (execRearm s) := by
  simp (maxDischargeDepth := 99) [execRearm]

theorem execCommandReissue_leads {F : StateField → Bool} [May F .free] [May F .out] [May F .regs] [May F .mem] [May F .bad] [May F .msix] [May F .vales] [May F .parts] [May F .slots] [May F .floors] [May F .echo] [May F .health] [May F .mp] (k) {s : State} : State.LeadsOut F s (execCommandReissue k s) := by
  simp (maxDischargeDepth := 99) [execCommandReissue]

/-! ### ElementOps -/

@[simp] theorem doNop_leads {F : StateField → Bool} [May F .regs] [May F .mem] [May F .vales] [May F .slots] {r : State} (g) (i) {s : State} (h : State.Leads F r s) :
    State.Leads F r (doNop g i s) := by
  unfold doNop
  simp (maxDischargeDepth := 99) +contextual [h]

@[simp] theorem doFadd_leads {F : StateField → Bool} [May F .out] [May F .regs] [May F .mem] [May F .bad] [May F .msix] [May F .vales] [May F .slots] [May F .floors] [May F .health] [May F .mp] {r : State} (g) (i) {s : State} (h : State.Leads F r s) :
    State.Leads F r (doFadd g i s) := by
  unfold doFadd
  simp (maxDischargeDepth := 99) +contextual [h]

@[simp] theorem doFsub_leads {F : StateField → Bool} [May F .out] [May F .regs] [May F .mem] [May F .bad] [May F .msix] [May F .vales] [May F .slots] [May F .floors] [May F .health] [May F .mp] {r : State} (g) (i) {s : State} (h : State.Leads F r s) :
    State.Leads F r (doFsub g i s) := by
  unfold doFsub
  simp (maxDischargeDepth := 99) +contextual [h]

@[simp] theorem doFmul_leads {F : StateField → Bool} [May F .out] [May F .regs] [May F .mem] [May F .bad] [May F .msix] [May F .vales] [May F .slots] [May F .floors] [May F .health] [May F .mp] {r : State} (g) (i) {s : State} (h : State.Leads F r s) :
    State.Leads F r (doFmul g i s) := by
  unfold doFmul
  simp (maxDischargeDepth := 99) +contextual [h]

@[simp] theorem doFfma_leads {F : StateField → Bool} [May F .out] [May F .regs] [May F .mem] [May F .bad] [May F .msix] [May F .vales] [May F .slots] [May F .floors] [May F .health] [May F .mp] {r : State} (g) (i) {s : State} (h : State.Leads F r s) :
    State.Leads F r (doFfma g i s) := by
  unfold doFfma
  simp (maxDischargeDepth := 99) +contextual [h]

@[simp] theorem doFmin_leads {F : StateField → Bool} [May F .out] [May F .regs] [May F .mem] [May F .bad] [May F .msix] [May F .vales] [May F .slots] [May F .floors] [May F .health] [May F .mp] {r : State} (g) (i) {s : State} (h : State.Leads F r s) :
    State.Leads F r (doFmin g i s) := by
  unfold doFmin
  simp (maxDischargeDepth := 99) +contextual [h]

@[simp] theorem doFmax_leads {F : StateField → Bool} [May F .out] [May F .regs] [May F .mem] [May F .bad] [May F .msix] [May F .vales] [May F .slots] [May F .floors] [May F .health] [May F .mp] {r : State} (g) (i) {s : State} (h : State.Leads F r s) :
    State.Leads F r (doFmax g i s) := by
  unfold doFmax
  simp (maxDischargeDepth := 99) +contextual [h]

@[simp] theorem doFabs_leads {F : StateField → Bool} [May F .out] [May F .regs] [May F .mem] [May F .bad] [May F .msix] [May F .vales] [May F .slots] [May F .floors] [May F .health] [May F .mp] {r : State} (g) (i) {s : State} (h : State.Leads F r s) :
    State.Leads F r (doFabs g i s) := by
  unfold doFabs
  simp (maxDischargeDepth := 99) +contextual [h]

@[simp] theorem doFneg_leads {F : StateField → Bool} [May F .out] [May F .regs] [May F .mem] [May F .bad] [May F .msix] [May F .vales] [May F .slots] [May F .floors] [May F .health] [May F .mp] {r : State} (g) (i) {s : State} (h : State.Leads F r s) :
    State.Leads F r (doFneg g i s) := by
  unfold doFneg
  simp (maxDischargeDepth := 99) +contextual [h]

@[simp] theorem doFdiv_leads {F : StateField → Bool} [May F .out] [May F .regs] [May F .mem] [May F .bad] [May F .msix] [May F .vales] [May F .slots] [May F .floors] [May F .health] [May F .mp] {r : State} (g) (i) {s : State} (h : State.Leads F r s) :
    State.Leads F r (doFdiv g i s) := by
  unfold doFdiv
  simp (maxDischargeDepth := 99) +contextual [h]

@[simp] theorem doFsqrt_leads {F : StateField → Bool} [May F .out] [May F .regs] [May F .mem] [May F .bad] [May F .msix] [May F .vales] [May F .slots] [May F .floors] [May F .health] [May F .mp] {r : State} (g) (i) {s : State} (h : State.Leads F r s) :
    State.Leads F r (doFsqrt g i s) := by
  unfold doFsqrt
  simp (maxDischargeDepth := 99) +contextual [h]

@[simp] theorem doFrsq_leads {F : StateField → Bool} [May F .out] [May F .regs] [May F .mem] [May F .bad] [May F .msix] [May F .vales] [May F .slots] [May F .floors] [May F .health] [May F .mp] {r : State} (g) (i) {s : State} (h : State.Leads F r s) :
    State.Leads F r (doFrsq g i s) := by
  unfold doFrsq
  simp (maxDischargeDepth := 99) +contextual [h]

@[simp] theorem doTfn_leads {F : StateField → Bool} [May F .out] [May F .regs] [May F .mem] [May F .bad] [May F .msix] [May F .vales] [May F .slots] [May F .floors] [May F .health] [May F .mp] {r : State} (g) (i) {s : State} (h : State.Leads F r s) :
    State.Leads F r (doTfn g i s) := by
  unfold doTfn
  simp (maxDischargeDepth := 99) +contextual [h]

@[simp] theorem doIadd_leads {F : StateField → Bool} [May F .out] [May F .regs] [May F .mem] [May F .bad] [May F .msix] [May F .vales] [May F .slots] [May F .floors] [May F .health] [May F .mp] {r : State} (g) (i) {s : State} (h : State.Leads F r s) :
    State.Leads F r (doIadd g i s) := by
  unfold doIadd
  simp (maxDischargeDepth := 99) +contextual [h]

@[simp] theorem doIsub_leads {F : StateField → Bool} [May F .out] [May F .regs] [May F .mem] [May F .bad] [May F .msix] [May F .vales] [May F .slots] [May F .floors] [May F .health] [May F .mp] {r : State} (g) (i) {s : State} (h : State.Leads F r s) :
    State.Leads F r (doIsub g i s) := by
  unfold doIsub
  simp (maxDischargeDepth := 99) +contextual [h]

@[simp] theorem doImul_leads {F : StateField → Bool} [May F .out] [May F .regs] [May F .mem] [May F .bad] [May F .msix] [May F .vales] [May F .slots] [May F .floors] [May F .health] [May F .mp] {r : State} (g) (i) {s : State} (h : State.Leads F r s) :
    State.Leads F r (doImul g i s) := by
  unfold doImul
  simp (maxDischargeDepth := 99) +contextual [h]

@[simp] theorem doImin_leads {F : StateField → Bool} [May F .out] [May F .regs] [May F .mem] [May F .bad] [May F .msix] [May F .vales] [May F .slots] [May F .floors] [May F .health] [May F .mp] {r : State} (g) (i) {s : State} (h : State.Leads F r s) :
    State.Leads F r (doImin g i s) := by
  unfold doImin
  simp (maxDischargeDepth := 99) +contextual [h]

@[simp] theorem doImax_leads {F : StateField → Bool} [May F .out] [May F .regs] [May F .mem] [May F .bad] [May F .msix] [May F .vales] [May F .slots] [May F .floors] [May F .health] [May F .mp] {r : State} (g) (i) {s : State} (h : State.Leads F r s) :
    State.Leads F r (doImax g i s) := by
  unfold doImax
  simp (maxDischargeDepth := 99) +contextual [h]

@[simp] theorem doIabs_leads {F : StateField → Bool} [May F .out] [May F .regs] [May F .mem] [May F .bad] [May F .msix] [May F .vales] [May F .slots] [May F .floors] [May F .health] [May F .mp] {r : State} (g) (i) {s : State} (h : State.Leads F r s) :
    State.Leads F r (doIabs g i s) := by
  unfold doIabs
  simp (maxDischargeDepth := 99) +contextual [h]

@[simp] theorem doAnd_leads {F : StateField → Bool} [May F .out] [May F .regs] [May F .mem] [May F .bad] [May F .msix] [May F .vales] [May F .slots] [May F .floors] [May F .health] [May F .mp] {r : State} (g) (i) {s : State} (h : State.Leads F r s) :
    State.Leads F r (doAnd g i s) := by
  unfold doAnd
  simp (maxDischargeDepth := 99) +contextual [h]

@[simp] theorem doOr_leads {F : StateField → Bool} [May F .out] [May F .regs] [May F .mem] [May F .bad] [May F .msix] [May F .vales] [May F .slots] [May F .floors] [May F .health] [May F .mp] {r : State} (g) (i) {s : State} (h : State.Leads F r s) :
    State.Leads F r (doOr g i s) := by
  unfold doOr
  simp (maxDischargeDepth := 99) +contextual [h]

@[simp] theorem doXor_leads {F : StateField → Bool} [May F .out] [May F .regs] [May F .mem] [May F .bad] [May F .msix] [May F .vales] [May F .slots] [May F .floors] [May F .health] [May F .mp] {r : State} (g) (i) {s : State} (h : State.Leads F r s) :
    State.Leads F r (doXor g i s) := by
  unfold doXor
  simp (maxDischargeDepth := 99) +contextual [h]

@[simp] theorem doShl_leads {F : StateField → Bool} [May F .out] [May F .regs] [May F .mem] [May F .bad] [May F .msix] [May F .vales] [May F .slots] [May F .floors] [May F .health] [May F .mp] {r : State} (g) (i) {s : State} (h : State.Leads F r s) :
    State.Leads F r (doShl g i s) := by
  unfold doShl
  simp (maxDischargeDepth := 99) +contextual [h]

@[simp] theorem doShr_leads {F : StateField → Bool} [May F .out] [May F .regs] [May F .mem] [May F .bad] [May F .msix] [May F .vales] [May F .slots] [May F .floors] [May F .health] [May F .mp] {r : State} (g) (i) {s : State} (h : State.Leads F r s) :
    State.Leads F r (doShr g i s) := by
  unfold doShr
  simp (maxDischargeDepth := 99) +contextual [h]

@[simp] theorem doSel_leads {F : StateField → Bool} [May F .out] [May F .regs] [May F .mem] [May F .bad] [May F .msix] [May F .vales] [May F .slots] [May F .floors] [May F .health] [May F .mp] {r : State} (g) (i) {s : State} (h : State.Leads F r s) :
    State.Leads F r (doSel g i s) := by
  unfold doSel
  simp (maxDischargeDepth := 99) +contextual [h]

@[simp] theorem doMov_leads {F : StateField → Bool} [May F .out] [May F .regs] [May F .mem] [May F .bad] [May F .msix] [May F .vales] [May F .slots] [May F .floors] [May F .health] [May F .mp] {r : State} (g) (i) {s : State} (h : State.Leads F r s) :
    State.Leads F r (doMov g i s) := by
  unfold doMov
  simp (maxDischargeDepth := 99) +contextual [h]

@[simp] theorem doCvt_leads {F : StateField → Bool} [May F .out] [May F .regs] [May F .mem] [May F .bad] [May F .msix] [May F .vales] [May F .slots] [May F .floors] [May F .health] [May F .mp] {r : State} (g) (i) {s : State} (h : State.Leads F r s) :
    State.Leads F r (doCvt g i s) := by
  unfold doCvt
  simp (maxDischargeDepth := 99) +contextual [h]

@[simp] theorem doFcmp_leads {F : StateField → Bool} [May F .regs] [May F .mem] [May F .vales] [May F .slots] {r : State} (g) (i) {s : State} (h : State.Leads F r s) :
    State.Leads F r (doFcmp g i s) := by
  unfold doFcmp
  simp (maxDischargeDepth := 99) +contextual [h]

@[simp] theorem doIcmp_leads {F : StateField → Bool} [May F .regs] [May F .mem] [May F .vales] [May F .slots] {r : State} (g) (i) {s : State} (h : State.Leads F r s) :
    State.Leads F r (doIcmp g i s) := by
  unfold doIcmp
  simp (maxDischargeDepth := 99) +contextual [h]

@[simp] theorem doPset_leads {F : StateField → Bool} [May F .regs] [May F .mem] [May F .vales] [May F .slots] {r : State} (g) (i) {s : State} (h : State.Leads F r s) :
    State.Leads F r (doPset g i s) := by
  unfold doPset
  simp (maxDischargeDepth := 99) +contextual [h]

@[simp] theorem doPlog_leads {F : StateField → Bool} [May F .regs] [May F .mem] [May F .vales] [May F .slots] {r : State} (g) (i) {s : State} (h : State.Leads F r s) :
    State.Leads F r (doPlog g i s) := by
  unfold doPlog
  simp (maxDischargeDepth := 99) +contextual [h]

@[simp] theorem doLdi_leads {F : StateField → Bool} [May F .out] [May F .regs] [May F .mem] [May F .bad] [May F .msix] [May F .vales] [May F .slots] [May F .floors] [May F .health] [May F .mp] {r : State} (g) (i) {s : State} (h : State.Leads F r s) :
    State.Leads F r (doLdi g i s) := by
  unfold doLdi
  simp (maxDischargeDepth := 99) +contextual [h]

@[simp] theorem doRng_leads {F : StateField → Bool} [May F .out] [May F .regs] [May F .mem] [May F .bad] [May F .msix] [May F .vales] [May F .slots] [May F .floors] [May F .health] [May F .mp] {r : State} (g) (i) {s : State} (h : State.Leads F r s) :
    State.Leads F r (doRng g i s) := by
  unfold doRng
  simp (maxDischargeDepth := 99) +contextual [h]

@[simp] theorem doMovs_leads {F : StateField → Bool} [May F .out] [May F .regs] [May F .mem] [May F .bad] [May F .msix] [May F .vales] [May F .slots] [May F .floors] [May F .health] [May F .mp] {r : State} (g) (i) {s : State} (h : State.Leads F r s) :
    State.Leads F r (doMovs g i s) := by
  unfold doMovs
  simp (maxDischargeDepth := 99) +contextual [h]

@[simp] theorem doFclr_leads {F : StateField → Bool} [May F .regs] [May F .mem] [May F .vales] [May F .slots] {r : State} (g) (i) {s : State} (h : State.Leads F r s) :
    State.Leads F r (doFclr g i s) := by
  unfold doFclr
  simp (maxDischargeDepth := 99) +contextual [h]

theorem execNop_leads {F : StateField → Bool} [May F .regs] [May F .mem] [May F .vales] [May F .slots] (g) (i) {s : State} : State.LeadsOut F s (execNop g i s) := by
  simp (maxDischargeDepth := 99) [execNop]

theorem execFadd_leads {F : StateField → Bool} [May F .out] [May F .regs] [May F .mem] [May F .bad] [May F .msix] [May F .vales] [May F .slots] [May F .floors] [May F .health] [May F .mp] (g) (i) {s : State} : State.LeadsOut F s (execFadd g i s) := by
  simp (maxDischargeDepth := 99) [execFadd]

theorem execFsub_leads {F : StateField → Bool} [May F .out] [May F .regs] [May F .mem] [May F .bad] [May F .msix] [May F .vales] [May F .slots] [May F .floors] [May F .health] [May F .mp] (g) (i) {s : State} : State.LeadsOut F s (execFsub g i s) := by
  simp (maxDischargeDepth := 99) [execFsub]

theorem execFmul_leads {F : StateField → Bool} [May F .out] [May F .regs] [May F .mem] [May F .bad] [May F .msix] [May F .vales] [May F .slots] [May F .floors] [May F .health] [May F .mp] (g) (i) {s : State} : State.LeadsOut F s (execFmul g i s) := by
  simp (maxDischargeDepth := 99) [execFmul]

theorem execFfma_leads {F : StateField → Bool} [May F .out] [May F .regs] [May F .mem] [May F .bad] [May F .msix] [May F .vales] [May F .slots] [May F .floors] [May F .health] [May F .mp] (g) (i) {s : State} : State.LeadsOut F s (execFfma g i s) := by
  simp (maxDischargeDepth := 99) [execFfma]

theorem execFmin_leads {F : StateField → Bool} [May F .out] [May F .regs] [May F .mem] [May F .bad] [May F .msix] [May F .vales] [May F .slots] [May F .floors] [May F .health] [May F .mp] (g) (i) {s : State} : State.LeadsOut F s (execFmin g i s) := by
  simp (maxDischargeDepth := 99) [execFmin]

theorem execFmax_leads {F : StateField → Bool} [May F .out] [May F .regs] [May F .mem] [May F .bad] [May F .msix] [May F .vales] [May F .slots] [May F .floors] [May F .health] [May F .mp] (g) (i) {s : State} : State.LeadsOut F s (execFmax g i s) := by
  simp (maxDischargeDepth := 99) [execFmax]

theorem execFabs_leads {F : StateField → Bool} [May F .out] [May F .regs] [May F .mem] [May F .bad] [May F .msix] [May F .vales] [May F .slots] [May F .floors] [May F .health] [May F .mp] (g) (i) {s : State} : State.LeadsOut F s (execFabs g i s) := by
  simp (maxDischargeDepth := 99) [execFabs]

theorem execFneg_leads {F : StateField → Bool} [May F .out] [May F .regs] [May F .mem] [May F .bad] [May F .msix] [May F .vales] [May F .slots] [May F .floors] [May F .health] [May F .mp] (g) (i) {s : State} : State.LeadsOut F s (execFneg g i s) := by
  simp (maxDischargeDepth := 99) [execFneg]

theorem execFdiv_leads {F : StateField → Bool} [May F .out] [May F .regs] [May F .mem] [May F .bad] [May F .msix] [May F .vales] [May F .slots] [May F .floors] [May F .health] [May F .mp] (g) (i) {s : State} : State.LeadsOut F s (execFdiv g i s) := by
  simp (maxDischargeDepth := 99) [execFdiv]

theorem execFsqrt_leads {F : StateField → Bool} [May F .out] [May F .regs] [May F .mem] [May F .bad] [May F .msix] [May F .vales] [May F .slots] [May F .floors] [May F .health] [May F .mp] (g) (i) {s : State} : State.LeadsOut F s (execFsqrt g i s) := by
  simp (maxDischargeDepth := 99) [execFsqrt]

theorem execFrsq_leads {F : StateField → Bool} [May F .out] [May F .regs] [May F .mem] [May F .bad] [May F .msix] [May F .vales] [May F .slots] [May F .floors] [May F .health] [May F .mp] (g) (i) {s : State} : State.LeadsOut F s (execFrsq g i s) := by
  simp (maxDischargeDepth := 99) [execFrsq]

theorem execTfn_leads {F : StateField → Bool} [May F .out] [May F .regs] [May F .mem] [May F .bad] [May F .msix] [May F .vales] [May F .slots] [May F .floors] [May F .health] [May F .mp] (g) (i) {s : State} : State.LeadsOut F s (execTfn g i s) := by
  simp (maxDischargeDepth := 99) [execTfn]

theorem execIadd_leads {F : StateField → Bool} [May F .out] [May F .regs] [May F .mem] [May F .bad] [May F .msix] [May F .vales] [May F .slots] [May F .floors] [May F .health] [May F .mp] (g) (i) {s : State} : State.LeadsOut F s (execIadd g i s) := by
  simp (maxDischargeDepth := 99) [execIadd]

theorem execIsub_leads {F : StateField → Bool} [May F .out] [May F .regs] [May F .mem] [May F .bad] [May F .msix] [May F .vales] [May F .slots] [May F .floors] [May F .health] [May F .mp] (g) (i) {s : State} : State.LeadsOut F s (execIsub g i s) := by
  simp (maxDischargeDepth := 99) [execIsub]

theorem execImul_leads {F : StateField → Bool} [May F .out] [May F .regs] [May F .mem] [May F .bad] [May F .msix] [May F .vales] [May F .slots] [May F .floors] [May F .health] [May F .mp] (g) (i) {s : State} : State.LeadsOut F s (execImul g i s) := by
  simp (maxDischargeDepth := 99) [execImul]

theorem execImin_leads {F : StateField → Bool} [May F .out] [May F .regs] [May F .mem] [May F .bad] [May F .msix] [May F .vales] [May F .slots] [May F .floors] [May F .health] [May F .mp] (g) (i) {s : State} : State.LeadsOut F s (execImin g i s) := by
  simp (maxDischargeDepth := 99) [execImin]

theorem execImax_leads {F : StateField → Bool} [May F .out] [May F .regs] [May F .mem] [May F .bad] [May F .msix] [May F .vales] [May F .slots] [May F .floors] [May F .health] [May F .mp] (g) (i) {s : State} : State.LeadsOut F s (execImax g i s) := by
  simp (maxDischargeDepth := 99) [execImax]

theorem execIabs_leads {F : StateField → Bool} [May F .out] [May F .regs] [May F .mem] [May F .bad] [May F .msix] [May F .vales] [May F .slots] [May F .floors] [May F .health] [May F .mp] (g) (i) {s : State} : State.LeadsOut F s (execIabs g i s) := by
  simp (maxDischargeDepth := 99) [execIabs]

theorem execAnd_leads {F : StateField → Bool} [May F .out] [May F .regs] [May F .mem] [May F .bad] [May F .msix] [May F .vales] [May F .slots] [May F .floors] [May F .health] [May F .mp] (g) (i) {s : State} : State.LeadsOut F s (execAnd g i s) := by
  simp (maxDischargeDepth := 99) [execAnd]

theorem execOr_leads {F : StateField → Bool} [May F .out] [May F .regs] [May F .mem] [May F .bad] [May F .msix] [May F .vales] [May F .slots] [May F .floors] [May F .health] [May F .mp] (g) (i) {s : State} : State.LeadsOut F s (execOr g i s) := by
  simp (maxDischargeDepth := 99) [execOr]

theorem execXor_leads {F : StateField → Bool} [May F .out] [May F .regs] [May F .mem] [May F .bad] [May F .msix] [May F .vales] [May F .slots] [May F .floors] [May F .health] [May F .mp] (g) (i) {s : State} : State.LeadsOut F s (execXor g i s) := by
  simp (maxDischargeDepth := 99) [execXor]

theorem execShl_leads {F : StateField → Bool} [May F .out] [May F .regs] [May F .mem] [May F .bad] [May F .msix] [May F .vales] [May F .slots] [May F .floors] [May F .health] [May F .mp] (g) (i) {s : State} : State.LeadsOut F s (execShl g i s) := by
  simp (maxDischargeDepth := 99) [execShl]

theorem execShr_leads {F : StateField → Bool} [May F .out] [May F .regs] [May F .mem] [May F .bad] [May F .msix] [May F .vales] [May F .slots] [May F .floors] [May F .health] [May F .mp] (g) (i) {s : State} : State.LeadsOut F s (execShr g i s) := by
  simp (maxDischargeDepth := 99) [execShr]

theorem execSel_leads {F : StateField → Bool} [May F .out] [May F .regs] [May F .mem] [May F .bad] [May F .msix] [May F .vales] [May F .slots] [May F .floors] [May F .health] [May F .mp] (g) (i) {s : State} : State.LeadsOut F s (execSel g i s) := by
  simp (maxDischargeDepth := 99) [execSel]

theorem execMov_leads {F : StateField → Bool} [May F .out] [May F .regs] [May F .mem] [May F .bad] [May F .msix] [May F .vales] [May F .slots] [May F .floors] [May F .health] [May F .mp] (g) (i) {s : State} : State.LeadsOut F s (execMov g i s) := by
  simp (maxDischargeDepth := 99) [execMov]

theorem execCvt_leads {F : StateField → Bool} [May F .out] [May F .regs] [May F .mem] [May F .bad] [May F .msix] [May F .vales] [May F .slots] [May F .floors] [May F .health] [May F .mp] (g) (i) {s : State} : State.LeadsOut F s (execCvt g i s) := by
  simp (maxDischargeDepth := 99) [execCvt]

theorem execFcmp_leads {F : StateField → Bool} [May F .regs] [May F .mem] [May F .vales] [May F .slots] (g) (i) {s : State} : State.LeadsOut F s (execFcmp g i s) := by
  simp (maxDischargeDepth := 99) [execFcmp]

theorem execIcmp_leads {F : StateField → Bool} [May F .regs] [May F .mem] [May F .vales] [May F .slots] (g) (i) {s : State} : State.LeadsOut F s (execIcmp g i s) := by
  simp (maxDischargeDepth := 99) [execIcmp]

theorem execPset_leads {F : StateField → Bool} [May F .regs] [May F .mem] [May F .vales] [May F .slots] (g) (i) {s : State} : State.LeadsOut F s (execPset g i s) := by
  simp (maxDischargeDepth := 99) [execPset]

theorem execPlog_leads {F : StateField → Bool} [May F .regs] [May F .mem] [May F .vales] [May F .slots] (g) (i) {s : State} : State.LeadsOut F s (execPlog g i s) := by
  simp (maxDischargeDepth := 99) [execPlog]

theorem execLdi_leads {F : StateField → Bool} [May F .out] [May F .regs] [May F .mem] [May F .bad] [May F .msix] [May F .vales] [May F .slots] [May F .floors] [May F .health] [May F .mp] (g) (i) {s : State} : State.LeadsOut F s (execLdi g i s) := by
  simp (maxDischargeDepth := 99) [execLdi]

theorem execRng_leads {F : StateField → Bool} [May F .out] [May F .regs] [May F .mem] [May F .bad] [May F .msix] [May F .vales] [May F .slots] [May F .floors] [May F .health] [May F .mp] (g) (i) {s : State} : State.LeadsOut F s (execRng g i s) := by
  simp (maxDischargeDepth := 99) [execRng]

theorem execMovs_leads {F : StateField → Bool} [May F .out] [May F .regs] [May F .mem] [May F .bad] [May F .msix] [May F .vales] [May F .slots] [May F .floors] [May F .health] [May F .mp] (g) (i) {s : State} : State.LeadsOut F s (execMovs g i s) := by
  simp (maxDischargeDepth := 99) [execMovs]

theorem execFclr_leads {F : StateField → Bool} [May F .regs] [May F .mem] [May F .vales] [May F .slots] (g) (i) {s : State} : State.LeadsOut F s (execFclr g i s) := by
  simp (maxDischargeDepth := 99) [execFclr]

/-! ### ElementQueues -/

@[simp] theorem doOcl_leads {F : StateField → Bool} [May F .out] [May F .regs] [May F .mem] [May F .bad] [May F .msix] [May F .vales] [May F .slots] [May F .floors] [May F .health] [May F .mp] {r : State} (g) (i) {s : State} (h : State.Leads F r s) :
    State.Leads F r (doOcl g i s) := by
  unfold doOcl
  simp (maxDischargeDepth := 99) +contextual [h]

@[simp] theorem doOcs_leads {F : StateField → Bool} [May F .regs] [May F .mem] [May F .vales] [May F .slots] {r : State} (g) (i) {s : State} (h : State.Leads F r s) :
    State.Leads F r (doOcs g i s) := by
  unfold doOcs
  simp (maxDischargeDepth := 99) +contextual [h]

@[simp] theorem doOcg_leads {F : StateField → Bool} [May F .out] [May F .regs] [May F .mem] [May F .bad] [May F .msix] [May F .vales] [May F .slots] [May F .floors] [May F .health] [May F .mp] {r : State} (g) (i) {s : State} (h : State.Leads F r s) :
    State.Leads F r (doOcg g i s) := by
  unfold doOcg
  simp (maxDischargeDepth := 99) +contextual [h]

@[simp] theorem doOct_leads {F : StateField → Bool} [May F .regs] [May F .mem] [May F .vales] [May F .slots] {r : State} (g) (i) {s : State} (h : State.Leads F r s) :
    State.Leads F r (doOct g i s) := by
  unfold doOct
  simp (maxDischargeDepth := 99) +contextual [h]

@[simp] theorem State.runQnt_leads {F : StateField → Bool} [May F .out] [May F .regs] [May F .mem] [May F .bad] [May F .msix] [May F .vales] [May F .slots] [May F .floors] [May F .health] [May F .mp] {r : State} {s : State} (g) (i) (k) (c) (x5) (h : State.Leads F r s) :
    State.Leads F r (State.runQnt s g i k c x5) := by
  unfold State.runQnt
  split <;> simp (maxDischargeDepth := 99) +contextual [h]

@[simp] theorem doQnt_leads {F : StateField → Bool} [May F .out] [May F .regs] [May F .mem] [May F .bad] [May F .msix] [May F .vales] [May F .slots] [May F .floors] [May F .health] [May F .mp] {r : State} (g) (i) {s : State} (h : State.Leads F r s) :
    State.Leads F r (doQnt g i s) := by
  unfold doQnt
  simp (maxDischargeDepth := 99) +contextual [h]

@[simp] theorem doRed_leads {F : StateField → Bool} [May F .out] [May F .regs] [May F .mem] [May F .bad] [May F .msix] [May F .vales] [May F .slots] [May F .floors] [May F .health] [May F .mp] {r : State} (g) (i) {s : State} (h : State.Leads F r s) :
    State.Leads F r (doRed g i s) := by
  unfold doRed
  simp (maxDischargeDepth := 99) +contextual [h]

@[simp] theorem State.packLanes_leads {F : StateField → Bool} [May F .vales] {r : State} {s : State} (g) (i) (lanes) (h : State.Leads F r s) :
    State.Leads F r (State.packLanes s g i lanes) := by
  unfold State.packLanes
  simp (maxDischargeDepth := 99) +contextual [h]

@[simp] theorem State.runPack_leads {F : StateField → Bool} [May F .vales] {r : State} {s : State} (g) (i) (x3) (h : State.Leads F r s) :
    State.Leads F r (State.runPack s g i x3) := by
  unfold State.runPack
  split <;> simp (maxDischargeDepth := 99) +contextual [h]

@[simp] theorem doPack_leads {F : StateField → Bool} [May F .regs] [May F .mem] [May F .vales] [May F .slots] {r : State} (g) (i) {s : State} (h : State.Leads F r s) :
    State.Leads F r (doPack g i s) := by
  unfold doPack
  simp (maxDischargeDepth := 99) +contextual [h]

@[simp] theorem State.runUnpk_leads {F : StateField → Bool} [May F .vales] {r : State} {s : State} (g) (i) (x3) (h : State.Leads F r s) :
    State.Leads F r (State.runUnpk s g i x3) := by
  unfold State.runUnpk
  split <;> simp (maxDischargeDepth := 99) +contextual [h]

@[simp] theorem doUnpk_leads {F : StateField → Bool} [May F .regs] [May F .mem] [May F .vales] [May F .slots] {r : State} (g) (i) {s : State} (h : State.Leads F r s) :
    State.Leads F r (doUnpk g i s) := by
  unfold doUnpk
  simp (maxDischargeDepth := 99) +contextual [h]

@[simp] theorem State.readPieces_leads {F : StateField → Bool} [May F .out] [May F .regs] [May F .mem] [May F .bad] [May F .msix] [May F .vales] [May F .slots] [May F .floors] [May F .health] [May F .mp] {r : State} {s : State} (k) (c) (x3) (h : State.Leads F r s) :
    State.Leads F r (State.readPieces s k c x3).2 := by
  unfold State.readPieces
  split <;> simp (maxDischargeDepth := 99) +contextual [h]

@[simp] theorem doEpi_leads {F : StateField → Bool} [May F .out] [May F .regs] [May F .mem] [May F .bad] [May F .msix] [May F .vales] [May F .slots] [May F .floors] [May F .health] [May F .mp] {r : State} (g) (i) {s : State} (h : State.Leads F r s) :
    State.Leads F r (doEpi g i s) := by
  unfold doEpi
  simp (maxDischargeDepth := 99) +contextual [h]

@[simp] theorem doQrd_leads {F : StateField → Bool} [May F .out] [May F .regs] [May F .mem] [May F .bad] [May F .msix] [May F .vales] [May F .slots] [May F .floors] [May F .health] [May F .mp] {r : State} (g) (i) {s : State} (h : State.Leads F r s) :
    State.Leads F r (doQrd g i s) := by
  unfold doQrd
  simp (maxDischargeDepth := 99) +contextual [h]

@[simp] theorem State.runQwr_leads {F : StateField → Bool} [May F .mem] [May F .vales] [May F .slots] {r : State} {s : State} (g) (i) (k) (x4) (h : State.Leads F r s) :
    State.Leads F r (State.runQwr s g i k x4) := by
  unfold State.runQwr
  dsimp only
  (repeat' (split <;> (try first | (rename_i heq; have e := congrArg Prod.snd heq; dsimp only at e; subst e) | (rename_i heq _; have e := congrArg Prod.snd heq; dsimp only at e; subst e) | (rename_i heq _ _; have e := congrArg Prod.snd heq; dsimp only at e; subst e)))) <;> simp (maxDischargeDepth := 99) +contextual [h]

@[simp] theorem doQwr_leads {F : StateField → Bool} [May F .regs] [May F .mem] [May F .vales] [May F .slots] {r : State} (g) (i) {s : State} (h : State.Leads F r s) :
    State.Leads F r (doQwr g i s) := by
  unfold doQwr
  simp (maxDischargeDepth := 99) +contextual [h]

@[simp] theorem State.putNibbles_leads {F : StateField → Bool} [May F .mem] {r : State} {s : State} (x) (p) (w) (v) (h : State.Leads F r s) :
    State.Leads F r (State.putNibbles s x p w v) := by
  unfold State.putNibbles
  simp (maxDischargeDepth := 99) +contextual [h]

@[simp] theorem State.runQwc_leads {F : StateField → Bool} [May F .mem] [May F .slots] {r : State} {s : State} (g) (i) (k) (c) (x5) (h : State.Leads F r s) :
    State.Leads F r (State.runQwc s g i k c x5) := by
  unfold State.runQwc
  simp (maxDischargeDepth := 99) +contextual [h]

@[simp] theorem doQwc_leads {F : StateField → Bool} [May F .regs] [May F .mem] [May F .vales] [May F .slots] {r : State} (g) (i) {s : State} (h : State.Leads F r s) :
    State.Leads F r (doQwc g i s) := by
  unfold doQwc
  simp (maxDischargeDepth := 99) +contextual [h]

@[simp] theorem doLoop_leads {F : StateField → Bool} [May F .regs] [May F .mem] [May F .vales] [May F .slots] {r : State} (g) (i) {s : State} (h : State.Leads F r s) :
    State.Leads F r (doLoop g i s) := by
  unfold doLoop
  simp (maxDischargeDepth := 99) +contextual [h]

@[simp] theorem doReserved_leads {F : StateField → Bool} [May F .regs] [May F .mem] [May F .vales] [May F .slots] {r : State} (g) {s : State} (h : State.Leads F r s) :
    State.Leads F r (doReserved g s) := by
  unfold doReserved
  simp (maxDischargeDepth := 99) +contextual [h]

@[simp] theorem doWord_leads {F : StateField → Bool} [May F .out] [May F .regs] [May F .mem] [May F .bad] [May F .msix] [May F .vales] [May F .slots] [May F .floors] [May F .health] [May F .mp] {r : State} (g w) {s : State} (h : State.Leads F r s) :
    State.Leads F r (doWord g w s) := by
  unfold doWord
  split <;> simp (maxDischargeDepth := 99) [h]

@[simp] theorem issueMany_leads {F : StateField → Bool} [May F .out] [May F .regs] [May F .mem] [May F .bad] [May F .msix] [May F .vales] [May F .slots] [May F .floors] [May F .health] [May F .mp] {r : State} (n g) {s : State} (h : State.Leads F r s) :
    State.Leads F r (issueMany n g s) := by
  induction n generalizing s with
  | zero => exact h
  | succ n ih =>
    unfold issueMany
    split
    · exact h
    · exact ih (doWord_leads _ _ h)

@[simp] theorem State.nextBlock_leads {F : StateField → Bool} [May F .vales] [May F .slots] {r : State} {s : State} (k) (c) (h : State.Leads F r s) :
    State.Leads F r (State.nextBlock s k c) := by
  unfold State.nextBlock
  (repeat' split) <;> simp (maxDischargeDepth := 99) +contextual [h]

@[simp] theorem blockStartDo_leads {F : StateField → Bool} [May F .out] [May F .regs] [May F .mem] [May F .bad] [May F .msix] [May F .vales] [May F .slots] [May F .floors] [May F .health] [May F .mp] {r : State} (g) (n) {s : State} (h : State.Leads F r s) :
    State.Leads F r (blockStartDo g n s) := by
  unfold blockStartDo
  (repeat' split) <;> simp (maxDischargeDepth := 99) +contextual [h]

@[simp] theorem State.cacheCorrected_leads {F : StateField → Bool} [May F .regs] [May F .health] {r : State} {s : State} (g) (n) (h : State.Leads F r s) :
    State.Leads F r (State.cacheCorrected s g n) := by
  unfold State.cacheCorrected
  simp (maxDischargeDepth := 99) +contextual [h]

theorem execOcl_leads {F : StateField → Bool} [May F .out] [May F .regs] [May F .mem] [May F .bad] [May F .msix] [May F .vales] [May F .slots] [May F .floors] [May F .health] [May F .mp] (g) (i) {s : State} : State.LeadsOut F s (execOcl g i s) := by
  simp (maxDischargeDepth := 99) [execOcl]

theorem execOcs_leads {F : StateField → Bool} [May F .regs] [May F .mem] [May F .vales] [May F .slots] (g) (i) {s : State} : State.LeadsOut F s (execOcs g i s) := by
  simp (maxDischargeDepth := 99) [execOcs]

theorem execOcg_leads {F : StateField → Bool} [May F .out] [May F .regs] [May F .mem] [May F .bad] [May F .msix] [May F .vales] [May F .slots] [May F .floors] [May F .health] [May F .mp] (g) (i) {s : State} : State.LeadsOut F s (execOcg g i s) := by
  simp (maxDischargeDepth := 99) [execOcg]

theorem execOct_leads {F : StateField → Bool} [May F .regs] [May F .mem] [May F .vales] [May F .slots] (g) (i) {s : State} : State.LeadsOut F s (execOct g i s) := by
  simp (maxDischargeDepth := 99) [execOct]

theorem execQnt_leads {F : StateField → Bool} [May F .out] [May F .regs] [May F .mem] [May F .bad] [May F .msix] [May F .vales] [May F .slots] [May F .floors] [May F .health] [May F .mp] (g) (i) {s : State} : State.LeadsOut F s (execQnt g i s) := by
  simp (maxDischargeDepth := 99) [execQnt]

theorem execRed_leads {F : StateField → Bool} [May F .out] [May F .regs] [May F .mem] [May F .bad] [May F .msix] [May F .vales] [May F .slots] [May F .floors] [May F .health] [May F .mp] (g) (i) {s : State} : State.LeadsOut F s (execRed g i s) := by
  simp (maxDischargeDepth := 99) [execRed]

theorem execPack_leads {F : StateField → Bool} [May F .regs] [May F .mem] [May F .vales] [May F .slots] (g) (i) {s : State} : State.LeadsOut F s (execPack g i s) := by
  simp (maxDischargeDepth := 99) [execPack]

theorem execUnpk_leads {F : StateField → Bool} [May F .regs] [May F .mem] [May F .vales] [May F .slots] (g) (i) {s : State} : State.LeadsOut F s (execUnpk g i s) := by
  simp (maxDischargeDepth := 99) [execUnpk]

theorem execEpi_leads {F : StateField → Bool} [May F .out] [May F .regs] [May F .mem] [May F .bad] [May F .msix] [May F .vales] [May F .slots] [May F .floors] [May F .health] [May F .mp] (g) (i) {s : State} : State.LeadsOut F s (execEpi g i s) := by
  simp (maxDischargeDepth := 99) [execEpi]

theorem execQrd_leads {F : StateField → Bool} [May F .out] [May F .regs] [May F .mem] [May F .bad] [May F .msix] [May F .vales] [May F .slots] [May F .floors] [May F .health] [May F .mp] (g) (i) {s : State} : State.LeadsOut F s (execQrd g i s) := by
  simp (maxDischargeDepth := 99) [execQrd]

theorem execQwr_leads {F : StateField → Bool} [May F .regs] [May F .mem] [May F .vales] [May F .slots] (g) (i) {s : State} : State.LeadsOut F s (execQwr g i s) := by
  simp (maxDischargeDepth := 99) [execQwr]

theorem execQwc_leads {F : StateField → Bool} [May F .regs] [May F .mem] [May F .vales] [May F .slots] (g) (i) {s : State} : State.LeadsOut F s (execQwc g i s) := by
  simp (maxDischargeDepth := 99) [execQwc]

theorem execLoop_leads {F : StateField → Bool} [May F .regs] [May F .mem] [May F .vales] [May F .slots] (g) (i) {s : State} : State.LeadsOut F s (execLoop g i s) := by
  simp (maxDischargeDepth := 99) [execLoop]

theorem execElementBlockStart_leads {F : StateField → Bool} [May F .out] [May F .regs] [May F .mem] [May F .bad] [May F .msix] [May F .vales] [May F .slots] [May F .floors] [May F .health] [May F .mp] (g) (issues) (corrected) {s : State} : State.LeadsOut F s (execElementBlockStart g issues corrected s) := by
  simp (maxDischargeDepth := 99) [execElementBlockStart]

/-! ### Beat -/

@[simp] theorem State.modBeat_leads {F : StateField → Bool} [May F .beat] {r : State} {s : State} (f) (h : State.Leads F r s) :
    State.Leads F r (State.modBeat s f) := by
  unfold State.modBeat
  simp (maxDischargeDepth := 99) +contextual [h]

@[simp] theorem State.passTo_leads {F : StateField → Bool} [May F .clock] [May F .regs] {r : State} {s : State} (t) (h : State.Leads F r s) :
    State.Leads F r (State.passTo s t) := by
  unfold State.passTo
  simp (maxDischargeDepth := 99) +contextual [h]

@[simp] theorem State.voidMetered_leads {F : StateField → Bool} [May F .slots] {r : State} {s : State} (code) (h : State.Leads F r s) :
    State.Leads F r (State.voidMetered s code) := by
  unfold State.voidMetered
  simp (maxDischargeDepth := 99) +contextual [h]

@[simp] theorem State.enterLock_leads {F : StateField → Bool} [May F .out] [May F .regs] [May F .beat] [May F .msix] {r : State} {s : State} (x) (ps) (h : State.Leads F r s) :
    State.Leads F r (State.enterLock s x ps) := by
  unfold State.enterLock
  simp (maxDischargeDepth := 99) +contextual [h]

@[simp] theorem State.measure_leads {F : StateField → Bool} [May F .out] [May F .regs] [May F .beat] [May F .msix] {r : State} {s : State} (x) (h : State.Leads F r s) :
    State.Leads F r (State.measure s x) := by
  unfold State.measure
  split <;> simp (maxDischargeDepth := 99) +contextual [h]

@[simp] theorem State.lockedCross_leads {F : StateField → Bool} [May F .out] [May F .regs] [May F .beat] [May F .msix] {r : State} {s : State} (x) (h : State.Leads F r s) :
    State.Leads F r (State.lockedCross s x) := by
  unfold State.lockedCross
  simp (maxDischargeDepth := 99) +contextual [h]

@[simp] theorem State.lockFromFly_leads {F : StateField → Bool} [May F .out] [May F .regs] [May F .beat] [May F .msix] {r : State} {s : State} (h : State.Leads F r s) :
    State.Leads F r (State.lockFromFly s) := by
  unfold State.lockFromFly
  simp (maxDischargeDepth := 99) +contextual [h]

@[simp] theorem State.phaseFaulted_leads {F : StateField → Bool} [May F .out] [May F .regs] [May F .beat] [May F .msix] [May F .mp] {r : State} {s : State} (h : State.Leads F r s) :
    State.Leads F r (State.phaseFaulted s) := by
  unfold State.phaseFaulted
  simp (maxDischargeDepth := 99) +contextual [h]

@[simp] theorem State.returned_leads {F : StateField → Bool} [May F .out] [May F .regs] [May F .beat] [May F .msix] {r : State} {s : State} (x) (h : State.Leads F r s) :
    State.Leads F r (State.returned s x) := by
  unfold State.returned
  have k0 := fun f => State.beatEvent_leads 8 (State.modBeat_leads f h)
  exact State.leads_ite (k0 _) (State.lockFromFly_leads (State.leads_ite (State.modBeat_leads _ (k0 _)) (k0 _)))

@[simp] theorem State.flyCross_leads {F : StateField → Bool} [May F .out] [May F .regs] [May F .beat] [May F .msix] [May F .mp] {r : State} {s : State} (x) (h : State.Leads F r s) :
    State.Leads F r (State.flyCross s x) := by
  unfold State.flyCross
  dsimp only
  (repeat' (split <;> (try first | (rename_i heq; have e := congrArg Prod.snd heq; dsimp only at e; subst e) | (rename_i heq _; have e := congrArg Prod.snd heq; dsimp only at e; subst e) | (rename_i heq _ _; have e := congrArg Prod.snd heq; dsimp only at e; subst e)))) <;> simp (maxDischargeDepth := 99) +contextual [h]

@[simp] theorem State.crossing_leads {F : StateField → Bool} [May F .out] [May F .regs] [May F .beat] [May F .msix] [May F .mp] {r : State} {s : State} (x) (h : State.Leads F r s) :
    State.Leads F r (State.crossing s x) := by
  unfold State.crossing
  split <;> simp (maxDischargeDepth := 99) +contextual [h]

@[simp] theorem beatCrossingDo_leads {F : StateField → Bool} [May F .clock] [May F .out] [May F .regs] [May F .beat] [May F .msix] [May F .mp] {r : State} (falling) (gap) {s : State} (h : State.Leads F r s) :
    State.Leads F r (beatCrossingDo falling gap s) := by
  unfold beatCrossingDo
  simp (maxDischargeDepth := 99) +contextual [h]

@[simp] theorem State.slewStep_leads {F : StateField → Bool} [May F .out] [May F .regs] [May F .beat] [May F .msix] {r : State} {s : State} (h : State.Leads F r s) :
    State.Leads F r (State.slewStep s) := by
  unfold State.slewStep
  simp (maxDischargeDepth := 99) +contextual [h]

@[simp] theorem beatEdgeDo_leads {F : StateField → Bool} [May F .clock] [May F .out] [May F .regs] [May F .beat] [May F .beatBefore] [May F .msix] [May F .vales] {r : State} (late) {s : State} (h : State.Leads F r s) :
    State.Leads F r (beatEdgeDo late s) := by
  unfold beatEdgeDo
  split <;> simp (maxDischargeDepth := 99) +contextual [h]

@[simp] theorem beatLossDo_leads {F : StateField → Bool} [May F .clock] [May F .out] [May F .regs] [May F .beat] [May F .msix] [May F .mp] {r : State} {s : State} (h : State.Leads F r s) :
    State.Leads F r (beatLossDo s) := by
  unfold beatLossDo
  simp (maxDischargeDepth := 99) +contextual [h]

@[simp] theorem State.flyStep_leads {F : StateField → Bool} [May F .clock] [May F .regs] [May F .beat] {r : State} {s : State} (p) (h : State.Leads F r s) :
    State.Leads F r (State.flyStep s p) := by
  unfold State.flyStep
  simp (maxDischargeDepth := 99) +contextual [h]

@[simp] theorem flywheelEdgeDo_leads {F : StateField → Bool} [May F .clock] [May F .regs] [May F .beat] {r : State} {s : State} (h : State.Leads F r s) :
    State.Leads F r (flywheelEdgeDo s) := by
  unfold flywheelEdgeDo
  simp (maxDischargeDepth := 99) +contextual [h]

@[simp] theorem flywheelExpiryDo_leads {F : StateField → Bool} [May F .out] [May F .regs] [May F .beat] [May F .msix] [May F .slots] [May F .mp] {r : State} {s : State} (h : State.Leads F r s) :
    State.Leads F r (flywheelExpiryDo s) := by
  unfold flywheelExpiryDo
  simp (maxDischargeDepth := 99) +contextual [h]

@[simp] theorem State.dropLock_leads {F : StateField → Bool} [May F .beat] {r : State} {s : State} (h : State.Leads F r s) :
    State.Leads F r (State.dropLock s) := by
  unfold State.dropLock
  simp (maxDischargeDepth := 99) +contextual [h]

@[simp] theorem relockDo_leads {F : StateField → Bool} [May F .beat] [May F .slots] {r : State} {s : State} (h : State.Leads F r s) :
    State.Leads F r (relockDo s) := by
  unfold relockDo
  simp (maxDischargeDepth := 99) +contextual [h]

@[simp] theorem beatEnDo_leads {F : StateField → Bool} [May F .regs] [May F .beat] {r : State} (en) {s : State} (h : State.Leads F r s) :
    State.Leads F r (beatEnDo en s) := by
  unfold beatEnDo
  dsimp only
  (repeat' (split <;> (try first | (rename_i heq; have e := congrArg Prod.snd heq; dsimp only at e; subst e) | (rename_i heq _; have e := congrArg Prod.snd heq; dsimp only at e; subst e) | (rename_i heq _ _; have e := congrArg Prod.snd heq; dsimp only at e; subst e)))) <;> simp (maxDischargeDepth := 99) +contextual [h]

theorem execBeatCrossing_leads {F : StateField → Bool} [May F .clock] [May F .out] [May F .regs] [May F .beat] [May F .msix] [May F .mp] (falling) (gap) {s : State} : State.LeadsOut F s (execBeatCrossing falling gap s) := by
  simp (maxDischargeDepth := 99) [execBeatCrossing]

theorem execBeatEdge_leads {F : StateField → Bool} [May F .clock] [May F .out] [May F .regs] [May F .beat] [May F .beatBefore] [May F .msix] [May F .vales] (late) {s : State} : State.LeadsOut F s (execBeatEdge late s) := by
  simp (maxDischargeDepth := 99) [execBeatEdge]

theorem execBeatLoss_leads {F : StateField → Bool} [May F .clock] [May F .out] [May F .regs] [May F .beat] [May F .msix] [May F .mp] {s : State} : State.LeadsOut F s (execBeatLoss s) := by
  simp (maxDischargeDepth := 99) [execBeatLoss]

theorem execFlywheelEdge_leads {F : StateField → Bool} [May F .clock] [May F .regs] [May F .beat] {s : State} : State.LeadsOut F s (execFlywheelEdge s) := by
  simp (maxDischargeDepth := 99) [execFlywheelEdge]

theorem execFlywheelExpiry_leads {F : StateField → Bool} [May F .out] [May F .regs] [May F .beat] [May F .msix] [May F .slots] [May F .mp] {s : State} : State.LeadsOut F s (execFlywheelExpiry s) := by
  simp (maxDischargeDepth := 99) [execFlywheelExpiry]

theorem execRelock_leads {F : StateField → Bool} [May F .out] [May F .beat] [May F .slots] {s : State} : State.LeadsOut F s (execRelock s) := by
  simp (maxDischargeDepth := 99) [execRelock]

theorem execBeatEnWrite_leads {F : StateField → Bool} [May F .out] [May F .regs] [May F .beat] (en) {s : State} : State.LeadsOut F s (execBeatEnWrite en s) := by
  simp (maxDischargeDepth := 99) [execBeatEnWrite]

/-! ### Versions -/

@[simp] theorem State.setVerState_leads {F : StateField → Bool} [May F .out] [May F .regs] [May F .mem] [May F .bad] [May F .msix] [May F .floors] [May F .health] [May F .mp] {r : State} {s : State} (n) (set) (v) (x) (h : State.Leads F r s) :
    State.Leads F r (State.setVerState s n set v x) := by
  unfold State.setVerState
  simp (maxDischargeDepth := 99) +contextual [h]

@[simp] theorem State.setVerRefs_leads {F : StateField → Bool} [May F .out] [May F .regs] [May F .mem] [May F .bad] [May F .msix] [May F .floors] [May F .health] [May F .mp] {r : State} {s : State} (n) (set) (v) (x) (h : State.Leads F r s) :
    State.Leads F r (State.setVerRefs s n set v x) := by
  unfold State.setVerRefs
  simp (maxDischargeDepth := 99) +contextual [h]

@[simp] theorem State.freeVersion_leads {F : StateField → Bool} [May F .out] [May F .regs] [May F .mem] [May F .bad] [May F .msix] [May F .parts] [May F .slots] [May F .floors] [May F .health] [May F .mp] {r : State} {s : State} (n) (set) (v) (h : State.Leads F r s) :
    State.Leads F r (State.freeVersion s n set v) := by
  unfold State.freeVersion
  simp (maxDischargeDepth := 99) +contextual [h]

@[simp] theorem State.unref_leads {F : StateField → Bool} [May F .out] [May F .regs] [May F .mem] [May F .bad] [May F .msix] [May F .parts] [May F .slots] [May F .floors] [May F .health] [May F .mp] {r : State} {s : State} (n) (set) (v) (h : State.Leads F r s) :
    State.Leads F r (State.unref s n set v) := by
  unfold State.unref
  simp (maxDischargeDepth := 99) +contextual [h]

@[simp] theorem State.ref_leads {F : StateField → Bool} [May F .out] [May F .regs] [May F .mem] [May F .bad] [May F .msix] [May F .floors] [May F .health] [May F .mp] {r : State} {s : State} (n) (set) (v) (h : State.Leads F r s) :
    State.Leads F r (State.ref s n set v) := by
  unfold State.ref
  simp (maxDischargeDepth := 99) +contextual [h]

@[simp] theorem State.pick_leads {F : StateField → Bool} [May F .free] {r : State} {s : State} (xs) (h : State.Leads F r s) :
    State.Leads F r (State.pick s xs).2 := by
  unfold State.pick
  split <;> simp (maxDischargeDepth := 99) +contextual [h]

@[simp] theorem State.giveWay_leads {F : StateField → Bool} [May F .out] [May F .regs] [May F .mem] [May F .bad] [May F .msix] [May F .parts] [May F .slots] [May F .floors] [May F .health] [May F .mp] {r : State} {s : State} (n) (set) (x3) (h : State.Leads F r s) :
    State.Leads F r (State.giveWay s n set x3) := by
  unfold State.giveWay
  split <;> simp (maxDischargeDepth := 99) +contextual [h]

@[simp] theorem State.retireCurrent_leads {F : StateField → Bool} [May F .out] [May F .regs] [May F .mem] [May F .bad] [May F .msix] [May F .parts] [May F .slots] [May F .floors] [May F .health] [May F .mp] {r : State} {s : State} (n) (set) (h : State.Leads F r s) :
    State.Leads F r (State.retireCurrent s n set) := by
  unfold State.retireCurrent
  simp (maxDischargeDepth := 99) +contextual [h]

@[simp] theorem State.makeCurrent_leads {F : StateField → Bool} [May F .out] [May F .regs] [May F .mem] [May F .bad] [May F .msix] [May F .parts] [May F .slots] [May F .floors] [May F .health] [May F .mp] {r : State} {s : State} (n) (set) (v) (h : State.Leads F r s) :
    State.Leads F r (State.makeCurrent s n set v) := by
  unfold State.makeCurrent
  simp (maxDischargeDepth := 99) +contextual [h]

@[simp] theorem State.startVersion_leads {F : StateField → Bool} [May F .out] [May F .regs] [May F .mem] [May F .bad] [May F .msix] [May F .floors] [May F .health] [May F .mp] {r : State} {s : State} (n) (set) (v) (st) (base) (layout) (h : State.Leads F r s) :
    State.Leads F r (State.startVersion s n set v st base layout) := by
  unfold State.startVersion
  simp (maxDischargeDepth := 99) +contextual [h]

@[simp] theorem State.releaseVersions_leads {F : StateField → Bool} [May F .out] [May F .regs] [May F .mem] [May F .bad] [May F .msix] [May F .parts] [May F .slots] [May F .floors] [May F .health] [May F .mp] {r : State} {s : State} (n) (h : State.Leads F r s) :
    State.Leads F r (State.releaseVersions s n) := by
  unfold State.releaseVersions
  simp (maxDischargeDepth := 99) +contextual [h]

@[simp] theorem State.ringBell_leads {F : StateField → Bool} [May F .regs] {r : State} {s : State} (n) (size) (tail) (v) (h : State.Leads F r s) :
    State.Leads F r (State.ringBell s n size tail v) := by
  unfold State.ringBell
  simp (maxDischargeDepth := 99) +contextual [h]

@[simp] theorem vqResumeDo_leads {F : StateField → Bool} [May F .regs] {r : State} (n) {s : State} (h : State.Leads F r s) :
    State.Leads F r (vqResumeDo n s) := by
  unfold vqResumeDo
  simp (maxDischargeDepth := 99) +contextual [h]

@[simp] theorem State.vopWrite_leads {F : StateField → Bool} [May F .free] [May F .out] [May F .regs] [May F .mem] [May F .bad] [May F .msix] [May F .floors] [May F .health] [May F .mp] {r : State} {s : State} (n) (a) (x3) (h : State.Leads F r s) :
    State.Leads F r (State.vopWrite s n a x3) := by
  unfold State.vopWrite
  split <;> simp (maxDischargeDepth := 99) +contextual [h]

@[simp] theorem State.vqAdvance_leads {F : StateField → Bool} [May F .regs] {r : State} {s : State} (n) (h : State.Leads F r s) :
    State.Leads F r (State.vqAdvance s n) := by
  unfold State.vqAdvance
  simp (maxDischargeDepth := 99) +contextual [h]

@[simp] theorem State.vqHalt_leads {F : StateField → Bool} [May F .regs] {r : State} {s : State} (n) (status) (h : State.Leads F r s) :
    State.Leads F r (State.vqHalt s n status) := by
  unfold State.vqHalt
  simp (maxDischargeDepth := 99) +contextual [h]

@[simp] theorem State.vopFinish_leads {F : StateField → Bool} [May F .free] [May F .out] [May F .regs] [May F .mem] [May F .bad] [May F .msix] [May F .parts] [May F .slots] [May F .floors] [May F .health] [May F .mp] {r : State} {s : State} (n) (o) (x3) (h : State.Leads F r s) :
    State.Leads F r (State.vopFinish s n o x3) := by
  unfold State.vopFinish
  simp (maxDischargeDepth := 99) +contextual [h]

@[simp] theorem State.vop_leads {F : StateField → Bool} [May F .free] [May F .out] [May F .regs] [May F .mem] [May F .bad] [May F .msix] [May F .parts] [May F .slots] [May F .floors] [May F .health] [May F .mp] {r : State} {s : State} (n f) (h : State.Leads F r s)
    (hf : ∀ o t, State.Leads F r t → State.Leads F r (f o t).2) : State.Leads F r (State.vop s n f) := by
  unfold State.vop
  exact State.leads_ite (State.vopFinish_leads _ _ _ h) (State.leads_ite (State.vopFinish_leads _ _ _ h)
    (State.vopFinish_leads _ _ _ (hf _ _ h)))

@[simp] theorem bindOp_leads {F : StateField → Bool} [May F .out] [May F .regs] [May F .mem] [May F .bad] [May F .msix] [May F .parts] [May F .slots] [May F .floors] [May F .health] [May F .mp] {r : State} (n) (o) {s : State} (h : State.Leads F r s) :
    State.Leads F r (bindOp n o s).2 := by
  unfold bindOp
  dsimp only
  (repeat' (split <;> (try first | (rename_i heq; have e := congrArg Prod.snd heq; dsimp only at e; subst e) | (rename_i heq _; have e := congrArg Prod.snd heq; dsimp only at e; subst e) | (rename_i heq _ _; have e := congrArg Prod.snd heq; dsimp only at e; subst e)))) <;> simp (maxDischargeDepth := 99) +contextual [h]

@[simp] theorem unbindOp_leads {F : StateField → Bool} [May F .out] [May F .regs] [May F .mem] [May F .bad] [May F .msix] [May F .parts] [May F .slots] [May F .floors] [May F .health] [May F .mp] {r : State} (n) (o) {s : State} (h : State.Leads F r s) :
    State.Leads F r (unbindOp n o s).2 := by
  unfold unbindOp
  dsimp only
  (repeat' (split <;> (try first | (rename_i heq; have e := congrArg Prod.snd heq; dsimp only at e; subst e) | (rename_i heq _; have e := congrArg Prod.snd heq; dsimp only at e; subst e) | (rename_i heq _ _; have e := congrArg Prod.snd heq; dsimp only at e; subst e)))) <;> simp (maxDischargeDepth := 99) +contextual [h]

@[simp] theorem pinOp_leads {F : StateField → Bool} [May F .out] [May F .regs] [May F .mem] [May F .bad] [May F .msix] [May F .parts] [May F .floors] [May F .health] [May F .mp] {r : State} (n) (o) {s : State} (h : State.Leads F r s) :
    State.Leads F r (pinOp n o s).2 := by
  unfold pinOp
  dsimp only
  (repeat' (split <;> (try first | (rename_i heq; have e := congrArg Prod.snd heq; dsimp only at e; subst e) | (rename_i heq _; have e := congrArg Prod.snd heq; dsimp only at e; subst e) | (rename_i heq _ _; have e := congrArg Prod.snd heq; dsimp only at e; subst e)))) <;> simp (maxDischargeDepth := 99) +contextual [h]

@[simp] theorem unpinOp_leads {F : StateField → Bool} [May F .out] [May F .regs] [May F .mem] [May F .bad] [May F .msix] [May F .parts] [May F .slots] [May F .floors] [May F .health] [May F .mp] {r : State} (n) (o) {s : State} (h : State.Leads F r s) :
    State.Leads F r (unpinOp n o s).2 := by
  unfold unpinOp
  dsimp only
  (repeat' (split <;> (try first | (rename_i heq; have e := congrArg Prod.snd heq; dsimp only at e; subst e) | (rename_i heq _; have e := congrArg Prod.snd heq; dsimp only at e; subst e) | (rename_i heq _ _; have e := congrArg Prod.snd heq; dsimp only at e; subst e)))) <;> simp (maxDischargeDepth := 99) +contextual [h]

@[simp] theorem installOp_leads {F : StateField → Bool} [May F .free] [May F .out] [May F .regs] [May F .mem] [May F .bad] [May F .msix] [May F .parts] [May F .slots] [May F .floors] [May F .health] [May F .mp] {r : State} (n o) {s : State} (h : State.Leads F r s) :
    State.Leads F r (installOp n o s).2 := by
  unfold installOp
  have q := State.readPda_leads n (w64At o 8) 16 h
  dsimp only
  split
  · rename_i t heq; rw [heq] at q
    have p := State.pick_leads (freeRecords t n (vopSet o)) q
    split
    · rename_i heq2; rw [heq2] at p; exact p
    · rename_i heq2; rw [heq2] at p; exact State.makeCurrent_leads _ _ _ (State.startVersion_leads _ _ _ _ _ _ p)
  · rename_i heq; rw [heq] at q; exact q

@[simp] theorem ledgerOp_leads {F : StateField → Bool} [May F .out] [May F .regs] [May F .mem] [May F .bad] [May F .msix] [May F .floors] [May F .health] [May F .mp] {r : State} (n o) {s : State} (h : State.Leads F r s) :
    State.Leads F r (ledgerOp n o s).2 := by
  unfold ledgerOp
  have q := State.readPda_leads n (w64At o 8) (32 * w32At o 4) h
  dsimp only
  refine State.leads_ite_snd h ?_
  split
  · rename_i heq; rw [heq] at q
    split
    · exact q
    · refine State.leads_ite_snd q ?_
      simp (maxDischargeDepth := 99) +contextual [q]
  · rename_i heq; rw [heq] at q; exact q

theorem execVqDoorbell_leads {F : StateField → Bool} [May F .out] [May F .regs] (n) (tail) {s : State} : State.LeadsOut F s (execVqDoorbell n tail s) := by
  simp (maxDischargeDepth := 99) [execVqDoorbell]

theorem execVqResume_leads {F : StateField → Bool} [May F .out] [May F .regs] (n) {s : State} : State.LeadsOut F s (execVqResume n s) := by
  simp (maxDischargeDepth := 99) [execVqResume]

theorem execBind_leads {F : StateField → Bool} [May F .free] [May F .out] [May F .regs] [May F .mem] [May F .bad] [May F .msix] [May F .parts] [May F .slots] [May F .floors] [May F .health] [May F .mp] (n) {s : State} : State.LeadsOut F s (execBind n s) := by
  unfold execBind
  simp (maxDischargeDepth := 99) +contextual

theorem execUnbind_leads {F : StateField → Bool} [May F .free] [May F .out] [May F .regs] [May F .mem] [May F .bad] [May F .msix] [May F .parts] [May F .slots] [May F .floors] [May F .health] [May F .mp] (n) {s : State} : State.LeadsOut F s (execUnbind n s) := by
  unfold execUnbind
  simp (maxDischargeDepth := 99) +contextual

theorem execPin_leads {F : StateField → Bool} [May F .free] [May F .out] [May F .regs] [May F .mem] [May F .bad] [May F .msix] [May F .parts] [May F .slots] [May F .floors] [May F .health] [May F .mp] (n) {s : State} : State.LeadsOut F s (execPin n s) := by
  unfold execPin
  simp (maxDischargeDepth := 99) +contextual

theorem execUnpin_leads {F : StateField → Bool} [May F .free] [May F .out] [May F .regs] [May F .mem] [May F .bad] [May F .msix] [May F .parts] [May F .slots] [May F .floors] [May F .health] [May F .mp] (n) {s : State} : State.LeadsOut F s (execUnpin n s) := by
  unfold execUnpin
  simp (maxDischargeDepth := 99) +contextual

theorem execInstall_leads {F : StateField → Bool} [May F .free] [May F .out] [May F .regs] [May F .mem] [May F .bad] [May F .msix] [May F .parts] [May F .slots] [May F .floors] [May F .health] [May F .mp] (n) {s : State} : State.LeadsOut F s (execInstall n s) := by
  unfold execInstall
  simp (maxDischargeDepth := 99) +contextual

theorem execLedgerAppend_leads {F : StateField → Bool} [May F .free] [May F .out] [May F .regs] [May F .mem] [May F .bad] [May F .msix] [May F .parts] [May F .slots] [May F .floors] [May F .health] [May F .mp] (n) {s : State} : State.LeadsOut F s (execLedgerAppend n s) := by
  unfold execLedgerAppend
  simp (maxDischargeDepth := 99) +contextual

/-! ### Partitions -/

@[simp] theorem State.readEntries_leads {F : StateField → Bool} [May F .out] [May F .regs] [May F .bad] [May F .msix] [May F .floors] [May F .health] [May F .mp] {r : State} (n a T f i) {s : State} (h : State.Leads F r s) :
    State.Leads F r (State.readEntries n a T f i s).2 := by
  induction f generalizing s i with
  | zero => exact h
  | succ f ih =>
    unfold State.readEntries
    have q := State.readPda_leads n (a + 64 + 16 * i) 16 h
    split
    · rename_i heq; rw [heq] at q
      refine State.leads_ite_snd q ?_
      have p := ih (i + 1) q
      split
      · rename_i heq2; rw [heq2] at p; exact p
      · exact p
    · rename_i heq; rw [heq] at q; exact q

@[simp] theorem State.readTable_leads {F : StateField → Bool} [May F .out] [May F .regs] [May F .bad] [May F .msix] [May F .floors] [May F .health] [May F .mp] {r : State} {s : State} (n) (h : State.Leads F r s) :
    State.Leads F r (State.readTable s n).2 := by
  unfold State.readTable
  refine State.leads_ite_snd h ?_
  have q := State.readPda_leads n (s.reg64 (pcfg n + 0x88)) 64 h
  split
  · rename_i hb t heq; rw [heq] at q
    refine State.leads_ite_snd q ?_
    have p := State.readEntries_leads n (s.reg64 (pcfg n + 0x88)) (bitsOf (w32At hb 4) 20 0) (bitsOf (w32At hb 0) 26 16) 0 q
    split
    · rename_i heq2; rw [heq2] at p; exact p
    · rename_i heq2; rw [heq2] at p; exact p
  · rename_i heq; rw [heq] at q; exact q

theorem checkTable_leads {F : StateField → Bool}  {r : State} (n own load) (p : Except Nat BeatTable × State) (h : State.Leads F r p.2) :
    State.Leads F r (checkTable n own load p).2 := by
  unfold checkTable
  split
  · exact h
  · split <;> exact h
@[simp] theorem State.checkedTable_leads {F : StateField → Bool} [May F .out] [May F .regs] [May F .bad] [May F .msix] [May F .floors] [May F .health] [May F .mp] {r : State} {s : State} (n own load) (h : State.Leads F r s) :
    State.Leads F r (State.checkedTable s n own load).2 := by
  unfold State.checkedTable
  exact checkTable_leads _ _ _ _ (State.readTable_leads n h)

@[simp] theorem State.opTakes_leads {F : StateField → Bool} [May F .parts] {r : State} {s : State} (n) (code) (vale) (err) (entry) (h : State.Leads F r s) :
    State.Leads F r (State.opTakes s n code vale err entry) := by
  unfold State.opTakes
  simp (maxDischargeDepth := 99) +contextual [h]

@[simp] theorem pcfgOp_leads {F : StateField → Bool} [May F .parts] {r : State} (n code vale f) {s : State} (h : State.Leads F r s)
    (hf : State.Leads F r (f s).2.2) : State.Leads F r (pcfgOp n code vale f s) := by
  unfold pcfgOp
  exact State.leads_ite h (State.opTakes_leads _ _ _ _ _ hf)

@[simp] theorem opEndDo_leads {F : StateField → Bool} [May F .out] [May F .regs] [May F .msix] [May F .parts] [May F .mp] {r : State} (n) {s : State} (h : State.Leads F r s) :
    State.Leads F r (opEndDo n s) := by
  unfold opEndDo
  split <;> simp (maxDischargeDepth := 99) +contextual [h]

@[simp] theorem State.clearRegs_leads {F : StateField → Bool} [May F .regs] {r : State} {s : State} (lo) (hi) (h : State.Leads F r s) :
    State.Leads F r (State.clearRegs s lo hi) := by
  unfold State.clearRegs
  simp (maxDischargeDepth := 99) +contextual [h]

@[simp] theorem State.assignVale_leads {F : StateField → Bool} [May F .mem] [May F .vales] {r : State} {s : State} (n) (g) (h : State.Leads F r s) :
    State.Leads F r (State.assignVale s n g) := by
  unfold State.assignVale
  simp (maxDischargeDepth := 99) +contextual [h]

@[simp] theorem State.freshRecords_leads {F : StateField → Bool} [May F .out] [May F .regs] [May F .mem] [May F .bad] [May F .msix] [May F .floors] [May F .health] [May F .mp] {r : State} {s : State} (n) (h : State.Leads F r s) :
    State.Leads F r (State.freshRecords s n) := by
  unfold State.freshRecords
  simp (maxDischargeDepth := 99) +contextual [h]

@[simp] theorem State.createPart_leads {F : StateField → Bool} [May F .out] [May F .regs] [May F .mem] [May F .bad] [May F .msix] [May F .vales] [May F .parts] [May F .floors] [May F .health] [May F .mp] {r : State} {s : State} (n) (gs) (t) (h : State.Leads F r s) :
    State.Leads F r (State.createPart s n gs t) := by
  unfold State.createPart
  simp (maxDischargeDepth := 99) +contextual [h]

@[simp] theorem createOp_leads {F : StateField → Bool} [May F .out] [May F .regs] [May F .mem] [May F .bad] [May F .msix] [May F .vales] [May F .parts] [May F .floors] [May F .health] [May F .mp] {r : State} (n) {s : State} (h : State.Leads F r s) :
    State.Leads F r (createOp n s).2.2 := by
  unfold createOp
  refine State.leads_ite_snd_snd h ?_
  have q := State.checkedTable_leads n.val (fun g => (maskVales s n.val).contains g) none h
  dsimp only
  split
  · rename_i heq; rw [heq] at q; exact q
  · rename_i heq; rw [heq] at q; exact State.createPart_leads _ _ _ q

@[simp] theorem State.beginDestroy_leads {F : StateField → Bool} [May F .free] [May F .out] [May F .regs] [May F .mem] [May F .bad] [May F .msix] [May F .vales] [May F .parts] [May F .slots] [May F .floors] [May F .echo] [May F .health] [May F .mp] {r : State} {s : State} (n) (h : State.Leads F r s) :
    State.Leads F r (State.beginDestroy s n) := by
  unfold State.beginDestroy
  simp (maxDischargeDepth := 99) +contextual [h]

@[simp] theorem destroyOp_leads {F : StateField → Bool} [May F .free] [May F .out] [May F .regs] [May F .mem] [May F .bad] [May F .msix] [May F .vales] [May F .parts] [May F .slots] [May F .floors] [May F .echo] [May F .health] [May F .mp] {r : State} (n) {s : State} (h : State.Leads F r s) :
    State.Leads F r (destroyOp n s).2.2 := by
  unfold destroyOp
  simp (maxDischargeDepth := 99) +contextual [h]

@[simp] theorem State.zeroVale_leads {F : StateField → Bool} [May F .mem] [May F .vales] {r : State} {s : State} (g) (h : State.Leads F r s) :
    State.Leads F r (State.zeroVale s g) := by
  unfold State.zeroVale
  simp (maxDischargeDepth := 99) +contextual [h]

@[simp] theorem State.loseTables_leads {F : StateField → Bool} [May F .parts] {r : State} {s : State} (g) (h : State.Leads F r s) :
    State.Leads F r (State.loseTables s g) := by
  unfold State.loseTables
  split <;> simp (maxDischargeDepth := 99) +contextual [h]

@[simp] theorem State.releaseVale_leads {F : StateField → Bool} [May F .mem] [May F .vales] {r : State} {s : State} (g) (h : State.Leads F r s) :
    State.Leads F r (State.releaseVale s g) := by
  unfold State.releaseVale
  simp (maxDischargeDepth := 99) +contextual [h]

@[simp] theorem destroyDrainedDo_leads {F : StateField → Bool} [May F .mem] [May F .vales] [May F .parts] {r : State} (n) {s : State} (h : State.Leads F r s) :
    State.Leads F r (destroyDrainedDo n s) := by
  unfold destroyDrainedDo
  simp (maxDischargeDepth := 99) +contextual [h]

@[simp] theorem addValeOp_leads {F : StateField → Bool} [May F .mem] [May F .vales] {r : State} (n) (g) {s : State} (h : State.Leads F r s) :
    State.Leads F r (addValeOp n g s).2.2 := by
  unfold addValeOp
  simp (maxDischargeDepth := 99) +contextual [h]

@[simp] theorem releaseValeOp_leads {F : StateField → Bool} [May F .mem] [May F .vales] [May F .parts] {r : State} (n) (g) {s : State} (h : State.Leads F r s) :
    State.Leads F r (releaseValeOp n g s).2.2 := by
  unfold releaseValeOp
  simp (maxDischargeDepth := 99) +contextual [h]

@[simp] theorem btLoadOp_leads {F : StateField → Bool} [May F .out] [May F .regs] [May F .bad] [May F .msix] [May F .parts] [May F .floors] [May F .health] [May F .mp] {r : State} (n) {s : State} (h : State.Leads F r s) :
    State.Leads F r (btLoadOp n s).2.2 := by
  unfold btLoadOp
  refine State.leads_ite_snd_snd h ?_
  have q := State.checkedTable_leads n.val (fun g => (s.owned n.val).contains g) (some s.beatNum) h
  split
  · rename_i heq; rw [heq] at q; exact q
  · rename_i heq; rw [heq] at q; exact State.leads_ite_snd_snd q (State.setPart_leads _ _ q)

@[simp] theorem anchorDo_leads {F : StateField → Bool} [May F .parts] {r : State} (n) {s : State} (h : State.Leads F r s) :
    State.Leads F r (anchorDo n s) := by
  unfold anchorDo
  simp (maxDischargeDepth := 99) +contextual [h]

@[simp] theorem State.recheckOne_leads {F : StateField → Bool} [May F .free] [May F .out] [May F .regs] [May F .mem] [May F .bad] [May F .msix] [May F .vales] [May F .parts] [May F .slots] [May F .floors] [May F .echo] [May F .health] [May F .mp] {r : State} {s : State} (haltAll) (k) (h : State.Leads F r s) :
    State.Leads F r (State.recheckOne s haltAll k) := by
  unfold State.recheckOne
  split <;> simp (maxDischargeDepth := 99) +contextual [h]

@[simp] theorem recheckDo_leads {F : StateField → Bool} [May F .free] [May F .out] [May F .regs] [May F .mem] [May F .bad] [May F .msix] [May F .vales] [May F .parts] [May F .slots] [May F .floors] [May F .echo] [May F .health] [May F .mp] {r : State} (n) {s : State} (h : State.Leads F r s) :
    State.Leads F r (recheckDo n s) := by
  unfold recheckDo
  simp (maxDischargeDepth := 99) +contextual [h]

theorem execPcfgOpEnd_leads {F : StateField → Bool} [May F .out] [May F .regs] [May F .msix] [May F .parts] [May F .mp] (n) {s : State} : State.LeadsOut F s (execPcfgOpEnd n s) := by
  simp (maxDischargeDepth := 99) [execPcfgOpEnd]

theorem execCreate_leads {F : StateField → Bool} [May F .out] [May F .regs] [May F .mem] [May F .bad] [May F .msix] [May F .vales] [May F .parts] [May F .floors] [May F .health] [May F .mp] (n) {s : State} : State.LeadsOut F s (execCreate n s) := by
  simp (maxDischargeDepth := 99) [execCreate]

theorem execDestroy_leads {F : StateField → Bool} [May F .free] [May F .out] [May F .regs] [May F .mem] [May F .bad] [May F .msix] [May F .vales] [May F .parts] [May F .slots] [May F .floors] [May F .echo] [May F .health] [May F .mp] (n) {s : State} : State.LeadsOut F s (execDestroy n s) := by
  simp (maxDischargeDepth := 99) [execDestroy]

theorem execDestroyDrained_leads {F : StateField → Bool} [May F .mem] [May F .vales] [May F .parts] (n) {s : State} : State.LeadsOut F s (execDestroyDrained n s) := by
  simp (maxDischargeDepth := 99) [execDestroyDrained]

theorem execAddVale_leads {F : StateField → Bool} [May F .out] [May F .mem] [May F .vales] [May F .parts] (n) (g) {s : State} : State.LeadsOut F s (execAddVale n g s) := by
  simp (maxDischargeDepth := 99) [execAddVale]

theorem execReleaseVale_leads {F : StateField → Bool} [May F .out] [May F .mem] [May F .vales] [May F .parts] (n) (g) {s : State} : State.LeadsOut F s (execReleaseVale n g s) := by
  simp (maxDischargeDepth := 99) [execReleaseVale]

theorem execBtLoad_leads {F : StateField → Bool} [May F .out] [May F .regs] [May F .bad] [May F .msix] [May F .parts] [May F .floors] [May F .health] [May F .mp] (n) {s : State} : State.LeadsOut F s (execBtLoad n s) := by
  simp (maxDischargeDepth := 99) [execBtLoad]

theorem execBeatTableAnchor_leads {F : StateField → Bool} [May F .parts] (n) {s : State} : State.LeadsOut F s (execBeatTableAnchor n s) := by
  simp (maxDischargeDepth := 99) [execBeatTableAnchor]

theorem execAdmissionRecheck_leads {F : StateField → Bool} [May F .free] [May F .out] [May F .regs] [May F .mem] [May F .bad] [May F .msix] [May F .vales] [May F .parts] [May F .slots] [May F .floors] [May F .echo] [May F .health] [May F .mp] (n) {s : State} : State.LeadsOut F s (execAdmissionRecheck n s) := by
  simp (maxDischargeDepth := 99) [execAdmissionRecheck]

/-! ### Moraine -/

@[simp] theorem State.queueEntry_leads {F : StateField → Bool} [May F .regs] [May F .mp] {r : State} {s : State} (e) (h : State.Leads F r s) :
    State.Leads F r (State.queueEntry s e) := by
  unfold State.queueEntry
  simp (maxDischargeDepth := 99) +contextual [h]

@[simp] theorem State.firstFault_leads {F : StateField → Bool} [May F .out] [May F .regs] [May F .msix] [May F .mp] {r : State} {s : State} (ev) (bs) (h : State.Leads F r s) :
    State.Leads F r (State.firstFault s ev bs) := by
  unfold State.firstFault
  simp (maxDischargeDepth := 99) +contextual [h]

@[simp] theorem State.recordDropped_leads {F : StateField → Bool} [May F .mp] {r : State} {s : State} (h : State.Leads F r s) :
    State.Leads F r (State.recordDropped s) := by
  unfold State.recordDropped
  simp (maxDischargeDepth := 99) +contextual [h]

@[simp] theorem moraineWriteDo_leads {F : StateField → Bool} [May F .out] [May F .regs] [May F .msix] [May F .mp] {r : State} {s : State} (h : State.Leads F r s) :
    State.Leads F r (moraineWriteDo s) := by
  unfold moraineWriteDo
  split <;> simp (maxDischargeDepth := 99) +contextual [h]

@[simp] theorem intervalEndDo_leads {F : StateField → Bool} [May F .regs] [May F .mp] {r : State} {s : State} (h : State.Leads F r s) :
    State.Leads F r (intervalEndDo s) := by
  unfold intervalEndDo
  simp (maxDischargeDepth := 99) +contextual [h]

@[simp] theorem State.putData_leads {F : StateField → Bool} [May F .regs] {r : State} {s : State} (o) (ws) (h : State.Leads F r s) :
    State.Leads F r (State.putData s o ws) := by
  unfold State.putData
  simp (maxDischargeDepth := 99) +contextual [h]

@[simp] theorem morIdxDo_leads {F : StateField → Bool} [May F .out] [May F .regs] [May F .msix] {r : State} (v) {s : State} (h : State.Leads F r s) :
    State.Leads F r (morIdxDo v s) := by
  unfold morIdxDo
  simp (maxDischargeDepth := 99) +contextual [h]

@[simp] theorem State.writeSetting_leads {F : StateField → Bool} [May F .mp] {r : State} {s : State} (k) (v) (h : State.Leads F r s) :
    State.Leads F r (State.writeSetting s k v) := by
  unfold State.writeSetting
  simp (maxDischargeDepth := 99) +contextual [h]

@[simp] theorem State.activateSlot_leads {F : StateField → Bool} [May F .free] [May F .mp] {r : State} {s : State} (slot) (torn) (h : State.Leads F r s) :
    State.Leads F r (State.activateSlot s slot torn) := by
  unfold State.activateSlot
  simp (maxDischargeDepth := 99) +contextual [h]

@[simp] theorem State.mbEnd_leads {F : StateField → Bool} [May F .out] [May F .regs] [May F .msix] {r : State} {s : State} (result) (ws) (h : State.Leads F r s) :
    State.Leads F r (State.mbEnd s result ws) := by
  unfold State.mbEnd
  simp (maxDischargeDepth := 99) +contextual [h]

@[simp] theorem censusReadDo_leads {F : StateField → Bool} [May F .out] [May F .regs] [May F .msix] {r : State} {s : State} (h : State.Leads F r s) :
    State.Leads F r (censusReadDo s) := by
  unfold censusReadDo
  simp (maxDischargeDepth := 99) +contextual [h]

@[simp] theorem activateSlotDo_leads {F : StateField → Bool} [May F .free] [May F .out] [May F .regs] [May F .msix] [May F .mp] {r : State} (torn) {s : State} (h : State.Leads F r s) :
    State.Leads F r (activateSlotDo torn s) := by
  unfold activateSlotDo
  simp (maxDischargeDepth := 99) +contextual [h]

@[simp] theorem ffClearDo_leads {F : StateField → Bool} [May F .out] [May F .regs] [May F .msix] [May F .mp] {r : State} {s : State} (h : State.Leads F r s) :
    State.Leads F r (ffClearDo s) := by
  unfold ffClearDo
  simp (maxDischargeDepth := 99) +contextual [h]

@[simp] theorem settingReadDo_leads {F : StateField → Bool} [May F .out] [May F .regs] [May F .msix] {r : State} {s : State} (h : State.Leads F r s) :
    State.Leads F r (settingReadDo s) := by
  unfold settingReadDo
  simp (maxDischargeDepth := 99) +contextual [h]

@[simp] theorem settingWriteDo_leads {F : StateField → Bool} [May F .out] [May F .regs] [May F .msix] [May F .mp] {r : State} {s : State} (h : State.Leads F r s) :
    State.Leads F r (settingWriteDo s) := by
  unfold settingWriteDo
  simp (maxDischargeDepth := 99) +contextual [h]

@[simp] theorem mbDo_leads {F : StateField → Bool}  {r : State} (f) {s : State} (h : State.Leads F r s) (hf : ∀ t, State.Leads F r t → State.Leads F r (f t)) :
    State.Leads F r (mbDo f s) := by
  unfold mbDo
  simp (maxDischargeDepth := 99) +contextual [h, hf]

@[simp] theorem mbCmdDo_leads {F : StateField → Bool} [May F .free] [May F .out] [May F .regs] [May F .msix] [May F .mp] {r : State} (op) {s : State} (h : State.Leads F r s) :
    State.Leads F r (mbCmdDo op s) := by
  unfold mbCmdDo
  simp (maxDischargeDepth := 99) +contextual [h]

@[simp] theorem State.resetVdm_leads {F : StateField → Bool} [May F .mp] {r : State} {s : State} (h : State.Leads F r s) :
    State.Leads F r (State.resetVdm s) := by
  unfold State.resetVdm
  simp (maxDischargeDepth := 99) +contextual [h]

@[simp] theorem State.endTransfer_leads {F : StateField → Bool} [May F .mp] {r : State} {s : State} (h : State.Leads F r s) :
    State.Leads F r (State.endTransfer s) := by
  unfold State.endTransfer
  simp (maxDischargeDepth := 99) +contextual [h]

theorem execMoraineWrite_leads {F : StateField → Bool} [May F .out] [May F .regs] [May F .msix] [May F .mp] {s : State} : State.LeadsOut F s (execMoraineWrite s) := by
  simp (maxDischargeDepth := 99) [execMoraineWrite]

theorem execMoraineIntervalEnd_leads {F : StateField → Bool} [May F .regs] [May F .mp] {s : State} : State.LeadsOut F s (execMoraineIntervalEnd s) := by
  simp (maxDischargeDepth := 99) [execMoraineIntervalEnd]

theorem execMorIdxWrite_leads {F : StateField → Bool} [May F .out] [May F .regs] [May F .msix] (v) {s : State} : State.LeadsOut F s (execMorIdxWrite v s) := by
  simp (maxDischargeDepth := 99) [execMorIdxWrite]

theorem execCensusRead_leads {F : StateField → Bool} [May F .out] [May F .regs] [May F .msix] {s : State} : State.LeadsOut F s (execCensusRead s) := by
  unfold execCensusRead
  simp (maxDischargeDepth := 99) +contextual

theorem execActivateSlot_leads {F : StateField → Bool} [May F .free] [May F .out] [May F .regs] [May F .msix] [May F .mp] (torn) {s : State} : State.LeadsOut F s (execActivateSlot torn s) := by
  unfold execActivateSlot
  simp (maxDischargeDepth := 99) +contextual

theorem execFfClear_leads {F : StateField → Bool} [May F .out] [May F .regs] [May F .msix] [May F .mp] {s : State} : State.LeadsOut F s (execFfClear s) := by
  unfold execFfClear
  simp (maxDischargeDepth := 99) +contextual

theorem execSettingRead_leads {F : StateField → Bool} [May F .out] [May F .regs] [May F .msix] {s : State} : State.LeadsOut F s (execSettingRead s) := by
  simp (maxDischargeDepth := 99) [execSettingRead]

theorem execSettingWrite_leads {F : StateField → Bool} [May F .out] [May F .regs] [May F .msix] [May F .mp] {s : State} : State.LeadsOut F s (execSettingWrite s) := by
  simp (maxDischargeDepth := 99) [execSettingWrite]

end Sys2Proof.Machine
end

