-- ==== Sys2Proof/Laws/LeadsLinks.lean ====
section
/-! SUPPORT. LeadsLinks: one lemma for each operation of links, tests, serving, turns, laps, closes, residency and learning: where it leads (Laws/Leads.lean). -/

namespace Sys2Proof.Machine

/-! ### Links -/

@[simp] theorem State.sendFlit_leads {F : StateField → Bool} [May F .out] [May F .links] {r : State} {s : State} (k) (f) (seq) (h : State.Leads F r s) :
    State.Leads F r (State.sendFlit s k f seq) := by
  unfold State.sendFlit
  simp (maxDischargeDepth := 99) +contextual [h]

@[simp] theorem State.voidUsers_leads {F : StateField → Bool} [May F .slots] {r : State} {s : State} (k) (h : State.Leads F r s) :
    State.Leads F r (State.voidUsers s k) := by
  unfold State.voidUsers
  simp (maxDischargeDepth := 99) +contextual [h]

@[simp] theorem State.linkReport_leads {F : StateField → Bool} [May F .out] [May F .regs] [May F .msix] [May F .mp] {r : State} {s : State} (k) (bits) (h : State.Leads F r s) :
    State.Leads F r (State.linkReport s k bits) := by
  unfold State.linkReport
  simp (maxDischargeDepth := 99) +contextual [h]

@[simp] theorem State.enterLink_leads {F : StateField → Bool} [May F .links] {r : State} {s : State} (k) (st) (kind) (h : State.Leads F r s) :
    State.Leads F r (State.enterLink s k st kind) := by
  unfold State.enterLink
  simp (maxDischargeDepth := 99) +contextual [h]

@[simp] theorem State.linkRecovery_leads {F : StateField → Bool} [May F .out] [May F .regs] [May F .msix] [May F .slots] [May F .links] [May F .health] [May F .mp] {r : State} {s : State} (k) (h : State.Leads F r s) :
    State.Leads F r (State.linkRecovery s k) := by
  unfold State.linkRecovery
  simp (maxDischargeDepth := 99) +contextual [h]

@[simp] theorem State.linkFail_leads {F : StateField → Bool} [May F .out] [May F .regs] [May F .msix] [May F .slots] [May F .links] [May F .health] [May F .mp] {r : State} {s : State} (k) (h : State.Leads F r s) :
    State.Leads F r (State.linkFail s k) := by
  unfold State.linkFail
  simp (maxDischargeDepth := 99) +contextual [h]

@[simp] theorem State.linkTrain_leads {F : StateField → Bool} [May F .free] [May F .links] {r : State} {s : State} (k) (h : State.Leads F r s) :
    State.Leads F r (State.linkTrain s k) := by
  unfold State.linkTrain
  simp (maxDischargeDepth := 99) +contextual [h]

@[simp] theorem linkEnDo_leads {F : StateField → Bool} [May F .free] [May F .out] [May F .regs] [May F .msix] [May F .slots] [May F .links] [May F .mp] {r : State} (k) (en) {s : State} (h : State.Leads F r s) :
    State.Leads F r (linkEnDo k en s) := by
  unfold linkEnDo
  simp (maxDischargeDepth := 99) +contextual [h]

@[simp] theorem State.countReplays_leads {F : StateField → Bool} [May F .slots] {r : State} {s : State} (k) (h : State.Leads F r s) :
    State.Leads F r (State.countReplays s k) := by
  unfold State.countReplays
  simp (maxDischargeDepth := 99) +contextual [h]

@[simp] theorem State.startReplay_leads {F : StateField → Bool} [May F .out] [May F .regs] [May F .msix] [May F .slots] [May F .links] [May F .health] [May F .mp] {r : State} {s : State} (k) (h : State.Leads F r s) :
    State.Leads F r (State.startReplay s k) := by
  unfold State.startReplay
  split <;> simp (maxDischargeDepth := 99) +contextual [h]

@[simp] theorem State.takeNak_leads {F : StateField → Bool} [May F .out] [May F .regs] [May F .msix] [May F .slots] [May F .links] [May F .health] [May F .mp] {r : State} {s : State} (k) (a) (h : State.Leads F r s) :
    State.Leads F r (State.takeNak s k a) := by
  unfold State.takeNak
  split <;> simp (maxDischargeDepth := 99) +contextual [h]

@[simp] theorem State.acceptFlit_leads {F : StateField → Bool} [May F .regs] [May F .links] {r : State} {s : State} (k) (x2) (bs) (h : State.Leads F r s) :
    State.Leads F r (State.acceptFlit s k x2 bs) := by
  unfold State.acceptFlit
  simp (maxDischargeDepth := 99) +contextual [h]

@[simp] theorem flitReceiveDo_leads {F : StateField → Bool} [May F .out] [May F .regs] [May F .msix] [May F .slots] [May F .links] [May F .health] [May F .mp] {r : State} (k) (bs) {s : State} (h : State.Leads F r s) :
    State.Leads F r (flitReceiveDo k bs s) := by
  unfold flitReceiveDo
  simp (maxDischargeDepth := 99) +contextual [h]

@[simp] theorem State.readFlit_leads {F : StateField → Bool} [May F .links] {r : State} {s : State} (k) (type) (vc) (h : State.Leads F r s) :
    State.Leads F r (State.readFlit s k type vc).2 := by
  unfold State.readFlit
  split <;> simp (maxDischargeDepth := 99) +contextual [h]

@[simp] theorem State.linkNext_leads {F : StateField → Bool} [May F .links] {r : State} {s : State} (k) (st) (h : State.Leads F r s) :
    State.Leads F r (State.linkNext s k st) := by
  unfold State.linkNext
  simp (maxDischargeDepth := 99) +contextual [h]

@[simp] theorem trainMessageDo_leads {F : StateField → Bool} [May F .free] [May F .out] [May F .links] {r : State} (k) (m) {s : State} (h : State.Leads F r s) :
    State.Leads F r (trainMessageDo k m s) := by
  unfold trainMessageDo
  split <;> simp (maxDischargeDepth := 99) +contextual [h]

@[simp] theorem exchangeDo_leads {F : StateField → Bool} [May F .out] [May F .regs] [May F .msix] [May F .slots] [May F .links] {r : State} (k) (m) {s : State} (h : State.Leads F r s) :
    State.Leads F r (exchangeDo k m s) := by
  unfold exchangeDo
  simp (maxDischargeDepth := 99) +contextual [h]

@[simp] theorem State.queueBeat_leads {F : StateField → Bool} [May F .links] {r : State} {s : State} (k) (h : State.Leads F r s) :
    State.Leads F r (State.queueBeat s k) := by
  unfold State.queueBeat
  simp (maxDischargeDepth := 99) +contextual [h]

@[simp] theorem beatSendDo_leads {F : StateField → Bool} [May F .links] {r : State} (k) {s : State} (h : State.Leads F r s) :
    State.Leads F r (beatSendDo k s) := by
  unfold beatSendDo
  simp (maxDischargeDepth := 99) +contextual [h]

@[simp] theorem State.sendCensus_leads {F : StateField → Bool} [May F .free] [May F .out] [May F .links] {r : State} {s : State} (k) (m) (h : State.Leads F r s) :
    State.Leads F r (State.sendCensus s k m) := by
  unfold State.sendCensus
  simp (maxDischargeDepth := 99) +contextual [h]

@[simp] theorem State.sendReady_leads {F : StateField → Bool} [May F .free] [May F .out] [May F .links] [May F .census] {r : State} {s : State} (h : State.Leads F r s) :
    State.Leads F r (State.sendReady s) := by
  unfold State.sendReady
  split <;> simp (maxDischargeDepth := 99) +contextual [h]

@[simp] theorem State.takeBeat_leads {F : StateField → Bool} [May F .free] [May F .out] [May F .regs] [May F .beat] [May F .links] [May F .census] {r : State} {s : State} (v) (h : State.Leads F r s) :
    State.Leads F r (State.takeBeat s v) := by
  unfold State.takeBeat
  simp (maxDischargeDepth := 99) +contextual [h]

@[simp] theorem State.compareBeat_leads {F : StateField → Bool} [May F .out] [May F .regs] [May F .msix] [May F .links] [May F .mp] {r : State} {s : State} (k) (v) (h : State.Leads F r s) :
    State.Leads F r (State.compareBeat s k v) := by
  unfold State.compareBeat
  simp (maxDischargeDepth := 99) +contextual [h]

@[simp] theorem State.useBeat_leads {F : StateField → Bool} [May F .free] [May F .out] [May F .regs] [May F .beat] [May F .msix] [May F .links] [May F .census] [May F .mp] {r : State} {s : State} (k) (f) (h : State.Leads F r s) :
    State.Leads F r (State.useBeat s k f) := by
  unfold State.useBeat
  have q := fun g => State.modLink_leads k g h
  dsimp only
  refine State.leads_ite (State.leads_ite (State.takeBeat_leads _ (q _)) (State.leads_ite (State.takeBeat_leads _ (q _))
    (State.leads_ite (State.compareBeat_leads _ _ (q _)) (q _)))) ?_
  exact State.leads_ite (State.sendReady_leads (State.setRegF_leads _ _ _ _ (q _))) (q _)

theorem execLinkEnWrite_leads {F : StateField → Bool} [May F .free] [May F .out] [May F .regs] [May F .msix] [May F .slots] [May F .links] [May F .mp] (k) (en) {s : State} : State.LeadsOut F s (execLinkEnWrite k en s) := by
  simp (maxDischargeDepth := 99) [execLinkEnWrite]

theorem execReplayTimeout_leads {F : StateField → Bool} [May F .out] [May F .regs] [May F .msix] [May F .slots] [May F .links] [May F .health] [May F .mp] (k) {s : State} : State.LeadsOut F s (execReplayTimeout k s) := by
  simp (maxDischargeDepth := 99) [execReplayTimeout]

theorem execFlitReceive_leads {F : StateField → Bool} [May F .out] [May F .regs] [May F .msix] [May F .slots] [May F .links] [May F .health] [May F .mp] (k) (flit) {s : State} : State.LeadsOut F s (execFlitReceive k flit s) := by
  simp (maxDischargeDepth := 99) [execFlitReceive]

theorem execMgmtMessage_leads {F : StateField → Bool} [May F .links] (k) {s : State} : State.LeadsOut F s (execMgmtMessage k s) := by
  simp (maxDischargeDepth := 99) [execMgmtMessage]

theorem execLinkSignalDetect_leads {F : StateField → Bool} [May F .links] (k) {s : State} : State.LeadsOut F s (execLinkSignalDetect k s) := by
  simp (maxDischargeDepth := 99) [execLinkSignalDetect]

theorem execLinkEqualised_leads {F : StateField → Bool} [May F .links] (k) {s : State} : State.LeadsOut F s (execLinkEqualised k s) := by
  simp (maxDischargeDepth := 99) [execLinkEqualised]

theorem execCodewordLock_leads {F : StateField → Bool} [May F .links] (k) {s : State} : State.LeadsOut F s (execCodewordLock k s) := by
  simp (maxDischargeDepth := 99) [execCodewordLock]

theorem execTrainMessage_leads {F : StateField → Bool} [May F .free] [May F .out] [May F .links] (k) (m) {s : State} : State.LeadsOut F s (execTrainMessage k m s) := by
  simp (maxDischargeDepth := 99) [execTrainMessage]

theorem execLinkMeasured_leads {F : StateField → Bool} [May F .links] (k) {s : State} : State.LeadsOut F s (execLinkMeasured k s) := by
  simp (maxDischargeDepth := 99) [execLinkMeasured]

theorem execLinkExchangeDone_leads {F : StateField → Bool} [May F .out] [May F .regs] [May F .msix] [May F .slots] [May F .links] (k) (m) {s : State} : State.LeadsOut F s (execLinkExchangeDone k m s) := by
  simp (maxDischargeDepth := 99) [execLinkExchangeDone]

theorem execLinkTrainTimeout_leads {F : StateField → Bool} [May F .out] [May F .regs] [May F .msix] [May F .slots] [May F .links] [May F .health] [May F .mp] (k) {s : State} : State.LeadsOut F s (execLinkTrainTimeout k s) := by
  simp (maxDischargeDepth := 99) [execLinkTrainTimeout]

theorem execBeatMessageSend_leads {F : StateField → Bool} [May F .links] (k) {s : State} : State.LeadsOut F s (execBeatMessageSend k s) := by
  simp (maxDischargeDepth := 99) [execBeatMessageSend]

theorem execBeatMessage_leads {F : StateField → Bool} [May F .free] [May F .out] [May F .regs] [May F .beat] [May F .msix] [May F .links] [May F .census] [May F .mp] (k) {s : State} : State.LeadsOut F s (execBeatMessage k s) := by
  unfold execBeatMessage
  refine State.leadsOut_act ?_
  have q := State.readFlit_leads k.val 3 16 (State.Leads.refl F s)
  split
  · rename_i heq; rw [heq] at q; exact State.useBeat_leads _ _ q
  · rename_i heq; rw [heq] at q; exact q

/-! ### Laps -/

@[simp] theorem State.modColl_leads {F : StateField → Bool} [May F .slots] {r : State} {s : State} (k) (f) (h : State.Leads F r s) :
    State.Leads F r (State.modColl s k f) := by
  unfold State.modColl
  simp (maxDischargeDepth := 99) +contextual [h]

@[simp] theorem State.collRaise_leads {F : StateField → Bool} [May F .out] [May F .regs] [May F .mem] [May F .bad] [May F .msix] [May F .slots] [May F .floors] [May F .health] [May F .mp] {r : State} {s : State} (k) (rs) (h : State.Leads F r s) :
    State.Leads F r (State.collRaise s k rs) := by
  unfold State.collRaise
  split <;> simp (maxDischargeDepth := 99) +contextual [h]

@[simp] theorem State.outPiece_leads {F : StateField → Bool} [May F .mem] {r : State} {s : State} (c) (x2) (j) (e) (bs) (h : State.Leads F r s) :
    State.Leads F r (State.outPiece s c x2 j e bs) := by
  unfold State.outPiece
  simp (maxDischargeDepth := 99) +contextual [h]

@[simp] theorem State.sendRing_leads {F : StateField → Bool} [May F .links] {r : State} {s : State} (k) (c) (att) (x4) (j) (lap) (bs) (ends) (h : State.Leads F r s) :
    State.Leads F r (State.sendRing s k c att x4 j lap bs ends) := by
  unfold State.sendRing
  simp (maxDischargeDepth := 99) +contextual [h]

@[simp] theorem State.narrowOut_leads {F : StateField → Bool} [May F .out] [May F .regs] [May F .mem] [May F .bad] [May F .msix] [May F .slots] [May F .floors] [May F .health] [May F .mp] {r : State} {s : State} (k) (c) (x3) (j) (e) (ws) (h : State.Leads F r s) :
    State.Leads F r (State.narrowOut s k c x3 j e ws) := by
  unfold State.narrowOut
  simp (maxDischargeDepth := 99) +contextual [h]

@[simp] theorem State.modRail_leads {F : StateField → Bool} [May F .slots] {r : State} {s : State} (k) (x2) (f) (h : State.Leads F r s) :
    State.Leads F r (State.modRail s k x2 f) := by
  unfold State.modRail
  simp (maxDischargeDepth := 99) +contextual [h]

@[simp] theorem State.gatherBegin_leads {F : StateField → Bool} [May F .slots] [May F .links] {r : State} {s : State} (k) (c) (att) (x4) (h : State.Leads F r s) :
    State.Leads F r (State.gatherBegin s k c att x4) := by
  unfold State.gatherBegin
  simp (maxDischargeDepth := 99) +contextual [h]

@[simp] theorem State.railBegin_leads {F : StateField → Bool} [May F .out] [May F .regs] [May F .mem] [May F .bad] [May F .msix] [May F .slots] [May F .links] [May F .floors] [May F .health] [May F .mp] {r : State} {s : State} (k) (c) (att) (x4) (h : State.Leads F r s) :
    State.Leads F r (State.railBegin s k c att x4) := by
  unfold State.railBegin
  simp (maxDischargeDepth := 99) +contextual [h]

@[simp] theorem State.railGo_leads {F : StateField → Bool} [May F .out] [May F .regs] [May F .mem] [May F .bad] [May F .msix] [May F .slots] [May F .links] [May F .floors] [May F .health] [May F .mp] {r : State} (f k x) {s : State} (h : State.Leads F r s) :
    State.Leads F r (State.railGo f k x s) := by
  induction f generalizing s with
  | zero => exact h
  | succ f ih =>
    unfold State.railGo
    split
    · exact h
    · split
      · exact h
      · dsimp only
        exact State.leads_ite h (State.leads_ite (ih (State.railBegin_leads _ _ _ _ h))
          (State.leads_ite (State.leads_ite (ih (State.gatherBegin_leads _ _ _ _ h)) (State.modRail_leads _ _ _ h))
            (by simp (maxDischargeDepth := 99) [h, ih])))

@[simp] theorem State.railRun_leads {F : StateField → Bool} [May F .out] [May F .regs] [May F .mem] [May F .bad] [May F .msix] [May F .slots] [May F .links] [May F .floors] [May F .health] [May F .mp] {r : State} {s : State} (k) (x2) (h : State.Leads F r s) :
    State.Leads F r (State.railRun s k x2) := by
  unfold State.railRun
  split <;> simp (maxDischargeDepth := 99) +contextual [h]

@[simp] theorem collectStartDo_leads {F : StateField → Bool} [May F .regs] [May F .mem] [May F .slots] {r : State} (k) {s : State} (h : State.Leads F r s) :
    State.Leads F r (collectStartDo k s) := by
  unfold collectStartDo
  (repeat' split) <;> simp (maxDischargeDepth := 99) +contextual [h]

@[simp] theorem lapStartDo_leads {F : StateField → Bool} [May F .out] [May F .regs] [May F .mem] [May F .bad] [May F .msix] [May F .slots] [May F .links] [May F .floors] [May F .health] [May F .mp] {r : State} (k) {s : State} (h : State.Leads F r s) :
    State.Leads F r (lapStartDo k s) := by
  unfold lapStartDo
  split <;> simp (maxDischargeDepth := 99) +contextual [h]

@[simp] theorem State.dropFlit_leads {F : StateField → Bool} [May F .links] {r : State} {s : State} (k) (f) (h : State.Leads F r s) :
    State.Leads F r (State.dropFlit s k f) := by
  unfold State.dropFlit
  simp (maxDischargeDepth := 99) +contextual [h]

@[simp] theorem State.ringData_leads {F : StateField → Bool} [May F .out] [May F .regs] [May F .mem] [May F .bad] [May F .msix] [May F .slots] [May F .links] [May F .floors] [May F .health] [May F .mp] {r : State} {s : State} (k) (c) (x) (x4) (t) (f) (h : State.Leads F r s) :
    State.Leads F r (State.ringData s k c x x4 t f) := by
  unfold State.ringData
  simp (maxDischargeDepth := 99) +contextual [h]

@[simp] theorem State.ringAccept_leads {F : StateField → Bool} [May F .out] [May F .regs] [May F .mem] [May F .bad] [May F .msix] [May F .slots] [May F .links] [May F .floors] [May F .health] [May F .mp] {r : State} {s : State} (k) (c) (x) (x4) (f) (h : State.Leads F r s) :
    State.Leads F r (State.ringAccept s k c x x4 f) := by
  unfold State.ringAccept
  simp (maxDischargeDepth := 99) +contextual [h]

@[simp] theorem State.collWithdraw_leads {F : StateField → Bool} [May F .links] {r : State} {s : State} (k) (c) (h : State.Leads F r s) :
    State.Leads F r (State.collWithdraw s k c) := by
  unfold State.collWithdraw
  simp (maxDischargeDepth := 99) +contextual [h]

@[simp] theorem State.collArrive_leads {F : StateField → Bool} [May F .regs] [May F .parts] [May F .slots] {r : State} {s : State} (k) (h : State.Leads F r s) :
    State.Leads F r (State.collArrive s k) := by
  unfold State.collArrive
  split <;> simp (maxDischargeDepth := 99) +contextual [h]

@[simp] theorem State.collSpoil_leads {F : StateField → Bool} [May F .regs] [May F .parts] [May F .slots] [May F .links] {r : State} {s : State} (k) (h : State.Leads F r s) :
    State.Leads F r (State.collSpoil s k) := by
  unfold State.collSpoil
  split <;> simp (maxDischargeDepth := 99) +contextual [h]

@[simp] theorem State.ringError_leads {F : StateField → Bool} [May F .regs] [May F .parts] [May F .slots] [May F .links] {r : State} {s : State} (lk f k c) (h : State.Leads F r s) :
    State.Leads F r (State.ringError s lk f k c).2 :=
  State.collSpoil_leads _ (State.count_leads _ _ _ (State.dropFlit_leads _ _ h))
@[simp] theorem State.ringTake_leads {F : StateField → Bool} [May F .out] [May F .regs] [May F .mem] [May F .bad] [May F .msix] [May F .parts] [May F .slots] [May F .links] [May F .floors] [May F .health] [May F .mp] {r : State} (fuel lk n x) {s : State} (h : State.Leads F r s) :
    State.Leads F r (State.ringTake fuel lk n x s).2 := by
  induction fuel generalizing s with
  | zero => exact h
  | succ fuel ih =>
    unfold State.ringTake
    split
    · refine State.leads_ite_snd h ?_
      split
      · exact h
      · exact State.count_leads _ _ _ (State.dropFlit_leads _ _ h)
      · exact State.ringError_leads _ _ _ _ h
      · have q := fun f k c x b f2 => State.ringAccept_leads k c x b f2 (State.dropFlit_leads lk f h)
        exact State.leads_ite_snd (State.ringError_leads _ _ _ _ h) (State.leads_ite_snd
          (State.collSpoil_leads _ (State.dropFlit_leads _ _ h)) (State.leads_ite_snd (q _ _ _ _ _ _) (ih (q _ _ _ _ _ _))))
    · exact h
@[simp] theorem ringPieceTake_leads {F : StateField → Bool} [May F .out] [May F .regs] [May F .mem] [May F .bad] [May F .msix] [May F .parts] [May F .slots] [May F .links] [May F .floors] [May F .health] [May F .mp] {r : State} (lk n x) {s : State} (h : State.Leads F r s) :
    State.Leads F r (ringPieceTake lk n x s).2 := by
  unfold ringPieceTake
  split
  · exact h
  · split
    · exact State.collSpoil_leads _ (State.modCmd_leads _ _ (State.dropFlit_leads _ _ h))
    · exact State.ringTake_leads _ _ _ _ h

theorem execCollectStageStart_leads {F : StateField → Bool} [May F .regs] [May F .mem] [May F .slots] (k) {s : State} : State.LeadsOut F s (execCollectStageStart k s) := by
  simp (maxDischargeDepth := 99) [execCollectStageStart]

theorem execLapStart_leads {F : StateField → Bool} [May F .out] [May F .regs] [May F .mem] [May F .bad] [May F .msix] [May F .slots] [May F .links] [May F .floors] [May F .health] [May F .mp] (k) {s : State} : State.LeadsOut F s (execLapStart k s) := by
  simp (maxDischargeDepth := 99) [execLapStart]

/-! ### Turns -/

@[simp] theorem State.readBlock_leads {F : StateField → Bool} [May F .out] [May F .regs] [May F .bad] [May F .msix] [May F .floors] [May F .health] [May F .mp] {r : State} {s : State} (n) (p) (len) (h : State.Leads F r s) :
    State.Leads F r (State.readBlock s n p len).2 := by
  unfold State.readBlock
  (repeat' (split <;> (try first | (rename_i heq; have e := congrArg Prod.snd heq; dsimp only at e; subst e) | (rename_i heq _; have e := congrArg Prod.snd heq; dsimp only at e; subst e) | (rename_i heq _ _; have e := congrArg Prod.snd heq; dsimp only at e; subst e)))) <;> simp (maxDischargeDepth := 99) +contextual [h]

@[simp] theorem State.coverBlocks_leads {F : StateField → Bool} [May F .out] [May F .regs] [May F .bad] [May F .msix] [May F .floors] [May F .health] [May F .mp] {r : State} {s : State} (j i x3) (h : State.Leads F r s) :
    State.Leads F r (State.coverBlocks s j i x3).2 := by
  unfold State.coverBlocks
  refine State.leads_foldl_snd h ?_
  intro t a ht
  split
  · exact ht
  · have q := State.readBlock_leads j.part.val (blkPlace j.srcBase (j.se i) a.1 a.2) (tBytes (j.se i)) ht
    split
    · rename_i heq; rw [heq] at q; exact q
    · rename_i heq; rw [heq] at q; exact q

@[simp] theorem State.foldFor_leads {F : StateField → Bool} [May F .out] [May F .regs] [May F .mem] [May F .bad] [May F .msix] [May F .floors] [May F .health] [May F .mp] {r : State} {s : State} (n) (tag) (xs) (h : State.Leads F r s) :
    State.Leads F r (State.foldFor s n tag xs) := by
  unfold State.foldFor
  dsimp only
  (repeat' (split <;> (try first | (rename_i heq; have e := congrArg Prod.snd heq; dsimp only at e; subst e) | (rename_i heq _; have e := congrArg Prod.snd heq; dsimp only at e; subst e) | (rename_i heq _ _; have e := congrArg Prod.snd heq; dsimp only at e; subst e)))) <;> simp (maxDischargeDepth := 99) +contextual [h]

@[simp] theorem State.shapeBlock_leads {F : StateField → Bool} [May F .out] [May F .regs] [May F .mem] [May F .bad] [May F .msix] [May F .floors] [May F .health] [May F .mp] {r : State} {s : State} (j) (die) (i) (x4) (src) (h : State.Leads F r s) :
    State.Leads F r (State.shapeBlock s j die i x4 src).2 := by
  unfold State.shapeBlock
  simp (maxDischargeDepth := 99) +contextual [h]

@[simp] theorem State.makeBlock_leads {F : StateField → Bool} [May F .out] [May F .regs] [May F .mem] [May F .bad] [May F .msix] [May F .floors] [May F .health] [May F .mp] {r : State} {s : State} (j) (die) (i) (x4) (h : State.Leads F r s) :
    State.Leads F r (State.makeBlock s j die i x4).2 := by
  unfold State.makeBlock
  (repeat' (split <;> (try first | (rename_i heq; have e := congrArg Prod.snd heq; dsimp only at e; subst e) | (rename_i heq _; have e := congrArg Prod.snd heq; dsimp only at e; subst e) | (rename_i heq _ _; have e := congrArg Prod.snd heq; dsimp only at e; subst e)))) <;> simp (maxDischargeDepth := 99) +contextual [h]

@[simp] theorem turnDo_leads {F : StateField → Bool} [May F .free] [May F .out] [May F .regs] [May F .mem] [May F .bad] [May F .msix] [May F .parts] [May F .slots] [May F .floors] [May F .health] [May F .mp] {r : State} (n) {s : State} (h : State.Leads F r s) :
    State.Leads F r (turnDo n s) := by
  unfold turnDo
  simp (maxDischargeDepth := 99) +contextual [h]

@[simp] theorem State.readLayout_leads {F : StateField → Bool} [May F .out] [May F .regs] [May F .bad] [May F .msix] [May F .floors] [May F .health] [May F .mp] {r : State} {s : State} (n) (a) (h : State.Leads F r s) :
    State.Leads F r (State.readLayout s n a).2 := by
  unfold State.readLayout
  (repeat' (split <;> (try first | (rename_i heq; have e := congrArg Prod.snd heq; dsimp only at e; subst e) | (rename_i heq _; have e := congrArg Prod.snd heq; dsimp only at e; subst e) | (rename_i heq _ _; have e := congrArg Prod.snd heq; dsimp only at e; subst e)))) <;> simp (maxDischargeDepth := 99) +contextual [h]

@[simp] theorem State.readTurn_leads {F : StateField → Bool} [May F .out] [May F .regs] [May F .bad] [May F .msix] [May F .floors] [May F .health] [May F .mp] {r : State} {s : State} (n) (a) (o) (h : State.Leads F r s) :
    State.Leads F r (State.readTurn s n a o).2 := by
  unfold State.readTurn
  dsimp only
  (repeat' (split <;> (try first | (rename_i heq; have e := congrArg Prod.snd heq; dsimp only at e; subst e) | (rename_i heq _; have e := congrArg Prod.snd heq; dsimp only at e; subst e) | (rename_i heq _ _; have e := congrArg Prod.snd heq; dsimp only at e; subst e)))) <;> simp (maxDischargeDepth := 99) +contextual [h]

@[simp] theorem State.dropHistory_leads {F : StateField → Bool} [May F .out] [May F .regs] [May F .mem] [May F .bad] [May F .msix] [May F .floors] [May F .health] [May F .mp] {r : State} {s : State} (n) (tag) (h : State.Leads F r s) :
    State.Leads F r (State.dropHistory s n tag) := by
  unfold State.dropHistory
  simp (maxDischargeDepth := 99) +contextual [h]

@[simp] theorem State.turnLeaves_leads {F : StateField → Bool} [May F .regs] [May F .parts] {r : State} {s : State} (n) (h : State.Leads F r s) :
    State.Leads F r (State.turnLeaves s n) := by
  unfold State.turnLeaves
  simp (maxDischargeDepth := 99) +contextual [h]

@[simp] theorem State.turnRefused_leads {F : StateField → Bool} [May F .free] [May F .out] [May F .regs] [May F .mem] [May F .bad] [May F .msix] [May F .parts] [May F .floors] [May F .health] [May F .mp] {r : State} {s : State} (n) (a) (status) (h : State.Leads F r s) :
    State.Leads F r (State.turnRefused s n a status) := by
  unfold State.turnRefused
  simp (maxDischargeDepth := 99) +contextual [h]

@[simp] theorem State.turnBegin_leads {F : StateField → Bool} [May F .out] [May F .regs] [May F .mem] [May F .bad] [May F .msix] [May F .parts] [May F .turns] [May F .floors] [May F .health] [May F .mp] {r : State} {s : State} (t) (a) (j) (v) (h : State.Leads F r s) :
    State.Leads F r (State.turnBegin s t a j v) := by
  unfold State.turnBegin
  simp (maxDischargeDepth := 99) +contextual [h]

@[simp] theorem turnStartDo_leads {F : StateField → Bool} [May F .free] [May F .out] [May F .regs] [May F .mem] [May F .bad] [May F .msix] [May F .parts] [May F .turns] [May F .floors] [May F .health] [May F .mp] {r : State} (n) {s : State} (h : State.Leads F r s) :
    State.Leads F r (turnStartDo n s) := by
  unfold turnStartDo
  dsimp only
  (repeat' (split <;> (try first | (rename_i heq; have e := congrArg Prod.snd heq; dsimp only at e; subst e) | (rename_i heq _; have e := congrArg Prod.snd heq; dsimp only at e; subst e) | (rename_i heq _ _; have e := congrArg Prod.snd heq; dsimp only at e; subst e)))) <;> simp (maxDischargeDepth := 99) +contextual [h]

@[simp] theorem State.turnSpoil_leads {F : StateField → Bool} [May F .turns] {r : State} {s : State} (t) (h : State.Leads F r s) :
    State.Leads F r (State.turnSpoil s t) := by
  unfold State.turnSpoil
  simp (maxDischargeDepth := 99) +contextual [h]

@[simp] theorem State.carryHistory_leads {F : StateField → Bool} [May F .out] [May F .regs] [May F .mem] [May F .bad] [May F .msix] [May F .floors] [May F .health] [May F .mp] {r : State} {s : State} (n) (src) (dst) (h : State.Leads F r s) :
    State.Leads F r (State.carryHistory s n src dst) := by
  unfold State.carryHistory
  simp (maxDischargeDepth := 99) +contextual [h]

@[simp] theorem State.countLayer_leads {F : StateField → Bool} [May F .out] [May F .regs] [May F .mem] [May F .bad] [May F .msix] [May F .parts] [May F .slots] [May F .turns] [May F .floors] [May F .health] [May F .mp] {r : State} {s : State} (t) (j) (h : State.Leads F r s) :
    State.Leads F r (State.countLayer s t j) := by
  unfold State.countLayer
  simp (maxDischargeDepth := 99) +contextual [h]

@[simp] theorem State.countLayers_leads {F : StateField → Bool} [May F .out] [May F .regs] [May F .mem] [May F .bad] [May F .msix] [May F .parts] [May F .slots] [May F .turns] [May F .floors] [May F .health] [May F .mp] {r : State} (f t) {s : State} (h : State.Leads F r s) :
    State.Leads F r (State.countLayers f t s) := by
  induction f generalizing s with
  | zero => exact h
  | succ f ih =>
    unfold State.countLayers
    (repeat' split) <;> first | exact h | exact ih (by simp (maxDischargeDepth := 99) [h]) | simp (maxDischargeDepth := 99) [h]

@[simp] theorem State.writeBlockAt_leads {F : StateField → Bool} [May F .out] [May F .regs] [May F .mem] [May F .bad] [May F .msix] [May F .floors] [May F .health] [May F .mp] {r : State} {s : State} (n) (p) (bs) (h : State.Leads F r s) :
    State.Leads F r (State.writeBlockAt s n p bs).2 := by
  unfold State.writeBlockAt
  (repeat' (split <;> (try first | (rename_i heq; have e := congrArg Prod.snd heq; dsimp only at e; subst e) | (rename_i heq _; have e := congrArg Prod.snd heq; dsimp only at e; subst e) | (rename_i heq _ _; have e := congrArg Prod.snd heq; dsimp only at e; subst e)))) <;> simp (maxDischargeDepth := 99) +contextual [h]

@[simp] theorem State.blockError_leads {F : StateField → Bool} [May F .out] [May F .regs] [May F .msix] [May F .turns] {r : State} {s : State} (t) (die) (h : State.Leads F r s) :
    State.Leads F r (State.blockError s t die) := by
  unfold State.blockError
  simp (maxDischargeDepth := 99) +contextual [h]

@[simp] theorem State.landBlock_leads {F : StateField → Bool} [May F .out] [May F .regs] [May F .mem] [May F .bad] [May F .msix] [May F .parts] [May F .slots] [May F .turns] [May F .floors] [May F .health] [May F .mp] {r : State} {s : State} (t) (die) (j) (i) (x5) (bs) (h : State.Leads F r s) :
    State.Leads F r (State.landBlock s t die j i x5 bs) := by
  unfold State.landBlock
  (repeat' (split <;> (try first | (rename_i heq; have e := congrArg Prod.snd heq; dsimp only at e; subst e) | (rename_i heq _; have e := congrArg Prod.snd heq; dsimp only at e; subst e) | (rename_i heq _ _; have e := congrArg Prod.snd heq; dsimp only at e; subst e)))) <;> simp (maxDischargeDepth := 99) +contextual [h]

@[simp] theorem localDo_leads {F : StateField → Bool} [May F .out] [May F .regs] [May F .mem] [May F .bad] [May F .msix] [May F .parts] [May F .slots] [May F .turns] [May F .floors] [May F .health] [May F .mp] {r : State} (t) (i) (bi) (bj) (x4) {s : State} (h : State.Leads F r s) :
    State.Leads F r (localDo t i bi bj x4 s) := by
  unfold localDo
  dsimp only
  (repeat' (split <;> (try first | (rename_i heq; have e := congrArg Prod.snd heq; dsimp only at e; subst e) | (rename_i heq _; have e := congrArg Prod.snd heq; dsimp only at e; subst e) | (rename_i heq _ _; have e := congrArg Prod.snd heq; dsimp only at e; subst e)))) <;> simp (maxDischargeDepth := 99) +contextual [h]

@[simp] theorem State.queueMessage_leads {F : StateField → Bool} [May F .links] {r : State} {s : State} (k) (t) (part) (vc) (msg) (bs) (h : State.Leads F r s) :
    State.Leads F r (State.queueMessage s k t part vc msg bs) := by
  unfold State.queueMessage
  simp (maxDischargeDepth := 99) +contextual [h]

theorem State.feedOne_leads {F : StateField → Bool} [May F .out] [May F .regs] [May F .mem] [May F .bad] [May F .msix] [May F .links] [May F .turns] [May F .floors] [May F .health] [May F .mp] {r : State} {s : State} (t u) (h : State.Leads F r s) (e : State.feedOne s t = some u) :
    State.Leads F r u := by
  unfold State.feedOne at e
  split at e
  · cases e
  · split at e
    · cases e
    · split at e
      · cases e
      · split at e
        · cases e
        · rename_i j _ _ _ x k _ _
          have q := State.makeBlock_leads j (k / 8) x.1 (x.2.1, x.2.2.1) h
          split at e
          · rename_i heq; rw [heq] at q; cases e; exact State.turnSpoil_leads _ q
          · rename_i heq; rw [heq] at q; cases e; simp (maxDischargeDepth := 99) [q]
@[simp] theorem State.feed_leads {F : StateField → Bool} [May F .out] [May F .regs] [May F .mem] [May F .bad] [May F .msix] [May F .links] [May F .turns] [May F .floors] [May F .health] [May F .mp] {r : State} (f t) {s : State} (h : State.Leads F r s) :
    State.Leads F r (State.feed f t s) := by
  induction f generalizing s with
  | zero => exact h
  | succ f ih =>
    unfold State.feed
    split
    · exact h
    · rename_i e; exact ih (State.feedOne_leads _ _ h e)

@[simp] theorem State.feedTurns_leads {F : StateField → Bool} [May F .out] [May F .regs] [May F .mem] [May F .bad] [May F .msix] [May F .links] [May F .turns] [May F .floors] [May F .health] [May F .mp] {r : State} {s : State} (h : State.Leads F r s) :
    State.Leads F r (State.feedTurns s) := by
  unfold State.feedTurns
  simp (maxDischargeDepth := 99) +contextual [h]

@[simp] theorem State.blockLeft_leads {F : StateField → Bool} [May F .regs] [May F .turns] {r : State} {s : State} (k) (f) (h : State.Leads F r s) :
    State.Leads F r (State.blockLeft s k f) := by
  unfold State.blockLeft
  simp (maxDischargeDepth := 99) +contextual [h]

@[simp] theorem State.arriveBlock_leads {F : StateField → Bool} [May F .out] [May F .regs] [May F .mem] [May F .bad] [May F .msix] [May F .parts] [May F .slots] [May F .turns] [May F .floors] [May F .health] [May F .mp] {r : State} {s : State} (k) (t) (j) (x4) (x5) (h : State.Leads F r s) :
    State.Leads F r (State.arriveBlock s k t j x4 x5) := by
  unfold State.arriveBlock
  simp (maxDischargeDepth := 99) +contextual [h]

@[simp] theorem State.forwardBlock_leads {F : StateField → Bool} [May F .regs] [May F .links] [May F .turns] {r : State} {s : State} (k) (t) (j) (d) (x5) (h : State.Leads F r s) :
    State.Leads F r (State.forwardBlock s k t j d x5) := by
  unfold State.forwardBlock
  dsimp only
  (repeat' (split <;> (try first | (rename_i heq; have e := congrArg Prod.snd heq; dsimp only at e; subst e) | (rename_i heq _; have e := congrArg Prod.snd heq; dsimp only at e; subst e) | (rename_i heq _ _; have e := congrArg Prod.snd heq; dsimp only at e; subst e)))) <;> simp (maxDischargeDepth := 99) +contextual [h]

@[simp] theorem State.blockCame_leads {F : StateField → Bool} [May F .out] [May F .regs] [May F .mem] [May F .bad] [May F .msix] [May F .parts] [May F .slots] [May F .links] [May F .turns] [May F .floors] [May F .health] [May F .mp] {r : State} {s : State} (k) (n) (x3) (x4) (h : State.Leads F r s) :
    State.Leads F r (State.blockCame s k n x3 x4) := by
  unfold State.blockCame
  split <;> simp (maxDischargeDepth := 99) +contextual [h]

@[simp] theorem State.blockTake_leads {F : StateField → Bool} [May F .out] [May F .regs] [May F .mem] [May F .bad] [May F .msix] [May F .parts] [May F .slots] [May F .links] [May F .turns] [May F .floors] [May F .health] [May F .mp] {r : State} (f k n x) {s : State} (h : State.Leads F r s) :
    State.Leads F r (State.blockTake f k n x s) := by
  induction f generalizing s with
  | zero => exact h
  | succ f ih =>
    unfold State.blockTake
    split
    · exact h
    · exact State.leads_ite (State.blockCame_leads _ _ _ _ (State.modLink_leads _ _ h)) (ih (State.modLink_leads _ _ h))

@[simp] theorem State.turnStatus_leads {F : StateField → Bool} [May F .out] [May F .regs] [May F .mem] [May F .bad] [May F .msix] [May F .floors] [May F .health] [May F .mp] {r : State} {s : State} (j) (status) (h : State.Leads F r s) :
    State.Leads F r (State.turnStatus s j status) := by
  unfold State.turnStatus
  simp (maxDischargeDepth := 99) +contextual [h]

@[simp] theorem State.turnWithdraw_leads {F : StateField → Bool} [May F .links] {r : State} {s : State} (t) (h : State.Leads F r s) :
    State.Leads F r (State.turnWithdraw s t) := by
  unfold State.turnWithdraw
  simp (maxDischargeDepth := 99) +contextual [h]

@[simp] theorem State.turnPublish_leads {F : StateField → Bool} [May F .out] [May F .regs] [May F .mem] [May F .bad] [May F .msix] [May F .parts] [May F .slots] [May F .turns] [May F .floors] [May F .health] [May F .mp] {r : State} {s : State} (t) (j) (h : State.Leads F r s) :
    State.Leads F r (State.turnPublish s t j) := by
  unfold State.turnPublish
  simp (maxDischargeDepth := 99) +contextual [h]

@[simp] theorem State.turnAbandon_leads {F : StateField → Bool} [May F .out] [May F .regs] [May F .mem] [May F .bad] [May F .msix] [May F .parts] [May F .slots] [May F .links] [May F .turns] [May F .floors] [May F .health] [May F .mp] {r : State} {s : State} (t) (j) (h : State.Leads F r s) :
    State.Leads F r (State.turnAbandon s t j) := by
  unfold State.turnAbandon
  simp (maxDischargeDepth := 99) +contextual [h]

@[simp] theorem budgetDo_leads {F : StateField → Bool} [May F .out] [May F .regs] [May F .msix] [May F .turns] [May F .mp] {r : State} (t) {s : State} (h : State.Leads F r s) :
    State.Leads F r (budgetDo t s) := by
  unfold budgetDo
  simp (maxDischargeDepth := 99) +contextual [h]

theorem execTurn_leads {F : StateField → Bool} [May F .free] [May F .out] [May F .regs] [May F .mem] [May F .bad] [May F .msix] [May F .parts] [May F .slots] [May F .floors] [May F .health] [May F .mp] (n) {s : State} : State.LeadsOut F s (execTurn n s) := by
  simp (maxDischargeDepth := 99) [execTurn]

theorem execTurnJobStart_leads {F : StateField → Bool} [May F .free] [May F .out] [May F .regs] [May F .mem] [May F .bad] [May F .msix] [May F .parts] [May F .turns] [May F .floors] [May F .health] [May F .mp] (n) {s : State} : State.LeadsOut F s (execTurnJobStart n s) := by
  simp (maxDischargeDepth := 99) [execTurnJobStart]

theorem execTurnBudgetExpiry_leads {F : StateField → Bool} [May F .out] [May F .regs] [May F .msix] [May F .turns] [May F .mp] (t) {s : State} : State.LeadsOut F s (execTurnBudgetExpiry t s) := by
  simp (maxDischargeDepth := 99) [execTurnBudgetExpiry]

/-! ### Closes -/

@[simp] theorem State.modClose_leads {F : StateField → Bool} [May F .slots] [May F .turns] {r : State} {s : State} (m) (f) (h : State.Leads F r s) :
    State.Leads F r (State.modClose s m f) := by
  unfold State.modClose
  split <;> simp (maxDischargeDepth := 99) +contextual [h]

@[simp] theorem State.queueClose_leads {F : StateField → Bool} [May F .links] {r : State} {s : State} (k) (msg) (payload) (h : State.Leads F r s) :
    State.Leads F r (State.queueClose s k msg payload) := by
  unfold State.queueClose
  simp (maxDischargeDepth := 99) +contextual [h]

@[simp] theorem State.sendGather_leads {F : StateField → Bool} [May F .slots] [May F .links] [May F .turns] {r : State} {s : State} (m) (i) (result) (h : State.Leads F r s) :
    State.Leads F r (State.sendGather s m i result) := by
  unfold State.sendGather
  split <;> simp (maxDischargeDepth := 99) +contextual [h]

@[simp] theorem State.sendOutcome_leads {F : StateField → Bool} [May F .links] {r : State} {s : State} (i) (attempt) (o) (payload) (h : State.Leads F r s) :
    State.Leads F r (State.sendOutcome s i attempt o payload) := by
  unfold State.sendOutcome
  simp (maxDischargeDepth := 99) +contextual [h]

@[simp] theorem State.completeNow_leads {F : StateField → Bool} [May F .free] [May F .out] [May F .regs] [May F .mem] [May F .bad] [May F .msix] [May F .vales] [May F .parts] [May F .slots] [May F .floors] [May F .echo] [May F .health] [May F .mp] {r : State} {s : State} (k) (h : State.Leads F r s) :
    State.Leads F r (State.completeNow s k) := by
  unfold State.completeNow
  simp (maxDischargeDepth := 99) +contextual [h]

@[simp] theorem State.collClean_leads {F : StateField → Bool} [May F .free] [May F .out] [May F .regs] [May F .mem] [May F .bad] [May F .msix] [May F .vales] [May F .parts] [May F .slots] [May F .floors] [May F .echo] [May F .health] [May F .mp] {r : State} {s : State} (k) (c) (x) (h : State.Leads F r s) :
    State.Leads F r (State.collClean s k c x) := by
  unfold State.collClean
  simp (maxDischargeDepth := 99) +contextual [h]

@[simp] theorem State.dropHeld_leads {F : StateField → Bool} [May F .links] {r : State} {s : State} (c) (attempt) (h : State.Leads F r s) :
    State.Leads F r (State.dropHeld s c attempt) := by
  unfold State.dropHeld
  simp (maxDischargeDepth := 99) +contextual [h]

@[simp] theorem State.faultVoid_leads {F : StateField → Bool} [May F .free] [May F .slots] {r : State} {s : State} (k) (c) (h : State.Leads F r s) :
    State.Leads F r (State.faultVoid s k c) := by
  unfold State.faultVoid
  (repeat' (split <;> (try first | (rename_i heq; have e := congrArg Prod.snd heq; dsimp only at e; subst e) | (rename_i heq _; have e := congrArg Prod.snd heq; dsimp only at e; subst e) | (rename_i heq _ _; have e := congrArg Prod.snd heq; dsimp only at e; subst e)))) <;> simp (maxDischargeDepth := 99) +contextual [h]

@[simp] theorem State.collFault_leads {F : StateField → Bool} [May F .free] [May F .out] [May F .regs] [May F .msix] [May F .parts] [May F .slots] [May F .links] [May F .mp] {r : State} {s : State} (k) (c) (attempt) (h : State.Leads F r s) :
    State.Leads F r (State.collFault s k c attempt) := by
  unfold State.collFault
  simp (maxDischargeDepth := 99) +contextual [h]

@[simp] theorem State.collOutcome_leads {F : StateField → Bool} [May F .free] [May F .out] [May F .regs] [May F .mem] [May F .bad] [May F .msix] [May F .vales] [May F .parts] [May F .slots] [May F .links] [May F .floors] [May F .echo] [May F .health] [May F .mp] {r : State} {s : State} (k) (o) (attempt) (retry) (h : State.Leads F r s) :
    State.Leads F r (State.collOutcome s k o attempt retry) := by
  unfold State.collOutcome
  (repeat' split) <;> simp (maxDischargeDepth := 99) +contextual [h]

@[simp] theorem State.turnOutcome_leads {F : StateField → Bool} [May F .out] [May F .regs] [May F .mem] [May F .bad] [May F .msix] [May F .parts] [May F .slots] [May F .links] [May F .turns] [May F .floors] [May F .health] [May F .mp] {r : State} {s : State} (t) (o) (retry) (h : State.Leads F r s) :
    State.Leads F r (State.turnOutcome s t o retry) := by
  unfold State.turnOutcome
  (repeat' split) <;> simp (maxDischargeDepth := 99) +contextual [h]

@[simp] theorem State.outcome_leads {F : StateField → Bool} [May F .free] [May F .out] [May F .regs] [May F .mem] [May F .bad] [May F .msix] [May F .vales] [May F .parts] [May F .slots] [May F .links] [May F .turns] [May F .floors] [May F .echo] [May F .health] [May F .mp] {r : State} {s : State} (m) (o) (attempt) (retry) (h : State.Leads F r s) :
    State.Leads F r (State.outcome s m o attempt retry) := by
  unfold State.outcome
  split <;> simp (maxDischargeDepth := 99) +contextual [h]

@[simp] theorem State.recordDecision_leads {F : StateField → Bool} [May F .regs] [May F .mp] {r : State} {s : State} (m) (i) (o) (h : State.Leads F r s) :
    State.Leads F r (State.recordDecision s m i o) := by
  unfold State.recordDecision
  (repeat' split) <;> simp (maxDischargeDepth := 99) +contextual [h]

@[simp] theorem State.decideClose_leads {F : StateField → Bool} [May F .free] [May F .out] [May F .regs] [May F .mem] [May F .bad] [May F .msix] [May F .vales] [May F .parts] [May F .slots] [May F .links] [May F .turns] [May F .floors] [May F .echo] [May F .health] [May F .mp] {r : State} {s : State} (m) (i) (result) (h : State.Leads F r s) :
    State.Leads F r (State.decideClose s m i result) := by
  unfold State.decideClose
  simp (maxDischargeDepth := 99) +contextual [h]

@[simp] theorem State.verdictReady_leads {F : StateField → Bool} [May F .free] [May F .out] [May F .regs] [May F .mem] [May F .bad] [May F .msix] [May F .vales] [May F .parts] [May F .slots] [May F .links] [May F .turns] [May F .floors] [May F .echo] [May F .health] [May F .mp] {r : State} {s : State} (m) (h : State.Leads F r s) :
    State.Leads F r (State.verdictReady s m) := by
  unfold State.verdictReady
  (repeat' split) <;> simp (maxDischargeDepth := 99) +contextual [h]

@[simp] theorem arriveDo_leads {F : StateField → Bool} [May F .free] [May F .out] [May F .regs] [May F .mem] [May F .bad] [May F .msix] [May F .vales] [May F .parts] [May F .slots] [May F .links] [May F .turns] [May F .floors] [May F .echo] [May F .health] [May F .mp] {r : State} (k) {s : State} (h : State.Leads F r s) :
    State.Leads F r (arriveDo k s) := by
  unfold arriveDo
  simp (maxDischargeDepth := 99) +contextual [h]

@[simp] theorem lapTimeoutDo_leads {F : StateField → Bool} [May F .free] [May F .out] [May F .regs] [May F .mem] [May F .bad] [May F .msix] [May F .vales] [May F .parts] [May F .slots] [May F .links] [May F .turns] [May F .floors] [May F .echo] [May F .health] [May F .mp] {r : State} (m) {s : State} (h : State.Leads F r s) :
    State.Leads F r (lapTimeoutDo m s) := by
  unfold lapTimeoutDo
  split <;> simp (maxDischargeDepth := 99) +contextual [h]

@[simp] theorem State.takeGather_leads {F : StateField → Bool} [May F .free] [May F .out] [May F .regs] [May F .mem] [May F .bad] [May F .msix] [May F .vales] [May F .parts] [May F .slots] [May F .links] [May F .turns] [May F .floors] [May F .echo] [May F .health] [May F .mp] {r : State} {s : State} (m) (i) (result) (h : State.Leads F r s) :
    State.Leads F r (State.takeGather s m i result) := by
  unfold State.takeGather
  simp (maxDischargeDepth := 99) +contextual [h]

@[simp] theorem State.takeOutcome_leads {F : StateField → Bool} [May F .free] [May F .out] [May F .regs] [May F .mem] [May F .bad] [May F .msix] [May F .vales] [May F .parts] [May F .slots] [May F .links] [May F .turns] [May F .floors] [May F .echo] [May F .health] [May F .mp] {r : State} {s : State} (m) (i) (f) (h : State.Leads F r s) :
    State.Leads F r (State.takeOutcome s m i f) := by
  unfold State.takeOutcome
  simp (maxDischargeDepth := 99) +contextual [h]

@[simp] theorem closeGatherDo_leads {F : StateField → Bool} [May F .free] [May F .out] [May F .regs] [May F .mem] [May F .bad] [May F .msix] [May F .vales] [May F .parts] [May F .slots] [May F .links] [May F .turns] [May F .floors] [May F .echo] [May F .health] [May F .mp] {r : State} (k) {s : State} (h : State.Leads F r s) :
    State.Leads F r (closeGatherDo k s) := by
  unfold closeGatherDo
  split <;> simp (maxDischargeDepth := 99) +contextual [h]

@[simp] theorem closeOutcomeDo_leads {F : StateField → Bool} [May F .free] [May F .out] [May F .regs] [May F .mem] [May F .bad] [May F .msix] [May F .vales] [May F .parts] [May F .slots] [May F .links] [May F .turns] [May F .floors] [May F .echo] [May F .health] [May F .mp] {r : State} (k) {s : State} (h : State.Leads F r s) :
    State.Leads F r (closeOutcomeDo k s) := by
  unfold closeOutcomeDo
  split <;> simp (maxDischargeDepth := 99) +contextual [h]

@[simp] theorem closeTimeoutDo_leads {F : StateField → Bool} [May F .free] [May F .out] [May F .regs] [May F .mem] [May F .bad] [May F .msix] [May F .vales] [May F .parts] [May F .slots] [May F .links] [May F .turns] [May F .floors] [May F .echo] [May F .health] [May F .mp] {r : State} (m) {s : State} (h : State.Leads F r s) :
    State.Leads F r (closeTimeoutDo m s) := by
  unfold closeTimeoutDo
  split <;> simp (maxDischargeDepth := 99) +contextual [h]

@[simp] theorem outcomeTimeoutDo_leads {F : StateField → Bool} [May F .out] [May F .regs] [May F .msix] [May F .slots] [May F .turns] [May F .mp] {r : State} (m) {s : State} (h : State.Leads F r s) :
    State.Leads F r (outcomeTimeoutDo m s) := by
  unfold outcomeTimeoutDo
  (repeat' split) <;> simp (maxDischargeDepth := 99) +contextual [h]

@[simp] theorem State.collRetry_leads {F : StateField → Bool} [May F .out] [May F .regs] [May F .mem] [May F .bad] [May F .msix] [May F .slots] [May F .links] [May F .floors] [May F .health] [May F .mp] {r : State} {s : State} (k) (h : State.Leads F r s) :
    State.Leads F r (State.collRetry s k) := by
  unfold State.collRetry
  split <;> simp (maxDischargeDepth := 99) +contextual [h]

@[simp] theorem State.turnRetry_leads {F : StateField → Bool} [May F .out] [May F .regs] [May F .mem] [May F .bad] [May F .msix] [May F .parts] [May F .slots] [May F .turns] [May F .floors] [May F .health] [May F .mp] {r : State} {s : State} (t) (h : State.Leads F r s) :
    State.Leads F r (State.turnRetry s t) := by
  unfold State.turnRetry
  split <;> simp (maxDischargeDepth := 99) +contextual [h]

@[simp] theorem retryDo_leads {F : StateField → Bool} [May F .free] [May F .out] [May F .regs] [May F .mem] [May F .bad] [May F .msix] [May F .vales] [May F .parts] [May F .slots] [May F .links] [May F .turns] [May F .floors] [May F .echo] [May F .health] [May F .mp] {r : State} (m) {s : State} (h : State.Leads F r s) :
    State.Leads F r (retryDo m s) := by
  unfold retryDo
  split <;> simp (maxDischargeDepth := 99) +contextual [h]

@[simp] theorem resolveCleanDo_leads {F : StateField → Bool} [May F .free] [May F .out] [May F .regs] [May F .mem] [May F .bad] [May F .msix] [May F .vales] [May F .parts] [May F .slots] [May F .floors] [May F .echo] [May F .health] [May F .mp] {r : State} (g) {s : State} (h : State.Leads F r s) :
    State.Leads F r (resolveCleanDo g s) := by
  unfold resolveCleanDo
  split <;> simp (maxDischargeDepth := 99) +contextual [h]

@[simp] theorem resolveAbortDo_leads {F : StateField → Bool} [May F .free] [May F .out] [May F .regs] [May F .mem] [May F .bad] [May F .msix] [May F .vales] [May F .parts] [May F .slots] [May F .floors] [May F .echo] [May F .health] [May F .mp] {r : State} (g) {s : State} (h : State.Leads F r s) :
    State.Leads F r (resolveAbortDo g s) := by
  unfold resolveAbortDo
  split <;> simp (maxDischargeDepth := 99) +contextual [h]

@[simp] theorem turnCleanDo_leads {F : StateField → Bool} [May F .out] [May F .regs] [May F .mem] [May F .bad] [May F .msix] [May F .parts] [May F .slots] [May F .turns] [May F .floors] [May F .health] [May F .mp] {r : State} (t) {s : State} (h : State.Leads F r s) :
    State.Leads F r (turnCleanDo t s) := by
  unfold turnCleanDo
  split <;> simp (maxDischargeDepth := 99) +contextual [h]

@[simp] theorem turnAbortDo_leads {F : StateField → Bool} [May F .out] [May F .regs] [May F .mem] [May F .bad] [May F .msix] [May F .parts] [May F .slots] [May F .links] [May F .turns] [May F .floors] [May F .health] [May F .mp] {r : State} (t) {s : State} (h : State.Leads F r s) :
    State.Leads F r (turnAbortDo t s) := by
  unfold turnAbortDo
  split <;> simp (maxDischargeDepth := 99) +contextual [h]

@[simp] theorem State.turnsReady_leads {F : StateField → Bool} [May F .free] [May F .out] [May F .regs] [May F .mem] [May F .bad] [May F .msix] [May F .vales] [May F .parts] [May F .slots] [May F .links] [May F .turns] [May F .floors] [May F .echo] [May F .health] [May F .mp] {r : State} {s : State} (h : State.Leads F r s) :
    State.Leads F r (State.turnsReady s) := by
  unfold State.turnsReady
  refine State.leads_foldl h ?_
  intro t a ht
  (repeat' split) <;> simp (maxDischargeDepth := 99) +contextual [ht]

theorem execRingPiece_leads {F : StateField → Bool} [May F .free] [May F .out] [May F .regs] [May F .mem] [May F .bad] [May F .msix] [May F .vales] [May F .parts] [May F .slots] [May F .links] [May F .turns] [May F .floors] [May F .echo] [May F .health] [May F .mp] (k n x) {s : State} : State.LeadsOut F s (execRingPiece k n x s) := by
  unfold execRingPiece
  refine State.leadsOut_act ?_
  have q := ringPieceTake_leads k.val n.val x (State.Leads.refl F s)
  unfold Taken.finish
  split
  · exact State.verdictReady_leads _ q
  · exact q

theorem execArrive_leads {F : StateField → Bool} [May F .free] [May F .out] [May F .regs] [May F .mem] [May F .bad] [May F .msix] [May F .vales] [May F .parts] [May F .slots] [May F .links] [May F .turns] [May F .floors] [May F .echo] [May F .health] [May F .mp] (k) {s : State} : State.LeadsOut F s (execArrive k s) := by
  simp (maxDischargeDepth := 99) [execArrive]

theorem execLapTimeout_leads {F : StateField → Bool} [May F .free] [May F .out] [May F .regs] [May F .mem] [May F .bad] [May F .msix] [May F .vales] [May F .parts] [May F .slots] [May F .links] [May F .turns] [May F .floors] [May F .echo] [May F .health] [May F .mp] (m) {s : State} : State.LeadsOut F s (execLapTimeout m s) := by
  simp (maxDischargeDepth := 99) [execLapTimeout]

theorem execCloseGather_leads {F : StateField → Bool} [May F .free] [May F .out] [May F .regs] [May F .mem] [May F .bad] [May F .msix] [May F .vales] [May F .parts] [May F .slots] [May F .links] [May F .turns] [May F .floors] [May F .echo] [May F .health] [May F .mp] (k) {s : State} : State.LeadsOut F s (execCloseGather k s) := by
  simp (maxDischargeDepth := 99) [execCloseGather]

theorem execCloseOutcome_leads {F : StateField → Bool} [May F .free] [May F .out] [May F .regs] [May F .mem] [May F .bad] [May F .msix] [May F .vales] [May F .parts] [May F .slots] [May F .links] [May F .turns] [May F .floors] [May F .echo] [May F .health] [May F .mp] (k) {s : State} : State.LeadsOut F s (execCloseOutcome k s) := by
  simp (maxDischargeDepth := 99) [execCloseOutcome]

theorem execCloseTimeout_leads {F : StateField → Bool} [May F .free] [May F .out] [May F .regs] [May F .mem] [May F .bad] [May F .msix] [May F .vales] [May F .parts] [May F .slots] [May F .links] [May F .turns] [May F .floors] [May F .echo] [May F .health] [May F .mp] (m) {s : State} : State.LeadsOut F s (execCloseTimeout m s) := by
  simp (maxDischargeDepth := 99) [execCloseTimeout]

theorem execOutcomeTimeout_leads {F : StateField → Bool} [May F .out] [May F .regs] [May F .msix] [May F .slots] [May F .turns] [May F .mp] (m) {s : State} : State.LeadsOut F s (execOutcomeTimeout m s) := by
  simp (maxDischargeDepth := 99) [execOutcomeTimeout]

theorem execRetryStart_leads {F : StateField → Bool} [May F .free] [May F .out] [May F .regs] [May F .mem] [May F .bad] [May F .msix] [May F .vales] [May F .parts] [May F .slots] [May F .links] [May F .turns] [May F .floors] [May F .echo] [May F .health] [May F .mp] (m) {s : State} : State.LeadsOut F s (execRetryStart m s) := by
  simp (maxDischargeDepth := 99) [execRetryStart]

theorem execCollResolveClean_leads {F : StateField → Bool} [May F .free] [May F .out] [May F .regs] [May F .mem] [May F .bad] [May F .msix] [May F .vales] [May F .parts] [May F .slots] [May F .floors] [May F .echo] [May F .health] [May F .mp] (g) {s : State} : State.LeadsOut F s (execCollResolveClean g s) := by
  simp (maxDischargeDepth := 99) [execCollResolveClean]

theorem execCollResolveAbort_leads {F : StateField → Bool} [May F .free] [May F .out] [May F .regs] [May F .mem] [May F .bad] [May F .msix] [May F .vales] [May F .parts] [May F .slots] [May F .floors] [May F .echo] [May F .health] [May F .mp] (g) {s : State} : State.LeadsOut F s (execCollResolveAbort g s) := by
  simp (maxDischargeDepth := 99) [execCollResolveAbort]

theorem execTurnResolveClean_leads {F : StateField → Bool} [May F .out] [May F .regs] [May F .mem] [May F .bad] [May F .msix] [May F .parts] [May F .slots] [May F .turns] [May F .floors] [May F .health] [May F .mp] (t) {s : State} : State.LeadsOut F s (execTurnResolveClean t s) := by
  simp (maxDischargeDepth := 99) [execTurnResolveClean]

theorem execTurnResolveAbort_leads {F : StateField → Bool} [May F .out] [May F .regs] [May F .mem] [May F .bad] [May F .msix] [May F .parts] [May F .slots] [May F .links] [May F .turns] [May F .floors] [May F .health] [May F .mp] (t) {s : State} : State.LeadsOut F s (execTurnResolveAbort t s) := by
  simp (maxDischargeDepth := 99) [execTurnResolveAbort]

theorem execSwitchbackBlock_leads {F : StateField → Bool} [May F .free] [May F .out] [May F .regs] [May F .mem] [May F .bad] [May F .msix] [May F .vales] [May F .parts] [May F .slots] [May F .links] [May F .turns] [May F .floors] [May F .echo] [May F .health] [May F .mp] (k) (n) (x2) {s : State} : State.LeadsOut F s (execSwitchbackBlock k n x2 s) := by
  simp (maxDischargeDepth := 99) [execSwitchbackBlock]

theorem execLocalBlockLanded_leads {F : StateField → Bool} [May F .free] [May F .out] [May F .regs] [May F .mem] [May F .bad] [May F .msix] [May F .vales] [May F .parts] [May F .slots] [May F .links] [May F .turns] [May F .floors] [May F .echo] [May F .health] [May F .mp] (t) (i) (bi) (bj) (x4) {s : State} : State.LeadsOut F s (execLocalBlockLanded t i bi bj x4 s) := by
  simp (maxDischargeDepth := 99) [execLocalBlockLanded]

/-! ### Arbiter -/

@[simp] theorem State.takeCredit_leads {F : StateField → Bool} [May F .credits] {r : State} {s : State} (n) (p) (h : State.Leads F r s) :
    State.Leads F r (State.takeCredit s n p) := by
  unfold State.takeCredit
  simp (maxDischargeDepth := 99) +contextual [h]

@[simp] theorem State.grantTo_leads {F : StateField → Bool} [May F .credits] [May F .granted] {r : State} {s : State} (p) (x2) (h : State.Leads F r s) :
    State.Leads F r (State.grantTo s p x2) := by
  unfold State.grantTo
  simp (maxDischargeDepth := 99) +contextual [h]

@[simp] theorem State.sendSequenced_leads {F : StateField → Bool} [May F .out] [May F .regs] [May F .links] [May F .turns] {r : State} {s : State} (k) (f) (h : State.Leads F r s) :
    State.Leads F r (State.sendSequenced s k f) := by
  unfold State.sendSequenced
  simp (maxDischargeDepth := 99) +contextual [h]

@[simp] theorem State.egress_leads {F : StateField → Bool} [May F .out] [May F .regs] [May F .links] [May F .turns] [May F .credits] [May F .granted] {r : State} {s : State} (k) (h : State.Leads F r s) :
    State.Leads F r (State.egress s k) := by
  unfold State.egress
  dsimp only
  (repeat' (split <;> (try first | (rename_i heq; have e := congrArg Prod.snd heq; dsimp only at e; subst e) | (rename_i heq _; have e := congrArg Prod.snd heq; dsimp only at e; subst e) | (rename_i heq _ _; have e := congrArg Prod.snd heq; dsimp only at e; subst e)))) <;> simp (maxDischargeDepth := 99) +contextual [h]

@[simp] theorem granuleGrantDo_leads {F : StateField → Bool} [May F .free] [May F .out] [May F .regs] [May F .mem] [May F .bad] [May F .msix] [May F .vales] [May F .parts] [May F .slots] [May F .links] [May F .turns] [May F .floors] [May F .echo] [May F .credits] [May F .granted] [May F .health] [May F .mp] {r : State} (p) {s : State} (h : State.Leads F r s) :
    State.Leads F r (granuleGrantDo p s) := by
  unfold granuleGrantDo
  (repeat' split) <;> simp (maxDischargeDepth := 99) +contextual [h]

theorem execGranuleGrant_leads {F : StateField → Bool} [May F .free] [May F .out] [May F .regs] [May F .mem] [May F .bad] [May F .msix] [May F .vales] [May F .parts] [May F .slots] [May F .links] [May F .turns] [May F .floors] [May F .echo] [May F .credits] [May F .granted] [May F .health] [May F .mp] (p) {s : State} : State.LeadsOut F s (execGranuleGrant p s) := by
  simp (maxDischargeDepth := 99) [execGranuleGrant]

/-! ### Learning -/

@[simp] theorem State.stepRead_leads {F : StateField → Bool} [May F .out] [May F .regs] [May F .bad] [May F .msix] [May F .floors] [May F .health] [May F .mp] {r : State} {s : State} (n) (a) (len) (used) (h : State.Leads F r s) :
    State.Leads F r (State.stepRead s n a len used).2 := by
  unfold State.stepRead
  (repeat' (split <;> (try first | (rename_i heq; have e := congrArg Prod.snd heq; dsimp only at e; subst e) | (rename_i heq _; have e := congrArg Prod.snd heq; dsimp only at e; subst e) | (rename_i heq _ _; have e := congrArg Prod.snd heq; dsimp only at e; subst e)))) <;> simp (maxDischargeDepth := 99) +contextual [h]

@[simp] theorem State.stepUe_leads {F : StateField → Bool} [May F .out] [May F .regs] [May F .msix] {r : State} {s : State} (st) (addr) (h : State.Leads F r s) :
    State.Leads F r (State.stepUe s st addr) := by
  unfold State.stepUe
  simp (maxDischargeDepth := 99) +contextual [h]

@[simp] theorem State.stepBlock_leads {F : StateField → Bool} [May F .out] [May F .regs] [May F .mem] [May F .bad] [May F .msix] [May F .floors] [May F .health] [May F .mp] {r : State} {s : State} (c) (e) (st) (j) (x5) (h : State.Leads F r s) :
    State.Leads F r (State.stepBlock s c e st j x5).2 := by
  unfold State.stepBlock
  dsimp only
  (repeat' (split <;> (try first | (rename_i heq; have e := congrArg Prod.snd heq; dsimp only at e; subst e) | (rename_i heq _; have e := congrArg Prod.snd heq; dsimp only at e; subst e) | (rename_i heq _ _; have e := congrArg Prod.snd heq; dsimp only at e; subst e)))) <;> simp (maxDischargeDepth := 99) +contextual [h]

@[simp] theorem uqResumeDo_leads {F : StateField → Bool} [May F .regs] {r : State} (n) {s : State} (h : State.Leads F r s) :
    State.Leads F r (uqResumeDo n s) := by
  unfold uqResumeDo
  simp (maxDischargeDepth := 99) +contextual [h]

@[simp] theorem State.uqAdvance_leads {F : StateField → Bool} [May F .regs] {r : State} {s : State} (n) (h : State.Leads F r s) :
    State.Leads F r (State.uqAdvance s n) := by
  unfold State.uqAdvance
  simp (maxDischargeDepth := 99) +contextual [h]

@[simp] theorem State.uqFinish_leads {F : StateField → Bool} [May F .out] [May F .regs] [May F .mem] [May F .bad] [May F .msix] [May F .parts] [May F .slots] [May F .floors] [May F .health] [May F .mp] {r : State} {s : State} (n) (p) (h : State.Leads F r s) :
    State.Leads F r (State.uqFinish s n p) := by
  unfold State.uqFinish
  simp (maxDischargeDepth := 99) +contextual [h]

@[simp] theorem setStepDo_leads {F : StateField → Bool} [May F .free] [May F .out] [May F .regs] [May F .mem] [May F .bad] [May F .msix] [May F .parts] [May F .slots] [May F .floors] [May F .health] [May F .mp] {r : State} (n) {s : State} (h : State.Leads F r s) :
    State.Leads F r (setStepDo n s) := by
  unfold setStepDo
  simp (maxDischargeDepth := 99) +contextual [h]

@[simp] theorem State.stepChecks_leads {F : StateField → Bool} [May F .out] [May F .regs] [May F .bad] [May F .msix] [May F .floors] [May F .health] [May F .mp] {r : State} {s : State} (n) (o) (bad) (h : State.Leads F r s) :
    State.Leads F r (State.stepChecks s n o bad).2 := by
  unfold State.stepChecks
  dsimp only
  (repeat' (split <;> (try first | (rename_i heq; have e := congrArg Prod.snd heq; dsimp only at e; subst e) | (rename_i heq _; have e := congrArg Prod.snd heq; dsimp only at e; subst e) | (rename_i heq _ _; have e := congrArg Prod.snd heq; dsimp only at e; subst e)))) <;> simp (maxDischargeDepth := 99) +contextual [h]

@[simp] theorem State.showFuu_leads {F : StateField → Bool} [May F .regs] {r : State} {s : State} (n) (busy) (sts) (h : State.Leads F r s) :
    State.Leads F r (State.showFuu s n busy sts) := by
  unfold State.showFuu
  simp (maxDischargeDepth := 99) +contextual [h]

theorem State.stepSeg_leads {F : StateField → Bool} [May F .out] [May F .regs] [May F .mem] [May F .bad] [May F .msix] [May F .floors] [May F .health] [May F .mp] {r : State} (c e) (acc : StepRun × State) (h : State.Leads F r acc.2) :
    State.Leads F r (State.stepSeg c e acc).2 := by
  unfold State.stepSeg
  split
  · exact h
  · exact State.leads_foldl_snd h fun t a ht => State.stepBlock_leads _ _ _ _ _ ht
theorem stepGo_leads {F : StateField → Bool} [May F .out] [May F .regs] [May F .mem] [May F .bad] [May F .msix] [May F .parts] [May F .floors] [May F .health] [May F .mp] {r : State} (n a o used) (p : Except (Nat × Flags) (StepCtx × Gather × List (List Byte)) × State)
    (h : State.Leads F r p.2) : State.Leads F r (stepGo n a o used p) := by
  unfold stepGo
  split
  · exact State.modPart_leads _ _ h
  · refine State.modPart_leads _ _ ?_
    refine State.leads_foldl_snd ?_ ?_
    · exact State.leads_foldl (State.showFuu_leads _ _ _ h) fun t e ht => State.accrue_leads _ _ _ ht
    · intro t e ht; exact State.stepSeg_leads _ _ _ ht
@[simp] theorem stepDo_leads {F : StateField → Bool} [May F .out] [May F .regs] [May F .mem] [May F .bad] [May F .msix] [May F .parts] [May F .floors] [May F .health] [May F .mp] {r : State} (n bad) {s : State} (h : State.Leads F r s) :
    State.Leads F r (stepDo n bad s) := by
  unfold stepDo
  exact stepGo_leads _ _ _ _ _ (State.stepChecks_leads _ _ _ (State.setRegF_leads _ _ _ _ h))

@[simp] theorem stepEndDo_leads {F : StateField → Bool} [May F .out] [May F .regs] [May F .mem] [May F .bad] [May F .msix] [May F .parts] [May F .slots] [May F .floors] [May F .health] [May F .mp] {r : State} (n) (p) {s : State} (h : State.Leads F r s) :
    State.Leads F r (stepEndDo n p s) := by
  unfold stepEndDo
  simp (maxDischargeDepth := 99) +contextual [h]

theorem execUqDoorbell_leads {F : StateField → Bool} [May F .out] [May F .regs] (n) (tail) {s : State} : State.LeadsOut F s (execUqDoorbell n tail s) := by
  simp (maxDischargeDepth := 99) [execUqDoorbell]

theorem execUqResume_leads {F : StateField → Bool} [May F .out] [May F .regs] (n) {s : State} : State.LeadsOut F s (execUqResume n s) := by
  simp (maxDischargeDepth := 99) [execUqResume]

theorem execSetStep_leads {F : StateField → Bool} [May F .free] [May F .out] [May F .regs] [May F .mem] [May F .bad] [May F .msix] [May F .parts] [May F .slots] [May F .floors] [May F .health] [May F .mp] (n) {s : State} : State.LeadsOut F s (execSetStep n s) := by
  simp (maxDischargeDepth := 99) [execSetStep]

theorem execFuuStep_leads {F : StateField → Bool} [May F .out] [May F .regs] [May F .mem] [May F .bad] [May F .msix] [May F .parts] [May F .floors] [May F .health] [May F .mp] (n) (ue) {s : State} : State.LeadsOut F s (execFuuStep n ue s) := by
  simp (maxDischargeDepth := 99) [execFuuStep]

theorem execStepEnd_leads {F : StateField → Bool} [May F .out] [May F .regs] [May F .mem] [May F .bad] [May F .msix] [May F .parts] [May F .slots] [May F .floors] [May F .health] [May F .mp] (n) {s : State} : State.LeadsOut F s (execStepEnd n s) := by
  unfold execStepEnd
  refine State.leadsOut_act ?_
  (repeat' split) <;> simp (maxDischargeDepth := 99) +contextual

/-! ### Generation -/

@[simp] theorem State.setEntRefs_leads {F : StateField → Bool} [May F .out] [May F .regs] [May F .mem] [May F .bad] [May F .msix] [May F .floors] [May F .health] [May F .mp] {r : State} {s : State} (n) (a) (x) (h : State.Leads F r s) :
    State.Leads F r (State.setEntRefs s n a x) := by
  unfold State.setEntRefs
  simp (maxDischargeDepth := 99) +contextual [h]

@[simp] theorem State.useEntry_leads {F : StateField → Bool} [May F .out] [May F .regs] [May F .mem] [May F .bad] [May F .msix] [May F .floors] [May F .health] [May F .mp] {r : State} {s : State} (n) (a) (h : State.Leads F r s) :
    State.Leads F r (State.useEntry s n a) := by
  unfold State.useEntry
  simp (maxDischargeDepth := 99) +contextual [h]

@[simp] theorem State.takeLoadSeq_leads {F : StateField → Bool} [May F .out] [May F .regs] [May F .mem] [May F .bad] [May F .msix] [May F .parts] [May F .floors] [May F .health] [May F .mp] {r : State} {s : State} (n) (a) (h : State.Leads F r s) :
    State.Leads F r (State.takeLoadSeq s n a) := by
  unfold State.takeLoadSeq
  simp (maxDischargeDepth := 99) +contextual [h]

@[simp] theorem State.rqFinish_leads {F : StateField → Bool} [May F .free] [May F .out] [May F .regs] [May F .mem] [May F .bad] [May F .msix] [May F .parts] [May F .slots] [May F .floors] [May F .health] [May F .mp] {r : State} {s : State} (n) (a) (signal) (x4) (h : State.Leads F r s) :
    State.Leads F r (State.rqFinish s n a signal x4) := by
  unfold State.rqFinish
  split <;> simp (maxDischargeDepth := 99) +contextual [h]

@[simp] theorem State.rqAdvance_leads {F : StateField → Bool} [May F .regs] {r : State} {s : State} (n) (h : State.Leads F r s) :
    State.Leads F r (State.rqAdvance s n) := by
  unfold State.rqAdvance
  simp (maxDischargeDepth := 99) +contextual [h]

@[simp] theorem State.setRecBits_leads {F : StateField → Bool} [May F .out] [May F .regs] [May F .mem] [May F .bad] [May F .msix] [May F .floors] [May F .health] [May F .mp] {r : State} {s : State} (n) (a) (hi) (lo) (x) (h : State.Leads F r s) :
    State.Leads F r (State.setRecBits s n a hi lo x) := by
  unfold State.setRecBits
  simp (maxDischargeDepth := 99) +contextual [h]

@[simp] theorem State.markLost_leads {F : StateField → Bool} [May F .out] [May F .regs] [May F .mem] [May F .bad] [May F .msix] [May F .parts] [May F .floors] [May F .health] [May F .mp] {r : State} {s : State} (n) (h : State.Leads F r s) :
    State.Leads F r (State.markLost s n) := by
  unfold State.markLost
  simp (maxDischargeDepth := 99) +contextual [h]

@[simp] theorem State.rqOp_leads {F : StateField → Bool} [May F .free] [May F .out] [May F .regs] [May F .mem] [May F .bad] [May F .msix] [May F .parts] [May F .slots] [May F .floors] [May F .health] [May F .mp] {r : State} {s : State} (n f) (h : State.Leads F r s)
    (hf : ∀ o t, State.Leads F r t → State.Leads F r (f o t).2) : State.Leads F r (State.rqOp s n f) := by
  unfold State.rqOp
  have k := State.markLost_leads n h
  refine State.leads_ite (State.rqFinish_leads _ _ _ _ (State.rqAdvance_leads _ k)) ?_
  have q := hf (s.peek n (rqSlot s n) 32) _ k
  split
  · rename_i heq; rw [heq] at q; exact State.rqFinish_leads _ _ _ _ (State.rqAdvance_leads _ q)
  · rename_i heq; rw [heq] at q; exact State.modPart_leads _ _ (State.rqAdvance_leads _ q)

@[simp] theorem growOp_leads {F : StateField → Bool} [May F .out] [May F .regs] [May F .mem] [May F .bad] [May F .msix] [May F .floors] [May F .health] [May F .mp] {r : State} (n) (o) {s : State} (h : State.Leads F r s) :
    State.Leads F r (growOp n o s).2 := by
  unfold growOp
  dsimp only
  repeat' (first | exact h | refine State.leads_ite_snd ?_ ?_ | split)
  all_goals simp (maxDischargeDepth := 99) +contextual [h]

@[simp] theorem State.takeAdapter_leads {F : StateField → Bool} [May F .out] [May F .regs] [May F .mem] [May F .bad] [May F .msix] [May F .parts] [May F .floors] [May F .health] [May F .mp] {r : State} {s : State} (n) (p) (h : State.Leads F r s) :
    State.Leads F r (State.takeAdapter s n p) := by
  unfold State.takeAdapter
  (repeat' split) <;> simp (maxDischargeDepth := 99) +contextual [h]

@[simp] theorem State.openRecord_leads {F : StateField → Bool} [May F .out] [May F .regs] [May F .mem] [May F .bad] [May F .msix] [May F .parts] [May F .floors] [May F .health] [May F .mp] {r : State} {s : State} (n) (a) (ver) (hit) (h : State.Leads F r s) :
    State.Leads F r (State.openRecord s n a ver hit) := by
  unfold State.openRecord
  (repeat' split) <;> simp (maxDischargeDepth := 99) +contextual [h]

@[simp] theorem openOp_leads {F : StateField → Bool} [May F .out] [May F .regs] [May F .mem] [May F .bad] [May F .msix] [May F .parts] [May F .floors] [May F .health] [May F .mp] {r : State} (n) (o) {s : State} (h : State.Leads F r s) :
    State.Leads F r (openOp n o s).2 := by
  unfold openOp
  have k := fun p a ver hit => State.openRecord_leads n a ver hit (State.takeAdapter_leads n p h)
  dsimp only
  refine State.leads_ite_snd h (State.leads_ite_snd h ?_)
  split
  · exact h
  · exact h
  · refine State.leads_ite_snd h (State.leads_ite_snd h ?_)
    split <;> exact k _ _ _ _

@[simp] theorem State.copyLanded_leads {F : StateField → Bool} [May F .free] [May F .out] [May F .regs] [May F .mem] [May F .bad] [May F .msix] [May F .parts] [May F .slots] [May F .floors] [May F .health] [May F .mp] {r : State} {s : State} (n save put) (h : State.Leads F r s)
    (hf : ∀ c t, State.Leads F r t → State.Leads F r (put c t)) : State.Leads F r (State.copyLanded s n save put) := by
  unfold State.copyLanded
  split
  · exact h
  · exact State.leads_ite h (State.rqFinish_leads _ _ _ _ (State.modPart_leads _ _ (hf _ _ h)))

@[simp] theorem adapterLands_leads {F : StateField → Bool} [May F .out] [May F .regs] [May F .mem] [May F .bad] [May F .msix] [May F .floors] [May F .health] [May F .mp] {r : State} (n) (c) {s : State} (h : State.Leads F r s) :
    State.Leads F r (adapterLands n c s) := by
  unfold adapterLands
  simp (maxDischargeDepth := 99) +contextual [h]

@[simp] theorem State.setCountWord_leads {F : StateField → Bool} [May F .out] [May F .regs] [May F .mem] [May F .bad] [May F .msix] [May F .floors] [May F .health] [May F .mp] {r : State} {s : State} (n) (a) (i) (x) (h : State.Leads F r s) :
    State.Leads F r (State.setCountWord s n a i x) := by
  unfold State.setCountWord
  simp (maxDischargeDepth := 99) +contextual [h]

@[simp] theorem State.countToken_leads {F : StateField → Bool} [May F .out] [May F .regs] [May F .mem] [May F .bad] [May F .msix] [May F .floors] [May F .health] [May F .mp] {r : State} {s : State} (n) (a) (t) (h : State.Leads F r s) :
    State.Leads F r (State.countToken s n a t) := by
  unfold State.countToken
  dsimp only
  (repeat' (split <;> (try first | (rename_i heq; have e := congrArg Prod.snd heq; dsimp only at e; subst e) | (rename_i heq _; have e := congrArg Prod.snd heq; dsimp only at e; subst e) | (rename_i heq _ _; have e := congrArg Prod.snd heq; dsimp only at e; subst e)))) <;> simp (maxDischargeDepth := 99) +contextual [h]

@[simp] theorem State.commitEntry_leads {F : StateField → Bool} [May F .out] [May F .regs] [May F .mem] [May F .bad] [May F .msix] [May F .floors] [May F .health] [May F .mp] {r : State} {s : State} (n e) (h : State.Leads F r s) :
    State.Leads F r (State.commitEntry s n e) := by
  unfold State.commitEntry
  have k1 := fun a w => State.poke32_leads n a w (State.poke32_leads n (recAddr s n (bitsOf (w32At e 0) 15 0) + 0x48)
    (s.peek32 n (recAddr s n (bitsOf (w32At e 0) 15 0) + 0x48) + w32At e 4) h)
  extract_lets w a deadline late s1 s2 s3 s4 s5 s6 s7
  have k2 : State.Leads F r s2 := k1 _ _
  have k3 : State.Leads F r s3 := State.leads_ite k2 (State.leads_foldl k2 fun t x ht => State.countToken_leads _ _ _ ht)
  have k4 : State.Leads F r s4 := State.leads_ite (State.setRecBits_leads _ _ _ _ _ k3) k3
  have k5 : State.Leads F r s5 := State.leads_ite (State.setRecBits_leads _ _ _ _ _ k4) k4
  have k6 : State.Leads F r s6 := State.leads_ite (State.setRecBits_leads _ _ _ _ _ k5)
    (State.leads_ite (State.setRecBits_leads _ _ _ _ _ k5) k5)
  have k7 : State.Leads F r s7 := by
    show State.Leads F r (match findAdapter s6 n (bitsOf (s6.peek32 n (a + 8)) 31 16) with
      | some x => if bitsOf (s6.peek32 n (a + 8)) 31 16 = 0 then s6 else s6.useEntry n x | none => s6)
    split
    · exact State.leads_ite k6 (State.useEntry_leads _ _ k6)
    · exact k6
  exact State.leads_ite (State.moraine_leads _ _ _ k7) k7

@[simp] theorem State.commitAll_leads {F : StateField → Bool} [May F .out] [May F .regs] [May F .mem] [May F .bad] [May F .msix] [May F .floors] [May F .health] [May F .mp] {r : State} {s : State} (n es out) (h : State.Leads F r s) :
    State.Leads F r (State.commitAll s n es out).2 := by
  induction es generalizing s out with
  | nil => exact h
  | cons e es ih =>
    unfold State.commitAll
    split
    · exact ih _ (State.commitEntry_leads _ _ h)
    · exact ih _ h

@[simp] theorem commitOp_leads {F : StateField → Bool} [May F .out] [May F .regs] [May F .mem] [May F .bad] [May F .msix] [May F .floors] [May F .health] [May F .mp] {r : State} (n o) {s : State} (h : State.Leads F r s) :
    State.Leads F r (commitOp n o s).2 := by
  unfold commitOp
  have q := State.readPda_leads n (rqArg o) (48 * rqIdx o) h
  split
  · rename_i heq; rw [heq] at q; exact State.commitAll_leads _ _ _ q
  · rename_i heq; rw [heq] at q; exact q

@[simp] theorem State.dropPrefix_leads {F : StateField → Bool} [May F .out] [May F .regs] [May F .mem] [May F .bad] [May F .msix] [May F .floors] [May F .health] [May F .mp] {r : State} {s : State} (n) (a) (h : State.Leads F r s) :
    State.Leads F r (State.dropPrefix s n a) := by
  unfold State.dropPrefix
  simp (maxDischargeDepth := 99) +contextual [h]

@[simp] theorem State.roomFor_leads {F : StateField → Bool} [May F .out] [May F .regs] [May F .mem] [May F .bad] [May F .msix] [May F .floors] [May F .health] [May F .mp] {r : State} {s : State} (n count f) (h : State.Leads F r s) :
    State.Leads F r (State.roomFor s n count f).2 := by
  induction f generalizing s with
  | zero => exact h
  | succ f ih =>
    unfold State.roomFor
    dsimp only
    split
    · exact h
    · split
      · exact h
      · exact ih (State.dropPrefix_leads _ _ h)

@[simp] theorem State.writePrefix_leads {F : StateField → Bool} [May F .out] [May F .regs] [May F .mem] [May F .bad] [May F .msix] [May F .parts] [May F .floors] [May F .health] [May F .mp] {r : State} {s : State} (n) (a) (e) (handle) (k) (first) (h : State.Leads F r s) :
    State.Leads F r (State.writePrefix s n a e handle k first) := by
  unfold State.writePrefix
  simp (maxDischargeDepth := 99) +contextual [h]

@[simp] theorem State.savePrefix_leads {F : StateField → Bool} [May F .out] [May F .regs] [May F .mem] [May F .bad] [May F .msix] [May F .parts] [May F .floors] [May F .health] [May F .mp] {r : State} {s : State} (n a o) (h : State.Leads F r s) :
    State.Leads F r (State.savePrefix s n a o).2 := by
  unfold State.savePrefix
  dsimp only
  refine State.leads_ite_snd h (State.leads_ite_snd h (State.leads_ite_snd h ?_))
  generalize findPrefix s n (rqArg o) (s.peek32 n (a + 8) % 16) = old
  cases old with
  | none =>
    dsimp only
    generalize hq : State.roomFor s n _ _ = p
    have q : State.Leads F r p.2 := by rw [← hq]; exact State.roomFor_leads _ _ _ h
    split
    · exact q
    · exact State.writePrefix_leads _ _ _ _ _ _ q
  | some e =>
    dsimp only
    generalize hq : State.roomFor (s.dropPrefix n e) n _ _ = p
    have q : State.Leads F r p.2 := by rw [← hq]; exact State.roomFor_leads _ _ _ (State.dropPrefix_leads _ _ h)
    split
    · exact q
    · exact State.writePrefix_leads _ _ _ _ _ _ q

@[simp] theorem State.retireRecord_leads {F : StateField → Bool} [May F .out] [May F .regs] [May F .mem] [May F .bad] [May F .msix] [May F .parts] [May F .slots] [May F .floors] [May F .health] [May F .mp] {r : State} {s : State} (n) (a) (h : State.Leads F r s) :
    State.Leads F r (State.retireRecord s n a) := by
  unfold State.retireRecord
  dsimp only
  (repeat' (split <;> (try first | (rename_i heq; have e := congrArg Prod.snd heq; dsimp only at e; subst e) | (rename_i heq _; have e := congrArg Prod.snd heq; dsimp only at e; subst e) | (rename_i heq _ _; have e := congrArg Prod.snd heq; dsimp only at e; subst e)))) <;> simp (maxDischargeDepth := 99) +contextual [h]

@[simp] theorem retireOp_leads {F : StateField → Bool} [May F .out] [May F .regs] [May F .mem] [May F .bad] [May F .msix] [May F .parts] [May F .slots] [May F .floors] [May F .health] [May F .mp] {r : State} (n) (o) {s : State} (h : State.Leads F r s) :
    State.Leads F r (retireOp n o s).2 := by
  unfold retireOp
  simp (maxDischargeDepth := 99) +contextual [h]

@[simp] theorem prefixLands_leads {F : StateField → Bool} [May F .out] [May F .regs] [May F .mem] [May F .bad] [May F .msix] [May F .floors] [May F .health] [May F .mp] {r : State} (n) (c) {s : State} (h : State.Leads F r s) :
    State.Leads F r (prefixLands n c s) := by
  unfold prefixLands
  simp (maxDischargeDepth := 99) +contextual [h]

@[simp] theorem prefixDropOp_leads {F : StateField → Bool} [May F .out] [May F .regs] [May F .mem] [May F .bad] [May F .msix] [May F .floors] [May F .health] [May F .mp] {r : State} (n) (o) {s : State} (h : State.Leads F r s) :
    State.Leads F r (prefixDropOp n o s).2 := by
  unfold prefixDropOp
  simp (maxDischargeDepth := 99) +contextual [h]

@[simp] theorem recountOp_leads {F : StateField → Bool} [May F .out] [May F .regs] [May F .mem] [May F .bad] [May F .msix] [May F .floors] [May F .health] [May F .mp] {r : State} (n) (o) {s : State} (h : State.Leads F r s) :
    State.Leads F r (recountOp n o s).2 := by
  unfold recountOp
  simp (maxDischargeDepth := 99) +contextual [h]

@[simp] theorem State.rcStart_leads {F : StateField → Bool} [May F .vales] [May F .parts] {r : State} {s : State} (n) (h : State.Leads F r s) :
    State.Leads F r (State.rcStart s n) := by
  unfold State.rcStart
  simp (maxDischargeDepth := 99) +contextual [h]

@[simp] theorem rcEnableDo_leads {F : StateField → Bool} [May F .regs] [May F .vales] [May F .parts] {r : State} (n) {s : State} (h : State.Leads F r s) :
    State.Leads F r (rcEnableDo n s) := by
  unfold rcEnableDo
  simp (maxDischargeDepth := 99) +contextual [h]

@[simp] theorem rcEvaluateDo_leads {F : StateField → Bool} [May F .parts] {r : State} (n) {s : State} (h : State.Leads F r s) :
    State.Leads F r (rcEvaluateDo n s) := by
  unfold rcEvaluateDo
  simp (maxDischargeDepth := 99) +contextual [h]

@[simp] theorem rcMoveDo_leads {F : StateField → Bool} [May F .regs] [May F .vales] [May F .parts] [May F .mp] {r : State} (n) (m) {s : State} (h : State.Leads F r s) :
    State.Leads F r (rcMoveDo n m s) := by
  unfold rcMoveDo
  simp (maxDischargeDepth := 99) +contextual [h]

theorem execRqDoorbell_leads {F : StateField → Bool} [May F .out] [May F .regs] (n) (tail) {s : State} : State.LeadsOut F s (execRqDoorbell n tail s) := by
  simp (maxDischargeDepth := 99) [execRqDoorbell]

theorem execGrow_leads {F : StateField → Bool} [May F .free] [May F .out] [May F .regs] [May F .mem] [May F .bad] [May F .msix] [May F .parts] [May F .slots] [May F .floors] [May F .health] [May F .mp] (n) {s : State} : State.LeadsOut F s (execGrow n s) := by
  unfold execGrow
  simp (maxDischargeDepth := 99) +contextual

theorem execReqOpen_leads {F : StateField → Bool} [May F .free] [May F .out] [May F .regs] [May F .mem] [May F .bad] [May F .msix] [May F .parts] [May F .slots] [May F .floors] [May F .health] [May F .mp] (n) {s : State} : State.LeadsOut F s (execReqOpen n s) := by
  unfold execReqOpen
  simp (maxDischargeDepth := 99) +contextual

theorem execAdapterCopyLanded_leads {F : StateField → Bool} [May F .free] [May F .out] [May F .regs] [May F .mem] [May F .bad] [May F .msix] [May F .parts] [May F .slots] [May F .floors] [May F .health] [May F .mp] (n) {s : State} : State.LeadsOut F s (execAdapterCopyLanded n s) := by
  unfold execAdapterCopyLanded
  exact State.leadsOut_act (State.copyLanded_leads _ _ _ (State.Leads.refl F s) fun c t ht => adapterLands_leads _ _ ht)

theorem execCommit_leads {F : StateField → Bool} [May F .free] [May F .out] [May F .regs] [May F .mem] [May F .bad] [May F .msix] [May F .parts] [May F .slots] [May F .floors] [May F .health] [May F .mp] (n) {s : State} : State.LeadsOut F s (execCommit n s) := by
  unfold execCommit
  simp (maxDischargeDepth := 99) +contextual

theorem execRetire_leads {F : StateField → Bool} [May F .free] [May F .out] [May F .regs] [May F .mem] [May F .bad] [May F .msix] [May F .parts] [May F .slots] [May F .floors] [May F .health] [May F .mp] (n) {s : State} : State.LeadsOut F s (execRetire n s) := by
  unfold execRetire
  simp (maxDischargeDepth := 99) +contextual

theorem execPrefixSaveLanded_leads {F : StateField → Bool} [May F .free] [May F .out] [May F .regs] [May F .mem] [May F .bad] [May F .msix] [May F .parts] [May F .slots] [May F .floors] [May F .health] [May F .mp] (n) {s : State} : State.LeadsOut F s (execPrefixSaveLanded n s) := by
  unfold execPrefixSaveLanded
  exact State.leadsOut_act (State.copyLanded_leads _ _ _ (State.Leads.refl F s) fun c t ht => prefixLands_leads _ _ ht)

theorem execPrefixDrop_leads {F : StateField → Bool} [May F .free] [May F .out] [May F .regs] [May F .mem] [May F .bad] [May F .msix] [May F .parts] [May F .slots] [May F .floors] [May F .health] [May F .mp] (n) {s : State} : State.LeadsOut F s (execPrefixDrop n s) := by
  unfold execPrefixDrop
  simp (maxDischargeDepth := 99) +contextual

theorem execRecount_leads {F : StateField → Bool} [May F .free] [May F .out] [May F .regs] [May F .mem] [May F .bad] [May F .msix] [May F .parts] [May F .slots] [May F .floors] [May F .health] [May F .mp] (n) {s : State} : State.LeadsOut F s (execRecount n s) := by
  unfold execRecount
  simp (maxDischargeDepth := 99) +contextual

theorem execRcEnable_leads {F : StateField → Bool} [May F .out] [May F .regs] [May F .vales] [May F .parts] (n) {s : State} : State.LeadsOut F s (execRcEnable n s) := by
  simp (maxDischargeDepth := 99) [execRcEnable]

theorem execRcEvaluate_leads {F : StateField → Bool} [May F .parts] (n) {s : State} : State.LeadsOut F s (execRcEvaluate n s) := by
  simp (maxDischargeDepth := 99) [execRcEvaluate]

theorem execRcMoveApply_leads {F : StateField → Bool} [May F .regs] [May F .vales] [May F .parts] [May F .mp] (n) {s : State} : State.LeadsOut F s (execRcMoveApply n s) := by
  unfold execRcMoveApply
  refine State.leadsOut_act ?_
  (repeat' split) <;> simp (maxDischargeDepth := 99) +contextual

/-! ### Residency -/

@[simp] theorem State.modGrant_leads {F : StateField → Bool} [May F .grants] {r : State} {s : State} (p) (f) (h : State.Leads F r s) :
    State.Leads F r (State.modGrant s p f) := by
  unfold State.modGrant
  simp (maxDischargeDepth := 99) +contextual [h]

@[simp] theorem State.grantDone_leads {F : StateField → Bool} [May F .out] [May F .regs] [May F .msix] [May F .grantOp] {r : State} {s : State} (err) (h : State.Leads F r s) :
    State.Leads F r (State.grantDone s err) := by
  unfold State.grantDone
  simp (maxDischargeDepth := 99) +contextual [h]

@[simp] theorem grantDo_leads {F : StateField → Bool} [May F .out] [May F .regs] [May F .msix] [May F .grants] [May F .grantOp] {r : State} (n) (write) (count) {s : State} (h : State.Leads F r s) :
    State.Leads F r (grantDo n write count s) := by
  unfold grantDo
  simp (maxDischargeDepth := 99) +contextual [h]

@[simp] theorem withdrawDo_leads {F : StateField → Bool} [May F .out] [May F .regs] [May F .msix] [May F .grantOp] {r : State} (n) (count) {s : State} (h : State.Leads F r s) :
    State.Leads F r (withdrawDo n count s) := by
  unfold withdrawDo
  simp (maxDischargeDepth := 99) +contextual [h]

@[simp] theorem withdrawEndDo_leads {F : StateField → Bool} [May F .out] [May F .regs] [May F .msix] [May F .grants] [May F .grantOp] {r : State} (o) {s : State} (h : State.Leads F r s) :
    State.Leads F r (withdrawEndDo o s) := by
  unfold withdrawEndDo
  simp (maxDischargeDepth := 99) +contextual [h]

@[simp] theorem tlbInvDo_leads {F : StateField → Bool} [May F .parts] {r : State} (n) (hi) {s : State} (h : State.Leads F r s) :
    State.Leads F r (tlbInvDo n hi s) := by
  unfold tlbInvDo
  simp (maxDischargeDepth := 99) +contextual [h]

@[simp] theorem scrubDo_leads {F : StateField → Bool} [May F .out] [May F .regs] [May F .bad] [May F .msix] [May F .floors] [May F .health] [May F .mp] {r : State} (st) (x1) {s : State} (h : State.Leads F r s) :
    State.Leads F r (scrubDo st x1 s) := by
  unfold scrubDo
  split <;> simp (maxDischargeDepth := 99) +contextual [h]

@[simp] theorem State.resEnd_leads {F : StateField → Bool} [May F .regs] [May F .parts] [May F .slots] {r : State} {s : State} (n) (status) (signal) (h : State.Leads F r s) :
    State.Leads F r (State.resEnd s n status signal) := by
  unfold State.resEnd
  simp (maxDischargeDepth := 99) +contextual [h]

@[simp] theorem resRun_leads {F : StateField → Bool} [May F .regs] [May F .parts] [May F .slots] {r : State} (n i signal f) {s : State} (h : State.Leads F r s)
    (hf : ∀ a t, State.Leads F r t → State.Leads F r (f a t).2) : State.Leads F r (resRun n i signal f s) := by
  unfold resRun
  refine State.leads_ite (State.resEnd_leads _ _ _ h) (State.leads_ite (State.resEnd_leads _ _ _ h)
    (State.leads_ite (State.resEnd_leads _ _ _ h) ?_))
  have q := hf (resAddr s n.val i) s h
  split
  · rename_i heq; rw [heq] at q; exact State.resEnd_leads _ _ _ q
  · rename_i heq; rw [heq] at q; exact q

@[simp] theorem resWrite_leads {F : StateField → Bool} [May F .regs] [May F .parts] [May F .slots] [May F .terrace] {r : State} (n op i signal f) {s : State} (h : State.Leads F r s)
    (hf : ∀ a t, State.Leads F r t → State.Leads F r (f a t).2) : State.Leads F r (resWrite n op i signal f s) := by
  unfold resWrite
  exact State.leads_ite h (State.leads_ite (State.leads_terrace (State.modPart_leads _ _ h) _) (resRun_leads _ _ _ _ h hf))

@[simp] theorem State.setResBit_leads {F : StateField → Bool} [May F .out] [May F .regs] [May F .mem] [May F .bad] [May F .msix] [May F .floors] [May F .health] [May F .mp] {r : State} {s : State} (n) (a) (i) (v) (h : State.Leads F r s) :
    State.Leads F r (State.setResBit s n a i v) := by
  unfold State.setResBit
  simp (maxDischargeDepth := 99) +contextual [h]

@[simp] theorem holdOp_leads {F : StateField → Bool} [May F .out] [May F .regs] [May F .mem] [May F .bad] [May F .msix] [May F .floors] [May F .health] [May F .mp] {r : State} (n) (a) {s : State} (h : State.Leads F r s) :
    State.Leads F r (holdOp n a s).2 := by
  unfold holdOp
  simp (maxDischargeDepth := 99) +contextual [h]

@[simp] theorem releaseOp_leads {F : StateField → Bool} [May F .out] [May F .regs] [May F .mem] [May F .bad] [May F .msix] [May F .floors] [May F .health] [May F .mp] {r : State} (n) (a) {s : State} (h : State.Leads F r s) :
    State.Leads F r (releaseOp n a s).2 := by
  unfold releaseOp
  simp (maxDischargeDepth := 99) +contextual [h]

@[simp] theorem evictOp_leads {F : StateField → Bool} [May F .out] [May F .regs] [May F .mem] [May F .bad] [May F .msix] [May F .floors] [May F .health] [May F .mp] {r : State} (n) (a) {s : State} (h : State.Leads F r s) :
    State.Leads F r (evictOp n a s).2 := by
  unfold evictOp
  simp (maxDischargeDepth := 99) +contextual [h]

@[simp] theorem State.resRoom_leads {F : StateField → Bool} [May F .out] [May F .regs] [May F .mem] [May F .bad] [May F .msix] [May F .floors] [May F .health] [May F .mp] {r : State} {s : State} (n count f) (h : State.Leads F r s) :
    State.Leads F r (State.resRoom s n count f).2 := by
  induction f generalizing s with
  | zero => exact h
  | succ f ih =>
    unfold State.resRoom
    dsimp only
    split
    · exact h
    · split
      · exact h
      · exact ih (State.setResBit_leads _ _ _ _ h)

@[simp] theorem State.loadLayouts_leads {F : StateField → Bool} [May F .out] [May F .regs] [May F .bad] [May F .msix] [May F .floors] [May F .health] [May F .mp] {r : State} {s : State} (n) (a) (h : State.Leads F r s) :
    State.Leads F r (State.loadLayouts s n a).2 := by
  unfold State.loadLayouts
  (repeat' (split <;> (try first | (rename_i heq; have e := congrArg Prod.snd heq; dsimp only at e; subst e) | (rename_i heq _; have e := congrArg Prod.snd heq; dsimp only at e; subst e) | (rename_i heq _ _; have e := congrArg Prod.snd heq; dsimp only at e; subst e)))) <;> simp (maxDischargeDepth := 99) +contextual [h]

@[simp] theorem loadOp_leads {F : StateField → Bool} [May F .out] [May F .regs] [May F .mem] [May F .bad] [May F .msix] [May F .parts] [May F .floors] [May F .health] [May F .mp] {r : State} (n) (i) (signal) (a) {s : State} (h : State.Leads F r s) :
    State.Leads F r (loadOp n i signal a s).2 := by
  unfold loadOp
  (repeat' (split <;> (try first | (rename_i heq; have e := congrArg Prod.snd heq; dsimp only at e; subst e) | (rename_i heq _; have e := congrArg Prod.snd heq; dsimp only at e; subst e) | (rename_i heq _ _; have e := congrArg Prod.snd heq; dsimp only at e; subst e)))) <;> simp (maxDischargeDepth := 99) +contextual [h]

@[simp] theorem resDeferred_leads {F : StateField → Bool} [May F .out] [May F .regs] [May F .mem] [May F .bad] [May F .msix] [May F .parts] [May F .slots] [May F .floors] [May F .health] [May F .mp] {r : State} (n op i signal) {s : State} (h : State.Leads F r s) :
    State.Leads F r (resDeferred n op i signal s) := by
  unfold resDeferred
  refine resRun_leads _ _ _ _ (State.modPart_leads _ _ h) ?_
  intro a t ht
  split
  · exact loadOp_leads _ _ _ _ ht
  · exact evictOp_leads _ _ ht
  · exact holdOp_leads _ _ ht
  · exact releaseOp_leads _ _ ht

@[simp] theorem State.readBacking_leads {F : StateField → Bool} [May F .out] [May F .regs] [May F .bad] [May F .msix] [May F .floors] [May F .health] [May F .mp] {r : State} {s : State} (n) (base) (se) (q) (src) (h : State.Leads F r s) :
    State.Leads F r (State.readBacking s n base se q src).2 := by
  unfold State.readBacking
  dsimp only
  (repeat' (split <;> (try first | (rename_i heq; have e := congrArg Prod.snd heq; dsimp only at e; subst e) | (rename_i heq _; have e := congrArg Prod.snd heq; dsimp only at e; subst e) | (rename_i heq _ _; have e := congrArg Prod.snd heq; dsimp only at e; subst e)))) <;> simp (maxDischargeDepth := 99) +contextual [h]

@[simp] theorem State.backingCover_leads {F : StateField → Bool} [May F .out] [May F .regs] [May F .bad] [May F .msix] [May F .floors] [May F .health] [May F .mp] {r : State} {s : State} (n base se de x src) (h : State.Leads F r s) :
    State.Leads F r (State.backingCover s n base se de x src).2 := by
  unfold State.backingCover
  refine State.leads_foldl_snd h ?_
  intro t a ht
  split
  · have q := State.readBacking_leads n base se a src ht
    split
    · rename_i heq; rw [heq] at q; exact q
    · rename_i heq; rw [heq] at q; exact q
  · exact ht

@[simp] theorem State.landLoad_leads {F : StateField → Bool} [May F .out] [May F .regs] [May F .mem] [May F .bad] [May F .msix] [May F .floors] [May F .health] [May F .mp] {r : State} {s : State} (n) (base) (list) (j) (i) (k) (x7) (src) (h : State.Leads F r s) :
    State.Leads F r (State.landLoad s n base list j i k x7 src).2 := by
  unfold State.landLoad
  dsimp only
  (repeat' (split <;> (try first | (rename_i heq; have e := congrArg Prod.snd heq; dsimp only at e; subst e) | (rename_i heq _; have e := congrArg Prod.snd heq; dsimp only at e; subst e) | (rename_i heq _ _; have e := congrArg Prod.snd heq; dsimp only at e; subst e)))) <;> simp (maxDischargeDepth := 99) +contextual [h]

@[simp] theorem State.loadBlocks_leads {F : StateField → Bool} [May F .out] [May F .regs] [May F .mem] [May F .bad] [May F .msix] [May F .floors] [May F .health] [May F .mp] {r : State} {s : State} (n base list j src) (h : State.Leads F r s) :
    State.Leads F r (State.loadBlocks s n base list j src).2 := by
  unfold State.loadBlocks
  refine State.leads_foldl_snd h ?_
  intro t a ht
  split
  · exact State.landLoad_leads _ _ _ _ _ _ _ _ ht
  · exact ht

@[simp] theorem State.loadOk_leads {F : StateField → Bool} [May F .out] [May F .regs] [May F .mem] [May F .bad] [May F .msix] [May F .parts] [May F .floors] [May F .health] [May F .mp] {r : State} {s : State} (n) (a) (h : State.Leads F r s) :
    State.Leads F r (State.loadOk s n a) := by
  unfold State.loadOk
  simp (maxDischargeDepth := 99) +contextual [h]

@[simp] theorem loadEndDo_leads {F : StateField → Bool} [May F .out] [May F .regs] [May F .mem] [May F .bad] [May F .msix] [May F .parts] [May F .slots] [May F .floors] [May F .health] [May F .mp] {r : State} (n) (o) (src) {s : State} (h : State.Leads F r s) :
    State.Leads F r (loadEndDo n o src s) := by
  unfold loadEndDo
  dsimp only
  (repeat' (split <;> (try first | (rename_i heq; have e := congrArg Prod.snd heq; dsimp only at e; subst e) | (rename_i heq _; have e := congrArg Prod.snd heq; dsimp only at e; subst e) | (rename_i heq _ _; have e := congrArg Prod.snd heq; dsimp only at e; subst e)))) <;> simp (maxDischargeDepth := 99) +contextual [h]

theorem execGrantWrite_leads {F : StateField → Bool} [May F .out] [May F .regs] [May F .msix] [May F .grants] [May F .grantOp] (n) (count) {s : State} : State.LeadsOut F s (execGrantWrite n count s) := by
  simp (maxDischargeDepth := 99) [execGrantWrite]

theorem execGrantRead_leads {F : StateField → Bool} [May F .out] [May F .regs] [May F .msix] [May F .grants] [May F .grantOp] (n) (count) {s : State} : State.LeadsOut F s (execGrantRead n count s) := by
  simp (maxDischargeDepth := 99) [execGrantRead]

theorem execWithdraw_leads {F : StateField → Bool} [May F .out] [May F .regs] [May F .msix] [May F .grantOp] (n) (count) {s : State} : State.LeadsOut F s (execWithdraw n count s) := by
  simp (maxDischargeDepth := 99) [execWithdraw]

theorem execWithdrawEnd_leads {F : StateField → Bool} [May F .out] [May F .regs] [May F .msix] [May F .grants] [May F .grantOp] {s : State} : State.LeadsOut F s (execWithdrawEnd s) := by
  unfold execWithdrawEnd
  refine State.leadsOut_act ?_
  (repeat' split) <;> simp (maxDischargeDepth := 99) +contextual

theorem execTlbInv_leads {F : StateField → Bool} [May F .out] [May F .parts] (n) (hi) {s : State} : State.LeadsOut F s (execTlbInv n hi s) := by
  simp (maxDischargeDepth := 99) [execTlbInv]

theorem execTlbInvEnd_leads {F : StateField → Bool} [May F .parts] (n) {s : State} : State.LeadsOut F s (execTlbInvEnd n s) := by
  simp (maxDischargeDepth := 99) [execTlbInvEnd]

theorem execScrubStep_leads {F : StateField → Bool} [May F .out] [May F .regs] [May F .bad] [May F .msix] [May F .floors] [May F .health] [May F .mp] (st) (x1) {s : State} : State.LeadsOut F s (execScrubStep st x1 s) := by
  simp (maxDischargeDepth := 99) [execScrubStep]

theorem execTargetedRefresh_leads {F : StateField → Bool} [May F .regs] (st) (activations) {s : State} : State.LeadsOut F s (execTargetedRefresh st activations s) := by
  simp (maxDischargeDepth := 99) [execTargetedRefresh]

theorem execResHold_leads {F : StateField → Bool} [May F .out] [May F .regs] [May F .mem] [May F .bad] [May F .msix] [May F .parts] [May F .slots] [May F .floors] [May F .health] [May F .terrace] [May F .mp] (n) (entry) (signal) {s : State} : State.LeadsOut F s (execResHold n entry signal s) := by
  unfold execResHold
  simp (maxDischargeDepth := 99) +contextual

theorem execResRelease_leads {F : StateField → Bool} [May F .out] [May F .regs] [May F .mem] [May F .bad] [May F .msix] [May F .parts] [May F .slots] [May F .floors] [May F .health] [May F .terrace] [May F .mp] (n) (entry) (signal) {s : State} : State.LeadsOut F s (execResRelease n entry signal s) := by
  unfold execResRelease
  simp (maxDischargeDepth := 99) +contextual

theorem execEvict_leads {F : StateField → Bool} [May F .out] [May F .regs] [May F .mem] [May F .bad] [May F .msix] [May F .parts] [May F .slots] [May F .floors] [May F .health] [May F .terrace] [May F .mp] (n) (entry) (signal) {s : State} : State.LeadsOut F s (execEvict n entry signal s) := by
  unfold execEvict
  simp (maxDischargeDepth := 99) +contextual

theorem execLoad_leads {F : StateField → Bool} [May F .out] [May F .regs] [May F .mem] [May F .bad] [May F .msix] [May F .parts] [May F .slots] [May F .floors] [May F .health] [May F .terrace] [May F .mp] (n) (entry) (signal) {s : State} : State.LeadsOut F s (execLoad n entry signal s) := by
  unfold execLoad
  simp (maxDischargeDepth := 99) +contextual

theorem execLoadEnd_leads {F : StateField → Bool} [May F .out] [May F .regs] [May F .mem] [May F .bad] [May F .msix] [May F .parts] [May F .slots] [May F .floors] [May F .health] [May F .mp] (n) (src) {s : State} : State.LeadsOut F s (execLoadEnd n src s) := by
  unfold execLoadEnd
  refine State.leadsOut_act ?_
  (repeat' split) <;> simp (maxDischargeDepth := 99) +contextual

/-! ### Tests -/

@[simp] theorem State.bgRespond_leads {F : StateField → Bool} [May F .regs] {r : State} {s : State} (result) (ticket) (h : State.Leads F r s) :
    State.Leads F r (State.bgRespond s result ticket) := by
  unfold State.bgRespond
  simp (maxDischargeDepth := 99) +contextual [h]

@[simp] theorem bgRequest_leads {F : StateField → Bool} [May F .free] [May F .regs] [May F .tests] {r : State} (code) (target) {s : State} (h : State.Leads F r s) :
    State.Leads F r (bgRequest code target s) := by
  unfold bgRequest
  (repeat' (split <;> (try first | (rename_i heq; have e := congrArg Prod.snd heq; dsimp only at e; subst e) | (rename_i heq _; have e := congrArg Prod.snd heq; dsimp only at e; subst e) | (rename_i heq _ _; have e := congrArg Prod.snd heq; dsimp only at e; subst e)))) <;> simp (maxDischargeDepth := 99) +contextual [h]

@[simp] theorem State.retrainLink_leads {F : StateField → Bool} [May F .out] [May F .regs] [May F .msix] [May F .links] [May F .mp] {r : State} {s : State} (k) (h : State.Leads F r s) :
    State.Leads F r (State.retrainLink s k) := by
  unfold State.retrainLink
  simp (maxDischargeDepth := 99) +contextual [h]

@[simp] theorem bgStartDo_leads {F : StateField → Bool} [May F .out] [May F .regs] [May F .msix] [May F .vales] [May F .links] [May F .tests] [May F .mp] {r : State} (i) {s : State} (h : State.Leads F r s) :
    State.Leads F r (bgStartDo i s) := by
  unfold bgStartDo
  split <;> simp (maxDischargeDepth := 99) +contextual [h]

@[simp] theorem State.failTest_leads {F : StateField → Bool} [May F .out] [May F .regs] [May F .msix] [May F .vales] [May F .parts] [May F .slots] [May F .links] [May F .echo] [May F .health] [May F .terrace] [May F .mp] {r : State} {s : State} (t) (h : State.Leads F r s) :
    State.Leads F r (State.failTest s t) := by
  unfold State.failTest
  split <;> simp (maxDischargeDepth := 99) +contextual [h]

@[simp] theorem bgEndDo_leads {F : StateField → Bool} [May F .out] [May F .regs] [May F .mem] [May F .msix] [May F .vales] [May F .parts] [May F .slots] [May F .links] [May F .echo] [May F .tests] [May F .health] [May F .terrace] [May F .mp] {r : State} (i) (failed) {s : State} (h : State.Leads F r s) :
    State.Leads F r (bgEndDo i failed s) := by
  unfold bgEndDo
  split <;> simp (maxDischargeDepth := 99) +contextual [h]

theorem execValeScan_leads {F : StateField → Bool} [May F .free] [May F .out] [May F .regs] [May F .tests] (target) {s : State} : State.LeadsOut F s (execValeScan target s) := by
  simp (maxDischargeDepth := 99) [execValeScan]

theorem execEchoCheck_leads {F : StateField → Bool} [May F .free] [May F .out] [May F .regs] [May F .tests] (target) {s : State} : State.LeadsOut F s (execEchoCheck target s) := by
  simp (maxDischargeDepth := 99) [execEchoCheck]

theorem execArrayPattern_leads {F : StateField → Bool} [May F .free] [May F .out] [May F .regs] [May F .tests] (target) {s : State} : State.LeadsOut F s (execArrayPattern target s) := by
  simp (maxDischargeDepth := 99) [execArrayPattern]

theorem execStorePattern_leads {F : StateField → Bool} [May F .free] [May F .out] [May F .regs] [May F .tests] (target) {s : State} : State.LeadsOut F s (execStorePattern target s) := by
  simp (maxDischargeDepth := 99) [execStorePattern]

theorem execLinkMargin_leads {F : StateField → Bool} [May F .free] [May F .out] [May F .regs] [May F .tests] (target) {s : State} : State.LeadsOut F s (execLinkMargin target s) := by
  simp (maxDischargeDepth := 99) [execLinkMargin]

theorem execLinkRetrain_leads {F : StateField → Bool} [May F .free] [May F .out] [May F .regs] [May F .tests] (target) {s : State} : State.LeadsOut F s (execLinkRetrain target s) := by
  simp (maxDischargeDepth := 99) [execLinkRetrain]

theorem execBgTestStart_leads {F : StateField → Bool} [May F .out] [May F .regs] [May F .msix] [May F .vales] [May F .links] [May F .tests] [May F .mp] (ticket) {s : State} : State.LeadsOut F s (execBgTestStart ticket s) := by
  simp (maxDischargeDepth := 99) [execBgTestStart]

theorem execBgTestEnd_leads {F : StateField → Bool} [May F .out] [May F .regs] [May F .mem] [May F .msix] [May F .vales] [May F .parts] [May F .slots] [May F .links] [May F .echo] [May F .tests] [May F .health] [May F .terrace] [May F .mp] (ticket) (failed) {s : State} : State.LeadsOut F s (execBgTestEnd ticket failed s) := by
  simp (maxDischargeDepth := 99) [execBgTestEnd]

end Sys2Proof.Machine
end

