-- ==== Sys2Proof/Laws/LeadsPart.lean ====
section
/-! SUPPORT. LeadsPart: one lemma for each operation of the terrace, the host interface, census, boot, management and register writes: where it leads (Laws/Leads.lean). -/

namespace Sys2Proof.Machine

/-! ### Terraces -/

@[simp] theorem terraceNowDo_leads {F : StateField → Bool} [May F .health] {r : State} {s : State} (h : State.Leads F r s) :
    State.Leads F r (terraceNowDo s) := by
  unfold terraceNowDo
  simp (maxDischargeDepth := 99) +contextual [h]

@[simp] theorem terraceInvalidateDo_leads {F : StateField → Bool} [May F .terrace] {r : State} {s : State} (h : State.Leads F r s) :
    State.Leads F r (terraceInvalidateDo s) := by
  unfold terraceInvalidateDo
  simp (maxDischargeDepth := 99) +contextual [h]

@[simp] theorem State.freeLong_leads {F : StateField → Bool} [May F .free] {r : State} {s : State} (h : State.Leads F r s) :
    State.Leads F r (State.freeLong s).2 := by
  unfold State.freeLong
  simp (maxDischargeDepth := 99) +contextual [h]

@[simp] theorem State.placed_leads {F : StateField → Bool} [May F .free] {r : State} {s : State} (x1) (h : State.Leads F r s) :
    State.Leads F r (State.placed s x1).2 := by
  unfold State.placed
  simp (maxDischargeDepth := 99) +contextual [h]

@[simp] theorem State.opaqueRegion_leads {F : StateField → Bool} [May F .free] {r : State} {s : State} (x1) (h : State.Leads F r s) :
    State.Leads F r (State.opaqueRegion s x1).2 := by
  unfold State.opaqueRegion
  simp (maxDischargeDepth := 99) +contextual [h]

@[simp] theorem State.valeRegions_leads {F : StateField → Bool} [May F .free] {r : State} {s : State} (g) (h : State.Leads F r s) :
    State.Leads F r (State.valeRegions s g).2 := by
  unfold State.valeRegions
  simp (maxDischargeDepth := 99) +contextual [h]

@[simp] theorem State.partRegions_leads {F : StateField → Bool} [May F .free] {r : State} {s : State} (n) (h : State.Leads F r s) :
    State.Leads F r (State.partRegions s n).2 := by
  unfold State.partRegions
  simp (maxDischargeDepth := 99) +contextual [h]

@[simp] theorem State.listRegions_leads {F : StateField → Bool} [May F .free] [May F .out] [May F .regs] [May F .bad] [May F .msix] [May F .floors] [May F .health] [May F .mp] {r : State} {s : State} (n es used) (h : State.Leads F r s) :
    State.Leads F r (State.listRegions s n es used).2 := by
  induction es generalizing s used with
  | nil => exact h
  | cons e es ih =>
    unfold State.listRegions
    dsimp only
    have k := State.readPda_leads n (w64At e 8) (w64At e 0x10) h
    split
    · refine ih _ ?_
      refine State.leads_ite_snd ?_ h
      split
      · rename_i heq; rw [heq] at k; exact State.placed_leads _ k
      · rename_i heq; rw [heq] at k; exact State.placed_leads _ k
    · split
      · exact ih _ h
      · exact ih _ h

@[simp] theorem State.terraceRegions_leads {F : StateField → Bool} [May F .free] [May F .out] [May F .regs] [May F .bad] [May F .msix] [May F .floors] [May F .health] [May F .mp] {r : State} {s : State} (h : State.Leads F r s) :
    State.Leads F r (State.terraceRegions s).2 := by
  unfold State.terraceRegions
  simp (maxDischargeDepth := 99) +contextual [h]

@[simp] theorem holdStartDo_leads {F : StateField → Bool} [May F .free] [May F .out] [May F .regs] [May F .bad] [May F .msix] [May F .floors] [May F .health] [May F .terrace] [May F .mp] {r : State} {s : State} (h : State.Leads F r s) :
    State.Leads F r (holdStartDo s) := by
  unfold holdStartDo
  simp (maxDischargeDepth := 99) +contextual [h]

@[simp] theorem State.voidHeld_leads {F : StateField → Bool} [May F .slots] {r : State} {s : State} (lo) (hi) (h : State.Leads F r s) :
    State.Leads F r (State.voidHeld s lo hi) := by
  unfold State.voidHeld
  simp (maxDischargeDepth := 99) +contextual [h]

@[simp] theorem State.applyDeferred_leads {F : StateField → Bool} [May F .out] [May F .regs] [May F .mem] [May F .bad] [May F .fns] [May F .msix] [May F .parts] [May F .slots] [May F .floors] [May F .health] [May F .mp] {r : State} {s : State} (x1) (h : State.Leads F r s) :
    State.Leads F r (State.applyDeferred s x1) := by
  unfold State.applyDeferred
  split <;> simp (maxDischargeDepth := 99) +contextual [h]

@[simp] theorem holdEndDo_leads {F : StateField → Bool} [May F .out] [May F .regs] [May F .mem] [May F .bad] [May F .fns] [May F .msix] [May F .vales] [May F .parts] [May F .slots] [May F .floors] [May F .health] [May F .terrace] [May F .mp] {r : State} (bad) (start) {s : State} (h : State.Leads F r s) :
    State.Leads F r (holdEndDo bad start s) := by
  unfold holdEndDo
  extract_lets t rs s1 s2 s3 s4 due x1 s5 s6 s7 x2 s8 s9
  have k2 : State.Leads F r s2 := State.raise_leads _ _ (State.setReg_leads _ _ (State.leads_terrace h _))
  have k3 : State.Leads F r s3 := State.leads_ite (State.moraine_leads _ _ _ k2) k2
  have k4 : State.Leads F r s4 := State.leads_foldl k3 fun t e ht => State.fenceLater_leads _ _ ht
  have k5 : State.Leads F r s5 := State.leads_terrace k4 _
  have k6 : State.Leads F r s6 := by
    refine State.leads_foldl k5 ?_
    intro t u ht
    split
    · exact State.fenceUnit_leads _ _ ht
    · exact ht
  have k8 : State.Leads F r s8 := State.leads_terrace (State.voidHeld_leads _ _ k6) _
  have k9 : State.Leads F r s9 := State.leads_foldl k8 fun t e ht => State.applyDeferred_leads _ ht
  exact State.leads_ite (State.leads_terrace k9 _) k9

@[simp] theorem State.pushRegions_leads {F : StateField → Bool} [May F .out] [May F .regs] [May F .bad] [May F .msix] [May F .floors] [May F .health] [May F .mp] {r : State} {s : State} (host size rs o) (h : State.Leads F r s) :
    State.Leads F r (State.pushRegions s host size rs o).2 := by
  induction rs generalizing s o with
  | nil => exact h
  | cons e rs ih =>
    unfold State.pushRegions
    refine State.leads_ite_snd (ih _ h) ?_
    have k : State.Leads F r (if o + e.length ≤ size then s.readPda e.part e.src e.length else (.access, s)).2 :=
      State.leads_ite_snd (State.readPda_leads _ _ _ h) h
    split
    · rename_i heq; rw [heq] at k; exact ih _ (State.emit_leads _ k)
    · rename_i heq; rw [heq] at k; exact ih _ k

@[simp] theorem pushEndDo_leads {F : StateField → Bool} [May F .out] [May F .regs] [May F .bad] [May F .msix] [May F .floors] [May F .health] [May F .terrace] [May F .mp] {r : State} {s : State} (h : State.Leads F r s) :
    State.Leads F r (pushEndDo s) := by
  unfold pushEndDo
  simp (maxDischargeDepth := 99) +contextual [h]

@[simp] theorem State.restoreStat_leads {F : StateField → Bool} [May F .regs] {r : State} {s : State} (result) (parts) (h : State.Leads F r s) :
    State.Leads F r (State.restoreStat s result parts) := by
  unfold State.restoreStat
  simp (maxDischargeDepth := 99) +contextual [h]

@[simp] theorem restoreDo_leads {F : StateField → Bool} [May F .regs] [May F .terrace] {r : State} {s : State} (h : State.Leads F r s) :
    State.Leads F r (restoreDo s) := by
  unfold restoreDo
  simp (maxDischargeDepth := 99) +contextual [h]

@[simp] theorem State.putCells_leads {F : StateField → Bool} [May F .mem] {r : State} {s : State} (lo) (len) (cs) (h : State.Leads F r s) :
    State.Leads F r (State.putCells s lo len cs) := by
  unfold State.putCells
  simp (maxDischargeDepth := 99) +contextual [h]

@[simp] theorem State.putRegion_leads {F : StateField → Bool} [May F .out] [May F .regs] [May F .mem] [May F .bad] [May F .msix] [May F .vales] [May F .parts] [May F .floors] [May F .health] [May F .mp] {r : State} {s : State} (x1) (h : State.Leads F r s) :
    State.Leads F r (State.putRegion s x1) := by
  unfold State.putRegion
  (repeat' split) <;> simp (maxDischargeDepth := 99) +contextual [h]

@[simp] theorem State.putPartRegs_leads {F : StateField → Bool} [May F .regs] {r : State} {s : State} (n) (saved) (h : State.Leads F r s) :
    State.Leads F r (State.putPartRegs s n saved) := by
  unfold State.putPartRegs
  simp (maxDischargeDepth := 99) +contextual [h]

theorem State.restoreWith_leads {F : StateField → Bool} [May F .out] [May F .regs] [May F .mem] [May F .bad] [May F .msix] [May F .vales] [May F .parts] [May F .floors] [May F .health] [May F .mp] {r : State} {s : State} (n rs gs saved p) (h : State.Leads F r s) (hp : State.Leads F r p.2) :
    State.Leads F r (State.restoreWith s n rs gs saved p).2 := by
  unfold State.restoreWith
  split
  · exact h
  · exact State.leads_foldl (State.leads_foldl (State.createPart_leads _ _ _ hp) fun t e ht => State.setReg_leads _ _ ht)
      fun t e ht => State.putRegion_leads _ ht
@[simp] theorem State.restorePart_leads {F : StateField → Bool} [May F .out] [May F .regs] [May F .mem] [May F .bad] [May F .msix] [May F .vales] [May F .parts] [May F .floors] [May F .health] [May F .mp] {r : State} {s : State} (n) (h : State.Leads F r s) :
    State.Leads F r (State.restorePart s n).2 := by
  unfold State.restorePart
  exact State.restoreWith_leads _ _ _ _ _ h (State.checkedTable_leads _ _ _ (State.putPartRegs_leads _ _ h))

@[simp] theorem State.restoreAll_leads {F : StateField → Bool} [May F .out] [May F .regs] [May F .mem] [May F .bad] [May F .msix] [May F .vales] [May F .parts] [May F .floors] [May F .health] [May F .mp] {r : State} {s : State} (h : State.Leads F r s) :
    State.Leads F r (State.restoreAll s).2 := by
  unfold State.restoreAll
  simp (maxDischargeDepth := 99) +contextual [h]

@[simp] theorem restoreEndDo_leads {F : StateField → Bool} [May F .out] [May F .regs] [May F .mem] [May F .bad] [May F .msix] [May F .vales] [May F .parts] [May F .floors] [May F .health] [May F .terrace] [May F .mp] {r : State} {s : State} (h : State.Leads F r s) :
    State.Leads F r (restoreEndDo s) := by
  unfold restoreEndDo
  have k := fun x => State.leads_terrace h x
  refine State.moraine_leads _ _ _ (State.raise_leads _ _ (State.restoreStat_leads _ _ ?_))
  exact State.leads_ite_snd (k _) (State.leads_ite_snd (k _) (State.restoreAll_leads (k _)))

theorem execTerraceNow_leads {F : StateField → Bool} [May F .out] [May F .health] {s : State} : State.LeadsOut F s (execTerraceNow s) := by
  simp (maxDischargeDepth := 99) [execTerraceNow]

theorem execTerraceInvalidate_leads {F : StateField → Bool} [May F .out] [May F .terrace] {s : State} : State.LeadsOut F s (execTerraceInvalidate s) := by
  simp (maxDischargeDepth := 99) [execTerraceInvalidate]

theorem execTerraceHoldStart_leads {F : StateField → Bool} [May F .free] [May F .out] [May F .regs] [May F .bad] [May F .msix] [May F .floors] [May F .health] [May F .terrace] [May F .mp] {s : State} : State.LeadsOut F s (execTerraceHoldStart s) := by
  simp (maxDischargeDepth := 99) [execTerraceHoldStart]

theorem execTerraceHoldEnd_leads {F : StateField → Bool} [May F .out] [May F .regs] [May F .mem] [May F .bad] [May F .fns] [May F .msix] [May F .vales] [May F .parts] [May F .slots] [May F .floors] [May F .health] [May F .terrace] [May F .mp] (bad) {s : State} : State.LeadsOut F s (execTerraceHoldEnd bad s) := by
  unfold execTerraceHoldEnd
  refine State.leadsOut_act ?_
  (repeat' split) <;> simp (maxDischargeDepth := 99) +contextual

theorem execTerracePushEnd_leads {F : StateField → Bool} [May F .out] [May F .regs] [May F .bad] [May F .msix] [May F .floors] [May F .health] [May F .terrace] [May F .mp] {s : State} : State.LeadsOut F s (execTerracePushEnd s) := by
  simp (maxDischargeDepth := 99) [execTerracePushEnd]

theorem execRestore_leads {F : StateField → Bool} [May F .out] [May F .regs] [May F .terrace] {s : State} : State.LeadsOut F s (execRestore s) := by
  simp (maxDischargeDepth := 99) [execRestore]

theorem execRestoreEnd_leads {F : StateField → Bool} [May F .out] [May F .regs] [May F .mem] [May F .bad] [May F .msix] [May F .vales] [May F .parts] [May F .floors] [May F .health] [May F .terrace] [May F .mp] {s : State} : State.LeadsOut F s (execRestoreEnd s) := by
  simp (maxDischargeDepth := 99) [execRestoreEnd]

/-! ### Host -/

@[simp] theorem bar2Read_leads {F : StateField → Bool} [May F .free] [May F .out] [May F .regs] [May F .bad] [May F .msix] [May F .floors] [May F .health] [May F .mp] {r : State} (a) (n) {s : State} (h : State.Leads F r s) :
    State.Leads F r (bar2Read a n s) := by
  unfold bar2Read
  split <;> simp (maxDischargeDepth := 99) +contextual [h]

@[simp] theorem bar2Write_leads {F : StateField → Bool} [May F .out] [May F .regs] [May F .mem] [May F .bad] [May F .msix] [May F .floors] [May F .health] [May F .mp] {r : State} (f a bs) {s : State} (h : State.Leads F r s) :
    State.Leads F r (bar2Write f a bs s) := by
  induction f generalizing s a bs with
  | zero => exact h
  | succ f ih =>
    cases bs with
    | nil => exact h
    | cons x bs => exact ih _ _ (State.leads_ite (State.writeBlock_leads _ _ h) h)

@[simp] theorem bar2Do_leads {F : StateField → Bool} [May F .free] [May F .out] [May F .regs] [May F .mem] [May F .bad] [May F .msix] [May F .floors] [May F .health] [May F .mp] {r : State} (ofs) (op) {s : State} (h : State.Leads F r s) :
    State.Leads F r (bar2Do ofs op s) := by
  unfold bar2Do
  split <;> simp (maxDischargeDepth := 99) +contextual [h]

@[simp] theorem State.endHostXfers_leads {F : StateField → Bool} [May F .slots] {r : State} {s : State} (n) (h : State.Leads F r s) :
    State.Leads F r (State.endHostXfers s n) := by
  unfold State.endHostXfers
  refine State.leads_foldl h fun t e ht => State.leads_foldl ht ?_
  intro u x hu
  split
  · exact State.leads_ite (State.endXfer_leads _ _ hu) hu
  · exact hu

@[simp] theorem State.resetFn_leads {F : StateField → Bool} [May F .fns] [May F .msix] {r : State} {s : State} (f) (h : State.Leads F r s) :
    State.Leads F r (State.resetFn s f) := by
  unfold State.resetFn
  exact State.leads_mk (State.modFn_leads _ _ h) id id id id (Sparse.filter_wf _ _ _) id id id id id id id id id id id

@[simp] theorem State.flrVf_leads {F : StateField → Bool} [May F .free] [May F .out] [May F .regs] [May F .mem] [May F .bad] [May F .fns] [May F .msix] [May F .vales] [May F .parts] [May F .slots] [May F .floors] [May F .echo] [May F .health] [May F .mp] {r : State} {s : State} (n) (h : State.Leads F r s) :
    State.Leads F r (State.flrVf s n) := by
  unfold State.flrVf
  simp (maxDischargeDepth := 99) +contextual [h]

@[simp] theorem State.resetHost_leads {F : StateField → Bool} [May F .free] [May F .out] [May F .regs] [May F .mem] [May F .bad] [May F .fns] [May F .msix] [May F .vales] [May F .parts] [May F .slots] [May F .floors] [May F .echo] [May F .health] [May F .mp] {r : State} {s : State} (bit) (h : State.Leads F r s) :
    State.Leads F r (State.resetHost s bit) := by
  unfold State.resetHost
  simp (maxDischargeDepth := 99) +contextual [h]

@[simp] theorem linkDownDo_leads {F : StateField → Bool} [May F .free] [May F .out] [May F .regs] [May F .mem] [May F .bad] [May F .fns] [May F .msix] [May F .vales] [May F .parts] [May F .slots] [May F .floors] [May F .echo] [May F .health] [May F .boot] [May F .mp] {r : State} {s : State} (h : State.Leads F r s) :
    State.Leads F r (linkDownDo s) := by
  unfold linkDownDo
  simp (maxDischargeDepth := 99) +contextual [h]

@[simp] theorem State.sendPending_leads {F : StateField → Bool} [May F .out] [May F .msix] {r : State} {s : State} (f) (v) (h : State.Leads F r s) :
    State.Leads F r (State.sendPending s f v) := by
  unfold State.sendPending
  simp (maxDischargeDepth := 99) +contextual [h]

@[simp] theorem msixUnmaskDo_leads {F : StateField → Bool} [May F .out] [May F .msix] {r : State} (fn) (v) {s : State} (h : State.Leads F r s) :
    State.Leads F r (msixUnmaskDo fn v s) := by
  unfold msixUnmaskDo
  simp (maxDischargeDepth := 99) +contextual [h]

@[simp] theorem atsInvalidateDo_leads {F : StateField → Bool} [May F .out] [May F .fns] {r : State} (fn) (pasid) (page) (pages) {s : State} (h : State.Leads F r s) :
    State.Leads F r (atsInvalidateDo fn pasid page pages s) := by
  unfold atsInvalidateDo
  simp (maxDischargeDepth := 99) +contextual [h]

theorem execBar2Access_leads {F : StateField → Bool} [May F .free] [May F .out] [May F .regs] [May F .mem] [May F .bad] [May F .msix] [May F .floors] [May F .health] [May F .mp] (ofs) (op) {s : State} : State.LeadsOut F s (execBar2Access ofs op s) := by
  simp (maxDischargeDepth := 99) [execBar2Access]

theorem execVfFlr_leads {F : StateField → Bool} [May F .free] [May F .out] [May F .regs] [May F .mem] [May F .bad] [May F .fns] [May F .msix] [May F .vales] [May F .parts] [May F .slots] [May F .floors] [May F .echo] [May F .health] [May F .mp] (n) {s : State} : State.LeadsOut F s (execVfFlr n s) := by
  simp (maxDischargeDepth := 99) [execVfFlr]

theorem execPfFlr_leads {F : StateField → Bool} [May F .free] [May F .out] [May F .regs] [May F .mem] [May F .bad] [May F .fns] [May F .msix] [May F .vales] [May F .parts] [May F .slots] [May F .floors] [May F .echo] [May F .health] [May F .mp] {s : State} : State.LeadsOut F s (execPfFlr s) := by
  simp (maxDischargeDepth := 99) [execPfFlr]

theorem execHotReset_leads {F : StateField → Bool} [May F .free] [May F .out] [May F .regs] [May F .mem] [May F .bad] [May F .fns] [May F .msix] [May F .vales] [May F .parts] [May F .slots] [May F .floors] [May F .echo] [May F .health] [May F .mp] {s : State} : State.LeadsOut F s (execHotReset s) := by
  simp (maxDischargeDepth := 99) [execHotReset]

theorem execPcieLinkDown_leads {F : StateField → Bool} [May F .free] [May F .out] [May F .regs] [May F .mem] [May F .bad] [May F .fns] [May F .msix] [May F .vales] [May F .parts] [May F .slots] [May F .floors] [May F .echo] [May F .health] [May F .boot] [May F .mp] {s : State} : State.LeadsOut F s (execPcieLinkDown s) := by
  simp (maxDischargeDepth := 99) [execPcieLinkDown]

theorem execPerst_leads {F : StateField → Bool} [May F .free] [May F .out] [May F .regs] [May F .mem] [May F .bad] [May F .fns] [May F .msix] [May F .vales] [May F .parts] [May F .slots] [May F .floors] [May F .echo] [May F .health] [May F .boot] [May F .mp] {s : State} : State.LeadsOut F s (execPerst s) := by
  simp (maxDischargeDepth := 99) [execPerst]

theorem execMsixUnmask_leads {F : StateField → Bool} [May F .out] [May F .msix] (fn) (vector) {s : State} : State.LeadsOut F s (execMsixUnmask fn vector s) := by
  simp (maxDischargeDepth := 99) [execMsixUnmask]

theorem execAtsInvalidation_leads {F : StateField → Bool} [May F .out] [May F .fns] (fn) (pasid) (page) (pages) {s : State} : State.LeadsOut F s (execAtsInvalidation fn pasid page pages s) := by
  simp (maxDischargeDepth := 99) [execAtsInvalidation]

/-! ### Census -/

@[simp] theorem State.modCensus_leads {F : StateField → Bool} [May F .census] {r : State} {s : State} (f) (h : State.Leads F r s) :
    State.Leads F r (State.modCensus s f) := by
  unfold State.modCensus
  simp (maxDischargeDepth := 99) +contextual [h]

@[simp] theorem State.fabricState_leads {F : StateField → Bool} [May F .regs] {r : State} {s : State} (x) (h : State.Leads F r s) :
    State.Leads F r (State.fabricState s x) := by
  unfold State.fabricState
  simp (maxDischargeDepth := 99) +contextual [h]

@[simp] theorem State.fabricEvent_leads {F : StateField → Bool} [May F .out] [May F .regs] [May F .msix] {r : State} {s : State} (x) (h : State.Leads F r s) :
    State.Leads F r (State.fabricEvent s x) := by
  unfold State.fabricEvent
  simp (maxDischargeDepth := 99) +contextual [h]

@[simp] theorem onCensus_leads {F : StateField → Bool} [May F .links] {r : State} (k) (f) {s : State} (h : State.Leads F r s) (hf : ∀ t, State.Leads F r t → State.Leads F r (f t)) :
    State.Leads F r (onCensus k f s) := by
  unfold onCensus
  (repeat' (split <;> (try first | (rename_i heq; have e := congrArg Prod.snd heq; dsimp only at e; subst e) | (rename_i heq _; have e := congrArg Prod.snd heq; dsimp only at e; subst e) | (rename_i heq _ _; have e := congrArg Prod.snd heq; dsimp only at e; subst e)))) <;> simp (maxDischargeDepth := 99) +contextual [h, hf]

@[simp] theorem ofCensus_leads {F : StateField → Bool}  {r : State} (num) (f) {s : State} (h : State.Leads F r s) (hf : ∀ t, State.Leads F r t → State.Leads F r (f t)) :
    State.Leads F r (ofCensus num f s) := by
  unfold ofCensus
  simp (maxDischargeDepth := 99) +contextual [h, hf]

@[simp] theorem State.sendDown_leads {F : StateField → Bool} [May F .free] [May F .out] [May F .links] {r : State} {s : State} (serial) (m) (h : State.Leads F r s) :
    State.Leads F r (State.sendDown s serial m) := by
  unfold State.sendDown
  split <;> simp (maxDischargeDepth := 99) +contextual [h]

@[simp] theorem State.sendUp_leads {F : StateField → Bool} [May F .free] [May F .out] [May F .links] {r : State} {s : State} (m) (h : State.Leads F r s) :
    State.Leads F r (State.sendUp s m) := by
  unfold State.sendUp
  split <;> simp (maxDischargeDepth := 99) +contextual [h]

@[simp] theorem censusStartDo_leads {F : StateField → Bool} [May F .free] [May F .out] [May F .regs] [May F .links] [May F .census] {r : State} {s : State} (h : State.Leads F r s) :
    State.Leads F r (censusStartDo s) := by
  unfold censusStartDo
  simp (maxDischargeDepth := 99) +contextual [h]

@[simp] theorem State.forwardCall_leads {F : StateField → Bool} [May F .free] [May F .out] [May F .links] {r : State} {s : State} (k) (m) (h : State.Leads F r s) :
    State.Leads F r (State.forwardCall s k m) := by
  unfold State.forwardCall
  simp (maxDischargeDepth := 99) +contextual [h]

@[simp] theorem State.censusConflict_leads {F : StateField → Bool} [May F .out] [May F .regs] [May F .msix] [May F .census] [May F .mp] {r : State} {s : State} (h : State.Leads F r s) :
    State.Leads F r (State.censusConflict s) := by
  unfold State.censusConflict
  simp (maxDischargeDepth := 99) +contextual [h]

@[simp] theorem State.takeCall_leads {F : StateField → Bool} [May F .free] [May F .out] [May F .regs] [May F .links] [May F .census] {r : State} {s : State} (k) (num) (m) (h : State.Leads F r s) :
    State.Leads F r (State.takeCall s k num m) := by
  unfold State.takeCall
  simp (maxDischargeDepth := 99) +contextual [h]

@[simp] theorem callDo_leads {F : StateField → Bool} [May F .free] [May F .out] [May F .regs] [May F .msix] [May F .links] [May F .census] [May F .mp] {r : State} (k) (num) (head) {s : State} (h : State.Leads F r s) :
    State.Leads F r (callDo k num head s) := by
  unfold callDo
  simp (maxDischargeDepth := 99) +contextual [h]

@[simp] theorem reportDo_leads {F : StateField → Bool} [May F .free] [May F .out] [May F .links] [May F .census] {r : State} (k) (num) (x2) {s : State} (h : State.Leads F r s) :
    State.Leads F r (reportDo k num x2 s) := by
  unfold reportDo
  simp (maxDischargeDepth := 99) +contextual [h]

@[simp] theorem State.takeId_leads {F : StateField → Bool} [May F .regs] {r : State} {s : State} (a) (h : State.Leads F r s) :
    State.Leads F r (State.takeId s a) := by
  unfold State.takeId
  simp (maxDischargeDepth := 99) +contextual [h]

@[simp] theorem State.leaveOut_leads {F : StateField → Bool} [May F .free] [May F .out] [May F .links] {r : State} {s : State} (fs) (h : State.Leads F r s) :
    State.Leads F r (State.leaveOut s fs) := by
  unfold State.leaveOut
  simp (maxDischargeDepth := 99) +contextual [h]

@[simp] theorem State.fabricReady_leads {F : StateField → Bool} [May F .free] [May F .out] [May F .regs] [May F .msix] [May F .links] [May F .census] {r : State} {s : State} (h : State.Leads F r s) :
    State.Leads F r (State.fabricReady s) := by
  unfold State.fabricReady
  simp (maxDischargeDepth := 99) +contextual [h]

@[simp] theorem State.assignAll_leads {F : StateField → Bool} [May F .free] [May F .out] [May F .regs] [May F .beat] [May F .links] [May F .census] {r : State} {s : State} (h : State.Leads F r s) :
    State.Leads F r (State.assignAll s) := by
  unfold State.assignAll
  simp (maxDischargeDepth := 99) +contextual [h]

@[simp] theorem gatherCloseDo_leads {F : StateField → Bool} [May F .free] [May F .out] [May F .regs] [May F .beat] [May F .msix] [May F .links] [May F .census] {r : State} {s : State} (h : State.Leads F r s) :
    State.Leads F r (gatherCloseDo s) := by
  unfold gatherCloseDo
  simp (maxDischargeDepth := 99) +contextual [h]

@[simp] theorem State.chooseLinks_leads {F : StateField → Bool} [May F .free] {r : State} {s : State} (ks) (h : State.Leads F r s) :
    State.Leads F r (State.chooseLinks s ks).2 := by
  induction ks generalizing s with
  | nil => exact h
  | cons k ks ih => exact ih (State.freeBool_leads h)

@[simp] theorem State.takeAssign_leads {F : StateField → Bool} [May F .free] [May F .out] [May F .regs] [May F .links] [May F .census] {r : State} {s : State} (a) (h : State.Leads F r s) :
    State.Leads F r (State.takeAssign s a) := by
  unfold State.takeAssign
  simp (maxDischargeDepth := 99) +contextual [h]

@[simp] theorem assignDo_leads {F : StateField → Bool} [May F .free] [May F .out] [May F .regs] [May F .links] [May F .census] {r : State} (num) (a) {s : State} (h : State.Leads F r s) :
    State.Leads F r (assignDo num a s) := by
  unfold assignDo
  simp (maxDischargeDepth := 99) +contextual [h]

@[simp] theorem leftOutDo_leads {F : StateField → Bool} [May F .out] [May F .regs] [May F .msix] [May F .mp] {r : State} {s : State} (h : State.Leads F r s) :
    State.Leads F r (leftOutDo s) := by
  unfold leftOutDo
  simp (maxDischargeDepth := 99) +contextual [h]

@[simp] theorem readyUpDo_leads {F : StateField → Bool} [May F .free] [May F .out] [May F .regs] [May F .msix] [May F .links] [May F .census] {r : State} (num) (serial) {s : State} (h : State.Leads F r s) :
    State.Leads F r (readyUpDo num serial s) := by
  unfold readyUpDo
  simp (maxDischargeDepth := 99) +contextual [h]

@[simp] theorem readyDownDo_leads {F : StateField → Bool} [May F .free] [May F .out] [May F .regs] [May F .msix] [May F .links] {r : State} (num) (serial) {s : State} (h : State.Leads F r s) :
    State.Leads F r (readyDownDo num serial s) := by
  unfold readyDownDo
  simp (maxDischargeDepth := 99) +contextual [h]

theorem execCensusStart_leads {F : StateField → Bool} [May F .free] [May F .out] [May F .regs] [May F .links] [May F .census] {s : State} : State.LeadsOut F s (execCensusStart s) := by
  simp (maxDischargeDepth := 99) [execCensusStart]

theorem execCensusAutoStart_leads {F : StateField → Bool} [May F .free] [May F .out] [May F .regs] [May F .links] [May F .census] {s : State} : State.LeadsOut F s (execCensusAutoStart s) := by
  simp (maxDischargeDepth := 99) [execCensusAutoStart]

theorem execCensusCall_leads {F : StateField → Bool} [May F .free] [May F .out] [May F .regs] [May F .msix] [May F .links] [May F .census] [May F .mp] (k) (num) (head) {s : State} : State.LeadsOut F s (execCensusCall k num head s) := by
  unfold execCensusCall
  simp (maxDischargeDepth := 99) +contextual

theorem execCensusReport_leads {F : StateField → Bool} [May F .free] [May F .out] [May F .links] [May F .census] (k) (num) (x2) {s : State} : State.LeadsOut F s (execCensusReport k num x2 s) := by
  unfold execCensusReport
  simp (maxDischargeDepth := 99) +contextual

theorem execGatherClose_leads {F : StateField → Bool} [May F .free] [May F .out] [May F .regs] [May F .beat] [May F .msix] [May F .links] [May F .census] {s : State} : State.LeadsOut F s (execGatherClose s) := by
  simp (maxDischargeDepth := 99) [execGatherClose]

theorem execCensusAssign_leads {F : StateField → Bool} [May F .free] [May F .out] [May F .regs] [May F .links] [May F .census] (k) (num) (a) {s : State} : State.LeadsOut F s (execCensusAssign k num a s) := by
  unfold execCensusAssign
  simp (maxDischargeDepth := 99) +contextual

theorem execCensusLeftOut_leads {F : StateField → Bool} [May F .out] [May F .regs] [May F .msix] [May F .links] [May F .mp] (k) (num) {s : State} : State.LeadsOut F s (execCensusLeftOut k num s) := by
  unfold execCensusLeftOut
  simp (maxDischargeDepth := 99) +contextual

theorem execCensusReady_leads {F : StateField → Bool} [May F .free] [May F .out] [May F .regs] [May F .msix] [May F .links] [May F .census] (k) (num) (down) (serial) {s : State} : State.LeadsOut F s (execCensusReady k num down serial s) := by
  unfold execCensusReady
  (repeat' split) <;> simp (maxDischargeDepth := 99) +contextual

/-! ### Boot -/

@[simp] theorem State.tearRecord_leads {F : StateField → Bool} [May F .free] [May F .mp] {r : State} {s : State} (h : State.Leads F r s) :
    State.Leads F r (State.tearRecord s) := by
  unfold State.tearRecord
  simp (maxDischargeDepth := 99) +contextual [h]

theorem keptFloors_wf (fs : List (Nat × FloorSt)) (h : Sparse.wf (fun _ => FloorSt.reset) fs = true) :
    Sparse.wf (fun _ => FloorSt.reset) (keptFloors fs) = true := by
  rw [Sparse.wf_iff] at h ⊢
  refine ⟨Sparse.rising_filter _ _ ?_, fun e he => by simpa using (List.mem_filter.1 he).2⟩
  have k : ∀ l : List (Nat × FloorSt), Sparse.rising none l = true →
      Sparse.rising none (l.map fun e => (e.1, { FloorSt.reset with spared := e.2.spared, candidates := e.2.candidates })) = true := by
    intro l
    induction l with
    | nil => exact id
    | cons e l ih =>
      intro hl
      rw [Sparse.rising_cons] at hl
      rw [List.map_cons, Sparse.rising_cons]
      refine ⟨ih hl.1, fun x hx => ?_⟩
      obtain ⟨y, hy, rfl⟩ := List.mem_map.1 hx
      exact hl.2 y hy
  exact k fs h.1
@[simp] theorem State.moduleReset_leads {F : StateField → Bool} [May F .clock] [May F .free] [May F .out] [May F .regs] [May F .shadows] [May F .mem] [May F .bad] [May F .beat] [May F .beatBefore] [May F .fns] [May F .msix] [May F .grants] [May F .grantOp] [May F .vales] [May F .parts] [May F .slots] [May F .links] [May F .turns] [May F .floors] [May F .echo] [May F .tests] [May F .credits] [May F .granted] [May F .resets] [May F .health] [May F .terrace] [May F .boot] [May F .census] [May F .mp] [May F .pins] {r : State} {s : State} (h : State.Leads F r s) :
    State.Leads F r (State.moduleReset s) := by
  unfold State.moduleReset
  have k := State.tearRecord_leads h
  generalize s.tearRecord = t at k ⊢
  exact k.trans ⟨rfl, Nat.le_refl _, fun c => ⟨rfl, Sparse.filter_wf _ _ _ c.mem, Sparse.filter_wf _ _ _ c.bad,
    rfl, rfl, rfl, rfl, rfl, rfl, rfl, rfl, keptFloors_wf _ c.floors, rfl, rfl, rfl, rfl⟩, fun f e => by
    cases f <;> first | rfl | exact (May.ne e).elim⟩

@[simp] theorem State.idlePins_leads {F : StateField → Bool} [May F .out] [May F .pins] {r : State} {s : State} (h : State.Leads F r s) :
    State.Leads F r (State.idlePins s) := by
  unfold State.idlePins
  simp (maxDischargeDepth := 99) +contextual [h]

@[simp] theorem resetAssertDo_leads {F : StateField → Bool} [May F .clock] [May F .free] [May F .out] [May F .regs] [May F .shadows] [May F .mem] [May F .bad] [May F .beat] [May F .beatBefore] [May F .fns] [May F .msix] [May F .grants] [May F .grantOp] [May F .vales] [May F .parts] [May F .slots] [May F .links] [May F .turns] [May F .floors] [May F .echo] [May F .tests] [May F .credits] [May F .granted] [May F .resets] [May F .health] [May F .terrace] [May F .boot] [May F .census] [May F .mp] [May F .pins] {r : State} (ns) {s : State} (h : State.Leads F r s) :
    State.Leads F r (resetAssertDo ns s) := by
  unfold resetAssertDo
  simp (maxDischargeDepth := 99) +contextual [h]

@[simp] theorem resetReleaseDo_leads {F : StateField → Bool} [May F .out] [May F .regs] [May F .boot] [May F .pins] {r : State} (headwater) {s : State} (h : State.Leads F r s) :
    State.Leads F r (resetReleaseDo headwater s) := by
  unfold resetReleaseDo
  simp (maxDischargeDepth := 99) +contextual [h]

@[simp] theorem State.modBoot_leads {F : StateField → Bool} [May F .boot] {r : State} {s : State} (f) (h : State.Leads F r s) :
    State.Leads F r (State.modBoot s f) := by
  unfold State.modBoot
  simp (maxDischargeDepth := 99) +contextual [h]

@[simp] theorem State.recordStart_leads {F : StateField → Bool} [May F .boot] [May F .mp] {r : State} {s : State} (warm) (h : State.Leads F r s) :
    State.Leads F r (State.recordStart s warm) := by
  unfold State.recordStart
  simp (maxDischargeDepth := 99) +contextual [h]

@[simp] theorem State.bootFail_leads {F : StateField → Bool} [May F .out] [May F .regs] [May F .boot] [May F .mp] [May F .pins] {r : State} {s : State} (cause) (h : State.Leads F r s) :
    State.Leads F r (State.bootFail s cause) := by
  unfold State.bootFail
  simp (maxDischargeDepth := 99) +contextual [h]

@[simp] theorem State.settingsReset_leads {F : StateField → Bool} [May F .out] [May F .regs] [May F .msix] [May F .mp] {r : State} {s : State} (slot) (h : State.Leads F r s) :
    State.Leads F r (State.settingsReset s slot) := by
  unfold State.settingsReset
  simp (maxDischargeDepth := 99) +contextual [h]

@[simp] theorem State.applySettings_leads {F : StateField → Bool} [May F .mp] {r : State} {s : State} (h : State.Leads F r s) :
    State.Leads F r (State.applySettings s) := by
  unfold State.applySettings
  simp (maxDischargeDepth := 99) +contextual [h]

@[simp] theorem flashDone_leads {F : StateField → Bool} [May F .out] [May F .regs] [May F .msix] [May F .boot] [May F .mp] [May F .pins] {r : State} (slotA) (slotB) {s : State} (h : State.Leads F r s) :
    State.Leads F r (flashDone slotA slotB s) := by
  unfold flashDone
  split <;> simp (maxDischargeDepth := 99) +contextual [h]

@[simp] theorem State.coldStart_leads {F : StateField → Bool} [May F .mem] [May F .bad] [May F .terrace] {r : State} {s : State} (h : State.Leads F r s) :
    State.Leads F r (State.coldStart s) := by
  unfold State.coldStart
  simp (maxDischargeDepth := 99) +contextual [h]

@[simp] theorem State.repairStack_leads {F : StateField → Bool} [May F .out] [May F .regs] [May F .msix] [May F .floors] {r : State} {s : State} (st) (h : State.Leads F r s) :
    State.Leads F r (State.repairStack s st) := by
  unfold State.repairStack
  exact State.leads_ite (State.modFloor_leads _ _ h) (State.raise_leads _ _ (State.setRegF_leads _ _ _ _ (State.modFloor_leads _ _ h)))

@[simp] theorem stacksDone_leads {F : StateField → Bool} [May F .out] [May F .regs] [May F .mem] [May F .bad] [May F .msix] [May F .vales] [May F .parts] [May F .floors] [May F .health] [May F .terrace] [May F .boot] [May F .mp] [May F .pins] {r : State} (marker) (failed) {s : State} (h : State.Leads F r s) :
    State.Leads F r (stacksDone marker failed s) := by
  unfold stacksDone
  simp (maxDischargeDepth := 99) +contextual [h]

@[simp] theorem processorsDone_leads {F : StateField → Bool} [May F .free] [May F .out] [May F .regs] [May F .msix] [May F .vales] [May F .parts] [May F .links] [May F .health] [May F .boot] [May F .mp] [May F .pins] {r : State} (badVales) (passFailed) {s : State} (h : State.Leads F r s) :
    State.Leads F r (processorsDone badVales passFailed s) := by
  unfold processorsDone
  simp (maxDischargeDepth := 99) +contextual [h]

@[simp] theorem bootPhaseDo_leads {F : StateField → Bool} [May F .free] [May F .out] [May F .regs] [May F .mem] [May F .bad] [May F .msix] [May F .vales] [May F .parts] [May F .links] [May F .floors] [May F .health] [May F .terrace] [May F .boot] [May F .mp] [May F .pins] {r : State} (x0) {s : State} (h : State.Leads F r s) :
    State.Leads F r (bootPhaseDo x0 s) := by
  unfold bootPhaseDo
  split <;> simp (maxDischargeDepth := 99) +contextual [h]

@[simp] theorem powerLossDo_leads {F : StateField → Bool} [May F .out] [May F .terrace] [May F .boot] [May F .pins] {r : State} {s : State} (h : State.Leads F r s) :
    State.Leads F r (powerLossDo s) := by
  unfold powerLossDo
  simp (maxDischargeDepth := 99) +contextual [h]

@[simp] theorem thermalTripDo_leads {F : StateField → Bool} [May F .out] [May F .regs] [May F .boot] [May F .mp] [May F .pins] {r : State} (die) (reading) {s : State} (h : State.Leads F r s) :
    State.Leads F r (thermalTripDo die reading s) := by
  unfold thermalTripDo
  simp (maxDischargeDepth := 99) +contextual [h]

@[simp] theorem passFailDo_leads {F : StateField → Bool} [May F .out] [May F .boot] {r : State} {s : State} (h : State.Leads F r s) :
    State.Leads F r (passFailDo s) := by
  unfold passFailDo
  simp (maxDischargeDepth := 99) +contextual [h]

theorem execResetAssert_leads {F : StateField → Bool} [May F .clock] [May F .free] [May F .out] [May F .regs] [May F .shadows] [May F .mem] [May F .bad] [May F .beat] [May F .beatBefore] [May F .fns] [May F .msix] [May F .grants] [May F .grantOp] [May F .vales] [May F .parts] [May F .slots] [May F .links] [May F .turns] [May F .floors] [May F .echo] [May F .tests] [May F .credits] [May F .granted] [May F .resets] [May F .health] [May F .terrace] [May F .boot] [May F .census] [May F .mp] [May F .pins] (ns) {s : State} : State.LeadsOut F s (execResetAssert ns s) := by
  simp (maxDischargeDepth := 99) [execResetAssert]

theorem execResetRelease_leads {F : StateField → Bool} [May F .out] [May F .regs] [May F .boot] [May F .pins] (headwater) {s : State} : State.LeadsOut F s (execResetRelease headwater s) := by
  simp (maxDischargeDepth := 99) [execResetRelease]

theorem execBootPhaseDone_leads {F : StateField → Bool} [May F .free] [May F .out] [May F .regs] [May F .mem] [May F .bad] [May F .msix] [May F .vales] [May F .parts] [May F .links] [May F .floors] [May F .health] [May F .terrace] [May F .boot] [May F .mp] [May F .pins] (x0) {s : State} : State.LeadsOut F s (execBootPhaseDone x0 s) := by
  simp (maxDischargeDepth := 99) [execBootPhaseDone]

theorem execPowerLoss_leads {F : StateField → Bool} [May F .out] [May F .terrace] [May F .boot] [May F .pins] {s : State} : State.LeadsOut F s (execPowerLoss s) := by
  simp (maxDischargeDepth := 99) [execPowerLoss]

theorem execThermalTrip_leads {F : StateField → Bool} [May F .out] [May F .regs] [May F .boot] [May F .mp] [May F .pins] (die) (reading) {s : State} : State.LeadsOut F s (execThermalTrip die reading s) := by
  simp (maxDischargeDepth := 99) [execThermalTrip]

theorem execPassDieFailure_leads {F : StateField → Bool} [May F .out] [May F .boot] (d) {s : State} : State.LeadsOut F s (execPassDieFailure d s) := by
  unfold execPassDieFailure
  split <;> simp (maxDischargeDepth := 99)

/-! ### Sensors -/

@[simp] theorem State.setSensor_leads {F : StateField → Bool} [May F .regs] {r : State} {s : State} (id) (v) (h : State.Leads F r s) :
    State.Leads F r (State.setSensor s id v) := by
  unfold State.setSensor
  simp (maxDischargeDepth := 99) +contextual [h]

@[simp] theorem State.thermSample_leads {F : StateField → Bool} [May F .out] [May F .regs] [May F .msix] [May F .pins] {r : State} {s : State} (unit) (hot) (h : State.Leads F r s) :
    State.Leads F r (State.thermSample s unit hot) := by
  unfold State.thermSample
  simp (maxDischargeDepth := 99) +contextual [h]

@[simp] theorem State.setSensorEvent_leads {F : StateField → Bool} [May F .mp] {r : State} {s : State} (id) (e) (h : State.Leads F r s) :
    State.Leads F r (State.setSensorEvent s id e) := by
  unfold State.setSensorEvent
  simp (maxDischargeDepth := 99) +contextual [h]

@[simp] theorem State.sendSensor_leads {F : StateField → Bool} [May F .out] [May F .mp] {r : State} {s : State} (id) (level) (h : State.Leads F r s) :
    State.Leads F r (State.sendSensor s id level) := by
  unfold State.sendSensor
  split <;> simp (maxDischargeDepth := 99) +contextual [h]

@[simp] theorem State.sensorCross_leads {F : StateField → Bool} [May F .out] [May F .mp] {r : State} {s : State} (id) (v) (h : State.Leads F r s) :
    State.Leads F r (State.sensorCross s id v) := by
  unfold State.sensorCross
  simp (maxDischargeDepth := 99) +contextual [h]

@[simp] theorem sensorSampleDo_leads {F : StateField → Bool} [May F .out] [May F .regs] [May F .msix] [May F .health] [May F .mp] [May F .pins] {r : State} (readings) {s : State} (h : State.Leads F r s) :
    State.Leads F r (sensorSampleDo readings s) := by
  unfold sensorSampleDo
  simp (maxDischargeDepth := 99) +contextual [h]

@[simp] theorem eventWindowDo_leads {F : StateField → Bool} [May F .out] [May F .mp] {r : State} (id) {s : State} (h : State.Leads F r s) :
    State.Leads F r (eventWindowDo id s) := by
  unfold eventWindowDo
  simp (maxDischargeDepth := 99) +contextual [h]

theorem execSensorSample_leads {F : StateField → Bool} [May F .out] [May F .regs] [May F .msix] [May F .health] [May F .mp] [May F .pins] (readings) {s : State} : State.LeadsOut F s (execSensorSample readings s) := by
  simp (maxDischargeDepth := 99) [execSensorSample]

theorem execPldmEventWindow_leads {F : StateField → Bool} [May F .out] [May F .mp] (sensor) {s : State} : State.LeadsOut F s (execPldmEventWindow sensor s) := by
  simp (maxDischargeDepth := 99) [execPldmEventWindow]

/-! ### Management -/

@[simp] theorem State.reply_leads {F : StateField → Bool} [May F .out] {r : State} {s : State} (t) (x2) (payload) (h : State.Leads F r s) :
    State.Leads F r (State.reply s t x2 payload) := by
  unfold State.reply
  simp (maxDischargeDepth := 99) +contextual [h]

@[simp] theorem setEndpointDo_leads {F : StateField → Bool} [May F .out] [May F .mp] {r : State} (t) (eid) {s : State} (h : State.Leads F r s) :
    State.Leads F r (setEndpointDo t eid s) := by
  unfold setEndpointDo
  simp (maxDischargeDepth := 99) +contextual [h]

@[simp] theorem getPdrDo_leads {F : StateField → Bool} [May F .out] {r : State} (t) (handle) {s : State} (h : State.Leads F r s) :
    State.Leads F r (getPdrDo t handle s) := by
  unfold getPdrDo
  split <;> simp (maxDischargeDepth := 99) +contextual [h]

@[simp] theorem getReadingDo_leads {F : StateField → Bool} [May F .out] {r : State} (t) (id) {s : State} (h : State.Leads F r s) :
    State.Leads F r (getReadingDo t id s) := by
  unfold getReadingDo
  simp (maxDischargeDepth := 99) +contextual [h]

@[simp] theorem getThresholdsDo_leads {F : StateField → Bool} [May F .out] {r : State} (t) (id) {s : State} (h : State.Leads F r s) :
    State.Leads F r (getThresholdsDo t id s) := by
  unfold getThresholdsDo
  simp (maxDischargeDepth := 99) +contextual [h]

@[simp] theorem setThresholdsDo_leads {F : StateField → Bool} [May F .out] [May F .mp] {r : State} (t) (id) (warn) (crit) {s : State} (h : State.Leads F r s) :
    State.Leads F r (setThresholdsDo t id warn crit s) := by
  unfold setThresholdsDo
  simp (maxDischargeDepth := 99) +contextual [h]

@[simp] theorem setReceiverDo_leads {F : StateField → Bool} [May F .out] [May F .mp] {r : State} (t) (eid) {s : State} (h : State.Leads F r s) :
    State.Leads F r (setReceiverDo t eid s) := by
  unfold setReceiverDo
  simp (maxDischargeDepth := 99) +contextual [h]

@[simp] theorem State.setUpdate_leads {F : StateField → Bool} [May F .mp] {r : State} {s : State} (u) (h : State.Leads F r s) :
    State.Leads F r (State.setUpdate s u) := by
  unfold State.setUpdate
  simp (maxDischargeDepth := 99) +contextual [h]

@[simp] theorem requestUpdateDo_leads {F : StateField → Bool} [May F .out] [May F .mp] {r : State} (t) (agent) (maxTransfer) {s : State} (h : State.Leads F r s) :
    State.Leads F r (requestUpdateDo t agent maxTransfer s) := by
  unfold requestUpdateDo
  simp (maxDischargeDepth := 99) +contextual [h]

@[simp] theorem byAgent_leads {F : StateField → Bool} [May F .out] [May F .mp] {r : State} (t agent f) {s : State} (h : State.Leads F r s)
    (hf : ∀ u x, State.Leads F r x → State.Leads F r (f u x)) : State.Leads F r (byAgent t agent f s) := by
  unfold byAgent
  split
  · exact State.leads_ite (hf _ _ (by simp (maxDischargeDepth := 99) [h])) (by simp (maxDischargeDepth := 99) [h])
  · simp (maxDischargeDepth := 99) [h]

@[simp] theorem passTableDo_leads {F : StateField → Bool} [May F .out] [May F .mp] {r : State} (t) (classification) (ident) (u) {s : State} (h : State.Leads F r s) :
    State.Leads F r (passTableDo t classification ident u s) := by
  unfold passTableDo
  simp (maxDischargeDepth := 99) +contextual [h]

@[simp] theorem State.requestFrom_leads {F : StateField → Bool} [May F .out] [May F .mp] {r : State} {s : State} (u) (o) (c) (h : State.Leads F r s) :
    State.Leads F r (State.requestFrom s u o c) := by
  unfold State.requestFrom
  split <;> simp (maxDischargeDepth := 99) +contextual [h]

@[simp] theorem updateComponentDo_leads {F : StateField → Bool} [May F .out] [May F .regs] [May F .mp] {r : State} (t) (o) (u) {s : State} (h : State.Leads F r s) :
    State.Leads F r (updateComponentDo t o u s) := by
  unfold updateComponentDo
  simp (maxDischargeDepth := 99) +contextual [h]

@[simp] theorem programPiece_leads {F : StateField → Bool} [May F .out] [May F .mp] {r : State} (data) (o) (u) {s : State} (h : State.Leads F r s) :
    State.Leads F r (programPiece data o u s) := by
  unfold programPiece
  simp (maxDischargeDepth := 99) +contextual [h]

@[simp] theorem firmwareDataDo_leads {F : StateField → Bool} [May F .out] [May F .mp] {r : State} (t) (data) {s : State} (h : State.Leads F r s) :
    State.Leads F r (firmwareDataDo t data s) := by
  unfold firmwareDataDo
  (repeat' split) <;> simp (maxDischargeDepth := 99) +contextual [h]

@[simp] theorem verifyEndDo_leads {F : StateField → Bool} [May F .free] [May F .out] [May F .regs] [May F .msix] [May F .mp] {r : State} (ok) (u) {s : State} (h : State.Leads F r s) :
    State.Leads F r (verifyEndDo ok u s) := by
  unfold verifyEndDo
  simp (maxDischargeDepth := 99) +contextual [h]

@[simp] theorem activateDo_leads {F : StateField → Bool} [May F .free] [May F .out] [May F .mp] {r : State} (t) (torn) (x2) {s : State} (h : State.Leads F r s) :
    State.Leads F r (activateDo t torn x2 s) := by
  unfold activateDo
  simp (maxDischargeDepth := 99) +contextual [h]

@[simp] theorem cancelDo_leads {F : StateField → Bool} [May F .out] [May F .mp] {r : State} (t) (x1) {s : State} (h : State.Leads F r s) :
    State.Leads F r (cancelDo t x1 s) := by
  unfold cancelDo
  simp (maxDischargeDepth := 99) +contextual [h]

@[simp] theorem State.setSpdm_leads {F : StateField → Bool} [May F .mp] {r : State} {s : State} (t) (k) (h : State.Leads F r s) :
    State.Leads F r (State.setSpdm s t k) := by
  unfold State.setSpdm
  simp (maxDischargeDepth := 99) +contextual [h]

@[simp] theorem spdmFrom_leads {F : StateField → Bool} [May F .out] {r : State} (t) (k) (f) {s : State} (h : State.Leads F r s) (hf : ∀ t, State.Leads F r t → State.Leads F r (f t)) :
    State.Leads F r (spdmFrom t k f s) := by
  unfold spdmFrom
  simp (maxDischargeDepth := 99) +contextual [h, hf]

@[simp] theorem getCertificateDo_leads {F : StateField → Bool} [May F .out] {r : State} (t) (slot) (ofs) (len) {s : State} (h : State.Leads F r s) :
    State.Leads F r (getCertificateDo t slot ofs len s) := by
  unfold getCertificateDo
  simp (maxDischargeDepth := 99) +contextual [h]

@[simp] theorem challengeDo_leads {F : StateField → Bool} [May F .out] {r : State} (t) (slot) (nonce) {s : State} (h : State.Leads F r s) :
    State.Leads F r (challengeDo t slot nonce s) := by
  unfold challengeDo
  simp (maxDischargeDepth := 99) +contextual [h]

@[simp] theorem getMeasurementsDo_leads {F : StateField → Bool} [May F .out] {r : State} (t) (index) (signed) (nonce) {s : State} (h : State.Leads F r s) :
    State.Leads F r (getMeasurementsDo t index signed nonce s) := by
  unfold getMeasurementsDo
  split <;> simp (maxDischargeDepth := 99) +contextual [h]

@[simp] theorem onMctp_leads {F : StateField → Bool}  (t) {s : State} {f : State → State} (h : State.Leads F s (f s)) :
    State.LeadsOut F s (onMctp t s f) := by
  unfold onMctp; simp (maxDischargeDepth := 99) [h]

@[simp] theorem onI3cInFailed_leads {F : StateField → Bool}  (t) {s : State} {f : State → State} (h : State.Leads F s (f s)) :
    State.LeadsOut F s (onI3cInFailed t s f) := by
  unfold onI3cInFailed; simp (maxDischargeDepth := 99) [h]

theorem execSetEndpointId_leads {F : StateField → Bool} [May F .out] [May F .mp] (t) (eid) {s : State} : State.LeadsOut F s (execSetEndpointId t eid s) := by
  simp (maxDischargeDepth := 99) [execSetEndpointId]

theorem execMctpControl_leads {F : StateField → Bool} [May F .out] (t) (code) {s : State} : State.LeadsOut F s (execMctpControl t code s) := by
  simp (maxDischargeDepth := 99) [execMctpControl]

theorem execGetPdr_leads {F : StateField → Bool} [May F .out] (t) (handle) {s : State} : State.LeadsOut F s (execGetPdr t handle s) := by
  simp (maxDischargeDepth := 99) [execGetPdr]

theorem execGetPdrRepositoryInfo_leads {F : StateField → Bool} [May F .out] (t) {s : State} : State.LeadsOut F s (execGetPdrRepositoryInfo t s) := by
  simp (maxDischargeDepth := 99) [execGetPdrRepositoryInfo]

theorem execGetSensorReading_leads {F : StateField → Bool} [May F .out] (t) (sensor) {s : State} : State.LeadsOut F s (execGetSensorReading t sensor s) := by
  simp (maxDischargeDepth := 99) [execGetSensorReading]

theorem execGetSensorThresholds_leads {F : StateField → Bool} [May F .out] (t) (sensor) {s : State} : State.LeadsOut F s (execGetSensorThresholds t sensor s) := by
  simp (maxDischargeDepth := 99) [execGetSensorThresholds]

theorem execSetSensorThresholds_leads {F : StateField → Bool} [May F .out] [May F .mp] (t) (sensor) (warn) (crit) {s : State} : State.LeadsOut F s (execSetSensorThresholds t sensor warn crit s) := by
  simp (maxDischargeDepth := 99) [execSetSensorThresholds]

theorem execSetEventReceiver_leads {F : StateField → Bool} [May F .out] [May F .mp] (t) (eid) {s : State} : State.LeadsOut F s (execSetEventReceiver t eid s) := by
  simp (maxDischargeDepth := 99) [execSetEventReceiver]

theorem execGetTid_leads {F : StateField → Bool} [May F .out] (t) {s : State} : State.LeadsOut F s (execGetTid t s) := by
  simp (maxDischargeDepth := 99) [execGetTid]

theorem execRequestUpdate_leads {F : StateField → Bool} [May F .out] [May F .mp] (t) (agent) (maxTransfer) {s : State} : State.LeadsOut F s (execRequestUpdate t agent maxTransfer s) := by
  simp (maxDischargeDepth := 99) [execRequestUpdate]

theorem execPassComponentTable_leads {F : StateField → Bool} [May F .out] [May F .mp] (t) (agent) (classification) (ident) {s : State} : State.LeadsOut F s (execPassComponentTable t agent classification ident s) := by
  unfold execPassComponentTable
  simp (maxDischargeDepth := 99) +contextual

theorem execUpdateComponent_leads {F : StateField → Bool} [May F .out] [May F .regs] [May F .mp] (t) (agent) (offer) {s : State} : State.LeadsOut F s (execUpdateComponent t agent offer s) := by
  unfold execUpdateComponent
  simp (maxDischargeDepth := 99) +contextual

theorem execFirmwareData_leads {F : StateField → Bool} [May F .out] [May F .mp] (t) (data) {s : State} : State.LeadsOut F s (execFirmwareData t data s) := by
  simp (maxDischargeDepth := 99) [execFirmwareData]

theorem execSlotVerifyEnd_leads {F : StateField → Bool} [May F .free] [May F .out] [May F .regs] [May F .msix] [May F .mp] (ok) {s : State} : State.LeadsOut F s (execSlotVerifyEnd ok s) := by
  unfold execSlotVerifyEnd
  split <;> simp (maxDischargeDepth := 99)

theorem execActivateFirmware_leads {F : StateField → Bool} [May F .free] [May F .out] [May F .mp] (t) (agent) (torn) {s : State} : State.LeadsOut F s (execActivateFirmware t agent torn s) := by
  unfold execActivateFirmware
  simp (maxDischargeDepth := 99) +contextual

theorem execGetStatus_leads {F : StateField → Bool} [May F .out] (t) {s : State} : State.LeadsOut F s (execGetStatus t s) := by
  simp (maxDischargeDepth := 99) [execGetStatus]

theorem execCancelUpdateComponent_leads {F : StateField → Bool} [May F .out] [May F .mp] (t) (agent) {s : State} : State.LeadsOut F s (execCancelUpdateComponent t agent s) := by
  unfold execCancelUpdateComponent
  simp (maxDischargeDepth := 99) +contextual

theorem execCancelUpdate_leads {F : StateField → Bool} [May F .out] [May F .mp] (t) (agent) {s : State} : State.LeadsOut F s (execCancelUpdate t agent s) := by
  unfold execCancelUpdate
  simp (maxDischargeDepth := 99) +contextual

theorem execQueryDeviceIdentifiers_leads {F : StateField → Bool} [May F .out] (t) {s : State} : State.LeadsOut F s (execQueryDeviceIdentifiers t s) := by
  simp (maxDischargeDepth := 99) [execQueryDeviceIdentifiers]

theorem execGetFirmwareParameters_leads {F : StateField → Bool} [May F .out] (t) {s : State} : State.LeadsOut F s (execGetFirmwareParameters t s) := by
  simp (maxDischargeDepth := 99) [execGetFirmwareParameters]

theorem execUpdateTimeout_leads {F : StateField → Bool} [May F .regs] [May F .mp] {s : State} : State.LeadsOut F s (execUpdateTimeout s) := by
  simp (maxDischargeDepth := 99) [execUpdateTimeout]

theorem execGetVersion_leads {F : StateField → Bool} [May F .out] [May F .mp] (t) {s : State} : State.LeadsOut F s (execGetVersion t s) := by
  simp (maxDischargeDepth := 99) [execGetVersion]

theorem execGetCapabilities_leads {F : StateField → Bool} [May F .out] [May F .mp] (t) {s : State} : State.LeadsOut F s (execGetCapabilities t s) := by
  unfold execGetCapabilities
  simp (maxDischargeDepth := 99) +contextual

theorem execNegotiateAlgorithms_leads {F : StateField → Bool} [May F .out] [May F .mp] (t) {s : State} : State.LeadsOut F s (execNegotiateAlgorithms t s) := by
  unfold execNegotiateAlgorithms
  simp (maxDischargeDepth := 99) +contextual

theorem execGetDigests_leads {F : StateField → Bool} [May F .out] (t) {s : State} : State.LeadsOut F s (execGetDigests t s) := by
  unfold execGetDigests
  simp (maxDischargeDepth := 99) +contextual

theorem execGetCertificate_leads {F : StateField → Bool} [May F .out] (t) (slot) (ofs) (len) {s : State} : State.LeadsOut F s (execGetCertificate t slot ofs len s) := by
  unfold execGetCertificate
  simp (maxDischargeDepth := 99) +contextual

theorem execChallenge_leads {F : StateField → Bool} [May F .out] (t) (slot) (nonce) {s : State} : State.LeadsOut F s (execChallenge t slot nonce s) := by
  unfold execChallenge
  simp (maxDischargeDepth := 99) +contextual

theorem execGetMeasurements_leads {F : StateField → Bool} [May F .out] (t) (index) (signed) (nonce) {s : State} : State.LeadsOut F s (execGetMeasurements t index signed nonce s) := by
  unfold execGetMeasurements
  simp (maxDischargeDepth := 99) +contextual

/-! ### HostWrite -/

@[simp] theorem onBit_leads {F : StateField → Bool}  {r : State} (v) (i) (f) {s : State} (h : State.Leads F r s) (hf : ∀ t, State.Leads F r t → State.Leads F r (f t)) :
    State.Leads F r (onBit v i f s) := by
  unfold onBit
  simp (maxDischargeDepth := 99) +contextual [h, hf]

@[simp] theorem writeBlkCtl_leads {F : StateField → Bool} [May F .out] [May F .regs] [May F .mem] [May F .msix] [May F .vales] [May F .parts] [May F .floors] [May F .resets] [May F .health] [May F .terrace] [May F .mp] {r : State} (pg) (v) {s : State} (h : State.Leads F r s) :
    State.Leads F r (writeBlkCtl pg v s) := by
  unfold writeBlkCtl
  simp (maxDischargeDepth := 99) +contextual [h]

@[simp] theorem writeBeatCtl_leads {F : StateField → Bool} [May F .free] [May F .out] [May F .regs] [May F .mem] [May F .bad] [May F .beat] [May F .msix] [May F .vales] [May F .parts] [May F .slots] [May F .floors] [May F .echo] [May F .health] [May F .mp] {r : State} (v) {s : State} (h : State.Leads F r s) :
    State.Leads F r (writeBeatCtl v s) := by
  unfold writeBeatCtl
  simp (maxDischargeDepth := 99) +contextual [h]

@[simp] theorem writeBgReq_leads {F : StateField → Bool} [May F .free] [May F .regs] [May F .tests] {r : State} (v) {s : State} (h : State.Leads F r s) :
    State.Leads F r (writeBgReq v s) := by
  unfold writeBgReq
  simp (maxDischargeDepth := 99) +contextual [h]

@[simp] theorem writeDevice_leads {F : StateField → Bool} [May F .free] [May F .out] [May F .regs] [May F .mem] [May F .bad] [May F .beat] [May F .msix] [May F .vales] [May F .parts] [May F .slots] [May F .links] [May F .floors] [May F .echo] [May F .tests] [May F .health] [May F .census] [May F .mp] {r : State} (o) (v) {s : State} (h : State.Leads F r s) :
    State.Leads F r (writeDevice o v s) := by
  unfold writeDevice
  simp (maxDischargeDepth := 99) +contextual [h]

@[simp] theorem writePcfgCmd_leads {F : StateField → Bool} [May F .free] [May F .out] [May F .regs] [May F .mem] [May F .bad] [May F .msix] [May F .vales] [May F .parts] [May F .slots] [May F .floors] [May F .echo] [May F .health] [May F .mp] {r : State} (n) (v) {s : State} (h : State.Leads F r s) :
    State.Leads F r (writePcfgCmd n v s) := by
  unfold writePcfgCmd
  split <;> simp (maxDischargeDepth := 99) +contextual [h]

@[simp] theorem writeGrantCmd_leads {F : StateField → Bool} [May F .out] [May F .regs] [May F .msix] [May F .grants] [May F .grantOp] {r : State} (v) {s : State} (h : State.Leads F r s) :
    State.Leads F r (writeGrantCmd v s) := by
  unfold writeGrantCmd
  split <;> simp (maxDischargeDepth := 99) +contextual [h]

@[simp] theorem writeTurnResolve_leads {F : StateField → Bool} [May F .out] [May F .regs] [May F .mem] [May F .bad] [May F .msix] [May F .parts] [May F .slots] [May F .links] [May F .turns] [May F .floors] [May F .health] [May F .mp] {r : State} (n) (v) {s : State} (h : State.Leads F r s) :
    State.Leads F r (writeTurnResolve n v s) := by
  unfold writeTurnResolve
  (repeat' split) <;> simp (maxDischargeDepth := 99) +contextual [h]

@[simp] theorem writeTerraceCtl_leads {F : StateField → Bool} [May F .regs] [May F .health] [May F .terrace] {r : State} (v) {s : State} (h : State.Leads F r s) :
    State.Leads F r (writeTerraceCtl v s) := by
  unfold writeTerraceCtl
  simp (maxDischargeDepth := 99) +contextual [h]

@[simp] theorem writeHmCtl_leads {F : StateField → Bool} [May F .out] [May F .regs] [May F .msix] [May F .health] [May F .pins] {r : State} (v) {s : State} (h : State.Leads F r s) :
    State.Leads F r (writeHmCtl v s) := by
  unfold writeHmCtl
  simp (maxDischargeDepth := 99) +contextual [h]

@[simp] theorem writeCollResolve_leads {F : StateField → Bool} [May F .free] [May F .out] [May F .regs] [May F .mem] [May F .bad] [May F .msix] [May F .vales] [May F .parts] [May F .slots] [May F .floors] [May F .echo] [May F .health] [May F .mp] {r : State} (g) (v) {s : State} (h : State.Leads F r s) :
    State.Leads F r (writeCollResolve g v s) := by
  unfold writeCollResolve
  split <;> simp (maxDischargeDepth := 99) +contextual [h]

@[simp] theorem writeLinkCtl_leads {F : StateField → Bool} [May F .free] [May F .out] [May F .regs] [May F .msix] [May F .slots] [May F .links] [May F .mp] {r : State} (k) (v) {s : State} (h : State.Leads F r s) :
    State.Leads F r (writeLinkCtl k v s) := by
  unfold writeLinkCtl
  simp (maxDischargeDepth := 99) +contextual [h]

@[simp] theorem writePf_leads {F : StateField → Bool} [May F .free] [May F .out] [May F .regs] [May F .mem] [May F .bad] [May F .beat] [May F .msix] [May F .grants] [May F .grantOp] [May F .vales] [May F .parts] [May F .slots] [May F .links] [May F .turns] [May F .floors] [May F .echo] [May F .tests] [May F .health] [May F .terrace] [May F .census] [May F .mp] [May F .pins] {r : State} (pg) (o) (v) {s : State} (h : State.Leads F r s) :
    State.Leads F r (writePf pg o v s) := by
  unfold writePf
  split <;> simp (maxDischargeDepth := 99) +contextual [h]

@[simp] theorem writeJobCtl_leads {F : StateField → Bool} [May F .free] [May F .out] [May F .regs] [May F .mem] [May F .bad] [May F .msix] [May F .vales] [May F .parts] [May F .slots] [May F .floors] [May F .echo] [May F .health] [May F .mp] {r : State} (n) (j) (v) {s : State} (h : State.Leads F r s) :
    State.Leads F r (writeJobCtl n j v s) := by
  unfold writeJobCtl
  simp (maxDischargeDepth := 99) +contextual [h]

@[simp] theorem writeJob_leads {F : StateField → Bool} [May F .free] [May F .out] [May F .regs] [May F .mem] [May F .bad] [May F .msix] [May F .vales] [May F .parts] [May F .slots] [May F .floors] [May F .echo] [May F .health] [May F .mp] {r : State} (n) (o) (v) {s : State} (h : State.Leads F r s) :
    State.Leads F r (writeJob n o v s) := by
  unfold writeJob
  simp (maxDischargeDepth := 99) +contextual [h]

@[simp] theorem writeFaultResume_leads {F : StateField → Bool} [May F .out] [May F .regs] [May F .msix] [May F .parts] [May F .slots] [May F .terrace] {r : State} (n) (v) {s : State} (h : State.Leads F r s) :
    State.Leads F r (writeFaultResume n v s) := by
  unfold writeFaultResume
  simp (maxDischargeDepth := 99) +contextual [h]

@[simp] theorem writeResCmd_leads {F : StateField → Bool} [May F .out] [May F .regs] [May F .mem] [May F .bad] [May F .msix] [May F .parts] [May F .slots] [May F .floors] [May F .health] [May F .terrace] [May F .mp] {r : State} (n) (v) {s : State} (h : State.Leads F r s) :
    State.Leads F r (writeResCmd n v s) := by
  unfold writeResCmd
  split <;> simp (maxDischargeDepth := 99) +contextual [h]

@[simp] theorem writeRcCtl_leads {F : StateField → Bool} [May F .out] [May F .regs] [May F .msix] [May F .vales] [May F .parts] {r : State} (n) (v) {s : State} (h : State.Leads F r s) :
    State.Leads F r (writeRcCtl n v s) := by
  unfold writeRcCtl
  simp (maxDischargeDepth := 99) +contextual [h]

@[simp] theorem writeTlbLo_leads {F : StateField → Bool} [May F .regs] {r : State} (n) (v) {s : State} (h : State.Leads F r s) :
    State.Leads F r (writeTlbLo n v s) := by
  unfold writeTlbLo
  simp (maxDischargeDepth := 99) +contextual [h]

@[simp] theorem writeCq_leads {F : StateField → Bool} [May F .out] [May F .regs] [May F .msix] [May F .parts] {r : State} (n) (x1) (v) {s : State} (h : State.Leads F r s) :
    State.Leads F r (writeCq n x1 v s) := by
  unfold writeCq
  simp (maxDischargeDepth := 99) +contextual [h]

@[simp] theorem writeDgCtl_leads {F : StateField → Bool} [May F .regs] [May F .parts] {r : State} (n) (v) {s : State} (h : State.Leads F r s) :
    State.Leads F r (writeDgCtl n v s) := by
  unfold writeDgCtl
  simp (maxDischargeDepth := 99) +contextual [h]

@[simp] theorem writeToken_leads {F : StateField → Bool} [May F .out] [May F .regs] [May F .msix] [May F .slots] {r : State} (n) (o) (v) {s : State} (h : State.Leads F r s) :
    State.Leads F r (writeToken n o v s) := by
  unfold writeToken
  simp (maxDischargeDepth := 99) +contextual [h]

@[simp] theorem writePart_leads {F : StateField → Bool} [May F .free] [May F .out] [May F .regs] [May F .mem] [May F .bad] [May F .msix] [May F .vales] [May F .parts] [May F .slots] [May F .floors] [May F .echo] [May F .health] [May F .terrace] [May F .mp] {r : State} (n) (o) (v) {s : State} (h : State.Leads F r s) :
    State.Leads F r (writePart n o v s) := by
  unfold writePart
  (repeat' split) <;> simp (maxDischargeDepth := 99) +contextual [h]

@[simp] theorem writeReg_leads {F : StateField → Bool} [May F .free] [May F .out] [May F .regs] [May F .mem] [May F .bad] [May F .beat] [May F .msix] [May F .grants] [May F .grantOp] [May F .vales] [May F .parts] [May F .slots] [May F .links] [May F .turns] [May F .floors] [May F .echo] [May F .tests] [May F .resets] [May F .health] [May F .terrace] [May F .census] [May F .mp] [May F .pins] {r : State} (pg) (o) (v) {s : State} (h : State.Leads F r s) :
    State.Leads F r (writeReg pg o v s) := by
  unfold writeReg
  (repeat' split) <;> simp (maxDischargeDepth := 99) +contextual [h]

@[simp] theorem writeMsix_leads {F : StateField → Bool} [May F .out] [May F .msix] {r : State} (fn) (x) (v) {s : State} (h : State.Leads F r s) :
    State.Leads F r (writeMsix fn x v s) := by
  unfold writeMsix
  split <;> simp (maxDischargeDepth := 99) +contextual [h]

@[simp] theorem writeWord_leads {F : StateField → Bool} [May F .free] [May F .out] [May F .regs] [May F .mem] [May F .bad] [May F .beat] [May F .msix] [May F .grants] [May F .grantOp] [May F .vales] [May F .parts] [May F .slots] [May F .links] [May F .turns] [May F .floors] [May F .echo] [May F .tests] [May F .resets] [May F .health] [May F .terrace] [May F .census] [May F .mp] [May F .pins] {r : State} (fn) (ofs) (v) {s : State} (h : State.Leads F r s) :
    State.Leads F r (writeWord fn ofs v s) := by
  unfold writeWord
  (repeat' split) <;> simp (maxDischargeDepth := 99) +contextual [h]

@[simp] theorem writeBar_leads {F : StateField → Bool} [May F .free] [May F .out] [May F .regs] [May F .mem] [May F .bad] [May F .beat] [May F .msix] [May F .grants] [May F .grantOp] [May F .vales] [May F .parts] [May F .slots] [May F .links] [May F .turns] [May F .floors] [May F .echo] [May F .tests] [May F .resets] [May F .health] [May F .terrace] [May F .census] [May F .mp] [May F .pins] {r : State} (fn) (ofs) (width) (v) {s : State} (h : State.Leads F r s) :
    State.Leads F r (writeBar fn ofs width v s) := by
  unfold writeBar
  simp (maxDischargeDepth := 99) +contextual [h]

@[simp] theorem State.sendAllPending_leads {F : StateField → Bool} [May F .out] [May F .msix] {r : State} {s : State} (f) (h : State.Leads F r s) :
    State.Leads F r (State.sendAllPending s f) := by
  unfold State.sendAllPending
  simp (maxDischargeDepth := 99) +contextual [h]

@[simp] theorem writeCfg_leads {F : StateField → Bool} [May F .out] [May F .fns] [May F .msix] [May F .parts] [May F .slots] {r : State} (fn) (ofs) (v) {s : State} (h : State.Leads F r s) :
    State.Leads F r (writeCfg fn ofs v s) := by
  unfold writeCfg
  split <;> simp (maxDischargeDepth := 99) +contextual [h]

theorem execRegisterWrite_leads {F : StateField → Bool} [May F .free] [May F .out] [May F .regs] [May F .mem] [May F .bad] [May F .beat] [May F .fns] [May F .msix] [May F .grants] [May F .grantOp] [May F .vales] [May F .parts] [May F .slots] [May F .links] [May F .turns] [May F .floors] [May F .echo] [May F .tests] [May F .resets] [May F .health] [May F .terrace] [May F .census] [May F .mp] [May F .pins] (sp) (ofs) (width) (v) {s : State} : State.LeadsOut F s (execRegisterWrite sp ofs width v s) := by
  unfold execRegisterWrite
  split <;> simp (maxDischargeDepth := 99)

end Sys2Proof.Machine
end

