-- ==== Sys2Proof/Laws/Ops.lean ====
section
/-! SUPPORT. Ops: what each shared operation leaves alone, field by field, and what it does to the registers. -/

namespace Sys2Proof.Machine

/-! ### State.sendMsix -/

theorem State.sendMsix_only (s : State) (f v : Nat) : State.Leads (fun f => [.out, .msix].contains f) s (s.sendMsix f v) := by
  have : May (fun f => [.out, .msix].contains f) .out := ⟨rfl⟩
  have : May (fun f => [.out, .msix].contains f) .msix := ⟨rfl⟩
  exact State.sendMsix_leads _ _ (State.Leads.refl _ s)

@[simp] theorem State.sendMsix_pending (s : State) (f v : Nat) : (s.sendMsix f v).pending = s.pending := (State.sendMsix_only s f v).within .pending rfl
@[simp] theorem State.sendMsix_clock (s : State) (f v : Nat) : (s.sendMsix f v).clock = s.clock := (State.sendMsix_only s f v).within .clock rfl
@[simp] theorem State.sendMsix_free (s : State) (f v : Nat) : (s.sendMsix f v).free = s.free := (State.sendMsix_only s f v).within .free rfl
@[simp] theorem State.sendMsix_regs (s : State) (f v : Nat) : (s.sendMsix f v).regs = s.regs := (State.sendMsix_only s f v).within .regs rfl
@[simp] theorem State.sendMsix_shadows (s : State) (f v : Nat) : (s.sendMsix f v).shadows = s.shadows := (State.sendMsix_only s f v).within .shadows rfl
@[simp] theorem State.sendMsix_mem (s : State) (f v : Nat) : (s.sendMsix f v).mem = s.mem := (State.sendMsix_only s f v).within .mem rfl
@[simp] theorem State.sendMsix_bad (s : State) (f v : Nat) : (s.sendMsix f v).bad = s.bad := (State.sendMsix_only s f v).within .bad rfl
@[simp] theorem State.sendMsix_beat (s : State) (f v : Nat) : (s.sendMsix f v).beat = s.beat := (State.sendMsix_only s f v).within .beat rfl
@[simp] theorem State.sendMsix_beatBefore (s : State) (f v : Nat) : (s.sendMsix f v).beatBefore = s.beatBefore := (State.sendMsix_only s f v).within .beatBefore rfl
@[simp] theorem State.sendMsix_fns (s : State) (f v : Nat) : (s.sendMsix f v).fns = s.fns := (State.sendMsix_only s f v).within .fns rfl
@[simp] theorem State.sendMsix_grants (s : State) (f v : Nat) : (s.sendMsix f v).grants = s.grants := (State.sendMsix_only s f v).within .grants rfl
@[simp] theorem State.sendMsix_grantOp (s : State) (f v : Nat) : (s.sendMsix f v).grantOp = s.grantOp := (State.sendMsix_only s f v).within .grantOp rfl
@[simp] theorem State.sendMsix_vales (s : State) (f v : Nat) : (s.sendMsix f v).vales = s.vales := (State.sendMsix_only s f v).within .vales rfl
@[simp] theorem State.sendMsix_parts (s : State) (f v : Nat) : (s.sendMsix f v).parts = s.parts := (State.sendMsix_only s f v).within .parts rfl
@[simp] theorem State.sendMsix_slots (s : State) (f v : Nat) : (s.sendMsix f v).slots = s.slots := (State.sendMsix_only s f v).within .slots rfl
@[simp] theorem State.sendMsix_links (s : State) (f v : Nat) : (s.sendMsix f v).links = s.links := (State.sendMsix_only s f v).within .links rfl
@[simp] theorem State.sendMsix_turns (s : State) (f v : Nat) : (s.sendMsix f v).turns = s.turns := (State.sendMsix_only s f v).within .turns rfl
@[simp] theorem State.sendMsix_floors (s : State) (f v : Nat) : (s.sendMsix f v).floors = s.floors := (State.sendMsix_only s f v).within .floors rfl
@[simp] theorem State.sendMsix_echo (s : State) (f v : Nat) : (s.sendMsix f v).echo = s.echo := (State.sendMsix_only s f v).within .echo rfl
@[simp] theorem State.sendMsix_tests (s : State) (f v : Nat) : (s.sendMsix f v).tests = s.tests := (State.sendMsix_only s f v).within .tests rfl
@[simp] theorem State.sendMsix_credits (s : State) (f v : Nat) : (s.sendMsix f v).credits = s.credits := (State.sendMsix_only s f v).within .credits rfl
@[simp] theorem State.sendMsix_granted (s : State) (f v : Nat) : (s.sendMsix f v).granted = s.granted := (State.sendMsix_only s f v).within .granted rfl
@[simp] theorem State.sendMsix_resets (s : State) (f v : Nat) : (s.sendMsix f v).resets = s.resets := (State.sendMsix_only s f v).within .resets rfl
@[simp] theorem State.sendMsix_health (s : State) (f v : Nat) : (s.sendMsix f v).health = s.health := (State.sendMsix_only s f v).within .health rfl
@[simp] theorem State.sendMsix_terrace (s : State) (f v : Nat) : (s.sendMsix f v).terrace = s.terrace := (State.sendMsix_only s f v).within .terrace rfl
@[simp] theorem State.sendMsix_boot (s : State) (f v : Nat) : (s.sendMsix f v).boot = s.boot := (State.sendMsix_only s f v).within .boot rfl
@[simp] theorem State.sendMsix_census (s : State) (f v : Nat) : (s.sendMsix f v).census = s.census := (State.sendMsix_only s f v).within .census rfl
@[simp] theorem State.sendMsix_mp (s : State) (f v : Nat) : (s.sendMsix f v).mp = s.mp := (State.sendMsix_only s f v).within .mp rfl
@[simp] theorem State.sendMsix_pins (s : State) (f v : Nat) : (s.sendMsix f v).pins = s.pins := (State.sendMsix_only s f v).within .pins rfl
@[simp] theorem State.sendMsix_part_other (s : State) (f v : Nat) (j : Nat) : (s.sendMsix f v).part j = s.part j := by simp [State.part]
@[simp] theorem State.sendMsix_vale_other (s : State) (f v : Nat) (j : Nat) : (s.sendMsix f v).vale j = s.vale j := by simp [State.vale]
@[simp] theorem State.sendMsix_cmd_other (s : State) (f v : Nat) (j : Nat) : (s.sendMsix f v).cmd j = s.cmd j := by simp [State.cmd]
@[simp] theorem State.sendMsix_link_other (s : State) (f v : Nat) (j : Nat) : (s.sendMsix f v).link j = s.link j := by simp [State.link]
@[simp] theorem State.sendMsix_turn_other (s : State) (f v : Nat) (j : Nat) : (s.sendMsix f v).turn j = s.turn j := by simp [State.turn]
@[simp] theorem State.sendMsix_floor_other (s : State) (f v : Nat) (j : Nat) : (s.sendMsix f v).floor j = s.floor j := by simp [State.floor]
@[simp] theorem State.sendMsix_echoOf_other (s : State) (f v : Nat) (j : Nat) : (s.sendMsix f v).echoOf j = s.echoOf j := by simp [State.echoOf]
@[simp] theorem State.sendMsix_test_other (s : State) (f v : Nat) (j : Nat) : (s.sendMsix f v).test j = s.test j := by simp [State.test]
@[simp] theorem State.sendMsix_fn_other (s : State) (f v : Nat) (j : Nat) : (s.sendMsix f v).fn j = s.fn j := by simp [State.fn]
@[simp] theorem State.sendMsix_grant_other (s : State) (f v : Nat) (j : Nat) : (s.sendMsix f v).grant j = s.grant j := by simp [State.grant]
@[simp] theorem State.sendMsix_reg_other (s : State) (f v : Nat) (j : Nat) : (s.sendMsix f v).reg j = s.reg j := by simp [State.reg]
@[simp] theorem State.sendMsix_byte_other (s : State) (f v : Nat) (j : Nat) : (s.sendMsix f v).byte j = s.byte j := by simp [State.byte]

/-! ### State.raise -/

theorem State.raise_only (s : State) (pg : Page) (b : Nat) : State.Leads (fun f => [.out, .regs, .msix].contains f) s (s.raise pg b) := by
  have : May (fun f => [.out, .regs, .msix].contains f) .out := ⟨rfl⟩
  have : May (fun f => [.out, .regs, .msix].contains f) .regs := ⟨rfl⟩
  have : May (fun f => [.out, .regs, .msix].contains f) .msix := ⟨rfl⟩
  exact State.raise_leads _ _ (State.Leads.refl _ s)

@[simp] theorem State.raise_pending (s : State) (pg : Page) (b : Nat) : (s.raise pg b).pending = s.pending := (State.raise_only s pg b).within .pending rfl
@[simp] theorem State.raise_clock (s : State) (pg : Page) (b : Nat) : (s.raise pg b).clock = s.clock := (State.raise_only s pg b).within .clock rfl
@[simp] theorem State.raise_free (s : State) (pg : Page) (b : Nat) : (s.raise pg b).free = s.free := (State.raise_only s pg b).within .free rfl
@[simp] theorem State.raise_shadows (s : State) (pg : Page) (b : Nat) : (s.raise pg b).shadows = s.shadows := (State.raise_only s pg b).within .shadows rfl
@[simp] theorem State.raise_mem (s : State) (pg : Page) (b : Nat) : (s.raise pg b).mem = s.mem := (State.raise_only s pg b).within .mem rfl
@[simp] theorem State.raise_bad (s : State) (pg : Page) (b : Nat) : (s.raise pg b).bad = s.bad := (State.raise_only s pg b).within .bad rfl
@[simp] theorem State.raise_beat (s : State) (pg : Page) (b : Nat) : (s.raise pg b).beat = s.beat := (State.raise_only s pg b).within .beat rfl
@[simp] theorem State.raise_beatBefore (s : State) (pg : Page) (b : Nat) : (s.raise pg b).beatBefore = s.beatBefore := (State.raise_only s pg b).within .beatBefore rfl
@[simp] theorem State.raise_fns (s : State) (pg : Page) (b : Nat) : (s.raise pg b).fns = s.fns := (State.raise_only s pg b).within .fns rfl
@[simp] theorem State.raise_grants (s : State) (pg : Page) (b : Nat) : (s.raise pg b).grants = s.grants := (State.raise_only s pg b).within .grants rfl
@[simp] theorem State.raise_grantOp (s : State) (pg : Page) (b : Nat) : (s.raise pg b).grantOp = s.grantOp := (State.raise_only s pg b).within .grantOp rfl
@[simp] theorem State.raise_vales (s : State) (pg : Page) (b : Nat) : (s.raise pg b).vales = s.vales := (State.raise_only s pg b).within .vales rfl
@[simp] theorem State.raise_parts (s : State) (pg : Page) (b : Nat) : (s.raise pg b).parts = s.parts := (State.raise_only s pg b).within .parts rfl
@[simp] theorem State.raise_slots (s : State) (pg : Page) (b : Nat) : (s.raise pg b).slots = s.slots := (State.raise_only s pg b).within .slots rfl
@[simp] theorem State.raise_links (s : State) (pg : Page) (b : Nat) : (s.raise pg b).links = s.links := (State.raise_only s pg b).within .links rfl
@[simp] theorem State.raise_turns (s : State) (pg : Page) (b : Nat) : (s.raise pg b).turns = s.turns := (State.raise_only s pg b).within .turns rfl
@[simp] theorem State.raise_floors (s : State) (pg : Page) (b : Nat) : (s.raise pg b).floors = s.floors := (State.raise_only s pg b).within .floors rfl
@[simp] theorem State.raise_echo (s : State) (pg : Page) (b : Nat) : (s.raise pg b).echo = s.echo := (State.raise_only s pg b).within .echo rfl
@[simp] theorem State.raise_tests (s : State) (pg : Page) (b : Nat) : (s.raise pg b).tests = s.tests := (State.raise_only s pg b).within .tests rfl
@[simp] theorem State.raise_credits (s : State) (pg : Page) (b : Nat) : (s.raise pg b).credits = s.credits := (State.raise_only s pg b).within .credits rfl
@[simp] theorem State.raise_granted (s : State) (pg : Page) (b : Nat) : (s.raise pg b).granted = s.granted := (State.raise_only s pg b).within .granted rfl
@[simp] theorem State.raise_resets (s : State) (pg : Page) (b : Nat) : (s.raise pg b).resets = s.resets := (State.raise_only s pg b).within .resets rfl
@[simp] theorem State.raise_health (s : State) (pg : Page) (b : Nat) : (s.raise pg b).health = s.health := (State.raise_only s pg b).within .health rfl
@[simp] theorem State.raise_terrace (s : State) (pg : Page) (b : Nat) : (s.raise pg b).terrace = s.terrace := (State.raise_only s pg b).within .terrace rfl
@[simp] theorem State.raise_boot (s : State) (pg : Page) (b : Nat) : (s.raise pg b).boot = s.boot := (State.raise_only s pg b).within .boot rfl
@[simp] theorem State.raise_census (s : State) (pg : Page) (b : Nat) : (s.raise pg b).census = s.census := (State.raise_only s pg b).within .census rfl
@[simp] theorem State.raise_mp (s : State) (pg : Page) (b : Nat) : (s.raise pg b).mp = s.mp := (State.raise_only s pg b).within .mp rfl
@[simp] theorem State.raise_pins (s : State) (pg : Page) (b : Nat) : (s.raise pg b).pins = s.pins := (State.raise_only s pg b).within .pins rfl
@[simp] theorem State.raise_part_other (s : State) (pg : Page) (b : Nat) (j : Nat) : (s.raise pg b).part j = s.part j := by simp [State.part]
@[simp] theorem State.raise_vale_other (s : State) (pg : Page) (b : Nat) (j : Nat) : (s.raise pg b).vale j = s.vale j := by simp [State.vale]
@[simp] theorem State.raise_cmd_other (s : State) (pg : Page) (b : Nat) (j : Nat) : (s.raise pg b).cmd j = s.cmd j := by simp [State.cmd]
@[simp] theorem State.raise_link_other (s : State) (pg : Page) (b : Nat) (j : Nat) : (s.raise pg b).link j = s.link j := by simp [State.link]
@[simp] theorem State.raise_turn_other (s : State) (pg : Page) (b : Nat) (j : Nat) : (s.raise pg b).turn j = s.turn j := by simp [State.turn]
@[simp] theorem State.raise_floor_other (s : State) (pg : Page) (b : Nat) (j : Nat) : (s.raise pg b).floor j = s.floor j := by simp [State.floor]
@[simp] theorem State.raise_echoOf_other (s : State) (pg : Page) (b : Nat) (j : Nat) : (s.raise pg b).echoOf j = s.echoOf j := by simp [State.echoOf]
@[simp] theorem State.raise_test_other (s : State) (pg : Page) (b : Nat) (j : Nat) : (s.raise pg b).test j = s.test j := by simp [State.test]
@[simp] theorem State.raise_fn_other (s : State) (pg : Page) (b : Nat) (j : Nat) : (s.raise pg b).fn j = s.fn j := by simp [State.fn]
@[simp] theorem State.raise_grant_other (s : State) (pg : Page) (b : Nat) (j : Nat) : (s.raise pg b).grant j = s.grant j := by simp [State.grant]
@[simp] theorem State.raise_byte_other (s : State) (pg : Page) (b : Nat) (j : Nat) : (s.raise pg b).byte j = s.byte j := by simp [State.byte]

/-! ### State.beatEvent -/

theorem State.beatEvent_only (s : State) (b : Nat) : State.Leads (fun f => [.out, .regs, .msix].contains f) s (s.beatEvent b) := by
  have : May (fun f => [.out, .regs, .msix].contains f) .out := ⟨rfl⟩
  have : May (fun f => [.out, .regs, .msix].contains f) .regs := ⟨rfl⟩
  have : May (fun f => [.out, .regs, .msix].contains f) .msix := ⟨rfl⟩
  exact State.beatEvent_leads _ (State.Leads.refl _ s)

@[simp] theorem State.beatEvent_pending (s : State) (b : Nat) : (s.beatEvent b).pending = s.pending := (State.beatEvent_only s b).within .pending rfl
@[simp] theorem State.beatEvent_clock (s : State) (b : Nat) : (s.beatEvent b).clock = s.clock := (State.beatEvent_only s b).within .clock rfl
@[simp] theorem State.beatEvent_free (s : State) (b : Nat) : (s.beatEvent b).free = s.free := (State.beatEvent_only s b).within .free rfl
@[simp] theorem State.beatEvent_shadows (s : State) (b : Nat) : (s.beatEvent b).shadows = s.shadows := (State.beatEvent_only s b).within .shadows rfl
@[simp] theorem State.beatEvent_mem (s : State) (b : Nat) : (s.beatEvent b).mem = s.mem := (State.beatEvent_only s b).within .mem rfl
@[simp] theorem State.beatEvent_bad (s : State) (b : Nat) : (s.beatEvent b).bad = s.bad := (State.beatEvent_only s b).within .bad rfl
@[simp] theorem State.beatEvent_beat (s : State) (b : Nat) : (s.beatEvent b).beat = s.beat := (State.beatEvent_only s b).within .beat rfl
@[simp] theorem State.beatEvent_beatBefore (s : State) (b : Nat) : (s.beatEvent b).beatBefore = s.beatBefore := (State.beatEvent_only s b).within .beatBefore rfl
@[simp] theorem State.beatEvent_fns (s : State) (b : Nat) : (s.beatEvent b).fns = s.fns := (State.beatEvent_only s b).within .fns rfl
@[simp] theorem State.beatEvent_grants (s : State) (b : Nat) : (s.beatEvent b).grants = s.grants := (State.beatEvent_only s b).within .grants rfl
@[simp] theorem State.beatEvent_grantOp (s : State) (b : Nat) : (s.beatEvent b).grantOp = s.grantOp := (State.beatEvent_only s b).within .grantOp rfl
@[simp] theorem State.beatEvent_vales (s : State) (b : Nat) : (s.beatEvent b).vales = s.vales := (State.beatEvent_only s b).within .vales rfl
@[simp] theorem State.beatEvent_parts (s : State) (b : Nat) : (s.beatEvent b).parts = s.parts := (State.beatEvent_only s b).within .parts rfl
@[simp] theorem State.beatEvent_slots (s : State) (b : Nat) : (s.beatEvent b).slots = s.slots := (State.beatEvent_only s b).within .slots rfl
@[simp] theorem State.beatEvent_links (s : State) (b : Nat) : (s.beatEvent b).links = s.links := (State.beatEvent_only s b).within .links rfl
@[simp] theorem State.beatEvent_turns (s : State) (b : Nat) : (s.beatEvent b).turns = s.turns := (State.beatEvent_only s b).within .turns rfl
@[simp] theorem State.beatEvent_floors (s : State) (b : Nat) : (s.beatEvent b).floors = s.floors := (State.beatEvent_only s b).within .floors rfl
@[simp] theorem State.beatEvent_echo (s : State) (b : Nat) : (s.beatEvent b).echo = s.echo := (State.beatEvent_only s b).within .echo rfl
@[simp] theorem State.beatEvent_tests (s : State) (b : Nat) : (s.beatEvent b).tests = s.tests := (State.beatEvent_only s b).within .tests rfl
@[simp] theorem State.beatEvent_credits (s : State) (b : Nat) : (s.beatEvent b).credits = s.credits := (State.beatEvent_only s b).within .credits rfl
@[simp] theorem State.beatEvent_granted (s : State) (b : Nat) : (s.beatEvent b).granted = s.granted := (State.beatEvent_only s b).within .granted rfl
@[simp] theorem State.beatEvent_resets (s : State) (b : Nat) : (s.beatEvent b).resets = s.resets := (State.beatEvent_only s b).within .resets rfl
@[simp] theorem State.beatEvent_health (s : State) (b : Nat) : (s.beatEvent b).health = s.health := (State.beatEvent_only s b).within .health rfl
@[simp] theorem State.beatEvent_terrace (s : State) (b : Nat) : (s.beatEvent b).terrace = s.terrace := (State.beatEvent_only s b).within .terrace rfl
@[simp] theorem State.beatEvent_boot (s : State) (b : Nat) : (s.beatEvent b).boot = s.boot := (State.beatEvent_only s b).within .boot rfl
@[simp] theorem State.beatEvent_census (s : State) (b : Nat) : (s.beatEvent b).census = s.census := (State.beatEvent_only s b).within .census rfl
@[simp] theorem State.beatEvent_mp (s : State) (b : Nat) : (s.beatEvent b).mp = s.mp := (State.beatEvent_only s b).within .mp rfl
@[simp] theorem State.beatEvent_pins (s : State) (b : Nat) : (s.beatEvent b).pins = s.pins := (State.beatEvent_only s b).within .pins rfl
@[simp] theorem State.beatEvent_part_other (s : State) (b : Nat) (j : Nat) : (s.beatEvent b).part j = s.part j := by simp [State.part]
@[simp] theorem State.beatEvent_vale_other (s : State) (b : Nat) (j : Nat) : (s.beatEvent b).vale j = s.vale j := by simp [State.vale]
@[simp] theorem State.beatEvent_cmd_other (s : State) (b : Nat) (j : Nat) : (s.beatEvent b).cmd j = s.cmd j := by simp [State.cmd]
@[simp] theorem State.beatEvent_link_other (s : State) (b : Nat) (j : Nat) : (s.beatEvent b).link j = s.link j := by simp [State.link]
@[simp] theorem State.beatEvent_turn_other (s : State) (b : Nat) (j : Nat) : (s.beatEvent b).turn j = s.turn j := by simp [State.turn]
@[simp] theorem State.beatEvent_floor_other (s : State) (b : Nat) (j : Nat) : (s.beatEvent b).floor j = s.floor j := by simp [State.floor]
@[simp] theorem State.beatEvent_echoOf_other (s : State) (b : Nat) (j : Nat) : (s.beatEvent b).echoOf j = s.echoOf j := by simp [State.echoOf]
@[simp] theorem State.beatEvent_test_other (s : State) (b : Nat) (j : Nat) : (s.beatEvent b).test j = s.test j := by simp [State.test]
@[simp] theorem State.beatEvent_fn_other (s : State) (b : Nat) (j : Nat) : (s.beatEvent b).fn j = s.fn j := by simp [State.fn]
@[simp] theorem State.beatEvent_grant_other (s : State) (b : Nat) (j : Nat) : (s.beatEvent b).grant j = s.grant j := by simp [State.grant]
@[simp] theorem State.beatEvent_byte_other (s : State) (b : Nat) (j : Nat) : (s.beatEvent b).byte j = s.byte j := by simp [State.byte]

/-! ### State.hifEvent -/

theorem State.hifEvent_only (s : State) (b : Nat) : State.Leads (fun f => [.out, .regs, .msix].contains f) s (s.hifEvent b) := by
  have : May (fun f => [.out, .regs, .msix].contains f) .out := ⟨rfl⟩
  have : May (fun f => [.out, .regs, .msix].contains f) .regs := ⟨rfl⟩
  have : May (fun f => [.out, .regs, .msix].contains f) .msix := ⟨rfl⟩
  exact State.hifEvent_leads _ (State.Leads.refl _ s)

@[simp] theorem State.hifEvent_pending (s : State) (b : Nat) : (s.hifEvent b).pending = s.pending := (State.hifEvent_only s b).within .pending rfl
@[simp] theorem State.hifEvent_clock (s : State) (b : Nat) : (s.hifEvent b).clock = s.clock := (State.hifEvent_only s b).within .clock rfl
@[simp] theorem State.hifEvent_free (s : State) (b : Nat) : (s.hifEvent b).free = s.free := (State.hifEvent_only s b).within .free rfl
@[simp] theorem State.hifEvent_shadows (s : State) (b : Nat) : (s.hifEvent b).shadows = s.shadows := (State.hifEvent_only s b).within .shadows rfl
@[simp] theorem State.hifEvent_mem (s : State) (b : Nat) : (s.hifEvent b).mem = s.mem := (State.hifEvent_only s b).within .mem rfl
@[simp] theorem State.hifEvent_bad (s : State) (b : Nat) : (s.hifEvent b).bad = s.bad := (State.hifEvent_only s b).within .bad rfl
@[simp] theorem State.hifEvent_beat (s : State) (b : Nat) : (s.hifEvent b).beat = s.beat := (State.hifEvent_only s b).within .beat rfl
@[simp] theorem State.hifEvent_beatBefore (s : State) (b : Nat) : (s.hifEvent b).beatBefore = s.beatBefore := (State.hifEvent_only s b).within .beatBefore rfl
@[simp] theorem State.hifEvent_fns (s : State) (b : Nat) : (s.hifEvent b).fns = s.fns := (State.hifEvent_only s b).within .fns rfl
@[simp] theorem State.hifEvent_grants (s : State) (b : Nat) : (s.hifEvent b).grants = s.grants := (State.hifEvent_only s b).within .grants rfl
@[simp] theorem State.hifEvent_grantOp (s : State) (b : Nat) : (s.hifEvent b).grantOp = s.grantOp := (State.hifEvent_only s b).within .grantOp rfl
@[simp] theorem State.hifEvent_vales (s : State) (b : Nat) : (s.hifEvent b).vales = s.vales := (State.hifEvent_only s b).within .vales rfl
@[simp] theorem State.hifEvent_parts (s : State) (b : Nat) : (s.hifEvent b).parts = s.parts := (State.hifEvent_only s b).within .parts rfl
@[simp] theorem State.hifEvent_slots (s : State) (b : Nat) : (s.hifEvent b).slots = s.slots := (State.hifEvent_only s b).within .slots rfl
@[simp] theorem State.hifEvent_links (s : State) (b : Nat) : (s.hifEvent b).links = s.links := (State.hifEvent_only s b).within .links rfl
@[simp] theorem State.hifEvent_turns (s : State) (b : Nat) : (s.hifEvent b).turns = s.turns := (State.hifEvent_only s b).within .turns rfl
@[simp] theorem State.hifEvent_floors (s : State) (b : Nat) : (s.hifEvent b).floors = s.floors := (State.hifEvent_only s b).within .floors rfl
@[simp] theorem State.hifEvent_echo (s : State) (b : Nat) : (s.hifEvent b).echo = s.echo := (State.hifEvent_only s b).within .echo rfl
@[simp] theorem State.hifEvent_tests (s : State) (b : Nat) : (s.hifEvent b).tests = s.tests := (State.hifEvent_only s b).within .tests rfl
@[simp] theorem State.hifEvent_credits (s : State) (b : Nat) : (s.hifEvent b).credits = s.credits := (State.hifEvent_only s b).within .credits rfl
@[simp] theorem State.hifEvent_granted (s : State) (b : Nat) : (s.hifEvent b).granted = s.granted := (State.hifEvent_only s b).within .granted rfl
@[simp] theorem State.hifEvent_resets (s : State) (b : Nat) : (s.hifEvent b).resets = s.resets := (State.hifEvent_only s b).within .resets rfl
@[simp] theorem State.hifEvent_health (s : State) (b : Nat) : (s.hifEvent b).health = s.health := (State.hifEvent_only s b).within .health rfl
@[simp] theorem State.hifEvent_terrace (s : State) (b : Nat) : (s.hifEvent b).terrace = s.terrace := (State.hifEvent_only s b).within .terrace rfl
@[simp] theorem State.hifEvent_boot (s : State) (b : Nat) : (s.hifEvent b).boot = s.boot := (State.hifEvent_only s b).within .boot rfl
@[simp] theorem State.hifEvent_census (s : State) (b : Nat) : (s.hifEvent b).census = s.census := (State.hifEvent_only s b).within .census rfl
@[simp] theorem State.hifEvent_mp (s : State) (b : Nat) : (s.hifEvent b).mp = s.mp := (State.hifEvent_only s b).within .mp rfl
@[simp] theorem State.hifEvent_pins (s : State) (b : Nat) : (s.hifEvent b).pins = s.pins := (State.hifEvent_only s b).within .pins rfl
@[simp] theorem State.hifEvent_part_other (s : State) (b : Nat) (j : Nat) : (s.hifEvent b).part j = s.part j := by simp [State.part]
@[simp] theorem State.hifEvent_vale_other (s : State) (b : Nat) (j : Nat) : (s.hifEvent b).vale j = s.vale j := by simp [State.vale]
@[simp] theorem State.hifEvent_cmd_other (s : State) (b : Nat) (j : Nat) : (s.hifEvent b).cmd j = s.cmd j := by simp [State.cmd]
@[simp] theorem State.hifEvent_link_other (s : State) (b : Nat) (j : Nat) : (s.hifEvent b).link j = s.link j := by simp [State.link]
@[simp] theorem State.hifEvent_turn_other (s : State) (b : Nat) (j : Nat) : (s.hifEvent b).turn j = s.turn j := by simp [State.turn]
@[simp] theorem State.hifEvent_floor_other (s : State) (b : Nat) (j : Nat) : (s.hifEvent b).floor j = s.floor j := by simp [State.floor]
@[simp] theorem State.hifEvent_echoOf_other (s : State) (b : Nat) (j : Nat) : (s.hifEvent b).echoOf j = s.echoOf j := by simp [State.echoOf]
@[simp] theorem State.hifEvent_test_other (s : State) (b : Nat) (j : Nat) : (s.hifEvent b).test j = s.test j := by simp [State.test]
@[simp] theorem State.hifEvent_fn_other (s : State) (b : Nat) (j : Nat) : (s.hifEvent b).fn j = s.fn j := by simp [State.fn]
@[simp] theorem State.hifEvent_grant_other (s : State) (b : Nat) (j : Nat) : (s.hifEvent b).grant j = s.grant j := by simp [State.grant]
@[simp] theorem State.hifEvent_byte_other (s : State) (b : Nat) (j : Nat) : (s.hifEvent b).byte j = s.byte j := by simp [State.byte]

/-! ### State.count -/

theorem State.count_only (s : State) (pg : Page) (o k : Nat) : State.Leads (fun f => [.regs].contains f) s (s.count pg o k) := by
  have : May (fun f => [.regs].contains f) .regs := ⟨rfl⟩
  exact State.count_leads _ _ _ (State.Leads.refl _ s)

@[simp] theorem State.count_pending (s : State) (pg : Page) (o k : Nat) : (s.count pg o k).pending = s.pending := (State.count_only s pg o k).within .pending rfl
@[simp] theorem State.count_clock (s : State) (pg : Page) (o k : Nat) : (s.count pg o k).clock = s.clock := (State.count_only s pg o k).within .clock rfl
@[simp] theorem State.count_free (s : State) (pg : Page) (o k : Nat) : (s.count pg o k).free = s.free := (State.count_only s pg o k).within .free rfl
@[simp] theorem State.count_out (s : State) (pg : Page) (o k : Nat) : (s.count pg o k).out = s.out := (State.count_only s pg o k).within .out rfl
@[simp] theorem State.count_shadows (s : State) (pg : Page) (o k : Nat) : (s.count pg o k).shadows = s.shadows := (State.count_only s pg o k).within .shadows rfl
@[simp] theorem State.count_mem (s : State) (pg : Page) (o k : Nat) : (s.count pg o k).mem = s.mem := (State.count_only s pg o k).within .mem rfl
@[simp] theorem State.count_bad (s : State) (pg : Page) (o k : Nat) : (s.count pg o k).bad = s.bad := (State.count_only s pg o k).within .bad rfl
@[simp] theorem State.count_beat (s : State) (pg : Page) (o k : Nat) : (s.count pg o k).beat = s.beat := (State.count_only s pg o k).within .beat rfl
@[simp] theorem State.count_beatBefore (s : State) (pg : Page) (o k : Nat) : (s.count pg o k).beatBefore = s.beatBefore := (State.count_only s pg o k).within .beatBefore rfl
@[simp] theorem State.count_fns (s : State) (pg : Page) (o k : Nat) : (s.count pg o k).fns = s.fns := (State.count_only s pg o k).within .fns rfl
@[simp] theorem State.count_msix (s : State) (pg : Page) (o k : Nat) : (s.count pg o k).msix = s.msix := (State.count_only s pg o k).within .msix rfl
@[simp] theorem State.count_grants (s : State) (pg : Page) (o k : Nat) : (s.count pg o k).grants = s.grants := (State.count_only s pg o k).within .grants rfl
@[simp] theorem State.count_grantOp (s : State) (pg : Page) (o k : Nat) : (s.count pg o k).grantOp = s.grantOp := (State.count_only s pg o k).within .grantOp rfl
@[simp] theorem State.count_vales (s : State) (pg : Page) (o k : Nat) : (s.count pg o k).vales = s.vales := (State.count_only s pg o k).within .vales rfl
@[simp] theorem State.count_parts (s : State) (pg : Page) (o k : Nat) : (s.count pg o k).parts = s.parts := (State.count_only s pg o k).within .parts rfl
@[simp] theorem State.count_slots (s : State) (pg : Page) (o k : Nat) : (s.count pg o k).slots = s.slots := (State.count_only s pg o k).within .slots rfl
@[simp] theorem State.count_links (s : State) (pg : Page) (o k : Nat) : (s.count pg o k).links = s.links := (State.count_only s pg o k).within .links rfl
@[simp] theorem State.count_turns (s : State) (pg : Page) (o k : Nat) : (s.count pg o k).turns = s.turns := (State.count_only s pg o k).within .turns rfl
@[simp] theorem State.count_floors (s : State) (pg : Page) (o k : Nat) : (s.count pg o k).floors = s.floors := (State.count_only s pg o k).within .floors rfl
@[simp] theorem State.count_echo (s : State) (pg : Page) (o k : Nat) : (s.count pg o k).echo = s.echo := (State.count_only s pg o k).within .echo rfl
@[simp] theorem State.count_tests (s : State) (pg : Page) (o k : Nat) : (s.count pg o k).tests = s.tests := (State.count_only s pg o k).within .tests rfl
@[simp] theorem State.count_credits (s : State) (pg : Page) (o k : Nat) : (s.count pg o k).credits = s.credits := (State.count_only s pg o k).within .credits rfl
@[simp] theorem State.count_granted (s : State) (pg : Page) (o k : Nat) : (s.count pg o k).granted = s.granted := (State.count_only s pg o k).within .granted rfl
@[simp] theorem State.count_resets (s : State) (pg : Page) (o k : Nat) : (s.count pg o k).resets = s.resets := (State.count_only s pg o k).within .resets rfl
@[simp] theorem State.count_health (s : State) (pg : Page) (o k : Nat) : (s.count pg o k).health = s.health := (State.count_only s pg o k).within .health rfl
@[simp] theorem State.count_terrace (s : State) (pg : Page) (o k : Nat) : (s.count pg o k).terrace = s.terrace := (State.count_only s pg o k).within .terrace rfl
@[simp] theorem State.count_boot (s : State) (pg : Page) (o k : Nat) : (s.count pg o k).boot = s.boot := (State.count_only s pg o k).within .boot rfl
@[simp] theorem State.count_census (s : State) (pg : Page) (o k : Nat) : (s.count pg o k).census = s.census := (State.count_only s pg o k).within .census rfl
@[simp] theorem State.count_mp (s : State) (pg : Page) (o k : Nat) : (s.count pg o k).mp = s.mp := (State.count_only s pg o k).within .mp rfl
@[simp] theorem State.count_pins (s : State) (pg : Page) (o k : Nat) : (s.count pg o k).pins = s.pins := (State.count_only s pg o k).within .pins rfl
@[simp] theorem State.count_part_other (s : State) (pg : Page) (o k : Nat) (j : Nat) : (s.count pg o k).part j = s.part j := by simp [State.part]
@[simp] theorem State.count_vale_other (s : State) (pg : Page) (o k : Nat) (j : Nat) : (s.count pg o k).vale j = s.vale j := by simp [State.vale]
@[simp] theorem State.count_cmd_other (s : State) (pg : Page) (o k : Nat) (j : Nat) : (s.count pg o k).cmd j = s.cmd j := by simp [State.cmd]
@[simp] theorem State.count_link_other (s : State) (pg : Page) (o k : Nat) (j : Nat) : (s.count pg o k).link j = s.link j := by simp [State.link]
@[simp] theorem State.count_turn_other (s : State) (pg : Page) (o k : Nat) (j : Nat) : (s.count pg o k).turn j = s.turn j := by simp [State.turn]
@[simp] theorem State.count_floor_other (s : State) (pg : Page) (o k : Nat) (j : Nat) : (s.count pg o k).floor j = s.floor j := by simp [State.floor]
@[simp] theorem State.count_echoOf_other (s : State) (pg : Page) (o k : Nat) (j : Nat) : (s.count pg o k).echoOf j = s.echoOf j := by simp [State.echoOf]
@[simp] theorem State.count_test_other (s : State) (pg : Page) (o k : Nat) (j : Nat) : (s.count pg o k).test j = s.test j := by simp [State.test]
@[simp] theorem State.count_fn_other (s : State) (pg : Page) (o k : Nat) (j : Nat) : (s.count pg o k).fn j = s.fn j := by simp [State.fn]
@[simp] theorem State.count_grant_other (s : State) (pg : Page) (o k : Nat) (j : Nat) : (s.count pg o k).grant j = s.grant j := by simp [State.grant]
@[simp] theorem State.count_byte_other (s : State) (pg : Page) (o k : Nat) (j : Nat) : (s.count pg o k).byte j = s.byte j := by simp [State.byte]

/-! ### State.count64 -/

theorem State.count64_only (s : State) (pg : Page) (o k : Nat) : State.Leads (fun f => [.regs].contains f) s (s.count64 pg o k) := by
  have : May (fun f => [.regs].contains f) .regs := ⟨rfl⟩
  exact State.count64_leads _ _ _ (State.Leads.refl _ s)

@[simp] theorem State.count64_pending (s : State) (pg : Page) (o k : Nat) : (s.count64 pg o k).pending = s.pending := (State.count64_only s pg o k).within .pending rfl
@[simp] theorem State.count64_clock (s : State) (pg : Page) (o k : Nat) : (s.count64 pg o k).clock = s.clock := (State.count64_only s pg o k).within .clock rfl
@[simp] theorem State.count64_free (s : State) (pg : Page) (o k : Nat) : (s.count64 pg o k).free = s.free := (State.count64_only s pg o k).within .free rfl
@[simp] theorem State.count64_out (s : State) (pg : Page) (o k : Nat) : (s.count64 pg o k).out = s.out := (State.count64_only s pg o k).within .out rfl
@[simp] theorem State.count64_shadows (s : State) (pg : Page) (o k : Nat) : (s.count64 pg o k).shadows = s.shadows := (State.count64_only s pg o k).within .shadows rfl
@[simp] theorem State.count64_mem (s : State) (pg : Page) (o k : Nat) : (s.count64 pg o k).mem = s.mem := (State.count64_only s pg o k).within .mem rfl
@[simp] theorem State.count64_bad (s : State) (pg : Page) (o k : Nat) : (s.count64 pg o k).bad = s.bad := (State.count64_only s pg o k).within .bad rfl
@[simp] theorem State.count64_beat (s : State) (pg : Page) (o k : Nat) : (s.count64 pg o k).beat = s.beat := (State.count64_only s pg o k).within .beat rfl
@[simp] theorem State.count64_beatBefore (s : State) (pg : Page) (o k : Nat) : (s.count64 pg o k).beatBefore = s.beatBefore := (State.count64_only s pg o k).within .beatBefore rfl
@[simp] theorem State.count64_fns (s : State) (pg : Page) (o k : Nat) : (s.count64 pg o k).fns = s.fns := (State.count64_only s pg o k).within .fns rfl
@[simp] theorem State.count64_msix (s : State) (pg : Page) (o k : Nat) : (s.count64 pg o k).msix = s.msix := (State.count64_only s pg o k).within .msix rfl
@[simp] theorem State.count64_grants (s : State) (pg : Page) (o k : Nat) : (s.count64 pg o k).grants = s.grants := (State.count64_only s pg o k).within .grants rfl
@[simp] theorem State.count64_grantOp (s : State) (pg : Page) (o k : Nat) : (s.count64 pg o k).grantOp = s.grantOp := (State.count64_only s pg o k).within .grantOp rfl
@[simp] theorem State.count64_vales (s : State) (pg : Page) (o k : Nat) : (s.count64 pg o k).vales = s.vales := (State.count64_only s pg o k).within .vales rfl
@[simp] theorem State.count64_parts (s : State) (pg : Page) (o k : Nat) : (s.count64 pg o k).parts = s.parts := (State.count64_only s pg o k).within .parts rfl
@[simp] theorem State.count64_slots (s : State) (pg : Page) (o k : Nat) : (s.count64 pg o k).slots = s.slots := (State.count64_only s pg o k).within .slots rfl
@[simp] theorem State.count64_links (s : State) (pg : Page) (o k : Nat) : (s.count64 pg o k).links = s.links := (State.count64_only s pg o k).within .links rfl
@[simp] theorem State.count64_turns (s : State) (pg : Page) (o k : Nat) : (s.count64 pg o k).turns = s.turns := (State.count64_only s pg o k).within .turns rfl
@[simp] theorem State.count64_floors (s : State) (pg : Page) (o k : Nat) : (s.count64 pg o k).floors = s.floors := (State.count64_only s pg o k).within .floors rfl
@[simp] theorem State.count64_echo (s : State) (pg : Page) (o k : Nat) : (s.count64 pg o k).echo = s.echo := (State.count64_only s pg o k).within .echo rfl
@[simp] theorem State.count64_tests (s : State) (pg : Page) (o k : Nat) : (s.count64 pg o k).tests = s.tests := (State.count64_only s pg o k).within .tests rfl
@[simp] theorem State.count64_credits (s : State) (pg : Page) (o k : Nat) : (s.count64 pg o k).credits = s.credits := (State.count64_only s pg o k).within .credits rfl
@[simp] theorem State.count64_granted (s : State) (pg : Page) (o k : Nat) : (s.count64 pg o k).granted = s.granted := (State.count64_only s pg o k).within .granted rfl
@[simp] theorem State.count64_resets (s : State) (pg : Page) (o k : Nat) : (s.count64 pg o k).resets = s.resets := (State.count64_only s pg o k).within .resets rfl
@[simp] theorem State.count64_health (s : State) (pg : Page) (o k : Nat) : (s.count64 pg o k).health = s.health := (State.count64_only s pg o k).within .health rfl
@[simp] theorem State.count64_terrace (s : State) (pg : Page) (o k : Nat) : (s.count64 pg o k).terrace = s.terrace := (State.count64_only s pg o k).within .terrace rfl
@[simp] theorem State.count64_boot (s : State) (pg : Page) (o k : Nat) : (s.count64 pg o k).boot = s.boot := (State.count64_only s pg o k).within .boot rfl
@[simp] theorem State.count64_census (s : State) (pg : Page) (o k : Nat) : (s.count64 pg o k).census = s.census := (State.count64_only s pg o k).within .census rfl
@[simp] theorem State.count64_mp (s : State) (pg : Page) (o k : Nat) : (s.count64 pg o k).mp = s.mp := (State.count64_only s pg o k).within .mp rfl
@[simp] theorem State.count64_pins (s : State) (pg : Page) (o k : Nat) : (s.count64 pg o k).pins = s.pins := (State.count64_only s pg o k).within .pins rfl
@[simp] theorem State.count64_part_other (s : State) (pg : Page) (o k : Nat) (j : Nat) : (s.count64 pg o k).part j = s.part j := by simp [State.part]
@[simp] theorem State.count64_vale_other (s : State) (pg : Page) (o k : Nat) (j : Nat) : (s.count64 pg o k).vale j = s.vale j := by simp [State.vale]
@[simp] theorem State.count64_cmd_other (s : State) (pg : Page) (o k : Nat) (j : Nat) : (s.count64 pg o k).cmd j = s.cmd j := by simp [State.cmd]
@[simp] theorem State.count64_link_other (s : State) (pg : Page) (o k : Nat) (j : Nat) : (s.count64 pg o k).link j = s.link j := by simp [State.link]
@[simp] theorem State.count64_turn_other (s : State) (pg : Page) (o k : Nat) (j : Nat) : (s.count64 pg o k).turn j = s.turn j := by simp [State.turn]
@[simp] theorem State.count64_floor_other (s : State) (pg : Page) (o k : Nat) (j : Nat) : (s.count64 pg o k).floor j = s.floor j := by simp [State.floor]
@[simp] theorem State.count64_echoOf_other (s : State) (pg : Page) (o k : Nat) (j : Nat) : (s.count64 pg o k).echoOf j = s.echoOf j := by simp [State.echoOf]
@[simp] theorem State.count64_test_other (s : State) (pg : Page) (o k : Nat) (j : Nat) : (s.count64 pg o k).test j = s.test j := by simp [State.test]
@[simp] theorem State.count64_fn_other (s : State) (pg : Page) (o k : Nat) (j : Nat) : (s.count64 pg o k).fn j = s.fn j := by simp [State.fn]
@[simp] theorem State.count64_grant_other (s : State) (pg : Page) (o k : Nat) (j : Nat) : (s.count64 pg o k).grant j = s.grant j := by simp [State.grant]
@[simp] theorem State.count64_byte_other (s : State) (pg : Page) (o k : Nat) (j : Nat) : (s.count64 pg o k).byte j = s.byte j := by simp [State.byte]

/-! ### State.accrue -/

theorem State.accrue_only (s : State) (pg : Page) (f : Flags) (k : Nat) : State.Leads (fun f => [.regs].contains f) s (s.accrue pg f k) := by
  have : May (fun f => [.regs].contains f) .regs := ⟨rfl⟩
  exact State.accrue_leads _ _ _ (State.Leads.refl _ s)

@[simp] theorem State.accrue_pending (s : State) (pg : Page) (f : Flags) (k : Nat) : (s.accrue pg f k).pending = s.pending := (State.accrue_only s pg f k).within .pending rfl
@[simp] theorem State.accrue_clock (s : State) (pg : Page) (f : Flags) (k : Nat) : (s.accrue pg f k).clock = s.clock := (State.accrue_only s pg f k).within .clock rfl
@[simp] theorem State.accrue_free (s : State) (pg : Page) (f : Flags) (k : Nat) : (s.accrue pg f k).free = s.free := (State.accrue_only s pg f k).within .free rfl
@[simp] theorem State.accrue_out (s : State) (pg : Page) (f : Flags) (k : Nat) : (s.accrue pg f k).out = s.out := (State.accrue_only s pg f k).within .out rfl
@[simp] theorem State.accrue_shadows (s : State) (pg : Page) (f : Flags) (k : Nat) : (s.accrue pg f k).shadows = s.shadows := (State.accrue_only s pg f k).within .shadows rfl
@[simp] theorem State.accrue_mem (s : State) (pg : Page) (f : Flags) (k : Nat) : (s.accrue pg f k).mem = s.mem := (State.accrue_only s pg f k).within .mem rfl
@[simp] theorem State.accrue_bad (s : State) (pg : Page) (f : Flags) (k : Nat) : (s.accrue pg f k).bad = s.bad := (State.accrue_only s pg f k).within .bad rfl
@[simp] theorem State.accrue_beat (s : State) (pg : Page) (f : Flags) (k : Nat) : (s.accrue pg f k).beat = s.beat := (State.accrue_only s pg f k).within .beat rfl
@[simp] theorem State.accrue_beatBefore (s : State) (pg : Page) (f : Flags) (k : Nat) : (s.accrue pg f k).beatBefore = s.beatBefore := (State.accrue_only s pg f k).within .beatBefore rfl
@[simp] theorem State.accrue_fns (s : State) (pg : Page) (f : Flags) (k : Nat) : (s.accrue pg f k).fns = s.fns := (State.accrue_only s pg f k).within .fns rfl
@[simp] theorem State.accrue_msix (s : State) (pg : Page) (f : Flags) (k : Nat) : (s.accrue pg f k).msix = s.msix := (State.accrue_only s pg f k).within .msix rfl
@[simp] theorem State.accrue_grants (s : State) (pg : Page) (f : Flags) (k : Nat) : (s.accrue pg f k).grants = s.grants := (State.accrue_only s pg f k).within .grants rfl
@[simp] theorem State.accrue_grantOp (s : State) (pg : Page) (f : Flags) (k : Nat) : (s.accrue pg f k).grantOp = s.grantOp := (State.accrue_only s pg f k).within .grantOp rfl
@[simp] theorem State.accrue_vales (s : State) (pg : Page) (f : Flags) (k : Nat) : (s.accrue pg f k).vales = s.vales := (State.accrue_only s pg f k).within .vales rfl
@[simp] theorem State.accrue_parts (s : State) (pg : Page) (f : Flags) (k : Nat) : (s.accrue pg f k).parts = s.parts := (State.accrue_only s pg f k).within .parts rfl
@[simp] theorem State.accrue_slots (s : State) (pg : Page) (f : Flags) (k : Nat) : (s.accrue pg f k).slots = s.slots := (State.accrue_only s pg f k).within .slots rfl
@[simp] theorem State.accrue_links (s : State) (pg : Page) (f : Flags) (k : Nat) : (s.accrue pg f k).links = s.links := (State.accrue_only s pg f k).within .links rfl
@[simp] theorem State.accrue_turns (s : State) (pg : Page) (f : Flags) (k : Nat) : (s.accrue pg f k).turns = s.turns := (State.accrue_only s pg f k).within .turns rfl
@[simp] theorem State.accrue_floors (s : State) (pg : Page) (f : Flags) (k : Nat) : (s.accrue pg f k).floors = s.floors := (State.accrue_only s pg f k).within .floors rfl
@[simp] theorem State.accrue_echo (s : State) (pg : Page) (f : Flags) (k : Nat) : (s.accrue pg f k).echo = s.echo := (State.accrue_only s pg f k).within .echo rfl
@[simp] theorem State.accrue_tests (s : State) (pg : Page) (f : Flags) (k : Nat) : (s.accrue pg f k).tests = s.tests := (State.accrue_only s pg f k).within .tests rfl
@[simp] theorem State.accrue_credits (s : State) (pg : Page) (f : Flags) (k : Nat) : (s.accrue pg f k).credits = s.credits := (State.accrue_only s pg f k).within .credits rfl
@[simp] theorem State.accrue_granted (s : State) (pg : Page) (f : Flags) (k : Nat) : (s.accrue pg f k).granted = s.granted := (State.accrue_only s pg f k).within .granted rfl
@[simp] theorem State.accrue_resets (s : State) (pg : Page) (f : Flags) (k : Nat) : (s.accrue pg f k).resets = s.resets := (State.accrue_only s pg f k).within .resets rfl
@[simp] theorem State.accrue_health (s : State) (pg : Page) (f : Flags) (k : Nat) : (s.accrue pg f k).health = s.health := (State.accrue_only s pg f k).within .health rfl
@[simp] theorem State.accrue_terrace (s : State) (pg : Page) (f : Flags) (k : Nat) : (s.accrue pg f k).terrace = s.terrace := (State.accrue_only s pg f k).within .terrace rfl
@[simp] theorem State.accrue_boot (s : State) (pg : Page) (f : Flags) (k : Nat) : (s.accrue pg f k).boot = s.boot := (State.accrue_only s pg f k).within .boot rfl
@[simp] theorem State.accrue_census (s : State) (pg : Page) (f : Flags) (k : Nat) : (s.accrue pg f k).census = s.census := (State.accrue_only s pg f k).within .census rfl
@[simp] theorem State.accrue_mp (s : State) (pg : Page) (f : Flags) (k : Nat) : (s.accrue pg f k).mp = s.mp := (State.accrue_only s pg f k).within .mp rfl
@[simp] theorem State.accrue_pins (s : State) (pg : Page) (f : Flags) (k : Nat) : (s.accrue pg f k).pins = s.pins := (State.accrue_only s pg f k).within .pins rfl
@[simp] theorem State.accrue_part_other (s : State) (pg : Page) (f : Flags) (k : Nat) (j : Nat) : (s.accrue pg f k).part j = s.part j := by simp [State.part]
@[simp] theorem State.accrue_vale_other (s : State) (pg : Page) (f : Flags) (k : Nat) (j : Nat) : (s.accrue pg f k).vale j = s.vale j := by simp [State.vale]
@[simp] theorem State.accrue_cmd_other (s : State) (pg : Page) (f : Flags) (k : Nat) (j : Nat) : (s.accrue pg f k).cmd j = s.cmd j := by simp [State.cmd]
@[simp] theorem State.accrue_link_other (s : State) (pg : Page) (f : Flags) (k : Nat) (j : Nat) : (s.accrue pg f k).link j = s.link j := by simp [State.link]
@[simp] theorem State.accrue_turn_other (s : State) (pg : Page) (f : Flags) (k : Nat) (j : Nat) : (s.accrue pg f k).turn j = s.turn j := by simp [State.turn]
@[simp] theorem State.accrue_floor_other (s : State) (pg : Page) (f : Flags) (k : Nat) (j : Nat) : (s.accrue pg f k).floor j = s.floor j := by simp [State.floor]
@[simp] theorem State.accrue_echoOf_other (s : State) (pg : Page) (f : Flags) (k : Nat) (j : Nat) : (s.accrue pg f k).echoOf j = s.echoOf j := by simp [State.echoOf]
@[simp] theorem State.accrue_test_other (s : State) (pg : Page) (f : Flags) (k : Nat) (j : Nat) : (s.accrue pg f k).test j = s.test j := by simp [State.test]
@[simp] theorem State.accrue_fn_other (s : State) (pg : Page) (f : Flags) (k : Nat) (j : Nat) : (s.accrue pg f k).fn j = s.fn j := by simp [State.fn]
@[simp] theorem State.accrue_grant_other (s : State) (pg : Page) (f : Flags) (k : Nat) (j : Nat) : (s.accrue pg f k).grant j = s.grant j := by simp [State.grant]
@[simp] theorem State.accrue_byte_other (s : State) (pg : Page) (f : Flags) (k : Nat) (j : Nat) : (s.accrue pg f k).byte j = s.byte j := by simp [State.byte]

/-! ### State.moraine -/

theorem State.moraine_only (s : State) (ev : MorEvent) (pg : Page) (p : List Nat) : State.Leads (fun f => [.regs, .mp].contains f) s (s.moraine ev pg p) := by
  have : May (fun f => [.regs, .mp].contains f) .regs := ⟨rfl⟩
  have : May (fun f => [.regs, .mp].contains f) .mp := ⟨rfl⟩
  exact State.moraine_leads _ _ _ (State.Leads.refl _ s)

@[simp] theorem State.moraine_pending (s : State) (ev : MorEvent) (pg : Page) (p : List Nat) : (s.moraine ev pg p).pending = s.pending := (State.moraine_only s ev pg p).within .pending rfl
@[simp] theorem State.moraine_clock (s : State) (ev : MorEvent) (pg : Page) (p : List Nat) : (s.moraine ev pg p).clock = s.clock := (State.moraine_only s ev pg p).within .clock rfl
@[simp] theorem State.moraine_free (s : State) (ev : MorEvent) (pg : Page) (p : List Nat) : (s.moraine ev pg p).free = s.free := (State.moraine_only s ev pg p).within .free rfl
@[simp] theorem State.moraine_out (s : State) (ev : MorEvent) (pg : Page) (p : List Nat) : (s.moraine ev pg p).out = s.out := (State.moraine_only s ev pg p).within .out rfl
@[simp] theorem State.moraine_shadows (s : State) (ev : MorEvent) (pg : Page) (p : List Nat) : (s.moraine ev pg p).shadows = s.shadows := (State.moraine_only s ev pg p).within .shadows rfl
@[simp] theorem State.moraine_mem (s : State) (ev : MorEvent) (pg : Page) (p : List Nat) : (s.moraine ev pg p).mem = s.mem := (State.moraine_only s ev pg p).within .mem rfl
@[simp] theorem State.moraine_bad (s : State) (ev : MorEvent) (pg : Page) (p : List Nat) : (s.moraine ev pg p).bad = s.bad := (State.moraine_only s ev pg p).within .bad rfl
@[simp] theorem State.moraine_beat (s : State) (ev : MorEvent) (pg : Page) (p : List Nat) : (s.moraine ev pg p).beat = s.beat := (State.moraine_only s ev pg p).within .beat rfl
@[simp] theorem State.moraine_beatBefore (s : State) (ev : MorEvent) (pg : Page) (p : List Nat) : (s.moraine ev pg p).beatBefore = s.beatBefore := (State.moraine_only s ev pg p).within .beatBefore rfl
@[simp] theorem State.moraine_fns (s : State) (ev : MorEvent) (pg : Page) (p : List Nat) : (s.moraine ev pg p).fns = s.fns := (State.moraine_only s ev pg p).within .fns rfl
@[simp] theorem State.moraine_msix (s : State) (ev : MorEvent) (pg : Page) (p : List Nat) : (s.moraine ev pg p).msix = s.msix := (State.moraine_only s ev pg p).within .msix rfl
@[simp] theorem State.moraine_grants (s : State) (ev : MorEvent) (pg : Page) (p : List Nat) : (s.moraine ev pg p).grants = s.grants := (State.moraine_only s ev pg p).within .grants rfl
@[simp] theorem State.moraine_grantOp (s : State) (ev : MorEvent) (pg : Page) (p : List Nat) : (s.moraine ev pg p).grantOp = s.grantOp := (State.moraine_only s ev pg p).within .grantOp rfl
@[simp] theorem State.moraine_vales (s : State) (ev : MorEvent) (pg : Page) (p : List Nat) : (s.moraine ev pg p).vales = s.vales := (State.moraine_only s ev pg p).within .vales rfl
@[simp] theorem State.moraine_parts (s : State) (ev : MorEvent) (pg : Page) (p : List Nat) : (s.moraine ev pg p).parts = s.parts := (State.moraine_only s ev pg p).within .parts rfl
@[simp] theorem State.moraine_slots (s : State) (ev : MorEvent) (pg : Page) (p : List Nat) : (s.moraine ev pg p).slots = s.slots := (State.moraine_only s ev pg p).within .slots rfl
@[simp] theorem State.moraine_links (s : State) (ev : MorEvent) (pg : Page) (p : List Nat) : (s.moraine ev pg p).links = s.links := (State.moraine_only s ev pg p).within .links rfl
@[simp] theorem State.moraine_turns (s : State) (ev : MorEvent) (pg : Page) (p : List Nat) : (s.moraine ev pg p).turns = s.turns := (State.moraine_only s ev pg p).within .turns rfl
@[simp] theorem State.moraine_floors (s : State) (ev : MorEvent) (pg : Page) (p : List Nat) : (s.moraine ev pg p).floors = s.floors := (State.moraine_only s ev pg p).within .floors rfl
@[simp] theorem State.moraine_echo (s : State) (ev : MorEvent) (pg : Page) (p : List Nat) : (s.moraine ev pg p).echo = s.echo := (State.moraine_only s ev pg p).within .echo rfl
@[simp] theorem State.moraine_tests (s : State) (ev : MorEvent) (pg : Page) (p : List Nat) : (s.moraine ev pg p).tests = s.tests := (State.moraine_only s ev pg p).within .tests rfl
@[simp] theorem State.moraine_credits (s : State) (ev : MorEvent) (pg : Page) (p : List Nat) : (s.moraine ev pg p).credits = s.credits := (State.moraine_only s ev pg p).within .credits rfl
@[simp] theorem State.moraine_granted (s : State) (ev : MorEvent) (pg : Page) (p : List Nat) : (s.moraine ev pg p).granted = s.granted := (State.moraine_only s ev pg p).within .granted rfl
@[simp] theorem State.moraine_resets (s : State) (ev : MorEvent) (pg : Page) (p : List Nat) : (s.moraine ev pg p).resets = s.resets := (State.moraine_only s ev pg p).within .resets rfl
@[simp] theorem State.moraine_health (s : State) (ev : MorEvent) (pg : Page) (p : List Nat) : (s.moraine ev pg p).health = s.health := (State.moraine_only s ev pg p).within .health rfl
@[simp] theorem State.moraine_terrace (s : State) (ev : MorEvent) (pg : Page) (p : List Nat) : (s.moraine ev pg p).terrace = s.terrace := (State.moraine_only s ev pg p).within .terrace rfl
@[simp] theorem State.moraine_boot (s : State) (ev : MorEvent) (pg : Page) (p : List Nat) : (s.moraine ev pg p).boot = s.boot := (State.moraine_only s ev pg p).within .boot rfl
@[simp] theorem State.moraine_census (s : State) (ev : MorEvent) (pg : Page) (p : List Nat) : (s.moraine ev pg p).census = s.census := (State.moraine_only s ev pg p).within .census rfl
@[simp] theorem State.moraine_pins (s : State) (ev : MorEvent) (pg : Page) (p : List Nat) : (s.moraine ev pg p).pins = s.pins := (State.moraine_only s ev pg p).within .pins rfl
@[simp] theorem State.moraine_part_other (s : State) (ev : MorEvent) (pg : Page) (p : List Nat) (j : Nat) : (s.moraine ev pg p).part j = s.part j := by simp [State.part]
@[simp] theorem State.moraine_vale_other (s : State) (ev : MorEvent) (pg : Page) (p : List Nat) (j : Nat) : (s.moraine ev pg p).vale j = s.vale j := by simp [State.vale]
@[simp] theorem State.moraine_cmd_other (s : State) (ev : MorEvent) (pg : Page) (p : List Nat) (j : Nat) : (s.moraine ev pg p).cmd j = s.cmd j := by simp [State.cmd]
@[simp] theorem State.moraine_link_other (s : State) (ev : MorEvent) (pg : Page) (p : List Nat) (j : Nat) : (s.moraine ev pg p).link j = s.link j := by simp [State.link]
@[simp] theorem State.moraine_turn_other (s : State) (ev : MorEvent) (pg : Page) (p : List Nat) (j : Nat) : (s.moraine ev pg p).turn j = s.turn j := by simp [State.turn]
@[simp] theorem State.moraine_floor_other (s : State) (ev : MorEvent) (pg : Page) (p : List Nat) (j : Nat) : (s.moraine ev pg p).floor j = s.floor j := by simp [State.floor]
@[simp] theorem State.moraine_echoOf_other (s : State) (ev : MorEvent) (pg : Page) (p : List Nat) (j : Nat) : (s.moraine ev pg p).echoOf j = s.echoOf j := by simp [State.echoOf]
@[simp] theorem State.moraine_test_other (s : State) (ev : MorEvent) (pg : Page) (p : List Nat) (j : Nat) : (s.moraine ev pg p).test j = s.test j := by simp [State.test]
@[simp] theorem State.moraine_fn_other (s : State) (ev : MorEvent) (pg : Page) (p : List Nat) (j : Nat) : (s.moraine ev pg p).fn j = s.fn j := by simp [State.fn]
@[simp] theorem State.moraine_grant_other (s : State) (ev : MorEvent) (pg : Page) (p : List Nat) (j : Nat) : (s.moraine ev pg p).grant j = s.grant j := by simp [State.grant]
@[simp] theorem State.moraine_byte_other (s : State) (ev : MorEvent) (pg : Page) (p : List Nat) (j : Nat) : (s.moraine ev pg p).byte j = s.byte j := by simp [State.byte]

/-! ### State.healthEvent -/

theorem State.healthEvent_only (s : State) (k u n : Nat) : State.Leads (fun f => [.health].contains f) s (s.healthEvent k u n) := by
  have : May (fun f => [.health].contains f) .health := ⟨rfl⟩
  exact State.healthEvent_leads _ _ _ (State.Leads.refl _ s)

@[simp] theorem State.healthEvent_pending (s : State) (k u n : Nat) : (s.healthEvent k u n).pending = s.pending := (State.healthEvent_only s k u n).within .pending rfl
@[simp] theorem State.healthEvent_clock (s : State) (k u n : Nat) : (s.healthEvent k u n).clock = s.clock := (State.healthEvent_only s k u n).within .clock rfl
@[simp] theorem State.healthEvent_free (s : State) (k u n : Nat) : (s.healthEvent k u n).free = s.free := (State.healthEvent_only s k u n).within .free rfl
@[simp] theorem State.healthEvent_out (s : State) (k u n : Nat) : (s.healthEvent k u n).out = s.out := (State.healthEvent_only s k u n).within .out rfl
@[simp] theorem State.healthEvent_regs (s : State) (k u n : Nat) : (s.healthEvent k u n).regs = s.regs := (State.healthEvent_only s k u n).within .regs rfl
@[simp] theorem State.healthEvent_shadows (s : State) (k u n : Nat) : (s.healthEvent k u n).shadows = s.shadows := (State.healthEvent_only s k u n).within .shadows rfl
@[simp] theorem State.healthEvent_mem (s : State) (k u n : Nat) : (s.healthEvent k u n).mem = s.mem := (State.healthEvent_only s k u n).within .mem rfl
@[simp] theorem State.healthEvent_bad (s : State) (k u n : Nat) : (s.healthEvent k u n).bad = s.bad := (State.healthEvent_only s k u n).within .bad rfl
@[simp] theorem State.healthEvent_beat (s : State) (k u n : Nat) : (s.healthEvent k u n).beat = s.beat := (State.healthEvent_only s k u n).within .beat rfl
@[simp] theorem State.healthEvent_beatBefore (s : State) (k u n : Nat) : (s.healthEvent k u n).beatBefore = s.beatBefore := (State.healthEvent_only s k u n).within .beatBefore rfl
@[simp] theorem State.healthEvent_fns (s : State) (k u n : Nat) : (s.healthEvent k u n).fns = s.fns := (State.healthEvent_only s k u n).within .fns rfl
@[simp] theorem State.healthEvent_msix (s : State) (k u n : Nat) : (s.healthEvent k u n).msix = s.msix := (State.healthEvent_only s k u n).within .msix rfl
@[simp] theorem State.healthEvent_grants (s : State) (k u n : Nat) : (s.healthEvent k u n).grants = s.grants := (State.healthEvent_only s k u n).within .grants rfl
@[simp] theorem State.healthEvent_grantOp (s : State) (k u n : Nat) : (s.healthEvent k u n).grantOp = s.grantOp := (State.healthEvent_only s k u n).within .grantOp rfl
@[simp] theorem State.healthEvent_vales (s : State) (k u n : Nat) : (s.healthEvent k u n).vales = s.vales := (State.healthEvent_only s k u n).within .vales rfl
@[simp] theorem State.healthEvent_parts (s : State) (k u n : Nat) : (s.healthEvent k u n).parts = s.parts := (State.healthEvent_only s k u n).within .parts rfl
@[simp] theorem State.healthEvent_slots (s : State) (k u n : Nat) : (s.healthEvent k u n).slots = s.slots := (State.healthEvent_only s k u n).within .slots rfl
@[simp] theorem State.healthEvent_links (s : State) (k u n : Nat) : (s.healthEvent k u n).links = s.links := (State.healthEvent_only s k u n).within .links rfl
@[simp] theorem State.healthEvent_turns (s : State) (k u n : Nat) : (s.healthEvent k u n).turns = s.turns := (State.healthEvent_only s k u n).within .turns rfl
@[simp] theorem State.healthEvent_floors (s : State) (k u n : Nat) : (s.healthEvent k u n).floors = s.floors := (State.healthEvent_only s k u n).within .floors rfl
@[simp] theorem State.healthEvent_echo (s : State) (k u n : Nat) : (s.healthEvent k u n).echo = s.echo := (State.healthEvent_only s k u n).within .echo rfl
@[simp] theorem State.healthEvent_tests (s : State) (k u n : Nat) : (s.healthEvent k u n).tests = s.tests := (State.healthEvent_only s k u n).within .tests rfl
@[simp] theorem State.healthEvent_credits (s : State) (k u n : Nat) : (s.healthEvent k u n).credits = s.credits := (State.healthEvent_only s k u n).within .credits rfl
@[simp] theorem State.healthEvent_granted (s : State) (k u n : Nat) : (s.healthEvent k u n).granted = s.granted := (State.healthEvent_only s k u n).within .granted rfl
@[simp] theorem State.healthEvent_resets (s : State) (k u n : Nat) : (s.healthEvent k u n).resets = s.resets := (State.healthEvent_only s k u n).within .resets rfl
@[simp] theorem State.healthEvent_terrace (s : State) (k u n : Nat) : (s.healthEvent k u n).terrace = s.terrace := (State.healthEvent_only s k u n).within .terrace rfl
@[simp] theorem State.healthEvent_boot (s : State) (k u n : Nat) : (s.healthEvent k u n).boot = s.boot := (State.healthEvent_only s k u n).within .boot rfl
@[simp] theorem State.healthEvent_census (s : State) (k u n : Nat) : (s.healthEvent k u n).census = s.census := (State.healthEvent_only s k u n).within .census rfl
@[simp] theorem State.healthEvent_mp (s : State) (k u n : Nat) : (s.healthEvent k u n).mp = s.mp := (State.healthEvent_only s k u n).within .mp rfl
@[simp] theorem State.healthEvent_pins (s : State) (k u n : Nat) : (s.healthEvent k u n).pins = s.pins := (State.healthEvent_only s k u n).within .pins rfl
@[simp] theorem State.healthEvent_part_other (s : State) (k u n : Nat) (j : Nat) : (s.healthEvent k u n).part j = s.part j := by simp [State.part]
@[simp] theorem State.healthEvent_vale_other (s : State) (k u n : Nat) (j : Nat) : (s.healthEvent k u n).vale j = s.vale j := by simp [State.vale]
@[simp] theorem State.healthEvent_cmd_other (s : State) (k u n : Nat) (j : Nat) : (s.healthEvent k u n).cmd j = s.cmd j := by simp [State.cmd]
@[simp] theorem State.healthEvent_link_other (s : State) (k u n : Nat) (j : Nat) : (s.healthEvent k u n).link j = s.link j := by simp [State.link]
@[simp] theorem State.healthEvent_turn_other (s : State) (k u n : Nat) (j : Nat) : (s.healthEvent k u n).turn j = s.turn j := by simp [State.turn]
@[simp] theorem State.healthEvent_floor_other (s : State) (k u n : Nat) (j : Nat) : (s.healthEvent k u n).floor j = s.floor j := by simp [State.floor]
@[simp] theorem State.healthEvent_echoOf_other (s : State) (k u n : Nat) (j : Nat) : (s.healthEvent k u n).echoOf j = s.echoOf j := by simp [State.echoOf]
@[simp] theorem State.healthEvent_test_other (s : State) (k u n : Nat) (j : Nat) : (s.healthEvent k u n).test j = s.test j := by simp [State.test]
@[simp] theorem State.healthEvent_fn_other (s : State) (k u n : Nat) (j : Nat) : (s.healthEvent k u n).fn j = s.fn j := by simp [State.fn]
@[simp] theorem State.healthEvent_grant_other (s : State) (k u n : Nat) (j : Nat) : (s.healthEvent k u n).grant j = s.grant j := by simp [State.grant]
@[simp] theorem State.healthEvent_reg_other (s : State) (k u n : Nat) (j : Nat) : (s.healthEvent k u n).reg j = s.reg j := by simp [State.reg]
@[simp] theorem State.healthEvent_byte_other (s : State) (k u n : Nat) (j : Nat) : (s.healthEvent k u n).byte j = s.byte j := by simp [State.byte]

/-! ### State.boundary -/

theorem State.boundary_only (s : State) (n t : Nat) : State.Leads (fun f => [.parts].contains f) s (s.boundary n t) := by
  have : May (fun f => [.parts].contains f) .parts := ⟨rfl⟩
  exact State.boundary_leads _ _ (State.Leads.refl _ s)

@[simp] theorem State.boundary_pending (s : State) (n t : Nat) : (s.boundary n t).pending = s.pending := (State.boundary_only s n t).within .pending rfl
@[simp] theorem State.boundary_clock (s : State) (n t : Nat) : (s.boundary n t).clock = s.clock := (State.boundary_only s n t).within .clock rfl
@[simp] theorem State.boundary_free (s : State) (n t : Nat) : (s.boundary n t).free = s.free := (State.boundary_only s n t).within .free rfl
@[simp] theorem State.boundary_out (s : State) (n t : Nat) : (s.boundary n t).out = s.out := (State.boundary_only s n t).within .out rfl
@[simp] theorem State.boundary_regs (s : State) (n t : Nat) : (s.boundary n t).regs = s.regs := (State.boundary_only s n t).within .regs rfl
@[simp] theorem State.boundary_shadows (s : State) (n t : Nat) : (s.boundary n t).shadows = s.shadows := (State.boundary_only s n t).within .shadows rfl
@[simp] theorem State.boundary_mem (s : State) (n t : Nat) : (s.boundary n t).mem = s.mem := (State.boundary_only s n t).within .mem rfl
@[simp] theorem State.boundary_bad (s : State) (n t : Nat) : (s.boundary n t).bad = s.bad := (State.boundary_only s n t).within .bad rfl
@[simp] theorem State.boundary_beat (s : State) (n t : Nat) : (s.boundary n t).beat = s.beat := (State.boundary_only s n t).within .beat rfl
@[simp] theorem State.boundary_beatBefore (s : State) (n t : Nat) : (s.boundary n t).beatBefore = s.beatBefore := (State.boundary_only s n t).within .beatBefore rfl
@[simp] theorem State.boundary_fns (s : State) (n t : Nat) : (s.boundary n t).fns = s.fns := (State.boundary_only s n t).within .fns rfl
@[simp] theorem State.boundary_msix (s : State) (n t : Nat) : (s.boundary n t).msix = s.msix := (State.boundary_only s n t).within .msix rfl
@[simp] theorem State.boundary_grants (s : State) (n t : Nat) : (s.boundary n t).grants = s.grants := (State.boundary_only s n t).within .grants rfl
@[simp] theorem State.boundary_grantOp (s : State) (n t : Nat) : (s.boundary n t).grantOp = s.grantOp := (State.boundary_only s n t).within .grantOp rfl
@[simp] theorem State.boundary_vales (s : State) (n t : Nat) : (s.boundary n t).vales = s.vales := (State.boundary_only s n t).within .vales rfl
@[simp] theorem State.boundary_slots (s : State) (n t : Nat) : (s.boundary n t).slots = s.slots := (State.boundary_only s n t).within .slots rfl
@[simp] theorem State.boundary_links (s : State) (n t : Nat) : (s.boundary n t).links = s.links := (State.boundary_only s n t).within .links rfl
@[simp] theorem State.boundary_turns (s : State) (n t : Nat) : (s.boundary n t).turns = s.turns := (State.boundary_only s n t).within .turns rfl
@[simp] theorem State.boundary_floors (s : State) (n t : Nat) : (s.boundary n t).floors = s.floors := (State.boundary_only s n t).within .floors rfl
@[simp] theorem State.boundary_echo (s : State) (n t : Nat) : (s.boundary n t).echo = s.echo := (State.boundary_only s n t).within .echo rfl
@[simp] theorem State.boundary_tests (s : State) (n t : Nat) : (s.boundary n t).tests = s.tests := (State.boundary_only s n t).within .tests rfl
@[simp] theorem State.boundary_credits (s : State) (n t : Nat) : (s.boundary n t).credits = s.credits := (State.boundary_only s n t).within .credits rfl
@[simp] theorem State.boundary_granted (s : State) (n t : Nat) : (s.boundary n t).granted = s.granted := (State.boundary_only s n t).within .granted rfl
@[simp] theorem State.boundary_resets (s : State) (n t : Nat) : (s.boundary n t).resets = s.resets := (State.boundary_only s n t).within .resets rfl
@[simp] theorem State.boundary_health (s : State) (n t : Nat) : (s.boundary n t).health = s.health := (State.boundary_only s n t).within .health rfl
@[simp] theorem State.boundary_terrace (s : State) (n t : Nat) : (s.boundary n t).terrace = s.terrace := (State.boundary_only s n t).within .terrace rfl
@[simp] theorem State.boundary_boot (s : State) (n t : Nat) : (s.boundary n t).boot = s.boot := (State.boundary_only s n t).within .boot rfl
@[simp] theorem State.boundary_census (s : State) (n t : Nat) : (s.boundary n t).census = s.census := (State.boundary_only s n t).within .census rfl
@[simp] theorem State.boundary_mp (s : State) (n t : Nat) : (s.boundary n t).mp = s.mp := (State.boundary_only s n t).within .mp rfl
@[simp] theorem State.boundary_pins (s : State) (n t : Nat) : (s.boundary n t).pins = s.pins := (State.boundary_only s n t).within .pins rfl
@[simp] theorem State.boundary_vale_other (s : State) (n t : Nat) (j : Nat) : (s.boundary n t).vale j = s.vale j := by simp [State.vale]
@[simp] theorem State.boundary_cmd_other (s : State) (n t : Nat) (j : Nat) : (s.boundary n t).cmd j = s.cmd j := by simp [State.cmd]
@[simp] theorem State.boundary_link_other (s : State) (n t : Nat) (j : Nat) : (s.boundary n t).link j = s.link j := by simp [State.link]
@[simp] theorem State.boundary_turn_other (s : State) (n t : Nat) (j : Nat) : (s.boundary n t).turn j = s.turn j := by simp [State.turn]
@[simp] theorem State.boundary_floor_other (s : State) (n t : Nat) (j : Nat) : (s.boundary n t).floor j = s.floor j := by simp [State.floor]
@[simp] theorem State.boundary_echoOf_other (s : State) (n t : Nat) (j : Nat) : (s.boundary n t).echoOf j = s.echoOf j := by simp [State.echoOf]
@[simp] theorem State.boundary_test_other (s : State) (n t : Nat) (j : Nat) : (s.boundary n t).test j = s.test j := by simp [State.test]
@[simp] theorem State.boundary_fn_other (s : State) (n t : Nat) (j : Nat) : (s.boundary n t).fn j = s.fn j := by simp [State.fn]
@[simp] theorem State.boundary_grant_other (s : State) (n t : Nat) (j : Nat) : (s.boundary n t).grant j = s.grant j := by simp [State.grant]
@[simp] theorem State.boundary_reg_other (s : State) (n t : Nat) (j : Nat) : (s.boundary n t).reg j = s.reg j := by simp [State.reg]
@[simp] theorem State.boundary_byte_other (s : State) (n t : Nat) (j : Nat) : (s.boundary n t).byte j = s.byte j := by simp [State.byte]

/-! ### State.latchBindings -/

theorem State.latchBindings_only (s : State) (n : Nat) : State.Leads (fun f => [.slots].contains f) s (s.latchBindings n) := by
  have : May (fun f => [.slots].contains f) .slots := ⟨rfl⟩
  exact State.latchBindings_leads _ (State.Leads.refl _ s)

@[simp] theorem State.latchBindings_pending (s : State) (n : Nat) : (s.latchBindings n).pending = s.pending := (State.latchBindings_only s n).within .pending rfl
@[simp] theorem State.latchBindings_clock (s : State) (n : Nat) : (s.latchBindings n).clock = s.clock := (State.latchBindings_only s n).within .clock rfl
@[simp] theorem State.latchBindings_free (s : State) (n : Nat) : (s.latchBindings n).free = s.free := (State.latchBindings_only s n).within .free rfl
@[simp] theorem State.latchBindings_out (s : State) (n : Nat) : (s.latchBindings n).out = s.out := (State.latchBindings_only s n).within .out rfl
@[simp] theorem State.latchBindings_regs (s : State) (n : Nat) : (s.latchBindings n).regs = s.regs := (State.latchBindings_only s n).within .regs rfl
@[simp] theorem State.latchBindings_shadows (s : State) (n : Nat) : (s.latchBindings n).shadows = s.shadows := (State.latchBindings_only s n).within .shadows rfl
@[simp] theorem State.latchBindings_mem (s : State) (n : Nat) : (s.latchBindings n).mem = s.mem := (State.latchBindings_only s n).within .mem rfl
@[simp] theorem State.latchBindings_bad (s : State) (n : Nat) : (s.latchBindings n).bad = s.bad := (State.latchBindings_only s n).within .bad rfl
@[simp] theorem State.latchBindings_beat (s : State) (n : Nat) : (s.latchBindings n).beat = s.beat := (State.latchBindings_only s n).within .beat rfl
@[simp] theorem State.latchBindings_beatBefore (s : State) (n : Nat) : (s.latchBindings n).beatBefore = s.beatBefore := (State.latchBindings_only s n).within .beatBefore rfl
@[simp] theorem State.latchBindings_fns (s : State) (n : Nat) : (s.latchBindings n).fns = s.fns := (State.latchBindings_only s n).within .fns rfl
@[simp] theorem State.latchBindings_msix (s : State) (n : Nat) : (s.latchBindings n).msix = s.msix := (State.latchBindings_only s n).within .msix rfl
@[simp] theorem State.latchBindings_grants (s : State) (n : Nat) : (s.latchBindings n).grants = s.grants := (State.latchBindings_only s n).within .grants rfl
@[simp] theorem State.latchBindings_grantOp (s : State) (n : Nat) : (s.latchBindings n).grantOp = s.grantOp := (State.latchBindings_only s n).within .grantOp rfl
@[simp] theorem State.latchBindings_vales (s : State) (n : Nat) : (s.latchBindings n).vales = s.vales := (State.latchBindings_only s n).within .vales rfl
@[simp] theorem State.latchBindings_parts (s : State) (n : Nat) : (s.latchBindings n).parts = s.parts := (State.latchBindings_only s n).within .parts rfl
@[simp] theorem State.latchBindings_links (s : State) (n : Nat) : (s.latchBindings n).links = s.links := (State.latchBindings_only s n).within .links rfl
@[simp] theorem State.latchBindings_turns (s : State) (n : Nat) : (s.latchBindings n).turns = s.turns := (State.latchBindings_only s n).within .turns rfl
@[simp] theorem State.latchBindings_floors (s : State) (n : Nat) : (s.latchBindings n).floors = s.floors := (State.latchBindings_only s n).within .floors rfl
@[simp] theorem State.latchBindings_echo (s : State) (n : Nat) : (s.latchBindings n).echo = s.echo := (State.latchBindings_only s n).within .echo rfl
@[simp] theorem State.latchBindings_tests (s : State) (n : Nat) : (s.latchBindings n).tests = s.tests := (State.latchBindings_only s n).within .tests rfl
@[simp] theorem State.latchBindings_credits (s : State) (n : Nat) : (s.latchBindings n).credits = s.credits := (State.latchBindings_only s n).within .credits rfl
@[simp] theorem State.latchBindings_granted (s : State) (n : Nat) : (s.latchBindings n).granted = s.granted := (State.latchBindings_only s n).within .granted rfl
@[simp] theorem State.latchBindings_resets (s : State) (n : Nat) : (s.latchBindings n).resets = s.resets := (State.latchBindings_only s n).within .resets rfl
@[simp] theorem State.latchBindings_health (s : State) (n : Nat) : (s.latchBindings n).health = s.health := (State.latchBindings_only s n).within .health rfl
@[simp] theorem State.latchBindings_terrace (s : State) (n : Nat) : (s.latchBindings n).terrace = s.terrace := (State.latchBindings_only s n).within .terrace rfl
@[simp] theorem State.latchBindings_boot (s : State) (n : Nat) : (s.latchBindings n).boot = s.boot := (State.latchBindings_only s n).within .boot rfl
@[simp] theorem State.latchBindings_census (s : State) (n : Nat) : (s.latchBindings n).census = s.census := (State.latchBindings_only s n).within .census rfl
@[simp] theorem State.latchBindings_mp (s : State) (n : Nat) : (s.latchBindings n).mp = s.mp := (State.latchBindings_only s n).within .mp rfl
@[simp] theorem State.latchBindings_pins (s : State) (n : Nat) : (s.latchBindings n).pins = s.pins := (State.latchBindings_only s n).within .pins rfl
@[simp] theorem State.latchBindings_part_other (s : State) (n : Nat) (j : Nat) : (s.latchBindings n).part j = s.part j := by simp [State.part]
@[simp] theorem State.latchBindings_vale_other (s : State) (n : Nat) (j : Nat) : (s.latchBindings n).vale j = s.vale j := by simp [State.vale]
@[simp] theorem State.latchBindings_link_other (s : State) (n : Nat) (j : Nat) : (s.latchBindings n).link j = s.link j := by simp [State.link]
@[simp] theorem State.latchBindings_turn_other (s : State) (n : Nat) (j : Nat) : (s.latchBindings n).turn j = s.turn j := by simp [State.turn]
@[simp] theorem State.latchBindings_floor_other (s : State) (n : Nat) (j : Nat) : (s.latchBindings n).floor j = s.floor j := by simp [State.floor]
@[simp] theorem State.latchBindings_echoOf_other (s : State) (n : Nat) (j : Nat) : (s.latchBindings n).echoOf j = s.echoOf j := by simp [State.echoOf]
@[simp] theorem State.latchBindings_test_other (s : State) (n : Nat) (j : Nat) : (s.latchBindings n).test j = s.test j := by simp [State.test]
@[simp] theorem State.latchBindings_fn_other (s : State) (n : Nat) (j : Nat) : (s.latchBindings n).fn j = s.fn j := by simp [State.fn]
@[simp] theorem State.latchBindings_grant_other (s : State) (n : Nat) (j : Nat) : (s.latchBindings n).grant j = s.grant j := by simp [State.grant]
@[simp] theorem State.latchBindings_reg_other (s : State) (n : Nat) (j : Nat) : (s.latchBindings n).reg j = s.reg j := by simp [State.reg]
@[simp] theorem State.latchBindings_byte_other (s : State) (n : Nat) (j : Nat) : (s.latchBindings n).byte j = s.byte j := by simp [State.byte]

/-! ### State.signal -/

theorem State.signal_only (s : State) (n t : Nat) : State.Leads (fun f => [.regs, .parts, .slots].contains f) s (s.signal n t) := by
  have : May (fun f => [.regs, .parts, .slots].contains f) .regs := ⟨rfl⟩
  have : May (fun f => [.regs, .parts, .slots].contains f) .parts := ⟨rfl⟩
  have : May (fun f => [.regs, .parts, .slots].contains f) .slots := ⟨rfl⟩
  exact State.signal_leads _ _ (State.Leads.refl _ s)

@[simp] theorem State.signal_pending (s : State) (n t : Nat) : (s.signal n t).pending = s.pending := (State.signal_only s n t).within .pending rfl
@[simp] theorem State.signal_clock (s : State) (n t : Nat) : (s.signal n t).clock = s.clock := (State.signal_only s n t).within .clock rfl
@[simp] theorem State.signal_free (s : State) (n t : Nat) : (s.signal n t).free = s.free := (State.signal_only s n t).within .free rfl
@[simp] theorem State.signal_out (s : State) (n t : Nat) : (s.signal n t).out = s.out := (State.signal_only s n t).within .out rfl
@[simp] theorem State.signal_shadows (s : State) (n t : Nat) : (s.signal n t).shadows = s.shadows := (State.signal_only s n t).within .shadows rfl
@[simp] theorem State.signal_mem (s : State) (n t : Nat) : (s.signal n t).mem = s.mem := (State.signal_only s n t).within .mem rfl
@[simp] theorem State.signal_bad (s : State) (n t : Nat) : (s.signal n t).bad = s.bad := (State.signal_only s n t).within .bad rfl
@[simp] theorem State.signal_beat (s : State) (n t : Nat) : (s.signal n t).beat = s.beat := (State.signal_only s n t).within .beat rfl
@[simp] theorem State.signal_beatBefore (s : State) (n t : Nat) : (s.signal n t).beatBefore = s.beatBefore := (State.signal_only s n t).within .beatBefore rfl
@[simp] theorem State.signal_fns (s : State) (n t : Nat) : (s.signal n t).fns = s.fns := (State.signal_only s n t).within .fns rfl
@[simp] theorem State.signal_msix (s : State) (n t : Nat) : (s.signal n t).msix = s.msix := (State.signal_only s n t).within .msix rfl
@[simp] theorem State.signal_grants (s : State) (n t : Nat) : (s.signal n t).grants = s.grants := (State.signal_only s n t).within .grants rfl
@[simp] theorem State.signal_grantOp (s : State) (n t : Nat) : (s.signal n t).grantOp = s.grantOp := (State.signal_only s n t).within .grantOp rfl
@[simp] theorem State.signal_vales (s : State) (n t : Nat) : (s.signal n t).vales = s.vales := (State.signal_only s n t).within .vales rfl
@[simp] theorem State.signal_links (s : State) (n t : Nat) : (s.signal n t).links = s.links := (State.signal_only s n t).within .links rfl
@[simp] theorem State.signal_turns (s : State) (n t : Nat) : (s.signal n t).turns = s.turns := (State.signal_only s n t).within .turns rfl
@[simp] theorem State.signal_floors (s : State) (n t : Nat) : (s.signal n t).floors = s.floors := (State.signal_only s n t).within .floors rfl
@[simp] theorem State.signal_echo (s : State) (n t : Nat) : (s.signal n t).echo = s.echo := (State.signal_only s n t).within .echo rfl
@[simp] theorem State.signal_tests (s : State) (n t : Nat) : (s.signal n t).tests = s.tests := (State.signal_only s n t).within .tests rfl
@[simp] theorem State.signal_credits (s : State) (n t : Nat) : (s.signal n t).credits = s.credits := (State.signal_only s n t).within .credits rfl
@[simp] theorem State.signal_granted (s : State) (n t : Nat) : (s.signal n t).granted = s.granted := (State.signal_only s n t).within .granted rfl
@[simp] theorem State.signal_resets (s : State) (n t : Nat) : (s.signal n t).resets = s.resets := (State.signal_only s n t).within .resets rfl
@[simp] theorem State.signal_health (s : State) (n t : Nat) : (s.signal n t).health = s.health := (State.signal_only s n t).within .health rfl
@[simp] theorem State.signal_terrace (s : State) (n t : Nat) : (s.signal n t).terrace = s.terrace := (State.signal_only s n t).within .terrace rfl
@[simp] theorem State.signal_boot (s : State) (n t : Nat) : (s.signal n t).boot = s.boot := (State.signal_only s n t).within .boot rfl
@[simp] theorem State.signal_census (s : State) (n t : Nat) : (s.signal n t).census = s.census := (State.signal_only s n t).within .census rfl
@[simp] theorem State.signal_mp (s : State) (n t : Nat) : (s.signal n t).mp = s.mp := (State.signal_only s n t).within .mp rfl
@[simp] theorem State.signal_pins (s : State) (n t : Nat) : (s.signal n t).pins = s.pins := (State.signal_only s n t).within .pins rfl
@[simp] theorem State.signal_vale_other (s : State) (n t : Nat) (j : Nat) : (s.signal n t).vale j = s.vale j := by simp [State.vale]
@[simp] theorem State.signal_link_other (s : State) (n t : Nat) (j : Nat) : (s.signal n t).link j = s.link j := by simp [State.link]
@[simp] theorem State.signal_turn_other (s : State) (n t : Nat) (j : Nat) : (s.signal n t).turn j = s.turn j := by simp [State.turn]
@[simp] theorem State.signal_floor_other (s : State) (n t : Nat) (j : Nat) : (s.signal n t).floor j = s.floor j := by simp [State.floor]
@[simp] theorem State.signal_echoOf_other (s : State) (n t : Nat) (j : Nat) : (s.signal n t).echoOf j = s.echoOf j := by simp [State.echoOf]
@[simp] theorem State.signal_test_other (s : State) (n t : Nat) (j : Nat) : (s.signal n t).test j = s.test j := by simp [State.test]
@[simp] theorem State.signal_fn_other (s : State) (n t : Nat) (j : Nat) : (s.signal n t).fn j = s.fn j := by simp [State.fn]
@[simp] theorem State.signal_grant_other (s : State) (n t : Nat) (j : Nat) : (s.signal n t).grant j = s.grant j := by simp [State.grant]
@[simp] theorem State.signal_byte_other (s : State) (n t : Nat) (j : Nat) : (s.signal n t).byte j = s.byte j := by simp [State.byte]

/-! ### State.resend -/

theorem State.resend_only (s : State) (pg : Page) : State.Leads (fun f => [.out, .msix].contains f) s (s.resend pg) := by
  have : May (fun f => [.out, .msix].contains f) .out := ⟨rfl⟩
  have : May (fun f => [.out, .msix].contains f) .msix := ⟨rfl⟩
  exact State.resend_leads _ (State.Leads.refl _ s)

@[simp] theorem State.resend_pending (s : State) (pg : Page) : (s.resend pg).pending = s.pending := (State.resend_only s pg).within .pending rfl
@[simp] theorem State.resend_clock (s : State) (pg : Page) : (s.resend pg).clock = s.clock := (State.resend_only s pg).within .clock rfl
@[simp] theorem State.resend_free (s : State) (pg : Page) : (s.resend pg).free = s.free := (State.resend_only s pg).within .free rfl
@[simp] theorem State.resend_regs (s : State) (pg : Page) : (s.resend pg).regs = s.regs := (State.resend_only s pg).within .regs rfl
@[simp] theorem State.resend_shadows (s : State) (pg : Page) : (s.resend pg).shadows = s.shadows := (State.resend_only s pg).within .shadows rfl
@[simp] theorem State.resend_mem (s : State) (pg : Page) : (s.resend pg).mem = s.mem := (State.resend_only s pg).within .mem rfl
@[simp] theorem State.resend_bad (s : State) (pg : Page) : (s.resend pg).bad = s.bad := (State.resend_only s pg).within .bad rfl
@[simp] theorem State.resend_beat (s : State) (pg : Page) : (s.resend pg).beat = s.beat := (State.resend_only s pg).within .beat rfl
@[simp] theorem State.resend_beatBefore (s : State) (pg : Page) : (s.resend pg).beatBefore = s.beatBefore := (State.resend_only s pg).within .beatBefore rfl
@[simp] theorem State.resend_fns (s : State) (pg : Page) : (s.resend pg).fns = s.fns := (State.resend_only s pg).within .fns rfl
@[simp] theorem State.resend_grants (s : State) (pg : Page) : (s.resend pg).grants = s.grants := (State.resend_only s pg).within .grants rfl
@[simp] theorem State.resend_grantOp (s : State) (pg : Page) : (s.resend pg).grantOp = s.grantOp := (State.resend_only s pg).within .grantOp rfl
@[simp] theorem State.resend_vales (s : State) (pg : Page) : (s.resend pg).vales = s.vales := (State.resend_only s pg).within .vales rfl
@[simp] theorem State.resend_parts (s : State) (pg : Page) : (s.resend pg).parts = s.parts := (State.resend_only s pg).within .parts rfl
@[simp] theorem State.resend_slots (s : State) (pg : Page) : (s.resend pg).slots = s.slots := (State.resend_only s pg).within .slots rfl
@[simp] theorem State.resend_links (s : State) (pg : Page) : (s.resend pg).links = s.links := (State.resend_only s pg).within .links rfl
@[simp] theorem State.resend_turns (s : State) (pg : Page) : (s.resend pg).turns = s.turns := (State.resend_only s pg).within .turns rfl
@[simp] theorem State.resend_floors (s : State) (pg : Page) : (s.resend pg).floors = s.floors := (State.resend_only s pg).within .floors rfl
@[simp] theorem State.resend_echo (s : State) (pg : Page) : (s.resend pg).echo = s.echo := (State.resend_only s pg).within .echo rfl
@[simp] theorem State.resend_tests (s : State) (pg : Page) : (s.resend pg).tests = s.tests := (State.resend_only s pg).within .tests rfl
@[simp] theorem State.resend_credits (s : State) (pg : Page) : (s.resend pg).credits = s.credits := (State.resend_only s pg).within .credits rfl
@[simp] theorem State.resend_granted (s : State) (pg : Page) : (s.resend pg).granted = s.granted := (State.resend_only s pg).within .granted rfl
@[simp] theorem State.resend_resets (s : State) (pg : Page) : (s.resend pg).resets = s.resets := (State.resend_only s pg).within .resets rfl
@[simp] theorem State.resend_health (s : State) (pg : Page) : (s.resend pg).health = s.health := (State.resend_only s pg).within .health rfl
@[simp] theorem State.resend_terrace (s : State) (pg : Page) : (s.resend pg).terrace = s.terrace := (State.resend_only s pg).within .terrace rfl
@[simp] theorem State.resend_boot (s : State) (pg : Page) : (s.resend pg).boot = s.boot := (State.resend_only s pg).within .boot rfl
@[simp] theorem State.resend_census (s : State) (pg : Page) : (s.resend pg).census = s.census := (State.resend_only s pg).within .census rfl
@[simp] theorem State.resend_mp (s : State) (pg : Page) : (s.resend pg).mp = s.mp := (State.resend_only s pg).within .mp rfl
@[simp] theorem State.resend_pins (s : State) (pg : Page) : (s.resend pg).pins = s.pins := (State.resend_only s pg).within .pins rfl
@[simp] theorem State.resend_part_other (s : State) (pg : Page) (j : Nat) : (s.resend pg).part j = s.part j := by simp [State.part]
@[simp] theorem State.resend_vale_other (s : State) (pg : Page) (j : Nat) : (s.resend pg).vale j = s.vale j := by simp [State.vale]
@[simp] theorem State.resend_cmd_other (s : State) (pg : Page) (j : Nat) : (s.resend pg).cmd j = s.cmd j := by simp [State.cmd]
@[simp] theorem State.resend_link_other (s : State) (pg : Page) (j : Nat) : (s.resend pg).link j = s.link j := by simp [State.link]
@[simp] theorem State.resend_turn_other (s : State) (pg : Page) (j : Nat) : (s.resend pg).turn j = s.turn j := by simp [State.turn]
@[simp] theorem State.resend_floor_other (s : State) (pg : Page) (j : Nat) : (s.resend pg).floor j = s.floor j := by simp [State.floor]
@[simp] theorem State.resend_echoOf_other (s : State) (pg : Page) (j : Nat) : (s.resend pg).echoOf j = s.echoOf j := by simp [State.echoOf]
@[simp] theorem State.resend_test_other (s : State) (pg : Page) (j : Nat) : (s.resend pg).test j = s.test j := by simp [State.test]
@[simp] theorem State.resend_fn_other (s : State) (pg : Page) (j : Nat) : (s.resend pg).fn j = s.fn j := by simp [State.fn]
@[simp] theorem State.resend_grant_other (s : State) (pg : Page) (j : Nat) : (s.resend pg).grant j = s.grant j := by simp [State.grant]
@[simp] theorem State.resend_reg_other (s : State) (pg : Page) (j : Nat) : (s.resend pg).reg j = s.reg j := by simp [State.reg]
@[simp] theorem State.resend_byte_other (s : State) (pg : Page) (j : Nat) : (s.resend pg).byte j = s.byte j := by simp [State.byte]

/-! ### State.setPin -/

theorem State.setPin_only (s : State) (p : Pin) (on : Bool) : State.Leads (fun f => [.out, .pins].contains f) s (s.setPin p on) := by
  have : May (fun f => [.out, .pins].contains f) .out := ⟨rfl⟩
  have : May (fun f => [.out, .pins].contains f) .pins := ⟨rfl⟩
  exact State.setPin_leads _ _ (State.Leads.refl _ s)

@[simp] theorem State.setPin_pending (s : State) (p : Pin) (on : Bool) : (s.setPin p on).pending = s.pending := (State.setPin_only s p on).within .pending rfl
@[simp] theorem State.setPin_clock (s : State) (p : Pin) (on : Bool) : (s.setPin p on).clock = s.clock := (State.setPin_only s p on).within .clock rfl
@[simp] theorem State.setPin_free (s : State) (p : Pin) (on : Bool) : (s.setPin p on).free = s.free := (State.setPin_only s p on).within .free rfl
@[simp] theorem State.setPin_regs (s : State) (p : Pin) (on : Bool) : (s.setPin p on).regs = s.regs := (State.setPin_only s p on).within .regs rfl
@[simp] theorem State.setPin_shadows (s : State) (p : Pin) (on : Bool) : (s.setPin p on).shadows = s.shadows := (State.setPin_only s p on).within .shadows rfl
@[simp] theorem State.setPin_mem (s : State) (p : Pin) (on : Bool) : (s.setPin p on).mem = s.mem := (State.setPin_only s p on).within .mem rfl
@[simp] theorem State.setPin_bad (s : State) (p : Pin) (on : Bool) : (s.setPin p on).bad = s.bad := (State.setPin_only s p on).within .bad rfl
@[simp] theorem State.setPin_beat (s : State) (p : Pin) (on : Bool) : (s.setPin p on).beat = s.beat := (State.setPin_only s p on).within .beat rfl
@[simp] theorem State.setPin_beatBefore (s : State) (p : Pin) (on : Bool) : (s.setPin p on).beatBefore = s.beatBefore := (State.setPin_only s p on).within .beatBefore rfl
@[simp] theorem State.setPin_fns (s : State) (p : Pin) (on : Bool) : (s.setPin p on).fns = s.fns := (State.setPin_only s p on).within .fns rfl
@[simp] theorem State.setPin_msix (s : State) (p : Pin) (on : Bool) : (s.setPin p on).msix = s.msix := (State.setPin_only s p on).within .msix rfl
@[simp] theorem State.setPin_grants (s : State) (p : Pin) (on : Bool) : (s.setPin p on).grants = s.grants := (State.setPin_only s p on).within .grants rfl
@[simp] theorem State.setPin_grantOp (s : State) (p : Pin) (on : Bool) : (s.setPin p on).grantOp = s.grantOp := (State.setPin_only s p on).within .grantOp rfl
@[simp] theorem State.setPin_vales (s : State) (p : Pin) (on : Bool) : (s.setPin p on).vales = s.vales := (State.setPin_only s p on).within .vales rfl
@[simp] theorem State.setPin_parts (s : State) (p : Pin) (on : Bool) : (s.setPin p on).parts = s.parts := (State.setPin_only s p on).within .parts rfl
@[simp] theorem State.setPin_slots (s : State) (p : Pin) (on : Bool) : (s.setPin p on).slots = s.slots := (State.setPin_only s p on).within .slots rfl
@[simp] theorem State.setPin_links (s : State) (p : Pin) (on : Bool) : (s.setPin p on).links = s.links := (State.setPin_only s p on).within .links rfl
@[simp] theorem State.setPin_turns (s : State) (p : Pin) (on : Bool) : (s.setPin p on).turns = s.turns := (State.setPin_only s p on).within .turns rfl
@[simp] theorem State.setPin_floors (s : State) (p : Pin) (on : Bool) : (s.setPin p on).floors = s.floors := (State.setPin_only s p on).within .floors rfl
@[simp] theorem State.setPin_echo (s : State) (p : Pin) (on : Bool) : (s.setPin p on).echo = s.echo := (State.setPin_only s p on).within .echo rfl
@[simp] theorem State.setPin_tests (s : State) (p : Pin) (on : Bool) : (s.setPin p on).tests = s.tests := (State.setPin_only s p on).within .tests rfl
@[simp] theorem State.setPin_credits (s : State) (p : Pin) (on : Bool) : (s.setPin p on).credits = s.credits := (State.setPin_only s p on).within .credits rfl
@[simp] theorem State.setPin_granted (s : State) (p : Pin) (on : Bool) : (s.setPin p on).granted = s.granted := (State.setPin_only s p on).within .granted rfl
@[simp] theorem State.setPin_resets (s : State) (p : Pin) (on : Bool) : (s.setPin p on).resets = s.resets := (State.setPin_only s p on).within .resets rfl
@[simp] theorem State.setPin_health (s : State) (p : Pin) (on : Bool) : (s.setPin p on).health = s.health := (State.setPin_only s p on).within .health rfl
@[simp] theorem State.setPin_terrace (s : State) (p : Pin) (on : Bool) : (s.setPin p on).terrace = s.terrace := (State.setPin_only s p on).within .terrace rfl
@[simp] theorem State.setPin_boot (s : State) (p : Pin) (on : Bool) : (s.setPin p on).boot = s.boot := (State.setPin_only s p on).within .boot rfl
@[simp] theorem State.setPin_census (s : State) (p : Pin) (on : Bool) : (s.setPin p on).census = s.census := (State.setPin_only s p on).within .census rfl
@[simp] theorem State.setPin_mp (s : State) (p : Pin) (on : Bool) : (s.setPin p on).mp = s.mp := (State.setPin_only s p on).within .mp rfl
@[simp] theorem State.setPin_part_other (s : State) (p : Pin) (on : Bool) (j : Nat) : (s.setPin p on).part j = s.part j := by simp [State.part]
@[simp] theorem State.setPin_vale_other (s : State) (p : Pin) (on : Bool) (j : Nat) : (s.setPin p on).vale j = s.vale j := by simp [State.vale]
@[simp] theorem State.setPin_cmd_other (s : State) (p : Pin) (on : Bool) (j : Nat) : (s.setPin p on).cmd j = s.cmd j := by simp [State.cmd]
@[simp] theorem State.setPin_link_other (s : State) (p : Pin) (on : Bool) (j : Nat) : (s.setPin p on).link j = s.link j := by simp [State.link]
@[simp] theorem State.setPin_turn_other (s : State) (p : Pin) (on : Bool) (j : Nat) : (s.setPin p on).turn j = s.turn j := by simp [State.turn]
@[simp] theorem State.setPin_floor_other (s : State) (p : Pin) (on : Bool) (j : Nat) : (s.setPin p on).floor j = s.floor j := by simp [State.floor]
@[simp] theorem State.setPin_echoOf_other (s : State) (p : Pin) (on : Bool) (j : Nat) : (s.setPin p on).echoOf j = s.echoOf j := by simp [State.echoOf]
@[simp] theorem State.setPin_test_other (s : State) (p : Pin) (on : Bool) (j : Nat) : (s.setPin p on).test j = s.test j := by simp [State.test]
@[simp] theorem State.setPin_fn_other (s : State) (p : Pin) (on : Bool) (j : Nat) : (s.setPin p on).fn j = s.fn j := by simp [State.fn]
@[simp] theorem State.setPin_grant_other (s : State) (p : Pin) (on : Bool) (j : Nat) : (s.setPin p on).grant j = s.grant j := by simp [State.grant]
@[simp] theorem State.setPin_reg_other (s : State) (p : Pin) (on : Bool) (j : Nat) : (s.setPin p on).reg j = s.reg j := by simp [State.reg]
@[simp] theorem State.setPin_byte_other (s : State) (p : Pin) (on : Bool) (j : Nat) : (s.setPin p on).byte j = s.byte j := by simp [State.byte]

/-! ### State.driveAlert -/

theorem State.driveAlert_only (s : State)  : State.Leads (fun f => [.out, .pins].contains f) s (s.driveAlert ) := by
  have : May (fun f => [.out, .pins].contains f) .out := ⟨rfl⟩
  have : May (fun f => [.out, .pins].contains f) .pins := ⟨rfl⟩
  exact State.driveAlert_leads  (State.Leads.refl _ s)

@[simp] theorem State.driveAlert_pending (s : State)  : (s.driveAlert ).pending = s.pending := (State.driveAlert_only s ).within .pending rfl
@[simp] theorem State.driveAlert_clock (s : State)  : (s.driveAlert ).clock = s.clock := (State.driveAlert_only s ).within .clock rfl
@[simp] theorem State.driveAlert_free (s : State)  : (s.driveAlert ).free = s.free := (State.driveAlert_only s ).within .free rfl
@[simp] theorem State.driveAlert_regs (s : State)  : (s.driveAlert ).regs = s.regs := (State.driveAlert_only s ).within .regs rfl
@[simp] theorem State.driveAlert_shadows (s : State)  : (s.driveAlert ).shadows = s.shadows := (State.driveAlert_only s ).within .shadows rfl
@[simp] theorem State.driveAlert_mem (s : State)  : (s.driveAlert ).mem = s.mem := (State.driveAlert_only s ).within .mem rfl
@[simp] theorem State.driveAlert_bad (s : State)  : (s.driveAlert ).bad = s.bad := (State.driveAlert_only s ).within .bad rfl
@[simp] theorem State.driveAlert_beat (s : State)  : (s.driveAlert ).beat = s.beat := (State.driveAlert_only s ).within .beat rfl
@[simp] theorem State.driveAlert_beatBefore (s : State)  : (s.driveAlert ).beatBefore = s.beatBefore := (State.driveAlert_only s ).within .beatBefore rfl
@[simp] theorem State.driveAlert_fns (s : State)  : (s.driveAlert ).fns = s.fns := (State.driveAlert_only s ).within .fns rfl
@[simp] theorem State.driveAlert_msix (s : State)  : (s.driveAlert ).msix = s.msix := (State.driveAlert_only s ).within .msix rfl
@[simp] theorem State.driveAlert_grants (s : State)  : (s.driveAlert ).grants = s.grants := (State.driveAlert_only s ).within .grants rfl
@[simp] theorem State.driveAlert_grantOp (s : State)  : (s.driveAlert ).grantOp = s.grantOp := (State.driveAlert_only s ).within .grantOp rfl
@[simp] theorem State.driveAlert_vales (s : State)  : (s.driveAlert ).vales = s.vales := (State.driveAlert_only s ).within .vales rfl
@[simp] theorem State.driveAlert_parts (s : State)  : (s.driveAlert ).parts = s.parts := (State.driveAlert_only s ).within .parts rfl
@[simp] theorem State.driveAlert_slots (s : State)  : (s.driveAlert ).slots = s.slots := (State.driveAlert_only s ).within .slots rfl
@[simp] theorem State.driveAlert_links (s : State)  : (s.driveAlert ).links = s.links := (State.driveAlert_only s ).within .links rfl
@[simp] theorem State.driveAlert_turns (s : State)  : (s.driveAlert ).turns = s.turns := (State.driveAlert_only s ).within .turns rfl
@[simp] theorem State.driveAlert_floors (s : State)  : (s.driveAlert ).floors = s.floors := (State.driveAlert_only s ).within .floors rfl
@[simp] theorem State.driveAlert_echo (s : State)  : (s.driveAlert ).echo = s.echo := (State.driveAlert_only s ).within .echo rfl
@[simp] theorem State.driveAlert_tests (s : State)  : (s.driveAlert ).tests = s.tests := (State.driveAlert_only s ).within .tests rfl
@[simp] theorem State.driveAlert_credits (s : State)  : (s.driveAlert ).credits = s.credits := (State.driveAlert_only s ).within .credits rfl
@[simp] theorem State.driveAlert_granted (s : State)  : (s.driveAlert ).granted = s.granted := (State.driveAlert_only s ).within .granted rfl
@[simp] theorem State.driveAlert_resets (s : State)  : (s.driveAlert ).resets = s.resets := (State.driveAlert_only s ).within .resets rfl
@[simp] theorem State.driveAlert_health (s : State)  : (s.driveAlert ).health = s.health := (State.driveAlert_only s ).within .health rfl
@[simp] theorem State.driveAlert_terrace (s : State)  : (s.driveAlert ).terrace = s.terrace := (State.driveAlert_only s ).within .terrace rfl
@[simp] theorem State.driveAlert_boot (s : State)  : (s.driveAlert ).boot = s.boot := (State.driveAlert_only s ).within .boot rfl
@[simp] theorem State.driveAlert_census (s : State)  : (s.driveAlert ).census = s.census := (State.driveAlert_only s ).within .census rfl
@[simp] theorem State.driveAlert_mp (s : State)  : (s.driveAlert ).mp = s.mp := (State.driveAlert_only s ).within .mp rfl
@[simp] theorem State.driveAlert_part_other (s : State)  (j : Nat) : (s.driveAlert ).part j = s.part j := by simp [State.part]
@[simp] theorem State.driveAlert_vale_other (s : State)  (j : Nat) : (s.driveAlert ).vale j = s.vale j := by simp [State.vale]
@[simp] theorem State.driveAlert_cmd_other (s : State)  (j : Nat) : (s.driveAlert ).cmd j = s.cmd j := by simp [State.cmd]
@[simp] theorem State.driveAlert_link_other (s : State)  (j : Nat) : (s.driveAlert ).link j = s.link j := by simp [State.link]
@[simp] theorem State.driveAlert_turn_other (s : State)  (j : Nat) : (s.driveAlert ).turn j = s.turn j := by simp [State.turn]
@[simp] theorem State.driveAlert_floor_other (s : State)  (j : Nat) : (s.driveAlert ).floor j = s.floor j := by simp [State.floor]
@[simp] theorem State.driveAlert_echoOf_other (s : State)  (j : Nat) : (s.driveAlert ).echoOf j = s.echoOf j := by simp [State.echoOf]
@[simp] theorem State.driveAlert_test_other (s : State)  (j : Nat) : (s.driveAlert ).test j = s.test j := by simp [State.test]
@[simp] theorem State.driveAlert_fn_other (s : State)  (j : Nat) : (s.driveAlert ).fn j = s.fn j := by simp [State.fn]
@[simp] theorem State.driveAlert_grant_other (s : State)  (j : Nat) : (s.driveAlert ).grant j = s.grant j := by simp [State.grant]
@[simp] theorem State.driveAlert_reg_other (s : State)  (j : Nat) : (s.driveAlert ).reg j = s.reg j := by simp [State.reg]
@[simp] theorem State.driveAlert_byte_other (s : State)  (j : Nat) : (s.driveAlert ).byte j = s.byte j := by simp [State.byte]
/-! ### Registers under the shared operations -/

@[simp] theorem State.sendMsix_reg (s : State) (f v a : Nat) : (s.sendMsix f v).reg a = s.reg a := by
  simp [State.reg]

theorem State.withIrq_reg (s : State) (pg : Page) (f : State → State) (a : Nat) : (s.withIrq pg f).reg a = (f s).reg a := by
  unfold State.withIrq
  split
  · rfl
  · dsimp only; split <;> simp

/-- A raise sets its bits in the page's IRQ_STAT and no other register (R583). -/
theorem State.raise_reg (s : State) (pg : Page) (b a : Nat) (h : s.resetting pg = false) :
    (s.raise pg b).reg a = if a = pageBase pg + 0x10 then s.reg a ||| BitVec.ofNat 32 b else s.reg a := by
  unfold State.raise
  simp only [h, Bool.false_eq_true, if_false]
  rw [State.withIrq_reg, State.setReg_reg]
  split <;> simp_all

@[simp] theorem State.raise_reg_other (s : State) (pg : Page) (b a : Nat) (h : a ≠ pageBase pg + 0x10) :
    (s.raise pg b).reg a = s.reg a := by
  cases e : s.resetting pg
  · rw [State.raise_reg _ _ _ _ e]; simp [h]
  · simp [State.raise, e]

@[simp] theorem State.beatEvent_reg_other (s : State) (b a : Nat) (h : a ≠ 0x60) : (s.beatEvent b).reg a = s.reg a := by
  unfold State.beatEvent; rw [State.withIrq_reg, State.setReg_reg]; simp [h]

theorem State.beatEvent_reg (s : State) (b : Nat) : (s.beatEvent b).reg 0x60 = s.reg 0x60 ||| BitVec.ofNat 32 b := by
  unfold State.beatEvent; rw [State.withIrq_reg, State.setReg_reg]; simp

@[simp] theorem State.hifEvent_reg_other (s : State) (b a : Nat) (h : a ≠ 0x10C) : (s.hifEvent b).reg a = s.reg a := by
  unfold State.hifEvent; rw [State.withIrq_reg, State.setReg_reg]; simp [h]

@[simp] theorem State.count_reg_other (s : State) (pg : Page) (o k a : Nat) (h : a ≠ pageBase pg + o) :
    (s.count pg o k).reg a = s.reg a := by
  unfold State.count; split
  · rw [State.setReg_reg]; simp [h]
  · rfl

/-- A counter that counts gains k and stops at its largest value (R584, R585). -/
theorem State.count_reg (s : State) (pg : Page) (o k : Nat) (h : s.counting pg = true) :
    (s.count pg o k).reg (pageBase pg + o) = satInc (s.reg (pageBase pg + o)) k := by
  unfold State.count; rw [if_pos h, State.setReg_reg]; simp

@[simp] theorem State.moraine_reg_other (s : State) (ev : MorEvent) (pg : Page) (p : List Nat) (a : Nat) (h : a ≠ 0x3F0008C) :
    (s.moraine ev pg p).reg a = s.reg a := by
  unfold State.moraine
  dsimp only
  split
  · exact State.count_reg_other _ _ _ _ _ (by simpa [pageBase] using h)
  · rfl


@[simp] theorem State.setPin_reg (s : State) (p : Pin) (on : Bool) (a : Nat) : (s.setPin p on).reg a = s.reg a := by
  simp [State.reg]

@[simp] theorem State.resend_reg (s : State) (pg : Page) (a : Nat) : (s.resend pg).reg a = s.reg a := by simp [State.reg]

end Sys2Proof.Machine
end

