-- ==== Sys2Proof/Tests/Slice0.lean ====
section
/-! SUPPORT. Slice0: the model's own tests: WellFormed refuses ill-formed commands, steps of small states against the spec, and for each
statement with hypotheses a state and operands that meet them (`witness_…`). -/

namespace Sys2Proof.Tests

set_option Elab.async false

open Sys2Proof.Machine

/-! ### States -/

/-- A part in READY. -/
def up : State := { State.reset with boot := { State.reset.boot with phase := 6 } }
/-- A part in READY at clock 5,000 whose beat has the given state, and its next crossing predicted at clock 5,000. -/
def beatAt (st : BeatState) : State :=
  { up with
    clock := 5000
    beat := { Beat.reset with
      state := st, num := 7#64, pLock := 2100 * 256, everLocked := true, counted := true, predicted := 5000 * 256,
      fallingPol := false, edgeClock := 2900, lastCross := some 2900 } }
/-- The state with BEAT_EN set. -/
def beatOn (s : State) : State := s.setReg 0x40 1#32
/-- A part in READY whose partition 0 is ACTIVE with vale 0. -/
def withPart : State :=
  (up.modPart 0 fun p => { p with mode := .active }).modVale 0 fun v => { v with owner := some 0 }
/-- The same, metered. -/
def withMetered : State := withPart.setRegF 0x1048 0 0 1

/-- The state with page 0 of partition 0's address space mapped to page 0 of stack 0, which partition 0 may write. -/
def mapped (s : State) : State :=
  { s.modPart 0 fun p => { p with tlb := [⟨0, 0, true⟩] } with grants := [(0, { Grant.none with writer := some 0 })] }

/-! ### WellFormed -/

theorem test_wf_config_field : (Instr.registerWrite (.cfg .pf) 9 4 0).wf = false := by decide +kernel
theorem test_wf_flit_length : (Instr.flitReceive 0 []).wf = false := by decide +kernel
theorem test_wf_markers : (Instr.bootPhaseDone (.stacks [true] [])).wf = false := by decide +kernel
theorem test_wf_sensors : (Instr.sensorSample []).wf = false := by decide +kernel
theorem test_wf_exchange : (Instr.linkExchangeDone 0 ⟨0, 0, 0, 0, false, []⟩).wf = false := by decide +kernel
theorem test_wf_bar2_write : (Instr.bar2Access 0 (.write [])).wf = false := by decide +kernel
theorem test_wf_bar2_read : (Instr.bar2Access 0 (.read 0)).wf = false := by decide +kernel
theorem test_wf_challenge : (Instr.challenge .pcie 0 []).wf = false := by decide +kernel
theorem test_wf_measurements : (Instr.getMeasurements .pcie 1 true []).wf = false := by decide +kernel
theorem test_wf_sound : (Instr.sensorSample (List.replicate 48 0)).wf = true := by decide +kernel

/-! ### The queue, registers, interrupts -/

theorem witness_step_front : ({ up with pending := [.powerLoss] } : State).pending = .powerLoss :: [] ∧ up.pending = [] := ⟨rfl, rfl⟩
theorem witness_canonical : up.Canonical := by constructor <;> decide +kernel
theorem witness_canonical_step : ∃ t, step up = .next t := ⟨_, rfl⟩
theorem witness_exec_next : ∃ t, exec .powerLoss up = .next t := ⟨_, rfl⟩
theorem witness_register_write :
    Serves up .pf = true ∧ up.resetting (.echo 0) = false ∧ rowsAt (.echo 0) 0x40 = [⟨0x40, 0, 1, 0, 0, .rw, 1, .any⟩] ∧
    up.resetting (.floor 19) = false ∧ rowsAt (.floor 19) 0x64 = [⟨0x64, 0, 1, 7, 0, .rw, 4, .range 1 255⟩] := by decide +kernel
theorem witness_register_row :
    (∀ n, Page.health ≠ .part n) ∧ Page.health ≠ .mp ∧ (0x100C % 8 ≠ 0 ∧ 0x1008 % 8 = 0) ∧ Serves up (.vf 15) = true ∧
    ¬ (4 = 4 ∧ 2 % 4 = 0) ∧ ¬ (2 = 4 ∧ 0 % 4 = 0) := by
  refine ⟨fun _ => nofun, ?_⟩; decide +kernel
theorem witness_rc_read :
    Serves up .pf = true ∧ flatAddr .pf 0x1000048 = some 0x1000048 ∧ flatAddr .pf 0x60 = some 0x60 ∧
    rcAddr .pf 0x70 = true ∧ locate 0x70 = some (.device, 0x70) ∧ up.resetting .device = false ∧ up.shadow .pf 0x70 = none := by decide +kernel
theorem witness_shadow_read :
    let s := up.setShadow .pf 0x4C (some 5#32)
    Serves s .pf = true ∧ flatAddr .pf 0x4C = some 0x4C ∧ (locate 0x4C).isSome = true ∧ s.shadow .pf 0x4C = some 5#32 ∧
    up.shadow .pf 0x48 = none ∧ up.shownBeat = up.beat := by decide +kernel
theorem witness_irq :
    Serves up .pf = true ∧ hasIrq .device = true ∧ up.resetting .device = false ∧ pageVector .device = some 0 ∧
    hasIrq (.link 31) = true ∧ pageVector (.link 31) = some 39 ∧ (∀ n, Page.device ≠ .part n) ∧ (∀ n, Page.device ≠ .partcfg n) := by
  refine ⟨?_, ?_, ?_, ?_, ?_, ?_, fun _ => nofun, fun _ => nofun⟩ <;> decide +kernel
theorem witness_soft_reset :
    Serves up .pf = true ∧ pageSoftReset (.fuu 0) = .regs ∧ up.resetting (.fuu 0) = false ∧
    ({ up with resets := [pageBase (.fuu 0)] } : State).resetting (.fuu 0) = true ∧ up.live = true := by decide +kernel
theorem witness_free_page :
    (up.part 15).mode = .free ∧ up.resetting (.part 15) = false ∧ Serves up (.vf 15) = true ∧ rcAddr (.vf 15) 0x5094 = true ∧
    up.shadow (.vf 15) (partBase 15 + 0x5094) = none ∧ shadowAddr up (.vf 15) 0x1000 = true ∧
    up.shadow (.vf 15) (partBase 15 + 0x1000) = none := by decide +kernel

/-- R7 and R10: an RC field reads its value and clears; R93's address. -/
theorem test_rc_read : ∃ t, exec (.rcFieldRead .pf 0x70) (up.setReg 0x70 9#32) = .next t ∧ t.out = [.read .pf 0x70 9#64] ∧ t.reg 0x70 = 0#32 :=
  ⟨_, rfl, by decide +kernel, by decide +kernel⟩
/-- R9: a 16-bit write is discarded. -/
theorem test_write_width : exec (.registerWrite (.bar .pf) 0x180 2 5) up = .next up := by rfl
/-- R12: a reserved value is discarded, a legal one stored. -/
theorem test_write_reserved : ∃ t, exec (.registerWrite (.bar .pf) (pageBase (.floor 0) + 0x64) 4 0) up = .next t ∧
    t.reg (pageBase (.floor 0) + 0x64) = 4#32 := ⟨_, rfl, by decide +kernel⟩

/-! ### The beat -/

theorem witness_crossing_no_beat :
    let s := beatOn up
    s.live = true ∧ s.beat.due (s.clock + 0) = true ∧ s.beatEn = true ∧ s.beat.fallingPol = false ∧ s.beat.state = .noBeat ∧
    (up.setReg 0x40 0#32).beatEn = false := by decide +kernel
theorem witness_crossing_locking :
    let s := beatOn { beatAt .locking with beat := { (beatAt .locking).beat with periods := List.replicate 15 2100 } }
    s.live = true ∧ s.beat.due (s.clock + 0) = true ∧ s.beatEn = true ∧ s.beat.lastCross = some 2900 ∧
    lockPeriods (lastSixteen (s.beat.periods ++ [s.clock + 0 - 2900])) = true ∧ 523 ≤ s.clock + 0 - 2900 ∧ s.clock + 0 - 2900 ≤ 8402 := by decide +kernel
/-- The accepted window ends 2 clocks from the prediction. -/
theorem witness_crossing_locked :
    let s := beatOn (beatAt .locked)
    s.live = true ∧ s.beat.due (s.clock + 2) = true ∧ within (s.clock + 2) s.beat.predicted 2 = true ∧
    within (s.clock + 3) s.beat.predicted 2 = false ∧ within 4997 s.beat.predicted 2 = false ∧ s.beat.due 4997 = true := by decide +kernel
theorem witness_edges :
    let s := { beatAt .flywheel with beat := { (beatAt .flywheel).beat with edgesDue := [4976] } }
    s.live = true ∧ s.beat.edgesDue = 4976 :: [] ∧ s.clock ≤ 4976 + 24 + boolBit false ∧ s.beat.slewEdge = false ∧
    (beatAt .locked).beat.edgesDue = [] := by decide +kernel
theorem witness_beat_number : (∀ late, Instr.relock ≠ .beatEdge late) ∧ (∀ k, Instr.relock ≠ .beatMessage k) ∧
    (∀ ns, Instr.relock ≠ .resetAssert ns) ∧ ∃ t, exec .relock up = .next t := ⟨fun _ => nofun, fun _ => nofun, fun _ => nofun, _, rfl⟩
theorem witness_beat_loss :
    let s := beatAt .locked
    s.live = true ∧ s.beat.state = .locked ∧ s.beat.edgesDue = [] ∧ s.clock ≤ (s.beat.predicted + 512) / 256 := by decide +kernel
/-- The last edge before expiry, and expiry at FLYWHEEL_CNT 1,025. -/
theorem witness_flywheel :
    let f := fun n => { beatAt .flywheel with beat := { (beatAt .flywheel).beat with flyCount := n } }
    (f 1024).live = true ∧ (f 1024).beat.edgesDue = [] ∧ (f 1024).beat.flyCount < 1025 ∧ (f 1024).clock ≤ (f 1024).beat.predicted / 256 ∧
    (f 1025).beat.state = .flywheel ∧ (f 1025).beat.flyCount = 1025 ∧ (f 1025).inFlight = [] := by decide +kernel
theorem witness_relock :
    Serves (beatOn up) .pf = true ∧ (beatOn up).beatEn = true ∧ (beatOn up).anyMetered = false ∧
    Serves (beatOn withMetered) .pf = true ∧ (beatOn withMetered).anyMetered = true := by decide +kernel
theorem witness_rearm :
    Serves (beatAt .locked) .pf = true ∧ (beatAt .locked).beat.state = .locked ∧
    (∀ e ∈ (beatAt .locked).admittedOnes fun _ => true, ∃ c, (beatAt .locked).cmd e.1 = some c ∧ meteredCode (beatAt .locked) e.1 c = 0) ∧
    (beatAt .slewing).beat.state ≠ .locked := by
  refine ⟨by decide +kernel, by decide +kernel, ?_, by decide +kernel⟩
  intro e h
  have : (beatAt .locked).admittedOnes (fun _ => true) = [] := by decide +kernel
  rw [this] at h; simp at h
theorem witness_beat_en :
    Serves (beatOn (beatAt .locking)) .pf = true ∧ (beatOn (beatAt .locking)).beatEn = true ∧
    (beatOn (beatAt .locking)).beat.everLocked = true ∧ ((beatAt .locking).setReg 0x40 0#32).beatEn = false := by decide +kernel
/-- A device with link 0 UP that is the origin, in a beat that is a multiple of 256. -/
def origin : State :=
  { up.modLink 0 fun l => { l with state := .up } with beat := { (beatAt .locked).beat with num := 256#64, origin := true } }
theorem witness_message_send :
    origin.live = true ∧ origin.linkUp 0 = true ∧ origin.beat.origin = true ∧ origin.beatNum % 256 = 0 ∧
    (origin.link 0).lastBeat ≠ some origin.beatNum := by decide +kernel
/-- The device holding a beat message on link 0. -/
def messaged (b : Byte) (o : Bool) : State :=
  let f : RxFlit := ⟨3, 16, 0, 0, true, List.replicate 10 0#8 ++ [b] ++ List.replicate 229 0#8, 0, 5000⟩
  { (origin.modLink 0 fun l => { l with rx := [f] }).setReg 0x148 0x80000000#32 with
    beat := { (beatAt .locked).beat with origin := o } }
theorem witness_message :
    (∃ f u, (messaged 1 false).readFlit 0 3 16 = (some f, u) ∧ bitOf (leAt f.payload 10 1) 0 = true) ∧
    (∃ f u, (messaged 1 true).readFlit 0 3 16 = (some f, u)) ∧ (messaged 1 false).live = true ∧
    (messaged 1 false).beat.state = .locked ∧ (messaged 1 false).beat.takeNumber = false ∧ (messaged 1 false).beat.origin = false ∧
    censusMember (messaged 1 false) = true ∧ (0 : Link).val = parentLink (messaged 1 false) ∧ (messaged 1 true).beat.origin = true := by
  refine ⟨⟨_, _, rfl, by decide +kernel⟩, ⟨_, _, rfl⟩, ?_⟩; decide +kernel

/-- R37: an internal edge counts the beat. -/
theorem test_beat_edge : ∃ t, exec (.beatEdge false) { beatAt .locked with beat := { (beatAt .locked).beat with edgesDue := [4976] } } = .next t ∧
    t.beat.num = 8#64 ∧ t.clock = 5000 := ⟨_, rfl, by decide +kernel, by decide +kernel⟩
/-! ### Commands in flight -/

/-- n words, those of the list at their offsets and zeros elsewhere. -/
def words (n : Nat) (ws : List (Nat × Nat)) : List Byte :=
  (List.range n).flatMap fun i => leBytes 4 (((ws.find? (·.1 == 4 * i)).map (·.2)).getD 0)
/-- A command of partition 0, job 0 on vale 0 with some words of its descriptor and of its stage record, admitted. -/
def command (desc srec : List (Nat × Nat)) : Cmd := { newCmd 0 0 0 0 0 0 (words 32 desc) (words 48 srec) [] with admitted := true }
/-- The command dispatched. -/
def ran (c : Cmd) : Cmd := { c with dispatched := some (0, 0), bound := true }
/-- Partition 0, open, with a command in slot 0. -/
def holding (c : Cmd) : State := withPart.setCmd 0 (some c)
/-- A tile of one row and one column for slot 0. -/
def tile : Tile := ⟨0, 0, leBytes 16 3, [], 5, 1, 1, 0, []⟩
/-- A MATRIX stage on array 0 with one row and one tile. -/
def matrixCmd : Cmd := command [(0, 0x200), (0x40, 0x155), (0x44, 0x10001), (0x48, 0x10001)] []
/-- The state with array 0 of vale 0 changed. -/
def withArray (f : ArraySt → ArraySt) (s : State) : State :=
  s.modVale 0 fun v => { v with arrays := Sparse.set (fun _ => ArraySt.reset) v.arrays 0 (f ArraySt.reset) }

theorem witness_queue_registers :
    Serves withPart (.vf 0) = true ∧ withPart.pageOn 0 = true ∧ 0 < withPart.ringSlots (jobBase 0 0 + 0x08) ∧
    withPart.ringSlots (partBase 0 + 0x2008) ≤ bitsOf 16 14 0 ∧ bitsOf 15 14 0 < withPart.ringSlots (partBase 0 + 0x2008) ∧
    withPart.ofPart 0 = [] ∧ 4 ≤ bitsOf 4 3 0 ∧ (holding (command [] [])).ofPart 0 ≠ [] ∧ Serves (holding (command [] [])) (.vf 0) = true ∧
    up.resetting (.seq 127) = false := by decide +kernel
theorem witness_take :
    let s := withPart.setReg (jobBase 0 0 + 0x0C) 1#32
    s.live = true ∧ takeOk 0 0 0 s = true ∧
    (let b := jobBase 0 0
     let d := s.readQueue 0 (s.ringHost b) (s.ringBase b + 128 * sqNext s 0 0) 128 []
     mapVale d.2.2 0 0 (descVale d.1) = some 0) := by decide +kernel
theorem witness_open_dispatch :
    (holding (command [] [])).live = true ∧ (holding (command [] [])).cmd 0 = some (command [] []) ∧
    openOk 0 (holding (command [] [])) = true ∧ (command [] []).hasColl = false ∧
    (let c := command [(0, 0x800)] []
     openOk 0 (holding c) = true ∧ c.hasColl = true ∧ linksOpen (holding c) c = false) := by decide +kernel
theorem witness_open_links :
    let c := { command [(0, 0x800)] [] with ring := words 12 [(4, 0x10000)] }
    openOk 0 (holding c) = true ∧ c.hasColl = true ∧ (c.members = 1 → linksOpen (holding c) c = true) := by decide +kernel
theorem witness_scheduled_dispatch :
    let c := command [(0x10, 700)] []
    let s := withMetered.setCmd 0 (some c)
    s.live = true ∧ s.cmd 0 = some c ∧ scheduledOk 0 s = true ∧ c.startBeat = s.beatNum ∧ s.clock ≤ s.beat.edgeClock + c.startOfs + 10 ∧
    s.beat.expiredVoid = false ∧ s.beat.phaseVoid = false ∧
    (let s := { s with beat := { s.beat with num := 1#64 } }
     scheduledOk 0 s = true ∧ c.startBeat < s.beatNum ∧ c.reissued = false ∧ 6 ∉ c.voids) := by decide +kernel
theorem witness_early_fetch :
    let c := command [(0, 0x100)] []
    (holding c).live = true ∧ (holding c).cmd 0 = some c ∧ earlyOk 0 (holding c) = true := by decide +kernel
theorem witness_store_stage :
    let c := ran (command [(0, 0x1000), (0x3C, 0x100)] [])
    (holding c).live = true ∧ (holding c).cmd 0 = some c ∧ storeNow (holding c) 0 c ≠ [] := by decide +kernel
theorem witness_completion :
    let c := ran (command [(0x2C, 0x00020001)] [])
    let s := (holding c).setReg (partBase 0 + 0x2004) 0x80000000#32
    s.live = true ∧ s.cmd 0 = some c ∧ s.running c = true ∧ c.allEnded = true ∧ c.stepClose = false ∧ s.ringHost (partBase 0 + 0x2000) = true ∧
    c.status = 0 ∧ c.f 0x2C 11 0 ≠ 0 ∧ c.f 0x2C 27 16 ≠ c.f 0x2C 11 0 := by decide +kernel
theorem witness_cancel :
    Serves (holding (command [] [])) (.vf 0) = true ∧ (holding (command [] [])).pageOn 0 = true ∧
    (holding (command [] [])).Canonical ∧ (command [] []).dispatched = none ∧ (command [] []).reissued = false ∧
    (ran (command [] [])).dispatched ≠ none ∧
    (withPart.ofPart 0).all (fun e => e.2.job != 0 || e.2.dispatched.isSome) = true := by
  refine ⟨by decide +kernel, by decide +kernel, ?_, by decide +kernel, by decide +kernel, by decide +kernel, by decide +kernel⟩
  constructor <;> decide +kernel

/-! ### Matrix arrays, scales, echo -/

/-- The MATRIX stage after its first tile became active and r rows streamed. -/
def streamed (tiles r : Nat) : Cmd := { ran matrixCmd with matrix := { MatrixSt.fresh with started := true, tile := tiles, row := r } }
theorem witness_matrix_start :
    let c := ran matrixCmd
    let s := withArray (fun a => { a with shadow := some tile }) (holding c)
    s.live = true ∧ s.cmd 0 = some c ∧ matrixStartOk 0 s = true ∧ matrixSeeds s c = [0] := by decide +kernel
theorem witness_matrix_start_unseeded :
    let c := ran (command [(0, 0x600), (0x40, 0x155), (0x44, 0x10001), (0x48, 0x10001)] [(0x50, 0x80000000)])
    let s := withArray (fun a => { a with shadow := some tile }) (holding c)
    s.live = true ∧ s.cmd 0 = some c ∧ matrixStartOk 0 s = true ∧ matrixSeeds s c = [] := by decide +kernel
theorem witness_seed_end :
    let c := { ran matrixCmd with seeds := [⟨0⟩] }
    (holding c).live = true ∧ (holding c).cmd 0 = some c ∧ seedEndOk 0 0 (holding c) = true ∧
    (holding c).pdaOk 0 (scaleAddr (holding c) 0 0) 128 true = false := by decide +kernel
theorem witness_seed_written :
    let s := mapped (holding { ran matrixCmd with seeds := [⟨0⟩] })
    seedEndOk 0 0 s = true ∧ s.pdaOk 0 (scaleAddr s 0 0) 128 true = true ∧ (∃ bs u, s.readPda 0 (scaleAddr s 0 0) 128 = (.ok bs, u)) :=
  ⟨by decide +kernel, by decide +kernel, _, _, rfl⟩
theorem witness_row_release :
    (holding (streamed 1 1)).live = true ∧ (holding (streamed 1 1)).cmd 0 = some (streamed 1 1) ∧ rowReleaseOk 0 (holding (streamed 1 1)) = true := by
  decide +kernel
theorem witness_tile_swap :
    let c := streamed 0 0
    let s := withArray (fun a => { a with shadow := some tile }) (holding c)
    s.live = true ∧ s.cmd 0 = some c ∧ tileSwapOk 0 s = true ∧ 0 ∈ c.arrays ∧ 1 ∉ c.arrays ∧ (s.array 0 0).shadow = some tile := by decide +kernel
theorem witness_row :
    let s := withArray (fun a => { a with active := some tile }) (holding (streamed 1 0))
    (streamed 1 0).vale < 128 ∧ (streamed 1 0).accBase + 255 < 256 ∧ tile.nValid ≤ 128 ∧ (s.array 0 0).active = some tile := by decide +kernel
theorem witness_integer : intMode 5 = true ∧ intMode 4 = true ∧ intMode 7 = true ∧ intMode 3 = false ∧ intMode 8 = false := by decide +kernel
theorem witness_step_close : (0 < 1 ∧ 0 < 240) ∧ recFresh.length = 128 := by decide +kernel
theorem witness_controls :
    Serves up .pf = true ∧ up.resetting (.array 127 3) = false ∧ up.resetting (.elem 127) = false ∧ up.resetting (.stream 127) = false ∧
    (up.ofVale 0).all (fun e => e.2.dispatched.isNone) = true ∧
    ((holding (ran (command [] []))).ofVale 0).any (fun e => e.2.dispatched.isSome) = true ∧
    ({ up with resets := [pageBase (.array 0 0), pageBase (.elem 0), pageBase (.stream 0)] } : State).resetting (.array 0 0) = true := by decide +kernel
/-- A captured INT8 by INT8 tile of one product whose group has ended. -/
def echoTile (got : Word) : EchoTile := ⟨none, 0, 0, 0, 0, 4, 4, 0, 0, 0, 1, 1, [0#32], [[3]], [[2]], [got], 272⟩
theorem witness_echo :
    let s := fun w => up.modEcho 0 fun e => { e with tiles := [echoTile w] }
    (s 6).live = true ∧ (s 6).echoNext 0 = some (echoTile 6) ∧ ((s 6).echoOf 0).failed = false ∧
    ((echoTile 6).recompute ((s 6).recWord 0 0 0x20).toNat).1 = false ∧
    ((echoTile 7).recompute ((s 7).recWord 0 0 0x20).toNat).1 = true ∧ up.echoNext 0 = none := by decide +kernel

/-- R104 and R105: two saturated products of INT8 stay at the limit, and a negative term brings the word back inside the range. -/
theorem test_integer_saturates :
    (accumulate 4 4 [127] [127] (some 0x7FFFFFFF#32)).w = 0x7FFFFFFF#32 ∧ (accumulate 4 4 [1] [0xFF] (some 0x7FFFFFFF#32)).w = 0x7FFFFFFE#32 := by
  decide +kernel
/-! ### Element engines -/

/-- A command whose ELEMENT stage runs n words from an epilogue of one row on array 0. -/
def elementCmd (n : Nat) : Cmd :=
  { ran (command [(0, 0x600), (0x40, 0x155), (0x44, 0x10001), (0x48, 0x10001), (0x60, n)] []) with
    matrix := { MatrixSt.fresh with started := true, tile := 1, row := 1, released := 1 } }
/-- Its block under way: one live lane. -/
def block : Blk :=
  { slot := 0, base := 0, pc := 0, count := 1, final := true, loop := none, live := 1, compress := none, packCount := 0, epi := none,
    written := [] }
/-- The state in which engine 0 has a stage of the command, with a block or between two. -/
def stage (c : Cmd) (b : Option Blk) : State :=
  (withPart.setCmd 0 (some c)).modVale 0 fun v => { v with elem := { v.elem with stage := some 0, blk := b } }
/-- Engine 0 with a word at the start of its program memory. -/
def engine (c : Cmd) (b : Blk) (w : Nat) : State := (stage c (some b)).setBytes (progAddr 0 0) (leBytes 4 w)
/-- The premises of `Issues` as a test. -/
def issuesNow (s : State) (w : Nat) (c : Cmd) (b : Blk) : Bool :=
  s.live && s.issuing 0 == some (0, c, b) && c.vale == 0 && s.progWord 0 (b.base * 64 + b.pc) == w
theorem issues_of_now {s : State} {w : Nat} {c : Cmd} {b : Blk} (h : issuesNow s w c b = true) : Issues s 0 w 0 c b := by
  simp only [issuesNow, Bool.and_eq_true, beq_iff_eq] at h
  exact ⟨h.1.1.1, h.1.1.2, h.1.2, h.2⟩
/-- An R-format word's fields. -/
def r0 : RFmt := ⟨0, false, 0, 0, 0, 0, 0⟩
/-- Every R-format opcode with all fields zero, and with D, A, B, C or MOD at the end of its range. -/
def rWords : List Nat :=
  (List.range 64).flatMap fun o => [wordR r0 o, wordR { r0 with d := 15 } o, wordR { r0 with a := 15 } o, wordR { r0 with b := 15 } o,
    wordR { r0 with c := 15 } o, wordR { r0 with mod := 63 } o, wordR { r0 with pred := 7, pneg := true } o]
theorem witness_issues_r : ∀ w ∈ rWords, Issues (engine (elementCmd 4) block w) 0 w 0 (elementCmd 4) block := by
  intro w h
  have : (rWords.all fun w => issuesNow (engine (elementCmd 4) block w) w (elementCmd 4) block) = true := by decide +kernel
  exact issues_of_now (List.all_eq_true.1 this w h)
theorem witness_issues_last : Issues (engine (elementCmd 1) block (wordR r0 0)) 0 (wordR r0 0) 0 (elementCmd 1) block ∧
    (elementCmd 1).progLen ≤ block.next.pc ∧ (engine (elementCmd 1) block (wordR r0 0)).endRoom (elementCmd 1) block.next = true ∧
    block.next.pc < (elementCmd 4).progLen :=
  ⟨issues_of_now (by decide +kernel), by decide +kernel, by decide +kernel, by decide +kernel⟩
theorem witness_issues_other :
    Issues (engine (elementCmd 4) block (wordI ⟨0, false, 0, 2, 0xFFFF⟩ 0x1F)) 0 (wordI ⟨0, false, 0, 2, 0xFFFF⟩ 0x1F) 0 (elementCmd 4) block ∧
    Issues (engine (elementCmd 4) block (wordI ⟨0, false, 0, 3, 0⟩ 0x1F)) 0 (wordI ⟨0, false, 0, 3, 0⟩ 0x1F) 0 (elementCmd 4) block ∧
    Issues (engine (elementCmd 4) block (wordM ⟨0, false, 0, 2, 0, 1023⟩ 0x22)) 0 (wordM ⟨0, false, 0, 2, 0, 1023⟩ 0x22) 0 (elementCmd 4) block ∧
    Issues (engine (elementCmd 4) block (wordM ⟨0, false, 0, 3, 0, 0⟩ 0x23)) 0 (wordM ⟨0, false, 0, 3, 0, 0⟩ 0x23) 0 (elementCmd 4) block ∧
    Issues (engine (elementCmd 4) block (wordL ⟨0, false, 0, 3, 4095⟩ 0x2E)) 0 (wordL ⟨0, false, 0, 3, 4095⟩ 0x2E) 0 (elementCmd 4) block ∧
    Issues (engine (elementCmd 4) block (wordL ⟨0, false, 0, 4, 0⟩ 0x2E)) 0 (wordL ⟨0, false, 0, 4, 0⟩ 0x2E) 0 (elementCmd 4) block ∧
    block.pc + (3 : BitVec 6).toNat < (elementCmd 4).progLen ∧ (elementCmd 4).progLen ≤ block.pc + (4 : BitVec 6).toNat := by
  refine ⟨issues_of_now ?_, issues_of_now ?_, issues_of_now ?_, issues_of_now ?_, issues_of_now ?_, issues_of_now ?_, ?_, ?_⟩ <;>
    decide +kernel
theorem witness_issues_inner_loop :
    let b := { block with loop := some ⟨0, 1, 0, 2⟩ }
    Issues (engine (elementCmd 4) b (wordL ⟨0, false, 0, 1, 1⟩ 0x2E)) 0 (wordL ⟨0, false, 0, 1, 1⟩ 0x2E) 0 (elementCmd 4) b ∧ b.loop ≠ none :=
  ⟨issues_of_now (by decide +kernel), by decide +kernel⟩
/-- Every program error's operands lie in the formats' range; the largest sound values of MOD lie in it too. -/
theorem witness_operand_ranges :
    (63#6).toNat > 11 ∧ (4#6).toNat ≤ 4 ∧ ¬ (5#6).toNat ≤ 4 ∧ (11#6).toNat ≤ 11 ∧ ¬ (12#6).toNat ≤ 11 ∧ (13#6).toNat % 8 ≤ 5 ∧
    (14#6).toNat % 8 > 5 ∧ cvtFormat 11 = true ∧ cvtFormat 7 = true ∧ cvtFormat 8 = false ∧ cvtFormat 9 = false ∧ cvtFormat 12 = false ∧
    (8#4).toNat ≥ 8 ∧ (7#4).toNat < 8 := by decide +kernel
theorem witness_lines :
    let s := engine (elementCmd 4) block (wordR r0 0x24)
    let w := s.modElem 0 fun e => { e with lines := [(0, ⟨1, 0⟩)] }
    s.executing 0 block 0 false = [0] ∧ (s.executing 0 block 0 false).all (fun _ => !s.readWaits 0 0) = true ∧
    (w.executing 0 block 0 false).any (fun _ => w.readWaits 0 0) = true ∧ (w.executing 0 block 0 false).any (fun _ => w.writeWaits 0 0) = true ∧
    issuesNow w (wordR r0 0x24) (elementCmd 4) block = true := by decide +kernel
/-- A quantising command with slot 0 latched in a format. -/
def quantCmd (fmt : Nat) : Cmd := { elementCmd 4 with elem := { (elementCmd 4).elem with slots := [some ⟨0, 0x3F800000#32, fmt⟩] } }
theorem witness_quantise :
    let s := fun f => mapped (engine (quantCmd f) block (wordR r0 0x21))
    issuesNow (s 0) (wordR r0 0x21) (quantCmd 0) block = true ∧ qntErr (quantCmd 0) r0 = 0 ∧ qntSlot (quantCmd 0) r0 = some ⟨0, 0x3F800000#32, 0⟩ ∧
    qntErr (quantCmd 8) r0 = 0 ∧ isCodebook 8 = true ∧ isCodebook 9 = true ∧ isCodebook 7 = false ∧ qntSlot (elementCmd 4) r0 = none ∧
    ((s 0).executing 0 block 0 false).all (fun j => ((s 0).quantLane 0 ⟨0, 0x3F800000#32, 0⟩ r0 ((s 0).lane 0 j)).sat == 0) = true ∧
    (s 0).pdaOk 0 (scaleAddr (s 0) 0 0) 128 true = true ∧ intOfCode 0 = none := by decide +kernel
theorem witness_quantise_record :
    ∃ bs u, (mapped (engine (quantCmd 0) block (wordR r0 0x21))).readPda 0 (scaleAddr (mapped (engine (quantCmd 0) block (wordR r0 0x21))) 0 0) 128 =
      (.ok bs, u) := ⟨_, _, rfl⟩
theorem witness_compress :
    let m : CompressSt := ⟨0, false, [0]⟩
    let b := { block with compress := some m }
    issuesNow (engine (elementCmd 4) b (wordR r0 0x27)) (wordR r0 0x27) (elementCmd 4) b = true ∧ b.compress = some m ∧ m.pred = r0.pred ∧
    m.pneg = r0.pneg ∧ m.lanes.Nodup ∧ issuesNow (engine (elementCmd 4) b (wordR r0 0x28)) (wordR r0 0x28) (elementCmd 4) b = true ∧
    sameCompress b { r0 with pred := 1 } = false ∧ (elementCmd 4).stream = false := by decide +kernel
/-- The command with a positional or a counted queue in both directions, holding h nibbles inbound. -/
def queueCmd (mode h : Nat) : Cmd :=
  let q : Queue := { Queue.unused with mode := mode, size := 4096, addr := 2 ^ 44, width := 8, tail := h }
  { elementCmd 4 with queues := (elementCmd 4).queues.modify 0 (fun _ => q) |>.modify 8 (fun _ => q),
                      elem := { (elementCmd 4).elem with inWidth := [8] } }
theorem witness_queues :
    let s := fun o => engine (queueCmd 1 8) block (wordR r0 o)
    let t := fun h => engine (queueCmd 2 h) block (wordR { r0 with mod := 1 } 0x2B)
    issuesNow (s 0x2B) (wordR r0 0x2B) (queueCmd 1 8) block = true ∧ ((queueCmd 1 8).queue 0).mode = 1 ∧
    issuesNow (t 8) (wordR { r0 with mod := 1 } 0x2B) (queueCmd 2 8) block = true ∧ ((queueCmd 2 8).queue 0).mode = 2 ∧
    (queueCmd 2 8).inWidth 0 ≤ ((queueCmd 2 8).queue 0).held ∧ ((queueCmd 2 0).queue 0).held < (queueCmd 2 0).inWidth 0 ∧
    issuesNow (t 0) (wordR { r0 with mod := 1 } 0x2B) (queueCmd 2 0) block = true ∧ ((queueCmd 1 8).queue 8).mode = 1 ∧
    block.count * 8 ≤ (s 0x2C).qRoom (queueCmd 1 8) ((queueCmd 1 8).queue 8) ∧
    1 * appendWidth 0 ≤ (t 8).qRoom (queueCmd 2 8) ((queueCmd 2 8).queue 8) ∧ ((elementCmd 4).queue 8).mode ≠ 1 := by decide +kernel
theorem witness_queue_full :
    (engine (queueCmd 1 8192) block 0).qRoom (queueCmd 1 8192) ((queueCmd 1 8192).queue 8) < block.count * 8 ∧
    (engine (queueCmd 2 8192) block 0).qRoom (queueCmd 2 8192) ((queueCmd 2 8192).queue 8) < 1 * appendWidth 0 := by decide +kernel
theorem witness_element_start :
    let c := elementCmd 4
    let d := { c with srec := words 48 [(0x50, 0x80000000)] }
    (holding c).live = true ∧ (holding c).cmd 0 = some c ∧ elementStartOk 0 (holding c) = true ∧ elementSeeds (holding c) c = [] ∧
    elementStartOk 0 (holding d) = true ∧ elementSeeds (holding d) d ≠ [] := by decide +kernel
theorem witness_block_start :
    let c := elementCmd 4
    let d := { c with matrix := { c.matrix with released := 0 } }
    (stage c none).live = true ∧ (stage c none).elemStage 0 = some (0, c) ∧ c.vale = 0 ∧ ((stage c none).vale 0).elem.blk = none ∧
    c.sourceOver = false ∧ c.nextCount c.elem.block = some (128, true) ∧ c.blockWait = .none ∧ c.maskEn = false ∧
    (stage d none).elemStage 0 = some (0, d) ∧ d.sourceOver = false ∧ d.blockWait ≠ .none := by decide +kernel
theorem witness_division : fval 0x3F800000#32 = .fin false 0x800000 (-23) ∧ (∃ n g, fval 0#32 = .fin n 0 g) ∧ (fval 0x80000000#32).isZero = true ∧
    0x800000 ≠ 0 :=
  ⟨by decide +kernel, ⟨_, _, rfl⟩, by decide +kernel, by decide +kernel⟩
theorem witness_integer_arithmetic : r0.c = 0 ∧ r0.b = 0 ∧ r0.mod = 0 ∧ wordR r0 0x10 ∈ rWords ∧ wordR r0 0x11 ∈ rWords ∧ wordR r0 0x12 ∈ rWords ∧
    wordR r0 0x13 ∈ rWords ∧ wordR r0 0x14 ∈ rWords ∧ wordR r0 0x15 ∈ rWords := by decide +kernel
theorem witness_rounding : (0 : Nat) < 1 ∧ (0 : Nat) < 2 ^ e4m3.width ∧ e4m3.decode 0x7F = .nan ∧ e4m3.decode 0x7E ≠ .nan := by decide +kernel
theorem witness_min_max : fval 0x7F800001#32 = .nan ∧ r0.c = 0 ∧ r0.mod = 0 ∧ r0.b = 0 ∧ fval 0#32 ≠ .nan ∧ wordR r0 0x08 ∈ rWords := by decide +kernel

/-- R72: 460 converts to E4M3 as 448 (inexact only); 470 saturates to 448 with overflow. -/
theorem test_round_e4m3 :
    (opCvt 3 0 0x0#32).flags = 0#4 ∧ (e4m3.round (Val.fin false 460 0).exact).code = 0x7E ∧ (e4m3.round (Val.fin false 470 0).exact).code = 0x7E := by
  decide +kernel
/-- R191 and R194: FADD e3, e1, e2 under p0 is opcode 0x01 with D = 3, A = 1, B = 2. -/
theorem test_word_fadd : wordR ⟨0, false, 3, 1, 2, 0, 0⟩ 0x01 = 0b000001_000_0_0011_0001_0010_0000_000000 := by decide +kernel
/-- R191 and R194: LDI e5, 0x1234 (H = 0) under p1, negated. -/
theorem test_word_ldi : wordI ⟨1, true, 5, 0, 0x1234⟩ 0x1F = 0b011111_001_1_0101_00_0001001000110100 := by decide +kernel
/-- R191 and R194: OCL e7 from line 1,023 indexed by LC. -/
theorem test_word_ocl : wordM ⟨0, false, 7, 1, 0, 1023⟩ 0x22 = 0b100010_000_0_0111_01_000000_1111111111 := by decide +kernel
/-- R191 and R194: LOOP of 3 words, 4,095 times. -/
theorem test_word_loop : wordL ⟨0, false, 0, 3, 4095⟩ 0x2E = 0b101110_000_0_0000_000011_111111111111 := by decide +kernel
/-- 1 + 2 = 3 in the executing lane. -/
theorem test_fadd : (opFadd 0x3F800000#32 0x40000000#32).w = 0x40400000#32 ∧ (opFadd 0x3F800000#32 0x40000000#32).flags = 0#4 := by decide +kernel
/-- R198: IABS of −2^31 gives 2^31 − 1, with OVERFLOW and INEXACT; −1 is the larger as an unsigned number. -/
theorem test_iabs : opIabs 0x80000000#32 = ⟨0x7FFFFFFF#32, 5#4, 1⟩ ∧ (opImax true 0xFFFFFFFF#32 0#32).w = 0xFFFFFFFF#32 := by decide +kernel
/-- R196: FMIN orders −0 below +0. -/
theorem test_fmin_zero : (opFmin 0#32 0x80000000#32).w = 0x80000000#32 ∧ (opFmax 0x80000000#32 0#32).w = 0#32 := by decide +kernel
/-! ### Streaming -/

/-- A command whose one transfer, in its FETCH or its STORE stage, has the given kinds and number of bytes and has started; the
queues it may name are dedicated and hold h nibbles. -/
def xferCmd (fetch : Bool) (src dst run h : Nat) : Cmd :=
  let c := ran (command [(0, if fetch then 0x100 else 0x1000), (0x3C, if fetch then 1 else 0x100)]
    [(0x90, src + 16 * dst), (0x94, run)])
  let go := [{ Xfer.fresh with started := true }]
  let q : Queue := { Queue.unused with mode := 1, size := 4096, addr := 2 ^ 44, width := 8, tail := h }
  { c with fetch := if fetch then go else [], store := if fetch then [] else go,
           queues := (c.queues.modify 0 fun _ => q).modify 8 fun _ => q }
/-- Its transfer changed. -/
def Cmd.onXfer (f : Xfer → Xfer) (c : Cmd) : Cmd := c.modXfer 0 f
theorem witness_fetch_moves :
    let go := fun (src dst : Nat) => holding (xferCmd true src dst 64 0)
    (go 0 8).live = true ∧ (go 0 8).movable 0 0 = 64 ∧ (go 0 0xA).movable 0 0 = 64 ∧ (mapped (go 2 8)).movable 0 0 = 64 ∧
    (go 3 8).movable 0 0 = 64 ∧ xInto ((xferCmd true 0 8 64 0).entry 0) = some 0 ∧ xInto ((xferCmd true 0 0xA 64 0).entry 0) = none ∧
    (holding (xferCmd true 0 8 64 8192)).movable 0 0 = 0 ∧ (xferCmd true 0 8 64 0).fetch[0]? = some { Xfer.fresh with started := true } ∧
    0 < (xferCmd true 0 8 64 0).queues.length := by decide +kernel
theorem witness_store_moves :
    let go := fun (src dst h : Nat) => holding (xferCmd false src dst 64 h)
    (go 0xB 0 128).live = true ∧ (go 0xB 0 128).movable 0 0 = 64 ∧ (go 0xB 0 3).movable 0 0 = 1 ∧ (go 0xB 0 1).movable 0 0 = 0 ∧
    (go 0xA 0 0).movable 0 0 = 64 ∧ (mapped (go 0xA 2 0)).movable 0 0 = 64 ∧ (go 0xA 3 0).movable 0 0 = 64 ∧
    (xferCmd false 0xB 0 64 128).store[0 - 0]? = some { Xfer.fresh with started := true } ∧ (xferCmd false 0xB 0 64 128).fetch = [] ∧
    xSrc ((xferCmd false 0xB 0 64 128).entry 0) = 0xB ∧ xInto ((xferCmd false 0xB 0 64 128).entry 0) = none ∧
    8 + xQ ((xferCmd false 0xB 0 64 128).entry 0) < (xferCmd false 0xB 0 64 128).queues.length := by decide +kernel
theorem witness_line :
    let c := Cmd.onXfer (fun t => { t with pos := 64 }) (xferCmd true 0 0xA 64 0)
    let d := Cmd.onXfer (fun t => { t with pos := 64 }) (xferCmd false 0xA 0 64 0)
    (holding c).lineDone 0 0 true = some (0, 0) ∧ (holding c).lineDone 0 1 true = none ∧ (holding d).lineDone 0 0 false = some (0, 0) ∧
    (holding c).cmd 0 = some c ∧ (holding d).cmd 0 = some d ∧ (c.xferAt 0).isSome = true ∧ (d.xferAt 0).isSome = true ∧
    (holding (xferCmd true 0 0xA 64 0)).lineDone 0 0 true = none := by decide +kernel
theorem witness_grant :
    let s := holding (xferCmd true 3 8 64 0)
    (∃ r, winner s (.pcie false) (requestsAt s (.pcie false)) = some r) ∧ requestsAt s (.stack 0) = [] ∧ s.live = true :=
  ⟨⟨_, rfl⟩, by decide +kernel, by decide +kernel⟩
theorem witness_grant_tiers :
    let s := { holding (xferCmd true 3 8 64 0) with clock := 5000 }
    (requestsAt s (.pcie false)).any (fun r => tierOf s (.pcie false) r == 2) = true ∧
    (requestsAt (s.setReg (pcfg 0 + 0xA4) 255#32) (.pcie false)).any (fun r => tierOf (s.setReg (pcfg 0 + 0xA4) 255#32) (.pcie false) r == 1) =
      true ∧ (∀ l, Port.pcie false ≠ .link l) :=
  ⟨by decide +kernel, by decide +kernel, nofun⟩
/-- A command whose pooled outbound queue holds two granules, in a pool of two, with a floor of one. -/
def pooledCmd : Cmd :=
  let q : Queue := { Queue.unused with mode := 2, pooled := true, floorG := 1, tail := 16384, width := 8 }
  { ran (command [(0, 0x400)] []) with ready := true, queues := Queue.unused :: List.replicate 7 Queue.unused ++ [q] }
theorem witness_spill :
    let s := ((holding pooledCmd).setReg (pcfg 0 + 0x78) 2#32).modVale 0 fun v => { v with stallBeats := 64 }
    s.live = true ∧ spillOk 0 s = true ∧ s.victim 0 = some (0, 8, pooledCmd, pooledCmd.queue 8) ∧ s.cmd 0 = some pooledCmd ∧
    s.counting (.stream 0) = true ∧ s.resetting (.stream 0) = false ∧
    spillOk 0 (s.modVale 0 fun v => { v with stallBeats := 63 }) = false := by decide +kernel
/-- The fetching command in a state whose first level table, in stack 0, partition 0 may read and is empty. -/
def faulting (s : State) (c : Cmd) : State :=
  { s.setCmd 0 (some c) with grants := [(0, { Grant.none with writer := some 0 })] }
theorem witness_faults :
    let c := xferCmd true 2 8 64 0
    let h := xferCmd true 3 8 64 0
    (faulting withPart c).live = true ∧ (faulting withPart c).cmd 0 = some c ∧ (c.xferAt 0).isSome = true ∧
    faultOk 0 0 (faulting withPart c) = true ∧ (faulting withPart c).metered 0 = false ∧ xHost (c.entry 0) = false ∧
    (faulting withPart c).stopped 0 < 16 ∧ (faulting withPart c).freeRecord 0 0 = some 0 ∧ faultOk 0 0 (faulting withMetered c) = true ∧
    (faulting withMetered c).metered 0 = true ∧ faultOk 0 0 (faulting withPart h) = true ∧ xHost (h.entry 0) = true ∧
    ((faulting withPart h).fn 1).pri = false ∧
    (let p := (faulting withPart h).modFn 1 fun f => { f with pri := true, allocation := 8 }
     faultOk 0 0 p = true ∧ (p.fn 1).pri = true ∧ (p.fn 1).responseFailure = false ∧ p.freePrg 0 = some 0) ∧
    (faulting withPart c).counting (.stream (Fin.ofNat 128 c.vale)) = true ∧
    (let r : FaultRec := ⟨0, 0, false, false, false, 0, 0, 0, 0, 0, false⟩
     let full := (faulting withMetered c).modPart 0 fun p => { p with faults := (List.range 16).map fun i => { r with index := i } }
     faultOk 0 0 full = true ∧ full.metered 0 = true ∧ full.freeRecord 0 0 = none) := by decide +kernel
/-- A transfer of the command in slot 0 stopped for a request group or a record. -/
def stoppedFor (w : StopKind) (src : Nat) : Cmd := Cmd.onXfer (fun t => { t with stop := some w }) (xferCmd true src 8 64 0)
theorem witness_prg :
    let c := stoppedFor (.prg 0) 3
    let s := (holding c).modPart 0 fun p => { p with prgs := [⟨0, 0, 0⟩] }
    s.live = true ∧ s.holding = false ∧ (s.part 0).prgs.find? (fun p => p.prg == 0) = some ⟨0, 0, 0⟩ ∧ s.cmd 0 = some c ∧
    (c.xferAt 0).isSome = true ∧ xHost (c.entry 0) = true ∧ (s.part 0).prgs.find? (fun p => p.prg == 1) = none ∧
    ({ s with terrace := { s.terrace with hold := (Terrace.reset).hold } } : State).live = true := by decide +kernel
/-- A fault record of that transfer. -/
def faultOf (resumable returned : Bool) : FaultRec := ⟨0, 0, resumable, false, false, 0, 0, 0, 0, 0, returned⟩
theorem witness_fault_records :
    let s := fun r b => (holding (stoppedFor (.record 0) 2)).modPart 0 fun p => { p with faults := [faultOf r b] }
    Serves (s true false) (.vf 0) = true ∧ (s true false).pageOn 0 = true ∧ (s true false).holding = false ∧
    (s true false).faultRec 0 0 = some (faultOf true false) ∧ (s false false).faultRec 0 0 = some (faultOf false false) ∧
    (s true false).faultRec 0 1 = none ∧ (s true false).cmd 0 = some (stoppedFor (.record 0) 2) ∧
    ((stoppedFor (.record 0) 2).xferAt 0).isSome = true ∧
    ((s true false).part 0).faults.find? (fun r => !r.returned) = some (faultOf true false) ∧
    ((s true true).part 0).faults.find? (fun r => !r.returned) = none := by decide +kernel
theorem witness_host_failure :
    let c := xferCmd true 3 8 64 0
    (holding c).live = true ∧ hostReadOk 0 0 (holding c) = true ∧ (holding c).cmd 0 = some c ∧
    c.fetch[0]? = some { Xfer.fresh with started := true } := by decide +kernel
/-! ### Partitions and background tests -/

/-- Partition 0 with page 0 mapped, its scale table at 0x1000 and at 0x2000 a beat table without entries whose first word is w. -/
def tabled (w anchor : Nat) (s : State) : State :=
  let s := (((mapped s).setReg (pcfg 0 + 0x7C) 1#32).setReg64 (pcfg 0 + 0x80) 0x1000).setReg64 (pcfg 0 + 0x88) 0x2000
  s.setBytes 0x2000 (words 16 [(0, w), (4, 16), (8, anchor)])
/-- A part in READY whose partition 0 is FREE with vale 1 in its mask. -/
def toCreate (w : Nat) : State := tabled w 0 (up.setReg (pcfg 0 + 0x50) 2#32)
theorem witness_create :
    Serves (toCreate 1) .pf = true ∧ ((toCreate 1).part 0).op = none ∧ createErr (toCreate 1) 0 = 0 ∧ maskVales (toCreate 1) 0 = [1] ∧
    createErr withPart 0 ≠ 0 ∧ (withPart.part 0).op = none ∧
    ((withPart.modPart 0 fun p => { p with op := some ⟨1, 0, 0, 0⟩ }).part 0).op.isSome = true := by decide +kernel
/-- The answer of a check of a beat table is a table, or the entry that fails. -/
def tableOk (r : Except Nat BeatTable × State) : Bool := match r.1 with | .ok _ => true | .error _ => false
theorem witness_create_table :
    tableOk ((toCreate 1).checkedTable 0 (fun g => (maskVales (toCreate 1) 0).contains g) none) = true ∧
    tableOk ((toCreate 2).checkedTable 0 (fun g => (maskVales (toCreate 2) 0).contains g) none) = false ∧ createErr (toCreate 2) 0 = 0 := by
  decide +kernel
theorem witness_table_cases (r : Except Nat BeatTable × State) :
    (tableOk r = true → ∃ t u, r = (.ok t, u)) ∧ (tableOk r = false → ∃ i u, r = (.error i, u)) := by
  obtain ⟨r, u⟩ := r
  cases r with
  | ok t => exact ⟨fun _ => ⟨t, u, rfl⟩, nofun⟩
  | error i => exact ⟨nofun, fun _ => ⟨i, u, rfl⟩⟩
theorem witness_destroy :
    Serves withPart .pf = true ∧ (withPart.part 0).mode = .active ∧ (withPart.part 0).op = none ∧ (withPart.part 1).mode ≠ .active ∧
    withPart.Canonical ∧ (holding (command [] [])).cmd 0 = some (command [] []) ∧ (command [] []).part = 0 := by
  refine ⟨by decide +kernel, by decide +kernel, by decide +kernel, by decide +kernel, ?_, by decide +kernel, by decide +kernel⟩
  constructor <;> decide +kernel
theorem witness_vale_operations :
    Serves withPart .pf = true ∧ (withPart.vale 0).owner.isSome = true ∧ (withPart.vale 1).owner = none ∧ valeTested withPart 1 = false ∧
    (withPart.vale 1).fenced = false ∧ ((withPart.modVale 1 fun v => { v with fenced := true }).vale 1).fenced = true ∧
    (withPart.vale 0).owner = some 0 ∧ valeTested withPart 0 = false ∧ valeInUse withPart 0 0 = false ∧
    valeInUse (holding (command [] [])) 0 0 = true ∧ valeTested (withPart.setTest 0 (some ⟨1, 1, [], none⟩)) 1 = true := by decide +kernel
/-- Partition 0, ACTIVE and metered, with a beat table of one slice at 0x2000 that anchors at the given beat. -/
def loading (anchor : Nat) : State :=
  (tabled 0x10001 anchor withMetered).setBytes 0x2040 (words 4 [(4, 16)])
theorem witness_table_load :
    ((loading 128).part 0).mode = .active ∧
    tableOk ((loading 128).checkedTable 0 (fun g => ((loading 128).owned 0).contains g) (some (loading 128).beatNum)) = true ∧
    tableOk ((loading 127).checkedTable 0 (fun g => ((loading 127).owned 0).contains g) (some (loading 127).beatNum)) = false := by
  decide +kernel
/-- An admitted command of partition 0 whose window ends after the anchor and lies in no slice. -/
def windowed : Cmd := { command [] [] with job := 1, window := some (128, 130) }
theorem witness_windows :
    let s := (loading 128).setCmd 0 (some windowed)
    let t : BeatTable := ⟨(words 16 [(0, 0x10001), (4, 16), (8, 128)]) ++ words 4 [(4, 16)]⟩
    windowsBad s 0 (s.part 0) t = true ∧ windowsBad (loading 128) 0 ((loading 128).part 0) t = false := by decide +kernel
theorem witness_op_end :
    let s := fun e => withPart.modPart 0 fun p => { p with op := some ⟨1, 0, e, 3⟩ }
    (s 8).live = true ∧ ((s 8).part 0).op = some ⟨1, 0, 8, 3⟩ ∧ ((s 8).part 0).mode ≠ .destroying ∧ (s 8).resetting (.partcfg 0) = false ∧
    ((s 0).part 0).op = some ⟨1, 0, 0, 3⟩ ∧ (withPart.part 0).op = none := by decide +kernel
theorem witness_drained :
    let s := withPart.modPart 0 fun p => { p with mode := .destroying, op := some ⟨2, 0, 0, 0⟩ }
    s.live = true ∧ (s.part 0).mode = .destroying ∧ s.ofPart 0 = [] ∧ s.Canonical ∧ (s.vale 0).owner = some 0 ∧
    (withPart.part 0).mode ≠ .destroying := by
  refine ⟨by decide +kernel, by decide +kernel, by decide +kernel, ?_, by decide +kernel, by decide +kernel⟩
  constructor <;> decide +kernel
theorem witness_anchor :
    let t : BeatTable := ⟨words 16 [(0, 1), (4, 16), (8, 128)]⟩
    let s := fun b => { withPart.modPart 0 fun p => { p with next := some t } with beat := { Beat.reset with num := b } }
    (s 128#64).live = true ∧ ((s 128#64).part 0).next = some t ∧ t.anchor ≤ (s 128#64).beatNum ∧ (s 127#64).beatNum < t.anchor := by
  decide +kernel
theorem witness_recheck :
    let s := ((withMetered.setCmd 0 (some (command [] []))).modPart 0 fun p => { p with recheck := [0] }).modVale 0 fun v => { v with fenced := true }
    s.live = true ∧ (s.part 0).recheck ≠ [] ∧ s.resetting (.partcfg 0) = false ∧ s.cmd 0 = some (command [] []) ∧
    s.metered 0 = true ∧ fencedCmd s (command [] []) = true ∧ (withPart.part 0).recheck = [] := by decide +kernel
theorem witness_recheck_canonical :
    (((withMetered.setCmd 0 (some (command [] []))).modPart 0 fun p => { p with recheck := [0] }).modVale 0 fun v => { v with fenced := true }).Canonical := by
  constructor <;> decide +kernel
theorem witness_background_request :
    Serves up .pf = true ∧ bgFailures up 1 127 = [] ∧ timely up 1 127 = some ((List.range 8).map (16 + ·)) ∧ freeTickets up = List.range 16 ∧
    bgFailures up 2 16 = [4] ∧ bgFailures up 2 15 = [] ∧ bgFailures up 5 32 = [4] ∧ bgFailures up 5 31 = [] ∧ bgFailures up 6 31 = [] ∧
    bgFailures up 3 127 = [] ∧ bgFailures up 4 127 = [] ∧ bgFailures (up.setTest 0 (some ⟨1, 0, [], none⟩)) 3 0 = [1] := by decide +kernel
theorem witness_background_start :
    let s := fun x => { up.setTest 15 (some x) with beat := { Beat.reset with num := 16#64 } }
    let d : BgTest := ⟨3, 5, [16], none⟩
    let r : BgTest := ⟨6, 31, [16], none⟩
    (s d).live = true ∧ (s d).test 15 = some d ∧ bgStartOk 15 (s d) = true ∧ d.destroys = true ∧ bgStartOk 15 (s r) = true ∧
    r.destroys = false ∧ ((s r).modLink 31 fun l => { l with state := .up }).linkUp 31 = true ∧
    bgStartOk 15 (s ⟨3, 5, [17], none⟩) = false := by decide +kernel
theorem witness_background_end :
    let s := fun x => { up.setTest 15 (some x) with beat := { Beat.reset with num := 16#64 } }
    let d : BgTest := ⟨3, 5, [], some 16⟩
    (s d).live = true ∧ (s d).test 15 = some d ∧ bgEndOk 15 (s d) = true ∧ d.destroys = true ∧ targetKind 3 = 0 ∧
    (s d).holding = false ∧ (s d).resetting .device = false ∧ bgEndOk 15 (s ⟨3, 5, [], some 17⟩) = false ∧
    bgEndOk 15 (s ⟨2, 5, [], some 16⟩) = true ∧ (⟨2, 5, [], some 16⟩ : BgTest).destroys = false := by decide +kernel
/-! ### Links -/

/-- A part in READY at clock 10^9 with the given state of link 31. -/
def linked (f : LinkSt → LinkSt) : State := { up with clock := 1000000000 }.modLink 31 f
/-- Link 31 UP. -/
def linkedUp : State := linked fun l => { l with state := .up }
/-- A header with every field at its largest value, but for the given TYPE, VC and LEN. -/
def headOf (type vc len : Nat) : FlitHead := ⟨type, vc, true, false, 4095, 4095, 31, 4095, 7, len, 2 ^ 32 - 1⟩
/-- The flit with a header and a payload of 0x3C bytes. -/
def flitOf (h : FlitHead) : List Byte := let bs := headBytes h ++ List.replicate 240 0x3C#8; bs ++ leBytes 4 (crc32c bs)
theorem witness_flit_fields :
    let h := headOf 15 31 255
    h.type < 16 ∧ h.vc < 32 ∧ h.seq < 4096 ∧ h.ack < 4096 ∧ h.crVc < 32 ∧ h.crTotal < 4096 ∧ h.rxBuf < 8 ∧ h.len < 256 ∧ h.msg < 2 ^ 32 ∧
    (List.replicate 240 0x3C#8).length ≤ 240 ∧ (0 < 2 ^ 32 ∧ 0 ≠ crc32c [0x31#8]) := by decide +kernel
theorem witness_flit_receive :
    linkedUp.live = true ∧ linkedUp.linkUp 31 = true ∧ up.linkUp 31 = false ∧ (flitOf (headOf 1 16 240)).length = 256 ∧
    flitCrcOk (flitOf (headOf 1 16 240)) = true ∧ flitCrcOk (List.replicate 256 1#8) = false ∧ (List.replicate 256 1#8).length = 256 ∧
    protocolError (flitHead (flitOf (headOf 1 16 240))) = false ∧ protocolError (flitHead (flitOf (headOf 1 16 241))) = true ∧
    protocolError (flitHead (flitOf (headOf 1 17 240))) = true ∧ protocolError (flitHead (flitOf (headOf 6 16 240))) = true ∧
    protocolError (flitHead (flitOf (headOf 5 16 0))) = false ∧ flitCrcOk (flitOf (headOf 6 16 240)) = true ∧
    linkedUp.counting (.link 31) = true := by decide +kernel
theorem witness_flit_sequence :
    (headOf 1 0 1).type ∈ [1, 2, 4, 5] ∧ (headOf 5 16 0).type ∈ [1, 2, 4, 5] ∧
    (headOf 1 0 1).seq = ((linked fun l => { l with expected := 4095 }).link 31).expected ∧ (headOf 1 0 1).seq ≠ (linkedUp.link 31).expected ∧
    (headOf 3 16 0).type = 3 ∧ (headOf 0 16 0).type = 0 := by decide +kernel
/-- A management flit at the egress. -/
def outFlit : OutFlit := { type := 5, vc := 16, part := 0, stream := 0, msg := 0, last := true, rxBuf := 0, payload := [1] }
theorem witness_replay :
    let s := linked fun l => { l with state := .up, replay := [⟨4095, outFlit⟩] }
    let r := linked fun l => { l with state := .up, replay := [⟨4095, outFlit⟩], replayRun := (4095, replayLimit up 31 - 1) }
    s.live = true ∧ replayTimeoutOk 31 s = true ∧ (s.link 31).replay = ⟨4095, outFlit⟩ :: [] ∧ 1 < replayLimit s 31 ∧
    replayTimeoutOk 31 r = true ∧ (r.link 31).replayRun.1 = 4095 ∧ (r.link 31).replayRun.2 ≠ 0 ∧
    replayLimit r 31 ≤ (r.link 31).replayRun.2 + 1 ∧ replayTimeoutOk 31 linkedUp = false ∧ s.counting (.link 31) = true := by decide +kernel
theorem witness_egress :
    let b := linked fun l => { l with state := .up, beats := 1 }
    let r := linked fun l => { l with state := .up, replay := [⟨4095, outFlit⟩], resend := [4095] }
    b.live = true ∧ b.linkUp 31 = true ∧ (b.feedTurns.turnsReady.link 31).beats ≠ 0 ∧ (r.feedTurns.turnsReady.link 31).beats = 0 ∧
    (r.feedTurns.turnsReady.link 31).resend = 4095 :: [] ∧
    (r.feedTurns.turnsReady.link 31).replay.find? (fun t => t.seq == 4095) = some ⟨4095, outFlit⟩ ∧ up.linkUp 31 = false := by decide +kernel
theorem witness_management_flit :
    let f : RxFlit := ⟨5, 16, 0, 0, true, [1], 0, 0⟩
    ((linked fun l => { l with rx := [f] }).link 31).rx.find? (fun f => f.type == 5 && f.vc == 16) = some f ∧
    (linkedUp.link 31).rx.find? (fun f => f.type == 5 && f.vc == 16) = none := by decide +kernel
theorem witness_training :
    let at_ := fun (x : LinkState) (p : Nat) => linked fun l => { l with state := x, probes := p }
    ((at_ .detect 0).link 31).state = .detect ∧ ((at_ .equalise 0).link 31).state = .equalise ∧ ((at_ .align 0).link 31).state = .align ∧
    ((at_ .measure 256).link 31).state = .measure ∧ 256 ≤ ((at_ .measure 256).link 31).probes ∧ ¬ 256 ≤ ((at_ .measure 255).link 31).probes ∧
    ((at_ .exchange 0).link 31).state = .exchange ∧ ((at_ .detect 0).link 31).kind ≠ .recovery ∧ (at_ .up 0).live = true ∧
    ((at_ .up 0).link 31).state ≠ .measure := by decide +kernel
theorem witness_exchange :
    let s := fun e => linked fun l => { l with state := .exchange, partnerEpoch := e }
    let m : ExchangeMsg := ⟨7, 0, 1, 2, false, List.replicate 16 0⟩
    ((s none).link 31).state = .exchange ∧ ((s (some 7)).link 31).partnerEpoch = some m.epoch ∧ ((s (some 6)).link 31).partnerEpoch = some 6 ∧
    6 ≠ m.epoch ∧ (s none).resetting (.link 31) = false ∧ (Instr.linkExchangeDone 31 m).wf = true := by decide +kernel
theorem witness_exchange_user :
    let c : Cmd := { ran (command [(0, 0x800)] []) with coll := none }
    let s := (linked fun l => { l with state := .exchange, partnerEpoch := some 6 }).setCmd 0 (some { c with ring := words 12 [(4, 0x10000)] })
    s.cmd 0 = some { c with ring := words 12 [(4, 0x10000)] } ∧ c.dispatched.isSome = true ∧ c.coll.any (·.ended) = false ∧ s.Canonical := by
  refine ⟨by decide +kernel, by decide +kernel, by decide +kernel, ?_⟩
  constructor <;> decide +kernel
theorem witness_train_timeout :
    let s := fun k => linked fun l => { l with state := .equalise, kind := k, since := 0 }
    trainTimeoutOk 31 (s .initial) = true ∧ trainTimeoutOk 31 (s .retrain) = true ∧ ((s .retrain).link 31).kind ≠ .initial ∧
    trainTimeoutOk 31 linkedUp = false ∧ (s .retrain).resetting (.link 31) = false ∧
    trainTimeoutOk 31 { s .retrain with clock := 839999 } = false ∧ trainTimeoutOk 31 { s .retrain with clock := 840000 } = true := by
  decide +kernel
theorem witness_link_enable :
    Serves linkedUp .pf = true ∧ linkedUp.resetting (.link 31) = false ∧ linkWeighted linkedUp 31 = false ∧ (up.link 31).state = .down ∧
    5 ≤ up.boot.phase ∧ (linkedUp.link 31).state ≠ .down ∧ linkedUp.linkUp 31 = true := by decide +kernel
/-- R299 and R553: the check values over the ASCII bytes of 123456789. -/
theorem test_crc :
    crc32c (leBytes 9 0x393837363534333231) = 0xE3069283 ∧ crc32 (leBytes 9 0x393837363534333231) = 0xCBF43926 := by decide +kernel
/-! ### Collectives -/

/-- A COLLECT stage in a state. -/
def collSt (st : CollState) : CollSt := { CollSt.fresh false false 0 with state := st }
/-- A dispatched command whose COLLECT stage reduces 64 FP32 elements with a ring of n at position pos by link 31 on rail 0. -/
def collCmd (n pos : Nat) (x : CollSt) : Cmd :=
  let c := ran (command [(0, 0xA00), (0x40, 0x155)] [(0x60, 0xAA00), (0x64, 64), (0x70, 5), (0x78, 0x60005), (0x7C, 0x100010)])
  { c with ring := words 12 [(0, n + 65536 * pos), (4, 16), (0x10, 0x1F1F)], coll := some x,
           queues := c.queues.modify 0 fun q => { q with mode := 2, size := 4096, addr := 2 ^ 44, width := 8, tail := 512 } }
/-- Partition 0 with that command in slot 511, link 31 UP with some flits received, at beat b. -/
def ringAt (b : Nat) (c : Cmd) (rx : List RxFlit) : State :=
  { withPart.setCmd 511 (some c) with beat := { Beat.reset with num := BitVec.ofNat 64 b } }.modLink 31 fun l =>
    { l with state := .up, rx := rx }
theorem witness_pieces :
    let c := collCmd 2 1 (collSt .retain)
    c.elems = 64 ∧ 63 < c.elems ∧ (c.coll.isSome = true) ∧ c.isShift = false ∧ c.pos < c.members ∧ 0 + 1 < c.members := by decide +kernel
theorem witness_collect_start :
    let c := collCmd 2 1 (collSt .retain)
    let w := collCmd 2 1 (collSt .linkWait)
    (ringAt 0 c []).live = true ∧ (ringAt 0 c []).cmd 511 = some c ∧ collectStartOk 511 (ringAt 0 c []) = true ∧ retainNow c (collSt .retain) = 64 ∧
    64 * c.inBytes ≤ 2 ^ 25 ∧ collectStartOk 511 (ringAt 0 w []) = true ∧
    collectStartOk 511 (ringAt 0 (collCmd 2 1 (collSt .laps)) []) = true ∧
    collectStartOk 511 (ringAt 0 (collCmd 2 1 { collSt .retain with retained := 64 }) []) = false := by decide +kernel
theorem witness_lap_start :
    let c := fun n => collCmd 2 1 { collSt .retain with retained := n }
    lapStartOk 511 (ringAt 0 (c 64) []) = true ∧ lapStartOk 511 (ringAt 0 (c 63) []) = false := by decide +kernel
/-- A stage in its laps on rail 0. -/
def lapping : CollSt := { collSt .laps with retained := 64, rails := [{ RailSt.fresh with sent := true }] }
/-- A flit of a ring message to rail 0 with an attempt, a piece and a sequence number. -/
def ringFlit (att j seq n : Nat) : RxFlit := ⟨1, 0, 0, 2 ^ 25 * att + 2 ^ 12 * j + seq, true, List.replicate n 0, 0, 0⟩
theorem witness_ring_piece :
    let c := collCmd 2 1 lapping
    let s := fun f => ringAt 0 c [f]
    let check := fun f => ringCheck c lapping 31 0 f
    (s (ringFlit 0 1 5 4)).live = true ∧ c.nextPiece (lapping.rail 0) = 1 ∧ c.pieceSize 0 0 = 64 ∧ c.pieceSize 0 1 = 0 ∧
    check (ringFlit 0 1 5 4) = .accept ∧ check (ringFlit 0 0 5 4) = .error ∧ check (ringFlit 0 0 4 4) = .stale ∧
    check (ringFlit 1 1 5 4) = .held ∧ check (ringFlit 0 1 6 4) = .held ∧
    (List.range 8).find? (ringReady (s (ringFlit 0 0 4 4)) 31 0) = some 0 ∧ (List.range 8).find? (ringReady (s (ringFlit 0 1 6 4)) 31 0) = none ∧
    (List.range 8).find? (ringReady (s (ringFlit 0 0 5 4)) 31 0) = some 0 ∧
    ringFront (s (ringFlit 0 0 5 4)) 31 0 0 = some (ringFlit 0 0 5 4) ∧
    ringHolder (s (ringFlit 0 0 5 4)) 31 0 = some (511, c, lapping) ∧ (s (ringFlit 0 0 5 4)).counting (collPage c.vale) = true := by decide +kernel
theorem witness_ring_piece_canonical : (ringAt 0 (collCmd 2 1 lapping) [ringFlit 0 0 5 4]).Canonical := by constructor <;> decide +kernel
/-- A member at position 0 has the piece of 64 elements to come: its 256 bytes take two flits, the last of 16 bytes. -/
theorem witness_ring_accept :
    let x := { lapping with rails := [{ RailSt.fresh with sent := true, got := 240 }] }
    let c := collCmd 2 0 x
    let f := ringFlit 0 0 5 16
    ringCheck c x 31 0 f = .accept ∧ ringBroken c 0 (x.rail 0) f = false ∧ (x.rail 0).era = f.era ∧ f.last = true ∧
    ringHolder (ringAt 0 c [f]) 31 0 = some (511, c, x) ∧ (List.range 8).find? (ringReady (ringAt 0 c [f]) 31 0) = some 0 := by decide +kernel
theorem witness_arrive :
    let x := { lapping with rails := [{ RailSt.fresh with sent := true, done := true }] }
    let c := collCmd 2 1 x
    arriveOk 511 (ringAt 0 c []) = true ∧ x.started = true ∧ c.arriveToken = 5 ∧ arriveOk 511 (ringAt 0 (collCmd 2 1 lapping) []) = false := by
  decide +kernel
/-- A stage whose verdict is ready. -/
def closing (v : Bool) (sent : Option Nat) (held : Option Bool) : CollSt :=
  { lapping with state := .closing, arrived := true, close := { CloseSt.fresh with verdict := some v, sent := sent, held := held } }
theorem witness_verdict :
    let i := fun n p x => (ringAt 0 (collCmd n p x) []).ringOf (.cmd 511)
    (i 1 0 (closing true none none)).any (fun i => i.n == 1 && i.close.verdict == some true) = true ∧
    (i 2 0 (closing true none none)).any (fun i => i.n != 1 && i.pos == 0 && i.close.sent.isNone && i.rails == [(31, 31, 0)]) = true ∧
    (i 2 0 (closing true (some 0) none)).any (fun i => i.pos == 0 && i.close.sent.isSome) = true ∧
    (i 2 1 (closing true none none)).any (fun i => i.pos != 0 && i.close.held.isNone) = true ∧
    (i 2 1 (closing true none (some false))).any (fun i => i.pos != 0 && i.close.held == some false) = true := by decide +kernel
theorem witness_decide :
    let s := ringAt 0 (collCmd 2 0 (closing true (some 0) none)) []
    (s.ringOf (.cmd 511)).any (fun i => faultIsFinal s i) = true ∧
    (s.ringOf (.cmd 511)).any (fun i => !faultIsFinal s { i with attempts := 2 }) = true ∧ s.linkUp 31 = true := by
  decide +kernel
theorem witness_outcome :
    let c := collCmd 2 1 (closing true none none)
    let s := ringAt 0 c []
    let m := { s.setRegF 0x1048 0 0 1 with beat := { s.beat with num := 9#64 } }
    s.cmd 511 = some c ∧ (closing true none none).started = true ∧ lateClose s c (closing true none none) = false ∧ c.closeToken = 6 ∧
    lateClose m { c with window := some (0, 9) } (closing true none none) = true ∧
    lateClose m { c with window := some (0, 10) } (closing true none none) = false ∧
    s.counting (collPage c.vale) = true ∧ s.resetting (collPage c.vale) = false ∧ lapping.started = true ∧ lapping.arrived = false := by decide +kernel
/-- A close flit for the member: kind 0 GATHER, 1 OUTCOME, with its result. -/
def closeFlit (kind att : Nat) (clean : Bool) : RxFlit := ⟨2, 16, 0, closeMsg kind clean false att 0 5, true, leBytes 8 40, 0, 0⟩
/-- Whether the front close flit of a kind acts, is discarded, or there is none. -/
def frontIs (s : State) (kind : Nat) : Nat :=
  match closeFront s 31 kind (if kind = 0 then gatherCheck else outcomeCheck) with
  | none => 0 | some (_, .discard) => 1 | some (_, .act _ _) => 2 | some (_, .stays) => 3
theorem witness_close_flits :
    let s := fun p x f => ringAt 0 (collCmd 2 p x) [f]
    frontIs (s 0 (closing true (some 0) none) (closeFlit 0 0 true)) 0 = 2 ∧ frontIs (s 1 (closing true none none) (closeFlit 0 0 false)) 0 = 2 ∧
    frontIs (s 1 (closing true none (some true)) (closeFlit 0 0 true)) 0 = 1 ∧ frontIs (s 1 (closing true none none) (closeFlit 0 1 true)) 0 = 0 ∧
    frontIs (s 1 (closing true none none) (closeFlit 1 0 true)) 1 = 2 ∧ frontIs (s 0 (closing true (some 0) none) (closeFlit 1 0 true)) 1 = 1 ∧
    frontIs (s 1 (closing true none none) (closeFlit 1 1 true)) 1 = 0 := by decide +kernel
theorem witness_close_timeouts :
    let s := fun b p x => ringAt b (collCmd 2 p x) []
    closeTimeoutOk (.cmd 511) (s 16 0 (closing true (some 0) none)) = true ∧ closeTimeoutOk (.cmd 511) (s 15 0 (closing true (some 0) none)) = false ∧
    outcomeTimeoutOk (.cmd 511) (s 16 1 (closing true none none)) = true ∧ outcomeTimeoutOk (.cmd 511) (s 15 1 (closing true none none)) = false ∧
    lapTimeoutOk (.cmd 511) (s 16 1 lapping) = true ∧ lapTimeoutOk (.cmd 511) (s 15 1 lapping) = false ∧
    retryOk (.cmd 511) (s 3 1 { collSt .retryWait with close := { CloseSt.fresh with retryBeat := 3 } }) = true ∧
    retryOk (.cmd 511) (s 2 1 { collSt .retryWait with close := { CloseSt.fresh with retryBeat := 3 } }) = false := by decide +kernel
theorem witness_resolve :
    let s := fun x => ringAt 0 (collCmd 2 1 x) []
    Serves (s (collSt .inDoubt)) .pf = true ∧ stuckColl (s (collSt .inDoubt)) 0 = some (511, collCmd 2 1 (collSt .inDoubt), collSt .inDoubt) ∧
    stuckColl (s (collSt .failed)) 0 = some (511, collCmd 2 1 (collSt .failed), collSt .failed) ∧ stuckColl (s lapping) 0 = none := by decide +kernel
theorem witness_resolve_canonical : (ringAt 0 (collCmd 2 1 (collSt .inDoubt)) []).Canonical := by constructor <;> decide +kernel

/-- R322: 640 elements on two rails of a ring of three are pieces of 128, the last one short. -/
theorem test_pieces :
    let c := { command [] [(0x60, 0x1AA00), (0x64, 640)] with ring := words 12 [(0, 3)] }
    c.rails = 2 ∧ c.pieceLen = 128 ∧ c.piece 1 1 = (512, 640) ∧ c.piece 1 2 = (640, 640) := by decide +kernel
/-! ### Versions and turns -/

/-- Partition 0 with a queue of two slots at 0x8000 whose registers begin at an offset of its page, its head slot holding some words,
and its version table at 0x10000. -/
def queued (ofs : Nat) (ws : List (Nat × Nat)) : State :=
  let b := partBase 0 + ofs
  ((((mapped withPart).setReg64 b 0x8000).setReg (b + 8) 1#32).setReg (b + 0xC) 1#32).setReg64 (partBase 0 + 0x3020) 0x10000
    |>.setBytes 0x8000 (words 16 ws)
/-- The state with a version record's EPOCH, STATE and REFS: record v of set 0. -/
def versioned (v epoch st refs : Nat) (s : State) : State :=
  s.setBytes (verAddr s 0 0 v) (words 4 [(0, epoch), (4, st), (8, refs)])
theorem witness_version_queue :
    let s := queued 0x3000 [(0, 1)]
    Serves s (.vf 0) = true ∧ (s.part 0).mode ≠ .free ∧ (1#32).toNat % 4096 < s.ringSlots (partBase 0 + 0x3008) ∧
    s.ringSlots (partBase 0 + 0x3008) ≤ (2#32).toNat % 4096 ∧ (s.part 1).mode = .free := by decide +kernel
/-- Each operation of the version queue has its turn, and is sound; one with a reserved bit and one without a table are not. -/
theorem witness_version_operations :
    ((List.range 7).all fun i => let s := queued 0x3000 [(0, i + 1)]
      vopOk 0 (i + 1) s && !vopBad (s.peek 0 (vqSlot s 0) 32) && s.pdaOk 0 (vtHeader s 0 0) 4096 true) = true ∧
    (let s := queued 0x3000 [(0, 0)]; vopOk 0 1 s && vopBad (s.peek 0 (vqSlot s 0) 32)) = true ∧
    (let s := queued 0x3000 [(0, 0x4001)]; vopOk 0 1 s && vopBad (s.peek 0 (vqSlot s 0) 32)) = true ∧
    (let s := (queued 0x3000 [(0, 7)]).setReg64 (partBase 0 + 0x3020) (2 ^ 47)
     vopOk 0 7 s && !vopBad (s.peek 0 (vqSlot s 0) 32) && !s.pdaOk 0 (vtHeader s 0 0) 4096 true) = true ∧
    vopOk 0 2 (queued 0x3000 [(0, 1)]) = false := by decide +kernel
theorem witness_bind :
    let s := versioned 2 9 2 5 (queued 0x3000 [(0, 1)])
    let f := versioned 2 9 2 0xFFFFFF (queued 0x3000 [(0, 1)])
    let o := s.peek 0 (vqSlot s 0) 32
    selVersion s 0 (vopSet o) (vopSel o) (w32At o 4) = some 2 ∧ selVersion (queued 0x3000 [(0, 1)]) 0 (vopSet o) (vopSel o) (w32At o 4) = none ∧
    lookupKey (bindKey (vopJob o) (vopSet o)) (s.part 0).bindings = none ∧ verRefs s 0 (vopSet o) 2 ≠ 0xFFFFFF ∧ verRefs f 0 (vopSet o) 2 = 0xFFFFFF ∧
    selVersion f 0 (vopSet o) (vopSel o) (w32At o 4) = some 2 ∧
    lookupKey (bindKey (vopJob o) (vopSet o)) ((s.modPart 0 fun p => { p with bindings := [(0, 2)] }).part 0).bindings = some 2 ∧
    lookupKey (pinKey (vopSet o) (w32At o 8)) (s.part 0).pins = none ∧ (s.part 0).pins.length < 4096 ∧
    lookupKey (pinKey (vopSet o) (w32At o 8)) ((s.modPart 0 fun p => { p with pins := [(0, 2)] }).part 0).pins = some 2 := by decide +kernel
theorem witness_install :
    let s := queued 0x3000 [(0, 5)]
    let o := s.peek 0 (vqSlot s 0) 32
    s.pdaOk 0 (w64At o 8) 16 false = true ∧ freeRecords s 0 (vopSet o) = [0, 1, 2, 3] ∧
    freeRecords (versioned 0 1 2 0 (versioned 1 2 3 1 (versioned 2 3 3 1 (versioned 3 4 4 1 s)))) 0 (vopSet o) = [] := by decide +kernel
theorem witness_install_read :
    let s := queued 0x3000 [(0, 5)]
    (∃ bs u, s.readPda 0 (w64At (s.peek 0 (vqSlot s 0) 32) 8) 16 = (.ok bs, u)) ∧ (∃ u, s.readPda 0 (2 ^ 47) 16 = (.access, u)) :=
  ⟨⟨_, _, rfl⟩, ⟨_, rfl⟩⟩
/-- A ledger of two records at 0x20000, one record staged at 0x9000 for the current version of epoch 9. -/
def ledger (resv : Nat) : State :=
  let s := versioned 2 9 2 5 (queued 0x3000 [(0, 6), (4, 1), (8, 0x9000)])
  (s.setBytes 0x10008 (words 3 [(0, 0x20000), (8, 1)])).setBytes 0x9000 (words 8 [(8, resv), (0x10, 9)])
theorem witness_ledger :
    let s := ledger 0
    let o := s.peek 0 (vqSlot s 0) 32
    w32At o 4 = 1 ∧ 1 ≤ w32At o 4 ∧ w32At o 4 ≤ 65536 ∧ ledgerCheck s 0 0 (s.peek 0 0x9000 32) = 0 ∧
    ledgerCheck (ledger 0x40000) 0 0 ((ledger 0x40000).peek 0 0x9000 32) = 1 ∧ (ledgerOp 0 o s).1.status = 0 := by decide +kernel

/-- A layout descriptor of one tensor of 128 rows and 64 columns in blocks of 64 by 64 in FP8, of which rank r0 alone holds
everything, in vale 0's store at an offset. -/
def layout (r0 region : Nat) : List Byte :=
  words 16 [(0, 0x10001), (4, 0x20001)] ++
    words 16 [(0, 0x20000000), (8, 128), (0xC, 64), (0x10, 0x400040), (0x14, 0x10001), (0x18, 0x10000 + r0), (0x20, 0x10000), (0x28, region)]
/-- A turn of partition 0 in a ring of two, this device being rank 0. -/
def turnJob (r0 : Nat) (st : TurnState) : TurnJob :=
  { newTurn 0 0 0x8000 3 (words 32 [(0, 0x40000001), (0x38, 10), (0x3C, 0x100010)]) (layout 0 0) (layout r0 0x8000)
      (words 12 [(0, 2), (4, 16), (0x10, 0x1F1F)]) (List.replicate 16 0) 0 with epoch := 7, record := 1, state := st }
/-- That turn in slot 7 at beat b, with some flits on link 31. -/
def turning (b : Nat) (j : TurnJob) (rx : List RxFlit) : State :=
  { (queued 0x3000 []).setTurn 7 (some j) with beat := { Beat.reset with num := BitVec.ofNat 64 b } }.modLink 31 fun l =>
    { l with state := .up, rx := rx }
theorem witness_layout :
    let e := lyEntry (layout 0 0) 0
    tNbr e = 2 ∧ tNbc e = 1 ∧ 1 < tNbr e ∧ 0 < tNbc e ∧ 0 < tRP e ∧ 0 < tCP e ∧ badLayout (layout 0 0) = false ∧
    turnChecks (queued 0x3000 []) (turnJob 0 .moving) = true := by decide +kernel
theorem witness_turn :
    let s := queued 0x3000 [(0, 7)]
    let w := (queued 0x3000 [(0, 7), (8, 0x9000)]).modPart 0 fun p => { p with turnWait := some 0x8000 }
    let m := (queued 0x3000 [(0, 7), (8, 0x9001)]).modPart 0 fun p => { p with turnWait := some 0x8000 }
    vopOk 0 7 s = true ∧ turnStartOk 0 s = false ∧ turnStartOk 0 w = true ∧ (w.part 0).turnWait = some 0x8000 ∧ freeTurn w = some 0 ∧
    w64At (w.peek 0 0x8000 32) 8 % 64 = 0 ∧ turnStartOk 0 m = true ∧ w64At (m.peek 0 0x8000 32) 8 % 64 ≠ 0 := by decide +kernel
/-- A turn descriptor at 0x9000 with its tables. -/
def turnTables : State :=
  let s := (queued 0x3000 [(0, 7), (8, 0x9000)]).modPart 0 fun p => { p with turnWait := some 0x8000 }
  let d := words 32 [(0, 1), (0x10, 0xA000), (0x20, 0xB000), (0x28, 0xD000), (0x30, 0xC000), (0x3C, 0x100010)]
  (((s.setBytes 0x9000 d).setBytes 0xA000 (layout 0 0)).setBytes 0xB000 (layout 0 0x8000)).setBytes 0xC000 (words 12 [(0, 2), (4, 16), (0x10, 0x1F1F)])
theorem witness_turn_tables :
    (turnTables.readTurn 0 0x8000 (turnTables.peek 0 0x8000 32)).1.any (fun j => turnChecks turnTables j) = true ∧
    turnStartOk 0 turnTables = true ∧ (∀ v, v < 4 → verState turnTables 0 0 v ≠ 1) ∧ freeRecords turnTables 0 0 ≠ [] ∧
    (let l := versioned 0 1 1 0 turnTables
     (∃ v, v < 4 ∧ verState l 0 0 v = 1) ∧ (l.readTurn 0 0x8000 (l.peek 0 0x8000 32)).1.any (fun j => turnChecks l j) = true) ∧
    ((turnTables.setBytes 0x9000 [2]).readTurn 0 0x8000 (turnTables.peek 0 0x8000 32)).1.any (fun j => !turnChecks turnTables j) = true ∧
    ((turnTables.setBytes 0x9010 (leBytes 8 (2 ^ 47))).readTurn 0 0x8000 (turnTables.peek 0 0x8000 32)).1 = none := by decide +kernel
/-- A flit that is a whole short block message for rank d of set 0 with an epoch. -/
def blockFlit (d epoch : Nat) : RxFlit := ⟨1, 0, 0, blockMsg d 0, true, leBytes 4 epoch ++ List.replicate 28 0, 0, 0⟩
/-- A whole block of the turn. -/
def block0 (bad : Bool) : BlockIn :=
  let data := List.replicate 4096 1
  ⟨0, blockMsg 0 0, 0, blockHeader 7 0 (1, 0) data ++ (if bad then [] else data), false, false⟩
theorem witness_blocks :
    let s := turning 0 (turnJob 0 .moving) [blockFlit 0 7]
    s.live = true ∧ s.holding = false ∧ blockFront s 31 0 = some (blockFlit 0 7, none) ∧ (blockFlit 0 7).last = true ∧
    blockFront (turning 0 (turnJob 0 .moving) [blockFlit 0 8]) 31 0 = none ∧
    turnOf s 0 (bitsOf (block0 false).msg 17 14) = some (7, turnJob 0 .moving) ∧ bitsOf (block0 false).msg 30 18 = (turnJob 0 .moving).rank ∧
    leAt (block0 false).bytes 0 4 = (turnJob 0 .moving).epoch ∧ ((turnJob 0 .moving).mine 0).contains (1, 0) = true := by decide +kernel
theorem witness_block_good :
    (block0 true).bytes.drop 32 = [] ∧ tBytes ((turnJob 0 .moving).de 0) = 4096 ∧ ((block0 false).bytes.drop 32).length = 4096 ∧
    (block0 false).broken = false ∧ leAt (block0 false).bytes 4 2 < (turnJob 0 .moving).tensors := by decide +kernel
theorem witness_local_block :
    let s := turning 0 (turnJob 0 .moving) []
    localOk 7 0 1 0 s = true ∧ localOk 7 0 2 0 s = false ∧ s.turn 7 = some (turnJob 0 .moving) ∧
    localOk 7 0 1 0 (turning 0 { turnJob 0 .moving with landed := [(0, 1, 0)] } []) = false := by decide +kernel
theorem witness_turn_close :
    let s := fun b st c => turning b { turnJob 0 st with close := c } []
    let v := { CloseSt.fresh with verdict := some true }
    budgetOk 7 (s 10 .moving v) = true ∧ budgetOk 7 (s 9 .moving v) = false ∧ lapTimeoutOk (.turn 7) (s 16 .moving v) = true ∧
    lapTimeoutOk (.turn 7) (s 15 .moving v) = false ∧
    retryOk (.turn 7) (s 3 .retryWait { v with retryBeat := 3 }) = true ∧ retryOk (.turn 7) (s 2 .retryWait { v with retryBeat := 3 }) = false ∧
    ((s 0 .inDoubt v).turn 7).any (fun j => j.state == .inDoubt) = true ∧ ((s 0 .failed v).turn 7).any (fun j => j.state == .failed) = true ∧
    ((s 0 .moving v).turn 6) = none := by decide +kernel
/-- A turn at position 1 of its ring. -/
theorem witness_turn_in_doubt :
    let j := { turnJob 0 .closing with ring := words 12 [(0, 0x10002), (4, 16), (0x10, 0x1F1F)], close := { CloseSt.fresh with verdict := some true } }
    outcomeTimeoutOk (.turn 7) (turning 16 j []) = true ∧ outcomeTimeoutOk (.turn 7) (turning 15 j []) = false := by decide +kernel
/-! ### Updates -/

theorem witness_update_queue :
    let s := queued 0x4000 [(0, 2)]
    Serves s (.vf 0) = true ∧ (1#32).toNat % 4096 < s.ringSlots (partBase 0 + 0x4008) ∧ s.ringSlots (partBase 0 + 0x4008) ≤ (2#32).toNat % 4096 ∧
    uqReady s 0 = true ∧ uopCode (s.peek 0 (uqSlot s 0) 64) = 2 ∧ anySet (s.peek 0 (uqSlot s 0) 64) uopResv = false ∧
    anySet ((queued 0x4000 [(0, 0x80002)]).peek 0 0x8000 64) uopResv = true ∧ uqReady (queued 0x3000 [(0, 2)]) 0 = false := by decide +kernel
/-- A plain STEP (OPT 2) of one segment of two weights with FP32 gradients, its words at 0x9000. -/
def stepping (count : Nat) : State :=
  let s := queued 0x4000 [(0, 0x4001), (8, 0x9000), (0x10, 1), (0x20, 0x9040)]
  (s.setBytes 0x9000 (words 16 [(0, 0xA000), (0x28, 0xB000), (0x38, count)])).setBytes 0x9040 (words 16 [(0, 0x3F800000), (0x1C, 0x3F800000)])
/-- Whether the checks of a STEP pass. -/
def stepPasses (s : State) : Bool := match (s.stepChecks 0 (s.peek 0 (uqSlot s 0) 64) []).1 with | .ok _ => true | .error _ => false
theorem witness_step :
    stepOk 0 (stepping 2) = true ∧ badStep ((stepping 2).peek 0 (uqSlot (stepping 2) 0) 64) = false ∧ stepPasses (stepping 2) = true ∧
    stepPasses (stepping 0) = false ∧ stepOk 0 (stepping 0) = true ∧
    stepOk 0 (queued 0x4000 [(0, 1)]) = true ∧ badStep ((queued 0x4000 [(0, 1)]).peek 0 0x8000 64) = true ∧
    stepOk 0 (queued 0x4000 [(0, 2)]) = false := by decide +kernel
theorem witness_step_end :
    let p := fun st => { addr := 0x8000, slot := [], status := st, used := 1, flags := 0#4, ueBlocks := 0 : StepOp }
    let s := fun st => (queued 0x4000 []).modPart 0 fun q => { q with step := some (p st) }
    ((s 0).part 0).step = some (p 0) ∧ ((s 4).part 0).step = some (p 4) ∧ (s 0).holding = false ∧ ((queued 0x4000 []).part 0).step = none := by
  decide +kernel
/-- The hyperparameters with a MAX_NORM. -/
def hyper (m : Word) : Hyper := { hyperOf (words 16 [(0x1C, 0x3F800000)]) with maxNorm := m }
theorem witness_clip :
    fval 0x41800000#32 = .fin false 0x800000 (-19) ∧ Val.lt (fval 0x41800000#32) (.fin false 0 0) = false ∧ fval 0x7FC00000#32 = .nan ∧
    fval 0x7F800000#32 = .inf false ∧ Val.lt (fval 0xBF800000#32) (.fin false 0 0) = true := by decide +kernel
theorem witness_clip_norm : fval (hyper 0x40000000#32).maxNorm ≠ .nan := by decide +kernel
theorem witness_clip_past : Val.lt (fval (hyper 0x40000000#32).maxNorm) (fval (LaneRes.fp (Val.sqrt (fval 0x41800000#32))).w) = true := by decide +kernel
theorem witness_clip_within : Val.lt (fval (hyper 0x40800000#32).maxNorm) (fval (LaneRes.fp (Val.sqrt (fval 0x41800000#32))).w) = false := by
  decide +kernel
theorem witness_moments : (0 < 1 ∧ (127 = 127 ∨ 127 = 1)) ∧ [0#32, 0x80000000#32].all (fun w => (fval w).isZero) = true := by decide +kernel
theorem witness_step_block : ([3] : List Nat).contains ({ flags := 0#4, ue := 0, block := 3 : StepRun }).block = true := by decide +kernel

/-! ### Requests -/

/-- The request queue with some words at its head, request records at 0xA000 and page maps as of R414 for one layer. -/
def asked (ws : List (Nat × Nat)) : State :=
  let b := partBase 0
  ((((queued 0x5000 ws).setReg64 (b + 0x5018) 0xA000).setReg (b + 0x5020) 2#32).setReg (b + 0x5028) 1#32).setReg (b + 0x502C) 4#32
/-- Request record 0 with MAX_LEN 128, a STATE and a CLEN, its map at 0xB000. -/
def record (st clen : Nat) (s : State) : State := s.setBytes 0xA000 (words 32 [(4, st), (0xC, 128), (0x48, clen), (0x50, 0xB000)])
theorem witness_request_queue :
    let s := asked [(0, 1)]
    Serves s (.vf 0) = true ∧ (1#32).toNat % 4096 < s.ringSlots (partBase 0 + 0x5008) ∧ s.ringSlots (partBase 0 + 0x5008) ≤ (2#32).toNat % 4096 ∧
    ((List.range 6).all fun i => let t := asked [(0, i + 1), (4, if i = 2 then 1 else 0)]
      rqOk 0 (i + 1) t && !rqBad (t.markLost 0) 0 (t.peek 0 (rqSlot t 0) 32)) = true ∧
    rqOk 0 1 (asked [(0, 1), (4, 2)]) = true ∧ rqBad (asked [(0, 1), (4, 2)]) 0 ((asked [(0, 1), (4, 2)]).peek 0 0x8000 32) = true ∧
    rqOk 0 2 s = false := by decide +kernel
theorem witness_request_records :
    let s := fun st clen => record st clen (asked [(0, 2), (8, 64)])
    let o := (s 1 0).peek 0 0x8000 32
    (s 1 0).pdaOk 0 (recAddr (s 1 0) 0 (rqIdx o)) 128 true = true ∧ recState (s 1 0) 0 0xA000 = 1 ∧ recState (s 2 0) 0 0xA000 = 2 ∧
    recState (s 3 0) 0 0xA000 = 3 ∧ recState (s 0 0) 0 0xA000 = 0 ∧ recAddr (s 1 0) 0 (rqIdx o) = 0xA000 ∧
    (s 1 65).peek32 0 0xA00C < (s 1 65).peek32 0 0xA048 + rqArg o % 2 ^ 32 ∧ ¬ (s 1 64).peek32 0 0xA00C < (s 1 64).peek32 0 0xA048 + rqArg o % 2 ^ 32 ∧
    bitOf (w32At o 0) 4 = false ∧ bitOf ((s 1 0).peek32 0 0xA004) 5 = false ∧
    ((asked [(0, 2), (4, 1)]).setReg64 (partBase 0 + 0x5018) (2 ^ 47)).pdaOk 0 (2 ^ 47 + 128) 128 true = false := by decide +kernel
theorem witness_pages :
    let s := record 1 0 (asked [(0, 2), (8, 64)])
    (∀ g ∈ s.usable 0, g < 128) ∧ takePages s 0 0xA000 [(0, 0), (0, 1)] [0] = some [(0xB000, 1), (0xB004, 2)] := by decide +kernel
theorem witness_commit :
    let s := record 1 0 (asked [(0, 3), (4, 1)])
    let e := words 12 [(0, 0x20000), (4, 1)]
    recAddr s 0 (bitsOf (w32At e 0) 15 0) = 0xA000 ∧ 0xA000 % 2 ^ 21 + 128 ≤ 2 ^ 21 ∧
    (s.part 0).tlb.find? (fun t => t.page == 0xA000 / 2 ^ 21) = some ⟨0, 0, true⟩ ∧ s.mayWrite 0 0 = true ∧ s.bad = [] ∧
    dpaStack 0xA000 = some 0 ∧ (s.floor 0).failed = false ∧ bitsOf (w32At e 0) 23 20 = 0 ∧ bitsOf (s.peek32 0 0xA008) 31 16 = 0 ∧
    bitOf (w32At e 0) 17 = true ∧ bitOf (w32At e 0) 16 = false := by decide +kernel
theorem witness_late :
    let s := { (asked []).setBytes 0xA010 (leBytes 8 5) with beat := { Beat.reset with num := 6#64 } }
    let t := { (asked []).setBytes 0xA010 (leBytes 8 5) with beat := { Beat.reset with num := 5#64 } }
    s.peek64 0 0xA010 ≠ 0 ∧ s.peek64 0 0xA010 < s.beatNum ∧ ¬ t.peek64 0 0xA010 < t.beatNum := by decide +kernel
theorem witness_eviction : evictee up 0 [0x1000, 0x2000] = some 0x1000 ∧ [0x1000, 0x2000] ≠ ([] : List Nat) := by decide +kernel
theorem witness_copies :
    let c := fun save => { addr := 0x8000, save := save, status := 0, result := 0, signal := 0, src := [0x9000], dst := [0xA000], bytes := 8 : RqCopy }
    let s := fun save => (asked []).modPart 0 fun p => { p with rqCopy := some (c save) }
    ((s true).part 0).rqCopy = some (c true) ∧ (s true).holding = false ∧ (c true).save = true ∧ ((s false).part 0).rqCopy = some (c false) ∧
    (c false).save = false ∧ ((asked []).part 0).rqCopy = none := by decide +kernel
/-- Partition 0 with vales 0 and 1 in the two sets, its controller on at a beat of the given number. -/
def ratio (b : Nat) (r : Rc) : State :=
  let s := (withPart.modVale 0 fun v => { v with set := 1 }).modVale 1 fun v => { v with owner := some 0, set := 2 }
  let s := (s.setReg (partBase 0 + 0x5080) 1#32).setReg (partBase 0 + 0x5084) 0#32
  { s.modPart 0 fun p => { p with rc := r } with
    beat := { Beat.reset with num := BitVec.ofNat 64 b, state := .locked, everLocked := true, counted := true } }
theorem witness_ratio :
    let s := ratio 4096 Rc.reset
    Serves withPart (.vf 0) = true ∧ withPart.regBit (partBase 0 + 0x5080) 0 = false ∧ s.regBit (partBase 0 + 0x5080) 0 = true ∧
    rcEvaluateOk 0 s = true ∧ rcEvaluateOk 0 (ratio 4095 Rc.reset) = false ∧ rcEvaluateOk 0 (ratio 4096 { Rc.reset with last := some 4096 }) = false ∧
    setVales s 0 2 = [1] ∧ s.regF (partBase 0 + 0x5088) 30 16 ≤ (s.requestsIn 0 1).length ∧
    (s.regF (partBase 0 + 0x508C) 31 16 : Int) ≤ rcSlack s 0 ∧ s.regF (partBase 0 + 0x5084) 14 8 < (setVales s 0 2).length ∧
    setVales s 0 1 = [0] ∧
    Rc.reset.pending = none ∧ Rc.reset.hold = 0 := by decide +kernel
theorem witness_ratio_down :
    let s := (ratio 4096 Rc.reset).setReg (partBase 0 + 0x5088) 0x10000#32
    ¬ s.regF (partBase 0 + 0x5088) 30 16 ≤ (s.requestsIn 0 1).length ∧ (s.requestsIn 0 1).length ≤ s.regF (partBase 0 + 0x5088) 14 0 ∧
    s.regF (partBase 0 + 0x5084) 6 0 < (setVales s 0 1).length ∧ rcEvaluateOk 0 s = true ∧ withPart.Canonical := by
  refine ⟨by decide +kernel, by decide +kernel, by decide +kernel, by decide +kernel, ?_⟩
  constructor <;> decide +kernel
theorem witness_ratio_stays :
    let s := ((ratio 4096 Rc.reset).setReg (partBase 0 + 0x5088) 0x10000#32).setReg (partBase 0 + 0x5084) 1#32
    ¬ s.regF (partBase 0 + 0x5088) 30 16 ≤ (s.requestsIn 0 1).length ∧ ¬ s.regF (partBase 0 + 0x5084) 6 0 < (setVales s 0 1).length ∧
    rcEvaluateOk 0 (ratio 4096 { Rc.reset with hold := 1 }) = true := by decide +kernel
theorem witness_move :
    let r := { Rc.reset with pending := some { toPrefill := true, vale := 1 }, due := true }
    ((ratio 1 r).part 0).rc = r ∧ r.pending = some { toPrefill := true, vale := 1 } ∧ r.due = true ∧ (ratio 1 r).counting (.part 0) = true ∧
    rcEvaluateOk 0 (ratio 4096 r) = true := by decide +kernel

/-! ### Memory and residency -/

theorem witness_walk : ∃ d t, (mapped withPart).walk 0 0x1000 true = .ok d t := ⟨_, _, rfl⟩
theorem witness_grants :
    let held := { up with grants := [(0, { Grant.none with writer := some 1 })] }
    Serves up .pf = true ∧ up.grantOp = none ∧ (∀ p, up.regF 0x11040 20 0 ≤ p ∧ p ≤ up.regF 0x11040 20 0 + (0#16).toNat →
      ¬ (pageGrantable p = false ∨ grantConflict up 0 true p = true)) ∧
    grantConflict held 0 true 0 = true ∧ grantConflict held 0 false 0 = true ∧ pageGrantable 0 = true ∧
    (up.setReg 0x11040 0x1FFFFF#32).regF 0x11040 20 0 = 0x1FFFFF ∧ pageGrantable 0x1FFFFF = false ∧ up.resetting .mem = false ∧
    ({ up with grantOp := some { withdraw := true, first := 0, count := 1, part := 0 } } : State).grantOp.isSome = true := by
  refine ⟨by decide +kernel, by decide +kernel, ?_, by decide +kernel, by decide +kernel, by decide +kernel, by decide +kernel, by decide +kernel,
    by decide +kernel, by decide +kernel⟩
  intro p h
  have z : up.regF 0x11040 20 0 = 0 := by decide +kernel
  rw [z] at h
  obtain rfl : p = 0 := by simpa using h.2
  decide +kernel
theorem witness_translation_cache :
    Serves withPart (.vf 0) = true ∧ (withPart.part 0).mode ≠ .free ∧ (withPart.part 0).tlbInv = none ∧
    (0xC0000000#32).getLsbD 31 = true ∧ (0xC0000000#32).getLsbD 30 = true ∧ (0x80000000#32).getLsbD 30 = false ∧ (0x80000000#32).getLsbD 31 = true ∧
    ((withPart.modPart 0 fun p => { p with tlbInv := some none }).part 0).tlbInv.isSome = true ∧ withPart.holding = false := by decide +kernel
theorem witness_scrub :
    let b := pageBase (.floor 19)
    let s := up.setReg (b + 0x40) 0x100#32
    s.live = true ∧ s.regBit (b + 0x40) 8 = true ∧ up.regBit (pageBase (.floor 0) + 0x40) 8 = s.regBit (pageBase (.floor 0) + 0x40) 8 ∧
    s.regF (b + 0x44) 29 0 + 1 < 2 ^ 30 ∧ (s.setReg (b + 0x44) 0x3FFFFFFF#32).regF (b + 0x44) 29 0 + 1 = 2 ^ 30 ∧
    s.blockBad (2 ^ 36 * 19) = false ∧ (s.floor 19).failed = false ∧ s.counting (.floor 19) = true ∧
    (up.setReg (b + 0x60) 4#32).regF (b + 0x60) 23 0 = 4 := by decide +kernel
theorem witness_bar2 :
    Serves up .pf = true ∧ 2 ^ 36 < (2 ^ 36 - 3) + 4 ∧ (2 ^ 36 - 4) + 4 ≤ 2 ^ 36 ∧ dpaGrantable 0 = true ∧ up.blockBad 0 = false ∧
    dpaGrantable (2 ^ 46 - 1) = false ∧ ({ up with bad := [(0, true)] } : State).blockBad 0 = true ∧ dpaStack 0 = some 0 ∧ (up.floor 0).failed = false := by
  decide +kernel
/-- Partition 0 with a residency table of two entries at 0xA000, entry 0 with some words, a pool of four pages. -/
def residency (ws : List (Nat × Nat)) : State :=
  let b := partBase 0
  (((((queued 0x3000 []).setReg64 (b + 0x6020) 0xA000).setReg (b + 0x6028) 2#32).setReg (b + 0x6034) 4#32).setBytes 0xA000 (words 32 ws)).setBytes
    0xB000 (words 16 [(0, 0x10001), (4, 0x10001)] ++
      words 16 [(0, 0x20000000), (8, 128), (0xC, 64), (0x10, 0x400040), (0x14, 0x10001), (0x18, 0x10000), (0x20, 0x10000), (0x28, 0x8000)])
theorem witness_residency :
    let s := fun w0 => residency [(0, w0), (4, 1), (0x10, 0xB000), (0x18, 0xB000), (0x58, 0)]
    Serves (s 1) (.vf 0) = true ∧ ((s 1).part 0).res = none ∧ 1 < resCount (s 1) 0 ∧ resCount (s 1) 0 ≤ 2 ∧ (s 1).holding = false ∧
    (s 1).pdaOk 0 (resAddr (s 1) 0 0) 128 true = true ∧ resBad (s 1) 0 0 = false ∧ resBad (s 0x20000001) 0 0 = true ∧ resBad (s 0) 0 0 = true ∧
    resIn (s 1) 0 0xA000 = false ∧ resIn (s 0x80000001) 0 0xA000 = true ∧ resLoading (s 1) 0 0xA000 = false ∧ resLoading (s 0x40000001) 0 0xA000 = true ∧
    entRefs (s 1) 0 0xA040 = 0 ∧ (loadOp 0 0 0 0xA000 (s 1)).1 = none ∧ poolRun (s 1) 0 4 = some 0 ∧ poolRun (s 1) 0 5 = none := by decide +kernel
theorem witness_load_layouts :
    let s := residency [(0, 1), (4, 1), (0x10, 0xB000), (0x18, 0xB000)]
    (s.loadLayouts 0 0xA000).1.any (fun l => loadLayoutsOk 0 l.1 l.2) = true ∧ (s.loadLayouts 0 0xA000).1.any (fun l => !loadLayoutsOk 1 l.1 l.2) = true ∧
    ((residency [(0, 1), (0x10, 2 ^ 31)]).loadLayouts 0 0xA000).1 = none := by decide +kernel
theorem witness_load_end :
    let s := (residency [(0, 0x40000001), (4, 1), (0xC, 0x80000000), (0x10, 0xB000), (0x18, 0xB000)]).modPart 0 fun p =>
      { p with res := some { entry := 0, signal := 0 } }
    s.holding = false ∧ (s.part 0).res.isSome = true ∧ loadSourceOk (s.peek64 0 0xA008) .hostFailed = true ∧
    loadSourceOk (s.peek64 0 0xA008) (.host []) = true ∧ loadSourceOk (s.peek64 0 0xA008) (.deviceRead .clean) = false ∧
    (match s.loadLayouts 0 0xA000 with
     | (some (sl, dl), u) => (match (u.loadBlocks 0 0 0 (loadJob 0 u 0xA000 sl dl) .hostFailed).1 with | .failed 8 => true | _ => false)
     | _ => false) = true := by decide +kernel

/-- R415 and R414: GROW of 64 positions gives layer 0's first page the lowest free page of vale 0. -/
theorem test_grow :
    let s := record 1 0 (asked [(0, 2), (8, 64)])
    let s := s.setBytes 0xB000 (List.replicate 8 0xFF)
    ((growOp 0 (s.peek 0 0x8000 32) s).2.peek32 0 0xB000) = 0 ∧ ((growOp 0 (s.peek 0 0x8000 32) s).2.peek32 0 0xB004) = 0xFFFFFFFF := by decide +kernel
/-! ### Health, fences, digests, terraces -/

/-- A part in READY whose beat runs, at an edge of the given number. -/
def beatEdge (b : Nat) : State :=
  { up with beat := { Beat.reset with num := BitVec.ofNat 64 b, state := .locked, everLocked := true, counted := true } }
theorem witness_health_update :
    let s := beatEdge 256
    s.live = true ∧ hmUpdateOk s = true ∧ hmUpdateOk (beatEdge 255) = false ∧
    hmUpdateOk { s with health := { s.health with last := some 256 } } = false ∧ (0 < 8 ∧ 7 < 8) ∧ Serves s .pf = true ∧ s.holding = false ∧
    ((s.setReg 0x103054 0#32).regF 0x103054 15 0 ≤ 0) := by decide +kernel
theorem witness_health_terrace :
    let s := ((beatEdge 256).setReg 0x103040 4#32).setReg 0x103044 0x10000#32
    s.regBit 0x103040 2 = true ∧ s.regBit 0x103044 16 = true ∧ (s.setReg 0x103050 0#32).regF 0x103050 15 0 = 0 := by decide +kernel
theorem witness_fences :
    (up.vale 127).fenced = false ∧ 127 < 128 ∧ (withPart.vale 0).owner = some 0 ∧ (up.vale 0).owner = none ∧ up.resetting .health = false ∧
    ((up.modVale 3 fun v => { v with fenced := true }).vale 3).fenced = true ∧ up.holding = false ∧
    ({ up with terrace := { Terrace.reset with hold := some 0 } } : State).holding = true ∧ fenceUnitOf (.seq 127) = some 127 ∧
    fenceUnitOf (.plain 0) = some 128 ∧ fenceUnitOf .device = none ∧ up.resetting (.seq 127) = false ∧ Serves up .pf = true := by decide +kernel
theorem witness_digest :
    let d := fun b => { withPart.modPart 0 fun p => { p with digest := some { started := false, signal := 5, beat := 3 } } with
      beat := { Beat.reset with num := BitVec.ofNat 64 b } }
    let e := (mapped withPart).modPart 0 fun p => { p with digest := some { started := true, signal := 5, beat := 0 } }
    Serves withPart (.vf 0) = true ∧ (withPart.part 0).digest = none ∧ (withPart.part 1).mode = .free ∧ ((d 3).part 0).digest.isSome = true ∧
    3 ≤ (d 3).beatNum ∧ (d 2).beatNum < 3 ∧ (e.part 0).digest = some { started := true, signal := 5, beat := 0 } ∧ e.live = true := by decide +kernel
theorem witness_digest_read :
    let s := ((mapped withPart).setReg64 (partBase 0 + 0x7000) 0x1000).setReg64 (partBase 0 + 0x7008) 16
    (∃ bs u, s.readPda 0 (s.reg64 (partBase 0 + 0x7000)) (s.reg64 (partBase 0 + 0x7008)) = (.ok bs, u)) ∧
    (∃ u, s.readPda 0 (2 ^ 47) 16 = (.access, u)) := ⟨⟨_, _, rfl⟩, ⟨_, rfl⟩⟩
theorem witness_terrace_commands :
    Serves up .pf = true ∧ up.holding = false ∧ up.terrace.pushing = false ∧ up.terrace.restoring = false ∧ (withPart.part 0).mode ≠ .free ∧
    Serves withPart .pf = true ∧ (List.range 16).all (fun n => (up.part n).mode == .free) = true ∧
    Serves { up with terrace := { up.terrace with hold := some 0 } } .pf = true ∧ ({ up with terrace := { up.terrace with hold := some 0 } } : State).holding = true ∧
    ({ up with terrace := { up.terrace with pushing := true } } : State).terrace.pushing = true := by decide +kernel
theorem witness_hold :
    let s := { beatEdge 5 with terrace := { Terrace.reset with riskDue := true } }
    let n := { beatEdge 5 with health := { Health.reset with nowDue := some 0 } }
    holdStartOk s = true ∧ holdStartOk n = true ∧ holdStartOk (beatEdge 5) = false ∧ s.live = true ∧
    ({ s with terrace := { s.terrace with hold := some 0, fencesDue := [(127, 6)] } } : State).terrace.fencesDue = [(127, 6)] ∧
    pushEndOk { up with terrace := { up.terrace with pushing := true } } = true ∧ pushEndOk up = false := by decide +kernel
theorem witness_restore :
    let s := fun (st : TerraceState) (revs : List Nat) => ({ up with terrace := { up.terrace with restoring := true, state := st, revs := revs } } : State)
    (s .empty []).terrace.restoring = true ∧ (s .empty []).holding = false ∧ (s .empty []).terrace.state ≠ .valid ∧ (s .valid []).terrace.state = .valid ∧
    (s .valid []).terrace.revs ≠ revisions (s .valid []) ∧ (s .valid (revisions up)).terrace.revs = revisions (s .valid (revisions up)) :=
  ⟨by decide +kernel, by decide +kernel, by decide +kernel, by decide +kernel, nofun, rfl⟩
theorem witness_reissue :
    let c := { command [(0, 0x100), (0x3C, 1)] [] with fetch := [] }
    let l := ran (command [(0x3C, 1)] [(0x90, 0)])
    let f := fun (c : Cmd) => ((holding c).modVale 0 fun v => { v with fenced := true }).modVale 1 fun v => { v with owner := some 0 }
    let h := command [] []
    reissueOk 0 (f h) = true ∧ (f h).cmd 0 = some h ∧ lostStore (f h) h = false ∧ reissueVale (f h) h = some 1 ∧ lostStore (f l) l = true ∧
    reissueOk 0 (f l) = true ∧ reissueOk 0 (holding c) = false ∧
    reissueVale ((f h).setReg (pcfg 0 + 0xC8) 0x200#32) h = none := by decide +kernel
/-! ### Resets and boot -/

/-- A module in a boot phase. -/
def phaseAt (n : Nat) : State := { State.reset with boot := { Boot.reset with phase := n } }
/-- A module whose RESET_N is low, with a latched trip that the reset has cleared or not. -/
def low (tripped cleared : Bool) : State :=
  { State.reset with boot := { Boot.reset with resetLow := true, tripped := tripped, tripCleared := cleared } }
/-- A flash slot with a valid image header in a state. -/
def slotWith (state slot : Nat) (m : Mp) : Mp :=
  m.setFlash (slotBase slot) (headerBytes { len := 512, state := state, stamp := List.replicate 64 1, rev := 1, fmt := 0, min := 0 })
theorem witness_resets :
    up.live = true ∧ up.resetting .device = false ∧ (withPart.part 0).mode = .active ∧ Serves up (.vf 15) = true ∧ 999 < 1000 ∧
    (low true false).boot.resetLow = true ∧ up.boot.resetLow = false ∧ (low true true).boot.tripCleared = true ∧ (low false false).boot.tripped = false := by
  decide +kernel
theorem witness_interrupt_message :
    let s := (up.modMsix 0 3 fun e => { e with pending := true }).modFn 0 fun f => { f with msixOn := true }
    Serves s .pf = true ∧ (s.msixOf 0 3).pending = true ∧ (s.fn 0).fnMask = false ∧ (s.fn 0).msixOn = true ∧ 3 < vectorsOf 0 ∧
    vectorsOf 0 ≤ vectorsOf 0 := by decide +kernel
theorem witness_translation_invalidation :
    ((up.modFn 1 fun f => { f with ats := true }).fn 1).ats = true ∧ (up.fn 1).ats = false := by decide +kernel
theorem witness_boot_phases :
    (phaseAt 1).live = true ∧ (phaseAt 1).boot.phase = 1 ∧ (phaseAt 4).boot.phase ≠ 3 ∧ (16 : Fin 20).val ≥ 16 ∧ (15 : Fin 20).val < 16 ∧
    (bootChoice (phaseAt 2).mp fun _ => true).1 = none ∧
    (bootChoice (slotWith 0 1 Mp.reset) fun _ => true) = (some (1, 0), 1) ∧
    (bootChoice (slotWith 0 1 Mp.reset) fun _ => false).1 = none ∧ (phaseAt 5).linkEn 31 = true ∧
    ((phaseAt 5).setRegF (pageBase (.link 31) + 0x40) 0 0 0).linkEn 31 = false ∧ ((phaseAt 5).link 31).state = .down := by decide +kernel
theorem witness_warm_start :
    let s := { phaseAt 3 with boot := { Boot.reset with phase := 3, count := 7, marker := some 6 } }
    warmStart (List.replicate 20 true) s = true ∧ warmStart (List.replicate 19 true) s = false ∧ warmStart (List.replicate 20 true) (phaseAt 3) = false := by
  decide +kernel
theorem witness_supply :
    State.reset.boot.powered = true ∧ ({ up with boot := { up.boot with powered := false } } : State).boot.powered = false ∧ up.mpLive = true ∧
    up.boot.tripped = false := by decide +kernel
theorem witness_reset_canonical : (low true false).Canonical ∧ up.Canonical := by
  constructor <;> constructor <;> decide +kernel

/-! ### The census -/

/-- A headwater in READY. -/
def headwater : State := { up with boot := { up.boot with headwater := true } }
/-- A census flit on link 31. -/
def censusFlit : RxFlit := ⟨4, 16, 0, 0, true, [], 0, 0⟩
/-- A headwater that gathers, its window over or not. -/
def gathers (expect clock : Nat) (conflict : Bool) : State :=
  { headwater with
    clock := clock
    census := { Census.reset with
      running := true, gathering := true, expect := expect, window := 2, reports := [⟨1, 0, []⟩], conflict := conflict } }
theorem witness_census_start :
    let h := { headwater with clock := 7350000000, boot := { headwater.boot with releaseClock := 0 } }
    Serves headwater .pf = true ∧ censusStartOk headwater = true ∧ censusStartOk up = false ∧ autoStartOk h = true ∧
    autoStartOk { h with clock := 7349997900 } = false ∧ autoStartOk (h.setReg 0x154 1#32) = false := by decide +kernel
theorem witness_census_message :
    let s := up.modLink 31 fun l => { l with state := .up, rx := [censusFlit] }
    s.live = true ∧ s.ready = true ∧ (s.link 31).rx.find? (fun x => x.type == 4 && x.vc == 16) = some censusFlit ∧
    (up.link 31).rx.find? (fun x => x.type == 4 && x.vc == 16) = none ∧ (phaseAt 5).ready = false ∧ 1#32 ≠ s.reg 0x154 ∧ s.reg 0x154 = 0#32 := by
  decide +kernel
theorem witness_census_call :
    headwater.boot.headwater = true ∧ up.boot.headwater = false ∧ up.census.calls = [] ∧ up.resetting .device = false ∧
    (let s := { up with census := { up.census with calls := [(1, 2)] } }
     (1, 2) ∈ s.census.calls ∧ (∃ x ∈ s.census.calls, x.2 ≠ 3)) := by
  refine ⟨by decide +kernel, by decide +kernel, by decide +kernel, by decide +kernel, by decide, ⟨(1, 2), by decide, by decide⟩⟩
theorem witness_gather_close :
    gatherCloseOk (gathers 1 0 false) = true ∧ gatherCloseOk (gathers 2 0 false) = false ∧ gatherCloseOk (gathers 2 4200000 false) = true ∧
    gatherCloseOk (gathers 2 4199999 false) = false ∧ gatherCloseOk (gathers 0 0 true) = false ∧ gatherCloseOk (gathers 1 0 true) = true ∧
    (gathers 1 0 true).census.conflict = true ∧ (gathers 1 0 true).live = true := by decide +kernel
theorem other_serial : Config.serial + 1#64 ≠ Config.serial := by
  intro h
  bv_omega
theorem witness_census_routes :
    let s := { up with census := { up.census with gatherLink := some 31, routes := [(Config.serial + 1#64, 30)] } }
    s.boot.headwater = false ∧ s.census.gatherLink = some 31 ∧ s.census.routes.find? (·.1 == Config.serial + 1#64) = some (Config.serial + 1#64, 30) ∧
    Config.serial + 1#64 ≠ Config.serial ∧ up.regF 0x14C 3 0 < 3 ∧ (up.setReg 0x14C 3#32).regF 0x14C 3 0 = 3 ∧ (up.setReg 0x14C 6#32).regF 0x14C 3 0 = 6 :=
  ⟨by decide +kernel, rfl, by simp, other_serial, by decide +kernel, by decide +kernel, by decide +kernel⟩
theorem witness_census_ids :
    let a : CensusReport := ⟨1, 0, [⟨0, 6, 2, 5⟩]⟩
    let b : CensusReport := ⟨2, 0, [⟨5, 6, 1, 0⟩]⟩
    (assignIds [a, b] a)[1]?.any (fun d => d.id == 1 && d.report == b && d.depth == 1) = true := by decide +kernel

/-! ### Management -/

/-- A slot offered to the update of the other slot. -/
def offer : Offer := ⟨0x000A, 1, 1, [], 512⟩
/-- A part in update mode by I3C with some progress. -/
def updating (f : UpdateSt → UpdateSt) (s : State) : State :=
  { s with mp := { s.mp with update := some (f ⟨.i3c, 7, 256, false, none, 0, 0, false, false⟩) } }
theorem witness_transports :
    up.mctpUp .pcie = true ∧ up.mctpUp .i3c = true ∧ (phaseAt 1).mctpUp .i3c = false ∧ (phaseAt 15).boot.phase = 15 ∧
    ({ up with boot := { up.boot with tripped := true } } : State).mctpUp .pcie = false ∧
    ({ up with boot := { up.boot with tripped := true } } : State).mctpUp .i3c = true ∧ up.boot.phase ≠ 15 ∧ up.mpServes = true ∧ (phaseAt 2).mpServes = false ∧
    (up.reg (sensAddr 1)).getLsbD 31 = false ∧ ((up.setReg (sensAddr 48) 0x80000000#32).reg (sensAddr 48)).getLsbD 31 = true := by decide +kernel
theorem witness_event_window :
    let s := fun c => { up with clock := c, mp := { up.mp with events := [(1, ⟨1, true, some 0⟩)] } }
    (sensorEvent (s 0).mp 1).window.isSome = true ∧ windowOpen (s 0) (sensorEvent (s 0).mp 1) = true ∧
    windowOpen (s 2100000000) (sensorEvent (s 2100000000).mp 1) = false ∧ (sensorEvent up.mp 1).window = none := by decide +kernel
theorem witness_spdm :
    let s := fun k => { up with mp := { up.mp with spdmPcie := k } }
    (s 3).spdm .pcie = 3 ∧ (s 0).spdm .pcie < 1 ∧ (s 2).spdm .pcie < 3 ∧ measurements up 7 = none ∧ measurements up 0 = some [6#8] := by decide +kernel
theorem witness_update_mode :
    let s := updating id up
    up.mp.update = none ∧ s.mp.update.isSome = true ∧ offerOk offer = true ∧ offerOk { offer with imageLen := 511 } = false ∧
    s.mp.resumes s.otherSlot offer = false ∧ s.otherSlot = 1 ∧ s.mctpUp .i3c = true ∧ (1 ≠ 0 ∧ 0 = 0) ∧ s.staging 1 = false ∧
    (updating (fun u => { u with offer := some offer }) up).staging 1 = true ∧ s.mp.selectable 1 = false ∧
    (updating id { up with mp := slotWith 0 1 up.mp }).mp.selectable 1 = true := by decide +kernel
theorem witness_update_resumes :
    (slotWith 2 1 Mp.reset).headerValid 1 = true ∧ (slotWith 2 1 Mp.reset).slotState 1 = 2 ∧
    (slotWith 2 1 Mp.reset).resumes 1 { offer with imageLen := 513 } = false := by decide +kernel
theorem witness_update_resumed :
    (Mp.reset.setFlash (slotBase 1) (headerBytes { len := 512, state := 2, stamp := stampOf offer, rev := 0, fmt := 0, min := 0 })).resumes 1 offer = true := by
  decide +kernel
theorem witness_firmware_data :
    let m : UpdateSt := ⟨.i3c, 7, 256, false, some offer, 256, 0, false, false⟩
    min (min m.maxTransfer 1024) (min (8192 - m.next % 8192) (offer.imageLen - m.next)) = 256 ∧ m.next ≤ offer.imageLen ∧
    offer.imageLen ≤ 0x3EE0000 ∧ 256 + 256 = offer.imageLen ∧ m.verifying = false ∧ m.passed = false := by decide +kernel
theorem witness_slot_verify :
    let s := updating (fun u => { u with offer := some offer, verifying := true }) up
    s.mp.update.any (fun u => u.verifying) = true ∧ s.mpServes = true ∧ s.resetting .mp = false ∧
    s.mp.update.any (fun m => decide (m.lastClock + 252000000000 ≤ 252000000000)) = true := by decide +kernel
theorem witness_mailbox :
    up.live = true ∧ (up.ready = true ∨ up.boot.phase = 15) ∧ (up.fn 0).d3 = false ∧ (phaseAt 5).ready = false ∧ (phaseAt 5).boot.phase ≠ 15 ∧
    settingKey 0 = false ∧ settingKey 1 = true ∧ settingKey 5 = true ∧ settingKey 6 = false ∧ settingKey 0x101 = false ∧ settingKey 0x102 = true ∧
    settingKey 0x15F = true ∧ settingKey 0x160 = false ∧ up.mbArg 0 = up.mp.ffCount ∧ (up.setReg 0x3F00044 1#32).mbArg 0 ≠ up.mp.ffCount ∧
    up.resetting .mp = false ∧ (slotWith 0 1 Mp.reset).selectable 1 = true := by decide +kernel
theorem witness_moraine :
    let e : MorEntry := ⟨.censusConflict, 0, 0, 0, []⟩
    let s := { up with boot := { up.boot with startRecorded := true }, mp := { up.mp with queue := [e] } }
    s.mpLive = true ∧ s.boot.startRecorded = true ∧ s.mp.queue = e :: [] ∧ s.mp.dropped = 0 ∧ up.mp.queue = [] ∧
    ({ s with mp := { s.mp with dropped := 1 } } : State).mp.dropped = 1 ∧ intervalEndOk (beatEdge 256) = true ∧ intervalEndOk (beatEdge 255) = false ∧
    (beatEdge 256).mp.queue.length + (suppressedEntries (beatEdge 256)).length ≤ 1024 := by decide +kernel

/-! ### Codebooks -/

/-- R76: an infinity selects the largest or the smallest entry, -0 below +0, and the lower code among equals. -/
theorem test_codebook_infinite :
    quantCodebook [e4m3.decode 0x38, e4m3.decode 0xC0, e4m3.decode 0x44, e4m3.decode 0xC0] (.inf true) = ⟨1, Flags.inexact⟩ ∧
      quantCodebook [e4m3.decode 0x38, e4m3.decode 0xC0, e4m3.decode 0x44, e4m3.decode 0xC0] (.inf false) = ⟨2, Flags.inexact⟩ ∧
      quantCodebook [e4m3.decode 0x00, e4m3.decode 0x80] (.inf true) = ⟨1, Flags.inexact⟩ := by
  decide +kernel

end Sys2Proof.Tests
end

section
/-! PROOFS. BeatNumber: what changes BEAT_NUM (R37). Most commands never reach the beat unit, which their lemmas of Laws/Leads*.lean say;
for the others the number is followed through the operations of the beat unit. -/

namespace Sys2Proof.Machine

/-! ### What never reaches the beat unit -/

/-- To use a `Leads` lemma of work that leaves the beat unit alone: F lets every other field change. -/
theorem of_leads_but_beat {P : Prop} (h : ∀ F : StateField → Bool, F .beat = false → ∀
    [May F .clock] [May F .free] [May F .out] [May F .regs] [May F .shadows] [May F .mem] [May F .bad] [May F .beatBefore]
    [May F .fns] [May F .msix] [May F .grants] [May F .grantOp] [May F .vales] [May F .parts] [May F .slots] [May F .links]
    [May F .turns] [May F .floors] [May F .echo] [May F .tests] [May F .credits] [May F .granted] [May F .resets] [May F .health]
    [May F .terrace] [May F .boot] [May F .census] [May F .mp] [May F .pins], P) : P :=
  @h (fun f => f != .beat) rfl
    ⟨rfl⟩ ⟨rfl⟩ ⟨rfl⟩ ⟨rfl⟩ ⟨rfl⟩ ⟨rfl⟩ ⟨rfl⟩ ⟨rfl⟩ ⟨rfl⟩ ⟨rfl⟩ ⟨rfl⟩ ⟨rfl⟩ ⟨rfl⟩ ⟨rfl⟩ ⟨rfl⟩
    ⟨rfl⟩ ⟨rfl⟩ ⟨rfl⟩ ⟨rfl⟩ ⟨rfl⟩ ⟨rfl⟩ ⟨rfl⟩ ⟨rfl⟩ ⟨rfl⟩ ⟨rfl⟩ ⟨rfl⟩ ⟨rfl⟩ ⟨rfl⟩ ⟨rfl⟩

/-- Work that leaves the beat unit alone keeps it. -/
theorem State.Leads.beat {F : StateField → Bool} {s t : State} (h : State.Leads F s t) (hF : F .beat = false) : t.beat = s.beat :=
  h.within .beat hF

@[simp] theorem State.pass_beat (s : State) (k : Nat) : (s.pass k).beat = s.beat :=
  of_leads_but_beat fun F hF => (State.pass_leads (F := F) k (.refl F s)).beat hF

@[simp] theorem State.passTo_beat (s : State) (t : Nat) : (s.passTo t).beat = s.beat := State.pass_beat s _

@[simp] theorem State.voidMetered_beat (s : State) (code : Nat) : (s.voidMetered code).beat = s.beat :=
  of_leads_but_beat fun F hF => (State.voidMetered_leads (F := F) code (.refl F s)).beat hF

@[simp] theorem State.storeFields_beat (s : State) (a : Nat) (v : Word) (p : RegRow → Bool) : (s.storeFields a v p).beat = s.beat :=
  of_leads_but_beat fun F hF => (State.storeFields_leads (F := F) a v p (.refl F s)).beat hF

@[simp] theorem State.storeReg_beat (s : State) (a : Nat) (v : Word) : (s.storeReg a v).beat = s.beat :=
  of_leads_but_beat fun F hF => (State.storeReg_leads (F := F) a v (.refl F s)).beat hF

@[simp] theorem State.fabricReady_beat (s : State) : s.fabricReady.beat = s.beat :=
  of_leads_but_beat fun F hF => (State.fabricReady_leads (.refl F s)).beat hF

theorem writeBlkCtl_beat (pg : Page) (v : Word) (s : State) : (writeBlkCtl pg v s).beat = s.beat :=
  of_leads_but_beat fun F hF => (writeBlkCtl_leads pg v (.refl F s)).beat hF

theorem writePart_beat (n : PartId) (o : Nat) (v : Word) (s : State) : (writePart n o v s).beat = s.beat :=
  of_leads_but_beat fun F hF => (writePart_leads n o v (.refl F s)).beat hF

theorem writeMsix_beat (fn : Fn) (x : Nat) (v : Word) (s : State) : (writeMsix fn x v s).beat = s.beat :=
  of_leads_but_beat fun F hF => (writeMsix_leads fn x v (.refl F s)).beat hF

theorem writeCfg_beat (fn : Fn) (ofs : Nat) (v : BitVec 64) (s : State) : (writeCfg fn ofs v s).beat = s.beat :=
  of_leads_but_beat fun F hF => (writeCfg_leads fn ofs v (.refl F s)).beat hF

theorem State.foldl_watchStall_beat (s : State) (gs : List Nat) : (gs.foldl (fun s g => s.watchStall g) s).beat = s.beat :=
  of_leads_but_beat fun F hF =>
    (State.leads_foldl (.refl F s) fun _ g k => State.watchStall_leads g k).beat hF

theorem State.foldl_recheckCmd_beat (s : State) (es : List (Nat × Cmd)) : (es.foldl (fun s e => s.recheckCmd e.1) s).beat = s.beat :=
  of_leads_but_beat fun F hF =>
    (State.leads_foldl (.refl F s) fun _ e k => State.recheckCmd_leads e.1 k).beat hF

/-! ### The operations of the beat unit -/

@[simp] theorem State.modBeat_beat (s : State) (f : Beat → Beat) : (s.modBeat f).beat = f s.beat := rfl

theorem State.enterLock_num (s : State) (x : Nat) (ps : List Nat) : (s.enterLock x ps).beat.num = s.beat.num := by
  simp [State.enterLock]

theorem State.measure_num (s : State) (x : Nat) : (s.measure x).beat.num = s.beat.num := by
  unfold State.measure
  split
  · rfl
  · extract_lets ps
    split
    · exact State.enterLock_num ..
    · rfl

theorem State.lockedCross_num (s : State) (x : Nat) : (s.lockedCross x).beat.num = s.beat.num := by
  unfold State.lockedCross
  split
  · rfl
  · simp

@[simp] theorem State.lockFromFly_num (s : State) : s.lockFromFly.beat.num = s.beat.num := by
  simp [State.lockFromFly]

theorem State.phaseFaulted_num (s : State) : s.phaseFaulted.beat.num = s.beat.num := by
  simp [State.phaseFaulted]

theorem State.returned_num (s : State) (x : Nat) : (s.returned x).beat.num = s.beat.num := by
  unfold State.returned
  extract_lets d e s₁ s₂
  have h₁ : s₁.beat.num = s.beat.num := by simp [s₁]
  have h₂ : s₂.beat.num = s₁.beat.num := by unfold s₂; split <;> rfl
  split
  · exact h₁
  · rw [State.lockFromFly_num, h₂, h₁]

theorem State.flyCross_num (s : State) (x : Nat) : (s.flyCross x).beat.num = s.beat.num := by
  unfold State.flyCross
  dsimp only
  split
  · rfl
  · split
    · split
      · split
        · exact State.returned_num ..
        · rfl
      · exact State.phaseFaulted_num s
    · split
      · rfl
      · exact State.phaseFaulted_num s

theorem State.crossing_num (s : State) (x : Nat) : (s.crossing x).beat.num = s.beat.num := by
  unfold State.crossing
  split
  · rfl
  · exact State.measure_num ..
  · exact State.lockedCross_num ..
  · exact State.flyCross_num ..
  · exact State.flyCross_num ..
  · rfl

theorem State.slewStep_num (s : State) : s.slewStep.beat.num = s.beat.num := by
  unfold State.slewStep
  split
  · dsimp only
    split <;> simp
  · rfl

@[simp] theorem State.flyStep_num (s : State) (p : Nat) : (s.flyStep p).beat.num = s.beat.num := by
  simp [State.flyStep]

@[simp] theorem State.dropLock_num (s : State) : s.dropLock.beat.num = s.beat.num := by
  unfold State.dropLock
  rw [State.modBeat_beat]
  split <;> rfl

/-! ### The effects of the commands that reach the beat unit -/

theorem beatCrossingDo_num (falling : Bool) (gap : Nat) (s : State) : (beatCrossingDo falling gap s).beat.num = s.beat.num := by
  unfold beatCrossingDo
  split
  · dsimp only
    split
    · rw [State.crossing_num, State.pass_beat]
    · rw [State.pass_beat]
  · rfl

/-- The internal edge counts as `Beat.step` says, whatever slewing does with it. -/
theorem beatEdgeDo_num {s : State} {x : Nat} {rest : List Nat} (late : Bool) (due : s.beat.edgesDue = x :: rest) :
    (beatEdgeDo late s).beat.num = if s.beat.counted then s.beat.num + 1 else s.beat.num := by
  simp only [beatEdgeDo, due, State.foldl_watchStall_beat, State.slewStep_num, State.passTo_beat, Beat.step]

theorem beatLossDo_num (s : State) : (beatLossDo s).beat.num = s.beat.num := by
  simp [beatLossDo]

theorem flywheelEdgeDo_num (s : State) : (flywheelEdgeDo s).beat.num = s.beat.num := by
  unfold flywheelEdgeDo
  split <;> simp

theorem flywheelExpiryDo_num (s : State) : (flywheelExpiryDo s).beat.num = s.beat.num := by
  simp [flywheelExpiryDo]

theorem relockDo_num (s : State) : (relockDo s).beat.num = s.beat.num := by
  unfold relockDo
  extract_lets pol s₁ s₂
  have h : s₂.beat.num = s.beat.num := by unfold s₂; split <;> simp [s₁]
  split
  · exact h
  · rw [State.dropLock_num, h]

theorem rearmDo_num (s : State) : (rearmDo s).beat.num = s.beat.num := by
  unfold rearmDo
  split
  · rfl
  · rw [State.foldl_recheckCmd_beat]

theorem beatEnDo_num (en : Bool) (s : State) : (beatEnDo en s).beat.num = s.beat.num := by
  unfold beatEnDo
  split
  · rfl
  · dsimp only
    split <;> simp

/-- The headwater's ASSIGN makes its number the fabric's origin, and no more (R524). -/
theorem State.assignAll_num (s : State) : s.assignAll.beat.num = s.beat.num := by
  unfold State.assignAll
  extract_lets rs fs kids s₁ own s₂ s₃ b s₄
  have h₃ : s₃.beat = s.beat := of_leads_but_beat fun F hF =>
    (State.leads_foldl (State.fabricState_leads _ (State.takeId_leads _ (State.modCensus_leads _ (.refl F s))))
      fun _ f k => State.sendDown_leads _ _ k).beat hF
  have h₄ : ((kids.foldl State.queueBeat s₄).leaveOut fs).beat = s₄.beat := of_leads_but_beat fun F hF =>
    (State.leaveOut_leads fs (State.leads_foldl (.refl F s₄) fun _ k h => State.queueBeat_leads k h)).beat hF
  rw [h₄, ← h₃]

theorem gatherCloseDo_num (s : State) : (gatherCloseDo s).beat.num = s.beat.num := by
  unfold gatherCloseDo
  dsimp only
  split
  · rfl
  · split
    · rw [State.fabricReady_beat, State.assignAll_num]; rfl
    · rw [State.assignAll_num]; rfl

/-! ### Register writes: BEAT_CTL alone reaches the beat unit -/

theorem onBit_num {f : State → State} (hf : ∀ s, (f s).beat.num = s.beat.num) (v : Word) (i : Nat) (s : State) :
    (onBit v i f s).beat.num = s.beat.num := by
  unfold onBit
  split
  · exact hf s
  · rfl

theorem writeBeatCtl_num (v : Word) (s : State) : (writeBeatCtl v s).beat.num = s.beat.num := by
  unfold writeBeatCtl
  rw [onBit_num rearmDo_num, onBit_num relockDo_num, beatEnDo_num, State.storeFields_beat]

theorem writeDevice_num (o : Nat) (v : Word) (s : State) : (writeDevice o v s).beat.num = s.beat.num := by
  by_cases h : o = 0x40
  · rw [writeDevice, if_pos h, writeBeatCtl_num]
  · refine congrArg Beat.num (of_leads_but_beat fun F hF => State.Leads.beat (F := F) ?_ hF)
    simp (maxDischargeDepth := 99) +contextual [writeDevice, h]

theorem writePf_num (pg : Page) (o : Nat) (v : Word) (s : State) : (writePf pg o v s).beat.num = s.beat.num := by
  by_cases h : pg = .device
  · subst h
    exact writeDevice_num o v s
  · refine congrArg Beat.num (of_leads_but_beat fun F hF => State.Leads.beat (F := F) ?_ hF)
    unfold writePf
    split
    · exact absurd rfl h
    all_goals simp (maxDischargeDepth := 99) +contextual

theorem writeReg_num (pg : Page) (o : Nat) (v : Word) (s : State) : (writeReg pg o v s).beat.num = s.beat.num := by
  unfold writeReg
  split
  · rw [writeBlkCtl_beat]
  · split
    · split
      · rw [State.raise_beat]
      · rfl
    · split
      · rw [State.storeReg_beat]
      · split
        · rw [writePart_beat]
        · exact writePf_num ..

theorem writeWord_num (fn : Fn) (ofs : Nat) (v : Word) (s : State) : (writeWord fn ofs v s).beat.num = s.beat.num := by
  unfold writeWord
  split
  · rw [writeMsix_beat]
  · split
    · exact writeReg_num ..
    · rfl

theorem writeBar_num (fn : Fn) (ofs width : Nat) (v : BitVec 64) (s : State) : (writeBar fn ofs width v s).beat.num = s.beat.num := by
  unfold writeBar
  split
  · exact writeWord_num ..
  · split
    · rw [writeWord_num, writeWord_num]
    · rfl

/-! ### The commands -/

/-- Where the outcome is a next state, it holds the same BEAT_NUM. -/
def State.NumKept (s : State) (o : Host.Outcome State Fault Refusal) : Prop := ∀ t, o = .next t → t.beat.num = s.beat.num

theorem State.LeadsOut.numKept {F : StateField → Bool} {s : State} {o : Host.Outcome State Fault Refusal} (h : State.LeadsOut F s o)
    (hF : F .beat = false) : s.NumKept o := fun t e => congrArg Beat.num ((h.out t e).beat hF)

theorem State.numKept_act {s : State} {f : State → State} (h : (f s).beat.num = s.beat.num) : s.NumKept (act s f) := by
  rintro t ⟨⟩
  split
  · exact h
  · rfl

theorem State.numKept_actBar {fn : Fn} {s : State} {f : State → State} (h : (f s).beat.num = s.beat.num) : s.NumKept (actBar fn s f) :=
  State.numKept_act (by split <;> simp [h])

theorem State.numKept_actAt {mp : Bool} {fn : Fn} {s : State} {f : State → State} (h : (f s).beat.num = s.beat.num) :
    s.NumKept (actAt mp fn s f) := by
  unfold actAt
  split
  · exact State.numKept_act (by split <;> simp [h])
  · exact State.numKept_actBar h

/-- A command whose effect waits for a condition. -/
theorem State.numKept_act_ite {s : State} {p : State → Bool} {f : State → State} (h : (f s).beat.num = s.beat.num) :
    s.NumKept (act s fun s => if p s then f s else s) :=
  State.numKept_act (by split <;> simp [h])

theorem execRegisterWrite_numKept (sp : Space) (ofs width : Nat) (v : BitVec 64) (s : State) :
    s.NumKept (execRegisterWrite sp ofs width v s) := by
  cases sp with
  | bar fn => exact State.numKept_actAt (writeBar_num ..)
  | cfg fn => exact State.numKept_act_ite (congrArg Beat.num (writeCfg_beat fn ofs v s))

/-- R37, R55: BEAT_NUM stays through every command but the edge, the message that can bring a number by the transfer rule, and module
reset. -/
theorem exec_numKept (c : Instr) (s : State) (notEdge : ∀ late, c ≠ .beatEdge late) (notMessage : ∀ k, c ≠ .beatMessage k)
    (notReset : ∀ ns, c ≠ .resetAssert ns) : s.NumKept (exec c s) :=
  of_leads_but_beat fun _ hF =>
    match c with
    | .registerWrite sp ofs width v => execRegisterWrite_numKept sp ofs width v s
    | .rcFieldRead .. => (execRcFieldRead_leads ..).numKept hF
    | .lowWordRead .. => (execLowWordRead_leads ..).numKept hF
    | .cgTestOutRead => (execCgTestOutRead_leads).numKept hF
    | .irqStatWrite .. => (execIrqStatWrite_leads ..).numKept hF
    | .irqForceWrite .. => (execIrqForceWrite_leads ..).numKept hF
    | .softReset .. => (execSoftReset_leads ..).numKept hF
    | .softResetEnd .. => (execSoftResetEnd_leads ..).numKept hF
    | .hostFence .. => (execHostFence_leads ..).numKept hF
    | .beatCrossing .. => State.numKept_act (beatCrossingDo_num ..)
    | .beatEdge late => absurd rfl (notEdge late)
    | .beatLoss => State.numKept_act_ite (beatLossDo_num s)
    | .flywheelEdge => State.numKept_act_ite (flywheelEdgeDo_num s)
    | .flywheelExpiry => State.numKept_act_ite (flywheelExpiryDo_num s)
    | .relock => State.numKept_actBar (relockDo_num s)
    | .rearm => State.numKept_actBar (rearmDo_num s)
    | .beatEnWrite en => State.numKept_actBar (beatEnDo_num en s)
    | .beatMessageSend .. => (execBeatMessageSend_leads ..).numKept hF
    | .beatMessage k => absurd rfl (notMessage k)
    | .sqDoorbell .. => (execSqDoorbell_leads ..).numKept hF
    | .descriptorTake .. => (execDescriptorTake_leads ..).numKept hF
    | .scheduledDispatch .. => (execScheduledDispatch_leads ..).numKept hF
    | .openDispatch .. => (execOpenDispatch_leads ..).numKept hF
    | .earlyFetch .. => (execEarlyFetch_leads ..).numKept hF
    | .matrixStageStart .. => (execMatrixStageStart_leads ..).numKept hF
    | .seedPassEnd .. => (execSeedPassEnd_leads ..).numKept hF
    | .tileSwap .. => (execTileSwap_leads ..).numKept hF
    | .bankRowRelease .. => (execBankRowRelease_leads ..).numKept hF
    | .elementStageStart .. => (execElementStageStart_leads ..).numKept hF
    | .elementBlockStart .. => (execElementBlockStart_leads ..).numKept hF
    | .collectStageStart .. => (execCollectStageStart_leads ..).numKept hF
    | .lapStart .. => (execLapStart_leads ..).numKept hF
    | .storeStageStart .. => (execStoreStageStart_leads ..).numKept hF
    | .commandComplete .. => (execCommandComplete_leads ..).numKept hF
    | .cqHeadWrite .. => (execCqHeadWrite_leads ..).numKept hF
    | .cqConfigWrite .. => (execCqConfigWrite_leads ..).numKept hF
    | .jobResume .. => (execJobResume_leads ..).numKept hF
    | .jobCancel .. => (execJobCancel_leads ..).numKept hF
    | .nopE .. => (execNop_leads ..).numKept hF
    | .fadd .. => (execFadd_leads ..).numKept hF
    | .fsub .. => (execFsub_leads ..).numKept hF
    | .fmul .. => (execFmul_leads ..).numKept hF
    | .ffma .. => (execFfma_leads ..).numKept hF
    | .fmin .. => (execFmin_leads ..).numKept hF
    | .fmax .. => (execFmax_leads ..).numKept hF
    | .fabs .. => (execFabs_leads ..).numKept hF
    | .fneg .. => (execFneg_leads ..).numKept hF
    | .fdiv .. => (execFdiv_leads ..).numKept hF
    | .fsqrt .. => (execFsqrt_leads ..).numKept hF
    | .frsq .. => (execFrsq_leads ..).numKept hF
    | .fcmp .. => (execFcmp_leads ..).numKept hF
    | .tfn .. => (execTfn_leads ..).numKept hF
    | .iadd .. => (execIadd_leads ..).numKept hF
    | .isub .. => (execIsub_leads ..).numKept hF
    | .imul .. => (execImul_leads ..).numKept hF
    | .imin .. => (execImin_leads ..).numKept hF
    | .imax .. => (execImax_leads ..).numKept hF
    | .iabs .. => (execIabs_leads ..).numKept hF
    | .icmp .. => (execIcmp_leads ..).numKept hF
    | .andE .. => (execAnd_leads ..).numKept hF
    | .orE .. => (execOr_leads ..).numKept hF
    | .xorE .. => (execXor_leads ..).numKept hF
    | .shl .. => (execShl_leads ..).numKept hF
    | .shr .. => (execShr_leads ..).numKept hF
    | .sel .. => (execSel_leads ..).numKept hF
    | .mov .. => (execMov_leads ..).numKept hF
    | .ldi .. => (execLdi_leads ..).numKept hF
    | .cvt .. => (execCvt_leads ..).numKept hF
    | .qnt .. => (execQnt_leads ..).numKept hF
    | .ocl .. => (execOcl_leads ..).numKept hF
    | .ocs .. => (execOcs_leads ..).numKept hF
    | .ocg .. => (execOcg_leads ..).numKept hF
    | .oct .. => (execOct_leads ..).numKept hF
    | .red .. => (execRed_leads ..).numKept hF
    | .pack .. => (execPack_leads ..).numKept hF
    | .unpk .. => (execUnpk_leads ..).numKept hF
    | .rng .. => (execRng_leads ..).numKept hF
    | .epi .. => (execEpi_leads ..).numKept hF
    | .qrd .. => (execQrd_leads ..).numKept hF
    | .qwr .. => (execQwr_leads ..).numKept hF
    | .qwc .. => (execQwc_leads ..).numKept hF
    | .loopE .. => (execLoop_leads ..).numKept hF
    | .movs .. => (execMovs_leads ..).numKept hF
    | .pset .. => (execPset_leads ..).numKept hF
    | .plog .. => (execPlog_leads ..).numKept hF
    | .fclr .. => (execFclr_leads ..).numKept hF
    | .subBlockLands .. => (execSubBlockLands_leads ..).numKept hF
    | .lineFillLanded .. => (execLineFillLanded_leads ..).numKept hF
    | .lineDrainDone .. => (execLineDrainDone_leads ..).numKept hF
    | .circularWaitSpill .. => (execCircularWaitSpill_leads ..).numKept hF
    | .translationFault .. => (execTranslationFault_leads ..).numKept hF
    | .prgResponse .. => (execPrgResponse_leads ..).numKept hF
    | .faultResume .. => (execFaultResume_leads ..).numKept hF
    | .faultEnd .. => (execFaultEnd_leads ..).numKept hF
    | .granuleGrant .. => (execGranuleGrant_leads ..).numKept hF
    | .pmFlush .. => (execPmFlush_leads ..).numKept hF
    | .arrCntClr .. => (execArrCntClr_leads ..).numKept hF
    | .elemCntClr .. => (execElemCntClr_leads ..).numKept hF
    | .strmCntClr .. => (execStrmCntClr_leads ..).numKept hF
    | .seqCntClr .. => (execSeqCntClr_leads ..).numKept hF
    | .satWatchTagWrite .. => (execSatWatchTagWrite_leads ..).numKept hF
    | .echoRecompute .. => (execEchoRecompute_leads ..).numKept hF
    | .create .. => (execCreate_leads ..).numKept hF
    | .destroy .. => (execDestroy_leads ..).numKept hF
    | .destroyDrained .. => (execDestroyDrained_leads ..).numKept hF
    | .addVale .. => (execAddVale_leads ..).numKept hF
    | .releaseVale .. => (execReleaseVale_leads ..).numKept hF
    | .btLoad .. => (execBtLoad_leads ..).numKept hF
    | .pcfgOpEnd .. => (execPcfgOpEnd_leads ..).numKept hF
    | .beatTableAnchor .. => (execBeatTableAnchor_leads ..).numKept hF
    | .admissionRecheck .. => (execAdmissionRecheck_leads ..).numKept hF
    | .valeScan .. => (execValeScan_leads ..).numKept hF
    | .echoCheck .. => (execEchoCheck_leads ..).numKept hF
    | .arrayPattern .. => (execArrayPattern_leads ..).numKept hF
    | .storePattern .. => (execStorePattern_leads ..).numKept hF
    | .linkMargin .. => (execLinkMargin_leads ..).numKept hF
    | .linkRetrain .. => (execLinkRetrain_leads ..).numKept hF
    | .bgTestStart .. => (execBgTestStart_leads ..).numKept hF
    | .bgTestEnd .. => (execBgTestEnd_leads ..).numKept hF
    | .flitReceive .. => (execFlitReceive_leads ..).numKept hF
    | .replayTimeout .. => (execReplayTimeout_leads ..).numKept hF
    | .linkSignalDetect .. => (execLinkSignalDetect_leads ..).numKept hF
    | .linkEqualised .. => (execLinkEqualised_leads ..).numKept hF
    | .codewordLock .. => (execCodewordLock_leads ..).numKept hF
    | .trainMessage .. => (execTrainMessage_leads ..).numKept hF
    | .linkMeasured .. => (execLinkMeasured_leads ..).numKept hF
    | .linkExchangeDone .. => (execLinkExchangeDone_leads ..).numKept hF
    | .linkTrainTimeout .. => (execLinkTrainTimeout_leads ..).numKept hF
    | .linkEnWrite .. => (execLinkEnWrite_leads ..).numKept hF
    | .mgmtMessage .. => (execMgmtMessage_leads ..).numKept hF
    | .ringPiece .. => (execRingPiece_leads ..).numKept hF
    | .arrive .. => (execArrive_leads ..).numKept hF
    | .closeGather .. => (execCloseGather_leads ..).numKept hF
    | .closeOutcome .. => (execCloseOutcome_leads ..).numKept hF
    | .closeTimeout .. => (execCloseTimeout_leads ..).numKept hF
    | .outcomeTimeout .. => (execOutcomeTimeout_leads ..).numKept hF
    | .lapTimeout .. => (execLapTimeout_leads ..).numKept hF
    | .retryStart .. => (execRetryStart_leads ..).numKept hF
    | .collResolveClean .. => (execCollResolveClean_leads ..).numKept hF
    | .collResolveAbort .. => (execCollResolveAbort_leads ..).numKept hF
    | .vqDoorbell .. => (execVqDoorbell_leads ..).numKept hF
    | .bind .. => (execBind_leads ..).numKept hF
    | .unbind .. => (execUnbind_leads ..).numKept hF
    | .pin .. => (execPin_leads ..).numKept hF
    | .unpin .. => (execUnpin_leads ..).numKept hF
    | .install .. => (execInstall_leads ..).numKept hF
    | .ledgerAppend .. => (execLedgerAppend_leads ..).numKept hF
    | .turn .. => (execTurn_leads ..).numKept hF
    | .vqResume .. => (execVqResume_leads ..).numKept hF
    | .turnJobStart .. => (execTurnJobStart_leads ..).numKept hF
    | .switchbackBlock .. => (execSwitchbackBlock_leads ..).numKept hF
    | .localBlockLanded .. => (execLocalBlockLanded_leads ..).numKept hF
    | .turnBudgetExpiry .. => (execTurnBudgetExpiry_leads ..).numKept hF
    | .turnResolveClean .. => (execTurnResolveClean_leads ..).numKept hF
    | .turnResolveAbort .. => (execTurnResolveAbort_leads ..).numKept hF
    | .uqDoorbell .. => (execUqDoorbell_leads ..).numKept hF
    | .fuuStep .. => (execFuuStep_leads ..).numKept hF
    | .setStep .. => (execSetStep_leads ..).numKept hF
    | .stepEnd .. => (execStepEnd_leads ..).numKept hF
    | .uqResume .. => (execUqResume_leads ..).numKept hF
    | .rqDoorbell .. => (execRqDoorbell_leads ..).numKept hF
    | .reqOpen .. => (execReqOpen_leads ..).numKept hF
    | .grow .. => (execGrow_leads ..).numKept hF
    | .commit .. => (execCommit_leads ..).numKept hF
    | .retire .. => (execRetire_leads ..).numKept hF
    | .prefixDrop .. => (execPrefixDrop_leads ..).numKept hF
    | .recount .. => (execRecount_leads ..).numKept hF
    | .adapterCopyLanded .. => (execAdapterCopyLanded_leads ..).numKept hF
    | .prefixSaveLanded .. => (execPrefixSaveLanded_leads ..).numKept hF
    | .rcEvaluate .. => (execRcEvaluate_leads ..).numKept hF
    | .rcMoveApply .. => (execRcMoveApply_leads ..).numKept hF
    | .rcEnable .. => (execRcEnable_leads ..).numKept hF
    | .grantWrite .. => (execGrantWrite_leads ..).numKept hF
    | .grantRead .. => (execGrantRead_leads ..).numKept hF
    | .withdraw .. => (execWithdraw_leads ..).numKept hF
    | .withdrawEnd => (execWithdrawEnd_leads).numKept hF
    | .tlbInv .. => (execTlbInv_leads ..).numKept hF
    | .tlbInvEnd .. => (execTlbInvEnd_leads ..).numKept hF
    | .fqNextRead .. => (execFqNextRead_leads ..).numKept hF
    | .scrubStep .. => (execScrubStep_leads ..).numKept hF
    | .targetedRefresh .. => (execTargetedRefresh_leads ..).numKept hF
    | .load .. => (execLoad_leads ..).numKept hF
    | .evict .. => (execEvict_leads ..).numKept hF
    | .resHold .. => (execResHold_leads ..).numKept hF
    | .resRelease .. => (execResRelease_leads ..).numKept hF
    | .loadEnd .. => (execLoadEnd_leads ..).numKept hF
    | .bar2Access .. => (execBar2Access_leads ..).numKept hF
    | .hmUpdate => (execHmUpdate_leads).numKept hF
    | .hmClear => (execHmClear_leads).numKept hF
    | .terraceNow => (execTerraceNow_leads).numKept hF
    | .terraceHoldStart => (execTerraceHoldStart_leads).numKept hF
    | .terraceHoldEnd .. => (execTerraceHoldEnd_leads ..).numKept hF
    | .terracePushEnd => (execTerracePushEnd_leads).numKept hF
    | .terraceInvalidate => (execTerraceInvalidate_leads).numKept hF
    | .restore => (execRestore_leads).numKept hF
    | .restoreEnd => (execRestoreEnd_leads).numKept hF
    | .digestGo .. => (execDigestGo_leads ..).numKept hF
    | .digestStart .. => (execDigestStart_leads ..).numKept hF
    | .digestEnd .. => (execDigestEnd_leads ..).numKept hF
    | .valeFence .. => (execValeFence_leads ..).numKept hF
    | .plainFence .. => (execPlainFence_leads ..).numKept hF
    | .commandReissue .. => (execCommandReissue_leads ..).numKept hF
    | .vfFlr .. => (execVfFlr_leads ..).numKept hF
    | .pfFlr => (execPfFlr_leads).numKept hF
    | .hotReset => (execHotReset_leads).numKept hF
    | .pcieLinkDown => (execPcieLinkDown_leads).numKept hF
    | .perst => (execPerst_leads).numKept hF
    | .atsInvalidation .. => (execAtsInvalidation_leads ..).numKept hF
    | .msixUnmask .. => (execMsixUnmask_leads ..).numKept hF
    | .hostReadFailure .. => (execHostReadFailure_leads ..).numKept hF
    | .resetAssert ns => absurd rfl (notReset ns)
    | .resetRelease .. => (execResetRelease_leads ..).numKept hF
    | .bootPhaseDone .. => (execBootPhaseDone_leads ..).numKept hF
    | .censusAutoStart => (execCensusAutoStart_leads).numKept hF
    | .censusStart => (execCensusStart_leads).numKept hF
    | .censusCall .. => (execCensusCall_leads ..).numKept hF
    | .censusReport .. => (execCensusReport_leads ..).numKept hF
    | .gatherClose => State.numKept_act_ite (gatherCloseDo_num s)
    | .censusAssign .. => (execCensusAssign_leads ..).numKept hF
    | .censusLeftOut .. => (execCensusLeftOut_leads ..).numKept hF
    | .censusReady .. => (execCensusReady_leads ..).numKept hF
    | .powerLoss => (execPowerLoss_leads).numKept hF
    | .thermalTrip .. => (execThermalTrip_leads ..).numKept hF
    | .sensorSample .. => (execSensorSample_leads ..).numKept hF
    | .pldmEventWindow .. => (execPldmEventWindow_leads ..).numKept hF
    | .setEndpointId .. => (execSetEndpointId_leads ..).numKept hF
    | .mctpControl .. => (execMctpControl_leads ..).numKept hF
    | .getPdr .. => (execGetPdr_leads ..).numKept hF
    | .getPdrRepositoryInfo .. => (execGetPdrRepositoryInfo_leads ..).numKept hF
    | .getSensorReading .. => (execGetSensorReading_leads ..).numKept hF
    | .getSensorThresholds .. => (execGetSensorThresholds_leads ..).numKept hF
    | .setSensorThresholds .. => (execSetSensorThresholds_leads ..).numKept hF
    | .setEventReceiver .. => (execSetEventReceiver_leads ..).numKept hF
    | .getTid .. => (execGetTid_leads ..).numKept hF
    | .requestUpdate .. => (execRequestUpdate_leads ..).numKept hF
    | .passComponentTable .. => (execPassComponentTable_leads ..).numKept hF
    | .updateComponent .. => (execUpdateComponent_leads ..).numKept hF
    | .firmwareData .. => (execFirmwareData_leads ..).numKept hF
    | .slotVerifyEnd .. => (execSlotVerifyEnd_leads ..).numKept hF
    | .activateFirmware .. => (execActivateFirmware_leads ..).numKept hF
    | .getStatus .. => (execGetStatus_leads ..).numKept hF
    | .cancelUpdateComponent .. => (execCancelUpdateComponent_leads ..).numKept hF
    | .cancelUpdate .. => (execCancelUpdate_leads ..).numKept hF
    | .queryDeviceIdentifiers .. => (execQueryDeviceIdentifiers_leads ..).numKept hF
    | .getFirmwareParameters .. => (execGetFirmwareParameters_leads ..).numKept hF
    | .updateTimeout => (execUpdateTimeout_leads).numKept hF
    | .getVersion .. => (execGetVersion_leads ..).numKept hF
    | .getCapabilities .. => (execGetCapabilities_leads ..).numKept hF
    | .negotiateAlgorithms .. => (execNegotiateAlgorithms_leads ..).numKept hF
    | .getDigests .. => (execGetDigests_leads ..).numKept hF
    | .getCertificate .. => (execGetCertificate_leads ..).numKept hF
    | .challenge .. => (execChallenge_leads ..).numKept hF
    | .getMeasurements .. => (execGetMeasurements_leads ..).numKept hF
    | .censusRead => (execCensusRead_leads).numKept hF
    | .activateSlot .. => (execActivateSlot_leads ..).numKept hF
    | .ffClear => (execFfClear_leads).numKept hF
    | .settingRead => (execSettingRead_leads).numKept hF
    | .settingWrite => (execSettingWrite_leads).numKept hF
    | .morIdxWrite .. => (execMorIdxWrite_leads ..).numKept hF
    | .moraineWrite => (execMoraineWrite_leads).numKept hF
    | .moraineIntervalEnd => (execMoraineIntervalEnd_leads).numKept hF
    | .echoUnitFailure .. => (execEchoUnitFailure_leads ..).numKept hF
    | .passDieFailure .. => (execPassDieFailure_leads ..).numKept hF

/-- Settles O15: every command is followed either by its `Leads` lemma, which leaves the beat unit out, or through the beat unit's
operations; the edge counts by `Beat.step`. -/
theorem beatNumberChangesOnlyByEdgesAndTransfer : Obligations.BeatNumberChangesOnlyByEdgesAndTransfer := by
  refine ⟨fun s late x rest live due counted => ?_, fun c s t e notEdge notMessage notReset => ?_, by decide⟩
  · refine ⟨beatEdgeDo late s, ?_, ?_⟩
    · exact congrArg Host.Outcome.next (if_pos live)
    · rw [beatEdgeDo_num late due, if_pos counted]
  · exact exec_numKept c s notEdge notMessage notReset t e

end Sys2Proof.Machine
end

section
/-! PROOFS. PlainRegisters: accesses to memory leave the registers of the plain regions alone (R577). A plain region holds its vales'
pages. An access that meets an uncorrectable block counts and reports it in the pages of floor dies, pass dies and the MP, which lie
outside. -/

namespace Sys2Proof.Machine

theorem State.reg_ite {s t : State} {a : Nat} {w : Word} {p : Prop} [Decidable p] (hs : s.reg a = w) (ht : t.reg a = w) :
    (if p then s else t).reg a = w := by split <;> assumption

section
variable {a : Nat} (lo : 0x1000000 ≤ a) (hi : a < 0x2000000)
include lo hi

theorem plain_ne_floorPage (st o : Nat) : a ≠ pageBase (floorPage st) + o := by
  simp only [floorPage, pageBase]; omega

theorem plain_ne_passPage (n o : Nat) (ho : o < 0x1000) : a ≠ pageBase (passPage n) + o := by
  simp only [passPage, pageBase]; omega

theorem State.moraine_plain_reg (s : State) (ev : MorEvent) (pg : Page) (p : List Nat) : (s.moraine ev pg p).reg a = s.reg a :=
  State.moraine_reg_other _ _ _ _ _ (by omega)

theorem State.repairCandidate_plain_reg (s : State) (st blk : Nat) : (s.repairCandidate st blk).reg a = s.reg a := by
  have ne := plain_ne_floorPage lo hi st
  unfold State.repairCandidate
  split
  · rfl
  · dsimp only
    rw [State.moraine_plain_reg lo hi, State.raise_reg_other _ _ _ _ (ne _), State.setRegF, State.setReg_reg, if_neg (ne _)]
    rfl

theorem State.uncorrectable_plain_reg (s : State) (d : Nat) (scrub : Bool) : (s.uncorrectable d scrub).reg a = s.reg a := by
  unfold State.uncorrectable
  split
  · next st _ =>
    have ne := plain_ne_floorPage lo hi st
    split
    · rfl
    · dsimp only
      rw [State.repairCandidate_plain_reg lo hi, State.moraine_plain_reg lo hi, State.healthEvent_reg_other,
        State.raise_reg_other _ _ _ _ (ne _), State.setReg_reg, if_neg (ne _), State.setReg_reg, if_neg (ne _),
        State.count_reg_other _ _ _ _ _ (ne _)]
      rfl
  · split
    · next n _ =>
      have ne := plain_ne_passPage lo hi n
      dsimp only
      rw [State.healthEvent_reg_other, State.raise_reg_other _ _ _ _ (ne _ (by omega)), State.setReg_reg,
        if_neg (ne _ (by omega)), State.count_reg_other _ _ _ _ _ (ne _ (by omega))]
      rfl
    · rfl

theorem State.foldl_uncorrectable_plain_reg (bs : List Nat) (s : State) :
    (bs.foldl (fun s b => s.uncorrectable (b * 64) false) s).reg a = s.reg a := by
  induction bs generalizing s with
  | nil => rfl
  | cons b bs ih => rw [List.foldl_cons, ih, State.uncorrectable_plain_reg lo hi]

theorem State.readDpa_plain_reg (s : State) (d n : Nat) : (s.readDpa d n).2.reg a = s.reg a := by
  unfold State.readDpa
  dsimp only
  split
  · rfl
  · exact State.foldl_uncorrectable_plain_reg lo hi _ s

theorem State.writeBlock_plain_reg (s : State) (d : Nat) (bs : List Byte) : (s.writeBlock d bs).2.reg a = s.reg a := by
  have put : (s.setBytes d bs).reg a = s.reg a := by simp [State.reg]
  unfold State.writeBlock
  simp only [apply_ite Prod.snd]
  exact State.reg_ite rfl (State.reg_ite put (State.reg_ite (State.uncorrectable_plain_reg lo hi s d false) put))

theorem State.writeDpaFuel_plain_reg (f : Nat) (s : State) (d : Nat) (bs : List Byte) :
    (State.writeDpaFuel f s d bs).2.reg a = s.reg a := by
  induction f generalizing s d bs with
  | zero => rfl
  | succ f ih =>
    cases bs with
    | nil => rfl
    | cons x bs => exact (ih _ _ _).trans (State.writeBlock_plain_reg lo hi s d _)

theorem State.readPdaFuel_plain_reg (f : Nat) (s : State) (n d len : Nat) :
    (State.readPdaFuel f s n d len).2.reg a = s.reg a := by
  induction f generalizing s d len with
  | zero => rfl
  | succ f ih =>
    unfold State.readPdaFuel
    split
    · rfl
    · dsimp only
      split
      · rfl
      · rfl
      · exact State.uncorrectable_plain_reg lo hi _ _ _
      · next e t _ =>
        have read := State.readDpa_plain_reg lo hi s e (min len (2 ^ 21 - d % 2 ^ 21))
        split
        · next heq => rw [heq] at read; exact read
        · next bs u heq =>
          rw [heq] at read
          have rest := (ih u (d + min len (2 ^ 21 - d % 2 ^ 21)) (len - min len (2 ^ 21 - d % 2 ^ 21))).trans read
          split
          · next heq' => rw [heq'] at rest; exact rest
          · exact rest

theorem State.writePdaFuel_plain_reg (f : Nat) (s : State) (n d : Nat) (bs : List Byte) :
    (State.writePdaFuel f s n d bs).2.reg a = s.reg a := by
  induction f generalizing s d bs with
  | zero => rfl
  | succ f ih =>
    cases bs with
    | nil => rfl
    | cons x bs =>
      unfold State.writePdaFuel
      dsimp only
      split
      · rfl
      · rfl
      · exact State.uncorrectable_plain_reg lo hi _ _ _
      · next e t _ =>
        have rest := (ih (s.writeDpa e ((x :: bs).take (2 ^ 21 - d % 2 ^ 21))).2 (d + (2 ^ 21 - d % 2 ^ 21))
          ((x :: bs).drop (2 ^ 21 - d % 2 ^ 21))).trans (State.writeDpaFuel_plain_reg lo hi _ s e _)
        split
        · next heq => rw [heq] at rest; exact rest
        · exact rest

theorem State.poke_plain_reg (s : State) (n d : Nat) (bs : List Byte) : (s.poke n d bs).reg a = s.reg a :=
  State.writePdaFuel_plain_reg lo hi _ s n d bs

end

end Sys2Proof.Machine
end

section
/-! PROOFS. ElementStep: what the issue of an instruction that writes a register of its lanes does (R172, R179, R180, R186), for every
such instruction at once: the lanes it writes, and what its saturation events and the end of its block leave alone. -/

namespace Sys2Proof.Machine

/-! ### Reads of an element engine after writes -/

theorem State.modElem_vale (s : State) (g h : Nat) (f : ElemSt → ElemSt) :
    (s.modElem g f).vale h = if h = g then { s.vale g with elem := f (s.vale g).elem } else s.vale h :=
  State.modVale_vale s g h _

@[simp] theorem State.modElem_cmd (s : State) (g : Nat) (f : ElemSt → ElemSt) (j : Nat) : (s.modElem g f).cmd j = s.cmd j := rfl

theorem State.modElem_lane_same (s : State) (g : Nat) (f : ElemSt → ElemSt) (hf : ∀ e, (f e).lanes = e.lanes) (h j : Nat) :
    (s.modElem g f).lane h j = s.lane h j := by
  simp only [State.lane, State.modElem_vale]
  split
  · next e => rw [e, hf]
  · rfl

theorem State.setLane_lane (s : State) (g i : Nat) (l : Lane) (j : Nat) :
    (s.setLane g i l).lane g j = if j = i then l else s.lane g j := by
  simp only [State.lane, State.setLane, State.modElem_vale, if_true]
  exact Sparse.get_set _ _ _ _ _

/-- The states of lanes lie in the vales. -/
theorem State.lane_of_vales {s t : State} (h : t.vales = s.vales) (g j : Nat) : t.lane g j = s.lane g j := by
  simp [State.lane, State.vale, h]

/-! ### The results that lanes take (R172, R179) -/

/-- The lane l after it took the result r in register d. -/
def LaneRes.into (r : LaneRes) (d : Nat) (l : Lane) : Lane := { l.setReg d r.w with flags := l.flags ||| r.flags }

/-- Lane r.1 of engine g takes the result r.2 in register d. -/
def State.putLane (g d : Nat) (s : State) (r : Nat × LaneRes) : State := s.setLane g r.1 (r.2.into d (s.lane g r.1))

/-- `putLanes` puts one lane after the other, and adds up the saturation events. -/
theorem State.putLanes_eq (s : State) (g d : Nat) (rs : List (Nat × LaneRes)) :
    s.putLanes g d rs = (rs.foldl (State.putLane g d) s, (rs.map fun r => r.2.sat).foldl (· + ·) 0) := by
  have step : ∀ (rs : List (Nat × LaneRes)) (s : State) (n : Nat),
      rs.foldl (fun (acc : State × Nat) r => (State.putLane g d acc.1 r, acc.2 + r.2.sat)) (s, n) =
        (rs.foldl (State.putLane g d) s, (rs.map fun r => r.2.sat).foldl (· + ·) n) := by
    intro rs
    induction rs with
    | nil => intro s n; rfl
    | cons r rs ih => intro s n; exact ih _ _
  exact step rs s 0

/-- A lane of the list takes its result; the others stay. -/
theorem State.foldl_putLane_lane (g d : Nat) (r : Nat → LaneRes) (js : List Nat) (nodup : js.Nodup) (s : State) (j : Nat) :
    ((js.map fun j => (j, r j)).foldl (State.putLane g d) s).lane g j =
      if j ∈ js then (r j).into d (s.lane g j) else s.lane g j := by
  induction js generalizing s with
  | nil => rfl
  | cons i js ih =>
    obtain ⟨notIn, nodup⟩ := List.nodup_cons.1 nodup
    rw [List.map_cons, List.foldl_cons, ih nodup, State.putLane, State.setLane_lane]
    by_cases e : j = i
    · subst e; simp [notIn]
    · simp [e]

/-- Lanes that take results change in their own engine, and nothing else there but the lanes changes. -/
theorem State.foldl_putLane_vale (g d : Nat) (rs : List (Nat × LaneRes)) (s : State) (h : Nat) :
    ∃ ls, (rs.foldl (State.putLane g d) s).vale h =
      if h = g then { s.vale g with elem := { (s.vale g).elem with lanes := ls } } else s.vale h := by
  induction rs generalizing s with
  | nil => exact ⟨(s.vale g).elem.lanes, by split <;> simp_all⟩
  | cons r rs ih =>
    obtain ⟨ls, e⟩ := ih (State.putLane g d s r)
    refine ⟨ls, e.trans ?_⟩
    simp only [State.putLane, State.setLane, State.modElem_vale, if_true]
    split <;> rfl

/-! ### Work that leaves an engine's lanes and issue alone -/

/-- Work for the command in slot k on engine g that counts n saturation events for it: the lanes, the other vales, the other commands,
ISSUE and what lets it count stay; the command stays the same command. -/
structure EngineWork (s t : State) (g : Vale) (k n : Nat) : Prop where
  lanes : ∀ j, t.lane g.val j = s.lane g.val j
  vales : ∀ h, h ≠ g.val → t.vale h = s.vale h
  slots : ∀ j, j ≠ k → t.cmd j = s.cmd j
  command : ∀ c, s.cmd k = some c → ∃ c', t.cmd k = some c' ∧ c'.desc = c.desc ∧ c'.vale = c.vale ∧
    min c'.sat 0xFFFFFFFF = min (c.sat + n) 0xFFFFFFFF
  regs : ∀ o, o = 0x08 ∨ o = 0x58 ∨ o = 0x5C → t.reg (pageBase (.elem g) + o) = s.reg (pageBase (.elem g) + o)
  resets : t.resets = s.resets

namespace EngineWork
variable {s t u : State} {g : Vale} {k m n : Nat}

theorem refl (s : State) (g : Vale) (k : Nat) : EngineWork s s g k 0 :=
  ⟨fun _ => rfl, fun _ _ => rfl, fun _ _ => rfl, fun c h => ⟨c, h, rfl, rfl, rfl⟩, fun _ _ => rfl, rfl⟩

theorem trans (h : EngineWork s t g k m) (h' : EngineWork t u g k n) : EngineWork s u g k (m + n) where
  lanes j := (h'.lanes j).trans (h.lanes j)
  vales i e := (h'.vales i e).trans (h.vales i e)
  slots j e := (h'.slots j e).trans (h.slots j e)
  command c hc := by
    obtain ⟨c1, hc1, desc1, vale1, sat1⟩ := h.command c hc
    obtain ⟨c2, hc2, desc2, vale2, sat2⟩ := h'.command c1 hc1
    exact ⟨c2, hc2, desc2.trans desc1, vale2.trans vale1, by omega⟩
  regs o ho := (h'.regs o ho).trans (h.regs o ho)
  resets := h'.resets.trans h.resets

/-- More work that counts no saturation event. -/
theorem and_then (h : EngineWork s t g k n) (h' : EngineWork t u g k 0) : EngineWork s u g k n := h.trans h'

/-- The page counts events as before. -/
theorem counting (h : EngineWork s t g k n) : t.counting (.elem g) = s.counting (.elem g) := by
  simp [State.counting, State.resetting, State.regBit, State.regF, h.resets, h.regs 0x08 (.inl rfl)]

/-- The command stays on its vale. -/
theorem vale_eq {c d : Cmd} (h : EngineWork s t g k n) (hc : s.cmd k = some c) (hd : t.cmd k = some d) : d.vale = c.vale := by
  obtain ⟨c', hc', -, vale, -⟩ := h.command c hc
  rw [hd] at hc'
  exact (Option.some.inj hc') ▸ vale

/-- Work that changes no vale and no command. -/
theorem of_same (vales : t.vales = s.vales) (slots : t.slots = s.slots) (resets : t.resets = s.resets)
    (regs : ∀ o, o = 0x08 ∨ o = 0x58 ∨ o = 0x5C → t.reg (pageBase (.elem g) + o) = s.reg (pageBase (.elem g) + o)) :
    EngineWork s t g k 0 where
  lanes j := State.lane_of_vales vales _ j
  vales h _ := by simp [State.vale, vales]
  slots j _ := by simp [State.cmd, slots]
  command c h := ⟨c, by simpa [State.cmd, slots] using h, rfl, rfl, rfl⟩
  regs := regs
  resets := resets

/-- The command changes, but not its descriptor and vale. -/
theorem modCmd (s : State) (g : Vale) (k n : Nat) (f : Cmd → Cmd)
    (hf : ∀ c, (f c).desc = c.desc ∧ (f c).vale = c.vale ∧ min (f c).sat 0xFFFFFFFF = min (c.sat + n) 0xFFFFFFFF) :
    EngineWork s (s.modCmd k f) g k n where
  lanes j := State.lane_of_vales (by simp) _ j
  vales h _ := by simp
  slots j e := by rw [State.modCmd_cmd, if_neg e]
  command c h := ⟨f c, by rw [State.modCmd_cmd, if_pos rfl, h]; rfl, hf c⟩
  regs o _ := by simp
  resets := by simp

/-- The engine changes, but not its lanes. -/
theorem modElem (s : State) (g : Vale) (k : Nat) (f : ElemSt → ElemSt) (hf : ∀ e, (f e).lanes = e.lanes) :
    EngineWork s (s.modElem g.val f) g k 0 where
  lanes j := State.modElem_lane_same s _ f hf _ j
  vales h e := by rw [State.modElem_vale, if_neg e]
  slots _ _ := rfl
  command c h := ⟨c, h, rfl, rfl, rfl⟩
  regs _ _ := rfl
  resets := rfl

end EngineWork

/-! ### Saturation events (R131, R180) -/

theorem State.accrue_reg_other (s : State) (pg : Page) (f : Flags) (k a : Nat) (flags : a ≠ pageBase pg + 0x1C)
    (sats : a ≠ pageBase pg + 0x20) : (s.accrue pg f k).reg a = s.reg a := by
  unfold State.accrue
  dsimp only
  have base : (if s.resetting pg then s else s.setReg (pageBase pg + 0x1C)
      (s.reg (pageBase pg + 0x1C) ||| BitVec.ofNat 32 f.toNat)).reg a = s.reg a :=
    State.reg_ite rfl (by rw [State.setReg_reg, if_neg flags])
  exact State.reg_ite base ((State.count_reg_other _ _ _ _ _ sats).trans base)

/-- FLAGS and SAT_COUNT of the engine's page are not among its counters of blocks and clocks. -/
theorem EngineWork.accrue (s : State) (g : Vale) (k : Nat) (f : Flags) (n : Nat) : EngineWork s (s.accrue (.elem g) f n) g k 0 :=
  .of_same (by simp) (by simp) (by simp) fun o ho => State.accrue_reg_other _ _ _ _ _ (by omega) (by omega)

/-- Work on memory and in the pages that report its errors. -/
theorem EngineWork.memory {s t : State} {g : Vale} {k : Nat}
    (h : ∀ F : StateField → Bool, ∀ [May F .out] [May F .regs] [May F .mem] [May F .bad] [May F .msix] [May F .floors] [May F .health]
      [May F .mp], State.Leads F s t)
    (regs : ∀ a, 0x1000000 ≤ a → a < 0x2000000 → t.reg a = s.reg a) : EngineWork s t g k 0 := by
  have leads := @h (fun f => [.out, .regs, .mem, .bad, .msix, .floors, .health, .mp].contains f)
    ⟨rfl⟩ ⟨rfl⟩ ⟨rfl⟩ ⟨rfl⟩ ⟨rfl⟩ ⟨rfl⟩ ⟨rfl⟩ ⟨rfl⟩
  refine .of_same (leads.within .vales rfl) (leads.within .slots rfl) (leads.within .resets rfl) fun o ho => ?_
  have := g.isLt
  exact regs _ (by simp only [pageBase, valeBase]; omega) (by simp only [pageBase, valeBase]; omega)

theorem EngineWork.readPda (s : State) (g : Vale) (k n a len : Nat) : EngineWork s (s.readPda n a len).2 g k 0 :=
  .memory (fun F => State.readPda_leads n a len (.refl F s)) fun _ lo hi => State.readPdaFuel_plain_reg lo hi _ s n a len

theorem EngineWork.poke (s : State) (g : Vale) (k n a : Nat) (bs : List Byte) : EngineWork s (s.poke n a bs) g k 0 :=
  .memory (fun F => State.poke_leads n a bs (.refl F s)) fun _ lo hi => State.poke_plain_reg lo hi s n a bs

/-- c' is c as far as its descriptor, its vale and its count of saturation events go. -/
def Cmd.Alike (c c' : Cmd) : Prop := c'.desc = c.desc ∧ c'.vale = c.vale ∧ c'.sat = c.sat

theorem Cmd.Alike.refl (c : Cmd) : c.Alike c := ⟨rfl, rfl, rfl⟩

/-- What the command keeps of its ELEMENT stage is no matter. -/
theorem Cmd.Alike.elem {c d : Cmd} (h : c.Alike d) (e : ElemStage) : c.Alike { d with elem := e } := h

theorem Cmd.failXfer_alike (c : Cmd) (status x : Nat) : c.Alike (c.failXfer status x) := by
  unfold Cmd.failXfer; split <;> exact .refl c

theorem Cmd.addVoid_alike (c : Cmd) (code : Nat) : c.Alike (c.addVoid code) := by
  unfold Cmd.addVoid; split <;> exact .refl c

/-- Steps over queues that each keep the command alike keep it so together. -/
theorem Cmd.foldl_alike {c d : Cmd} {f : Cmd → Nat → Cmd} (l : List Nat) (h : c.Alike d)
    (hf : ∀ d q, c.Alike d → c.Alike (f d q)) : c.Alike (l.foldl f d) :=
  List.foldlRecOn l f h fun d hd q _ => hf d q hd

/-- A change of the command in slot k that keeps it alike. -/
theorem EngineWork.modCmd_alike (s : State) (g : Vale) (k : Nat) (f : Cmd → Cmd) (hf : ∀ c : Cmd, c.Alike (f c)) :
    EngineWork s (s.modCmd k f) g k 0 :=
  .modCmd s g k 0 f fun c => by
    obtain ⟨desc, vale, sat⟩ := hf c
    exact ⟨desc, vale, by rw [sat, Nat.add_zero]⟩

/-- The update of a scale record, and what the command makes of its failure. -/
theorem EngineWork.updateRec (s : State) (g : Vale) (k : Nat) (c : Cmd) (tag : Nat) (f : List Byte → List Byte) :
    EngineWork s (s.updateRec k c tag f) g k 0 := by
  have refused (u : State) : EngineWork u (u.modCmd k fun c => c.failXfer 5 0xFF) g k 0 :=
    .modCmd_alike u g k _ fun c => c.failXfer_alike 5 0xFF
  have lost (u : State) : EngineWork u (u.modCmd k fun c => c.addVoid 1) g k 0 :=
    .modCmd_alike u g k _ fun c => c.addVoid_alike 1
  unfold State.updateRec
  dsimp only
  split
  · exact refused s
  · have read := EngineWork.readPda s g k c.part.val (scaleAddr s c.part.val tag) 128
    split
    · next heq => rw [heq] at read; exact read.and_then (.poke ..)
    · next heq => rw [heq] at read; exact read.and_then (refused _)
    · next heq => rw [heq] at read; exact read.and_then (lost _)

/-- n saturation events reach the engine's page, the command and its OUT_TAG's record. -/
theorem EngineWork.elemSat (s : State) (g : Vale) (k : Nat) (c : Cmd) (hv : c.vale = g.val) (n : Nat) :
    EngineWork s (s.elemSat k c n) g k n := by
  unfold State.elemSat
  split
  · next e => rw [e]; exact .refl s g k
  · next e =>
    have page : (Fin.ofNat 128 c.vale : Vale) = g := by rw [hv]; simp
    have counted : EngineWork s _ g k n :=
      (Nat.zero_add n) ▸ (EngineWork.accrue s g k 0#4 n).trans (.modCmd _ g k n (fun c => c.accrue 0#4 n) fun c => ⟨rfl, rfl, by
        simp [Cmd.accrue]⟩)
    rw [page, State.satEvents, if_neg e]
    exact counted.and_then (.updateRec ..)

/-- Saturation events leave the vales alone. -/
theorem State.elemSat_vale (s : State) (k : Nat) (c : Cmd) (n h : Nat) : (s.elemSat k c n).vale h = s.vale h := by
  have leads := @State.elemSat_leads (fun f => f != .vales) ⟨rfl⟩ ⟨rfl⟩ ⟨rfl⟩ ⟨rfl⟩ ⟨rfl⟩ ⟨rfl⟩ ⟨rfl⟩ ⟨rfl⟩ ⟨rfl⟩ s s k c n (.refl _ s)
  simp only [State.vale]
  rw [show (s.elemSat k c n).vales = s.vales from leads.within .vales rfl]

/-! ### The end of a block (R178, R179, R190, R214, R215, R224) -/

theorem State.count64_reg_other (s : State) (pg : Page) (o k a : Nat) (low : a ≠ pageBase pg + o) (high : a ≠ pageBase pg + o + 4) :
    (s.count64 pg o k).reg a = s.reg a := by
  unfold State.count64
  split
  · simp [State.setReg64, State.setReg_reg, low, high]
  · rfl

/-- A 64-bit counter that counts gains k, modulo 2^64. -/
theorem State.count64_reg64 (s : State) (pg : Page) (o k : Nat) (h : s.counting pg = true) :
    (s.count64 pg o k).reg64 (pageBase pg + o) = (s.reg64 (pageBase pg + o) + k) % 2 ^ 64 := by
  simp only [State.count64, h, if_true]
  generalize s.reg64 (pageBase pg + o) + k = x
  simp [State.reg64, State.setReg64, State.setReg_reg]
  omega

theorem Cmd.passBlock_alike (c : Cmd) (b : Blk) : c.Alike (c.passBlock b) := by
  unfold Cmd.passBlock
  refine Cmd.foldl_alike _ (Cmd.foldl_alike _ (.refl c) fun d q h => ?_) fun d q h => ?_
  · split
    · exact h
    · split <;> exact h
  · split <;> exact h

/-- Words appended to a queue of the command. -/
theorem EngineWork.qAppend (s : State) (g : Vale) (k : Nat) (c : Cmd) (i : Nat) (bs : List Byte) :
    EngineWork s (s.qAppend k c i bs) g k 0 := by
  have put : EngineWork s (s.qPut (c.queue i) ((c.queue i).tail / 2) bs) g k 0 := by
    have leads : State.Leads (fun f => f == .mem) s (s.qPut (c.queue i) ((c.queue i).tail / 2) bs) :=
      @State.qPut_leads _ ⟨rfl⟩ s s _ _ _ (.refl _ s)
    refine .of_same (leads.within .vales rfl) (leads.within .slots rfl) (leads.within .resets rfl) fun o _ => ?_
    simp only [State.reg]
    rw [show _ = s.regs from leads.within .regs rfl]
  exact put.and_then (.modCmd_alike _ g k _ fun c => .refl c)

theorem EngineWork.putCounts (s : State) (g : Vale) (k : Nat) (c : Cmd) (b : Blk) : EngineWork s (s.putCounts k c b) g k 0 := by
  unfold State.putCounts
  split
  · exact .qAppend ..
  · exact .refl ..

/-- The lanes' flags reach the engine's page and the command. -/
theorem EngineWork.gatherFlags (s : State) (g : Vale) (k : Nat) : EngineWork s (s.gatherFlags k g.val) g k 0 := by
  have page : (Fin.ofNat 128 g.val : Vale) = g := by simp
  unfold State.gatherFlags
  dsimp only
  rw [page]
  exact (EngineWork.accrue ..).and_then (.modCmd _ g k 0 _ fun c => ⟨rfl, rfl, by simp [Cmd.accrue]⟩)

/-- The counter at o of the engine's page, unless it is ISSUE. -/
theorem EngineWork.count64 (s : State) (g : Vale) (k o n : Nat) (ho : 0x0C ≤ o ∧ o + 4 < 0x58) :
    EngineWork s (s.count64 (.elem g) o n) g k 0 :=
  .of_same (by simp) (by simp) (by simp) fun x hx => State.count64_reg_other _ _ _ _ _ (by omega) (by omega)

/-- The end of the stage, for a command on this engine. -/
theorem EngineWork.endElement (s : State) (g : Vale) (k : Nat) (hv : ∀ c, s.cmd k = some c → c.vale = g.val) :
    EngineWork s (s.endElement k) g k 0 := by
  unfold State.endElement
  split
  · exact .refl s g k
  · next c hc =>
    dsimp only
    rw [hv c hc]
    refine EngineWork.and_then (.modCmd_alike s g k _ fun c => ?_) (.modElem _ g k _ fun _ => rfl)
    refine Cmd.Alike.elem (Cmd.foldl_alike _ (.refl c) fun d q h => ?_) _
    split <;> exact h

theorem EngineWork.tryEndStage (s : State) (g : Vale) (k : Nat) (hv : ∀ c, s.cmd k = some c → c.vale = g.val) :
    EngineWork s (s.tryEndStage k) g k 0 := by
  unfold State.tryEndStage
  split
  · exact .refl s g k
  · split
    · exact .endElement s g k hv
    · exact .refl s g k

/-- The end of the stage after other work for the same command. -/
theorem EngineWork.then_tryEndStage {s t : State} {g : Vale} {k n : Nat} {c : Cmd} (h : EngineWork s t g k n) (hc : s.cmd k = some c)
    (hv : c.vale = g.val) : EngineWork s (t.tryEndStage k) g k n :=
  h.and_then (.tryEndStage t g k fun _ hd => (h.vale_eq hc hd).trans hv)

/-- The end of a block of a command on this engine. -/
theorem EngineWork.endBlock (s : State) (g : Vale) (k : Nat) (c : Cmd) (b : Blk) (hc : s.cmd k = some c) (hv : c.vale = g.val) :
    EngineWork s (s.endBlock k c b) g k 0 := by
  have page : (Fin.ofNat 128 c.vale : Vale) = g := by rw [hv]; simp
  unfold State.endBlock
  dsimp only
  rw [page, hv]
  split
  · exact .modElem s g k _ fun _ => rfl
  · have counted := ((EngineWork.gatherFlags s g k).and_then (.count64 _ g k 0x50 1 (by omega))).and_then (.putCounts _ g k c b)
    refine EngineWork.then_tryEndStage (EngineWork.and_then (counted.and_then (.modCmd_alike _ g k _ fun d => ?_))
      (.modElem _ g k _ fun _ => rfl)) hc hv
    exact (d.passBlock_alike b).elem _

/-! ### An instruction retires (R186, R187, R190) -/

@[simp] theorem Blk.next_slot (b : Blk) : b.next.slot = b.slot := by
  unfold Blk.next
  split
  · split
    · split <;> rfl
    · rfl
  · rfl

/-- Engine g after an instruction of n clocks, with its block at b. -/
def State.stepTo (s : State) (g : Vale) (n : Nat) (b : Blk) : State :=
  (s.count64 (.elem g) 0x58 n).modElem g.val fun e => { e with wait := .none, blk := some b }

@[simp] theorem State.stepTo_cmd (s : State) (g : Vale) (n : Nat) (b : Blk) (j : Nat) : (s.stepTo g n b).cmd j = s.cmd j := by
  simp [State.stepTo]

/-- An instruction retires: its block goes on, or ends after its last instruction. -/
theorem State.retireInstr_eq (s : State) (g : Vale) (n : Nat) (b : Blk) (c : Cmd) (hb : (s.vale g.val).elem.blk = some b)
    (hc : s.cmd b.slot = some c) :
    s.retireInstr g.val n Blk.next =
      if c.progLen ≤ b.next.pc then (s.stepTo g n b.next).endBlock b.slot c b.next else s.stepTo g n b.next := by
  have step : (s.count64 (.elem g) 0x58 n).modElem g.val (fun e => { e with wait := .none, blk := e.blk.map Blk.next }) =
      s.stepTo g n b.next := by
    simp [State.stepTo, State.modElem, State.modVale, hb]
  have blk : ((s.stepTo g n b.next).vale g.val).elem.blk = some b.next := by simp [State.stepTo, State.modElem_vale]
  unfold State.retireInstr
  simp only [Fin.ofNat_val_eq_self, step, blk, Blk.next_slot, State.stepTo_cmd, hc]

/-- An instruction that is not the last one leaves its block under way. -/
theorem State.retireInstr_goes_on (s : State) (g : Vale) (n : Nat) (b : Blk) (c : Cmd) (hb : (s.vale g.val).elem.blk = some b)
    (hc : s.cmd b.slot = some c) (more : b.next.pc < c.progLen) : s.retireInstr g.val n Blk.next = s.stepTo g n b.next := by
  rw [State.retireInstr_eq s g n b c hb hc, if_neg (by omega)]

/-- Beyond the step to the next instruction there is at most the end of the block. -/
theorem State.retireInstr_work (s : State) (g : Vale) (n : Nat) (b : Blk) (c : Cmd) (hb : (s.vale g.val).elem.blk = some b)
    (hc : s.cmd b.slot = some c) (hv : c.vale = g.val) :
    EngineWork (s.stepTo g n b.next) (s.retireInstr g.val n Blk.next) g b.slot 0 := by
  rw [State.retireInstr_eq s g n b c hb hc]
  split
  · exact .endBlock _ g b.slot c b.next ((State.stepTo_cmd ..).trans hc) hv
  · exact .refl ..

theorem State.stepTo_vale (s : State) (g : Vale) (n : Nat) (b : Blk) :
    (s.stepTo g n b).vale g.val = { s.vale g.val with elem := { (s.vale g.val).elem with wait := .none, blk := some b } } := by
  simp [State.stepTo, State.modElem_vale]

theorem State.stepTo_vale_other (s : State) (g : Vale) (n : Nat) (b : Blk) {h : Nat} (ne : h ≠ g.val) :
    (s.stepTo g n b).vale h = s.vale h := by
  simp [State.stepTo, State.modElem_vale, ne]

theorem State.stepTo_lane (s : State) (g : Vale) (n : Nat) (b : Blk) (j : Nat) : (s.stepTo g n b).lane g.val j = s.lane g.val j := by
  simp [State.lane, State.stepTo_vale]

theorem State.stepTo_reg64 (s : State) (g : Vale) (n : Nat) (b : Blk) (h : s.counting (.elem g) = true) :
    (s.stepTo g n b).reg64 (pageBase (.elem g) + 0x58) = (s.reg64 (pageBase (.elem g) + 0x58) + n) % 2 ^ 64 :=
  State.count64_reg64 s (.elem g) 0x58 n h

/-- A step counts in ISSUE and in no other register. -/
theorem State.stepTo_reg_other (s : State) (g : Vale) (n : Nat) (b : Blk) (a : Nat) (low : a ≠ pageBase (.elem g) + 0x58)
    (high : a ≠ pageBase (.elem g) + 0x5C) : (s.stepTo g n b).reg a = s.reg a :=
  State.count64_reg_other s (.elem g) 0x58 n a low high

theorem State.stepTo_leads {F : StateField → Bool} [May F .vales] [May F .regs] {r s : State} (g : Vale) (n : Nat) (b : Blk)
    (h : State.Leads F r s) : State.Leads F r (s.stepTo g n b) :=
  State.modElem_leads _ _ (State.count64_leads _ _ _ h)

/-! ### The instruction of a program's next word (R162, R172, R186) -/

/-- The block from which an engine issues is the one under way, and its command stands in its slot. -/
theorem State.issuing_eq_some {s : State} {g k : Nat} {c : Cmd} {b : Blk} (h : s.issuing g = some (k, c, b)) :
    (s.vale g).elem.blk = some b ∧ b.slot = k ∧ s.cmd k = some c := by
  unfold State.issuing at h
  split at h
  · cases h
  · next b' hb =>
    split at h
    · cases h
    · next c' hc =>
      split at h
      · cases h; exact ⟨hb, rfl, hc⟩
      · cases h

/-- While the part runs, the word at the program counter is issued. -/
theorem Issues.issueOk {s : State} {g : Vale} {w k : Nat} {c : Cmd} {b : Blk} (h : Issues s g w k c b) : issueOk g.val w s = true := by
  simp [Machine.issueOk, h.block, h.word]

/-- An instruction that is the next of its engine's program has its effect. -/
theorem Issues.act_eq {s : State} {g : Vale} {w k : Nat} {c : Cmd} {b : Blk} (h : Issues s g w k c b) (f : State → State) :
    act s (fun s => if Machine.issueOk g.val w s then f s else s) = .next (f s) := by
  simp [act, h.live, h.issueOk]

section
variable (s : State) (g : Vale) (k : Nat) (c : Cmd) (d : Nat) (js : List Nat) (r : Nat → LaneRes)

/-- The saturation events of results r in lanes js. -/
def satSum (js : List Nat) (r : Nat → LaneRes) : Nat := (js.map fun j => (r j).sat).foldl (· + ·) 0

/-- The state in which the lanes js have taken their results. -/
def State.lanesPut : State := (js.map fun j => (j, r j)).foldl (State.putLane g.val d) s

theorem State.writeLanes_eq (hv : c.vale = g.val) :
    s.writeLanes k c d (js.map fun j => (j, r j)) = (s.lanesPut g d js r).elemSat k c (satSum js r) := by
  unfold State.writeLanes
  rw [hv, State.putLanes_eq, List.map_map]
  rfl

/-- Lanes that take results change their vale only. -/
theorem State.lanesPut_leads {F : StateField → Bool} [May F .vales] : State.Leads F s (s.lanesPut g d js r) :=
  State.leads_foldl (.refl F s) fun _ _ h => State.setLane_leads _ _ _ h

theorem State.lanesPut_only {f : StateField} (h : f ≠ .vales) : f.same s (s.lanesPut g d js r) :=
  (@State.lanesPut_leads s g d js r (fun f => f == .vales) ⟨rfl⟩).within f (by simpa using h)

theorem State.lanesPut_cmd (j : Nat) : (s.lanesPut g d js r).cmd j = s.cmd j := by
  have slots : (s.lanesPut g d js r).slots = s.slots := s.lanesPut_only (f := .slots) g d js r nofun
  simp [State.cmd, slots]

theorem State.lanesPut_reg (a : Nat) : (s.lanesPut g d js r).reg a = s.reg a := by
  have regs : (s.lanesPut g d js r).regs = s.regs := s.lanesPut_only (f := .regs) g d js r nofun
  simp [State.reg, regs]

theorem State.lanesPut_counting : (s.lanesPut g d js r).counting (.elem g) = s.counting (.elem g) := by
  have resets : (s.lanesPut g d js r).resets = s.resets := s.lanesPut_only (f := .resets) g d js r nofun
  simp [State.counting, State.resetting, State.regBit, State.regF, State.lanesPut_reg, resets]

theorem State.lanesPut_vale (h : Nat) :
    ∃ ls, (s.lanesPut g d js r).vale h =
      if h = g.val then { s.vale h with elem := { (s.vale h).elem with lanes := ls } } else s.vale h := by
  obtain ⟨ls, e⟩ := State.foldl_putLane_vale g.val d (js.map fun j => (j, r j)) s h
  refine ⟨ls, e.trans ?_⟩
  split
  · next e => rw [e]
  · rfl

theorem State.lanesPut_take (nodup : js.Nodup) : LanesTake s (s.lanesPut g d js r) g d js r :=
  State.foldl_putLane_lane g.val d r js nodup s

end

/-- The executing lanes are distinct. -/
theorem State.executing_nodup (s : State) (g : Nat) (b : Blk) (pred : BitVec 3) (pneg : Bool) : (s.executing g b pred pneg).Nodup :=
  List.nodup_range.filter _

/-- PROG_LEN stands in the descriptor. -/
theorem Cmd.progLen_of_desc {c c' : Cmd} (h : c'.desc = c.desc) : c'.progLen = c.progLen := by
  simp [Cmd.progLen, Cmd.f, h]

/-- From s to v the lanes js of engine g have taken the results r in register d, and the saturation events count for the command c in
slot k; the block under way and ISSUE are as before. -/
structure LanesWritten (s v : State) (g : Vale) (k : Nat) (c : Cmd) (d : Nat) (js : List Nat) (r : Nat → LaneRes) : Prop where
  lanes : LanesTake s v g d js r
  blk : (v.vale g.val).elem.blk = (s.vale g.val).elem.blk
  vales : ∀ h, h ≠ g.val → v.vale h = s.vale h
  slots : ∀ j, j ≠ k → v.cmd j = s.cmd j
  command : ∃ c', v.cmd k = some c' ∧ c'.desc = c.desc ∧ c'.vale = c.vale ∧
    min c'.sat 0xFFFFFFFF = min (c.sat + satSum js r) 0xFFFFFFFF
  issue : v.reg64 (pageBase (.elem g) + 0x58) = s.reg64 (pageBase (.elem g) + 0x58)
  counting : v.counting (.elem g) = s.counting (.elem g)

/-- Registers that read the same make the same pair. -/
theorem State.reg64_congr {s t : State} {a : Nat} (low : t.reg a = s.reg a) (high : t.reg (a + 4) = s.reg (a + 4)) :
    t.reg64 a = s.reg64 a := by
  simp only [State.reg64, low, high]

/-- Work beside the issue leaves ISSUE alone. -/
theorem EngineWork.issue {s t : State} {g : Vale} {k n : Nat} (h : EngineWork s t g k n) :
    t.reg64 (pageBase (.elem g) + 0x58) = s.reg64 (pageBase (.elem g) + 0x58) :=
  State.reg64_congr (h.regs 0x58 (by simp)) (h.regs 0x5C (by simp))

theorem State.writeLanes_written (s : State) (g : Vale) (k : Nat) (c : Cmd) (d : Nat) (js : List Nat) (r : Nat → LaneRes)
    (hc : s.cmd k = some c) (hv : c.vale = g.val) (nodup : js.Nodup) :
    LanesWritten s (s.writeLanes k c d (js.map fun j => (j, r j))) g k c d js r := by
  rw [State.writeLanes_eq s g k c d js r hv]
  have put_cmd := State.lanesPut_cmd s g d js r
  have put_reg := State.lanesPut_reg s g d js r
  have events := EngineWork.elemSat (s.lanesPut g d js r) g k c hv (satSum js r)
  have events_vale := State.elemSat_vale (s.lanesPut g d js r) k c (satSum js r)
  constructor
  case lanes => exact fun j => (events.lanes j).trans (State.lanesPut_take s g d js r nodup j)
  case blk =>
    obtain ⟨ls, e⟩ := State.lanesPut_vale s g d js r g.val
    rw [events_vale, e, if_pos rfl]
  case vales =>
    intro h ne
    obtain ⟨ls, e⟩ := State.lanesPut_vale s g d js r h
    rw [events_vale, e, if_neg ne]
  case slots => exact fun j ne => (events.slots j ne).trans (put_cmd j)
  case command => exact events.command c ((put_cmd k).trans hc)
  case issue => exact events.issue.trans (State.reg64_congr (put_reg _) (put_reg _))
  case counting => exact events.counting.trans (State.lanesPut_counting s g d js r)

/-- Lanes that take the results of the instruction at the front of the program, and its retirement, make a `LaneStep`. -/
theorem Issues.laneStep {s : State} {g : Vale} {w k : Nat} {c : Cmd} {b : Blk} (hi : Issues s g w k c b) (d n : Nat) (js : List Nat)
    (r : Nat → LaneRes) (nodup : js.Nodup) :
    LaneStep s ((s.writeLanes k c d (js.map fun j => (j, r j))).retireInstr g.val n Blk.next) g k c b js d n r := by
  obtain ⟨hb, slot, hc⟩ := State.issuing_eq_some hi.block
  have written := State.writeLanes_written s g k c d js r hc hi.vale nodup
  have quiet : satSum js r = 0 → s.writeLanes k c d (js.map fun j => (j, r j)) = s.lanesPut g d js r := fun none => by
    rw [State.writeLanes_eq s g k c d js r hi.vale, none]; exact if_pos rfl
  generalize s.writeLanes k c d (js.map fun j => (j, r j)) = v at written quiet
  obtain ⟨c', hc', desc, vale, sat⟩ := written.command
  have len := Cmd.progLen_of_desc desc
  have ends := slot ▸ State.retireInstr_work v g n b c' (written.blk.trans hb) (slot ▸ hc') (vale.trans hi.vale)
  have goes_on := len ▸ State.retireInstr_goes_on v g n b c' (written.blk.trans hb) (slot ▸ hc')
  generalize v.retireInstr g.val n Blk.next = t at ends goes_on
  constructor
  case lanes => exact fun j => ((ends.lanes j).trans (State.stepTo_lane v g n b.next j)).trans (written.lanes j)
  case retires =>
    constructor
    case block => intro h; simp [goes_on h, State.stepTo_vale]
    case issue =>
      intro h
      rw [ends.issue, State.stepTo_reg64 v g n b.next (written.counting.trans h), written.issue]
    case vales => exact fun h ne => (ends.vales h ne).trans ((State.stepTo_vale_other v g n b.next ne).trans (written.vales h ne))
    case slots => exact fun j ne => (ends.slots j ne).trans ((State.stepTo_cmd ..).trans (written.slots j ne))
  case sat =>
    obtain ⟨c2, hc2, desc2, -, sat2⟩ := ends.command c' ((State.stepTo_cmd ..).trans hc')
    exact ⟨c2, hc2, desc2.trans desc, sat2.trans sat⟩
  case frame =>
    intro none h
    rw [goes_on h, quiet none]
    constructor
    · exact (@State.stepTo_leads (fun f => [.vales, .regs].contains f) ⟨rfl⟩ ⟨rfl⟩ s _ g n _
        (@State.lanesPut_leads s g d js r _ ⟨rfl⟩)).within
    · intro a ha
      simp only [List.mem_cons, List.not_mem_nil, or_false, not_or] at ha
      rw [State.stepTo_reg_other _ _ _ _ _ ha.1 ha.2, State.lanesPut_reg]

/-- An instruction of the R format that computes each lane's result from the lane alone, with no field that breaks R193. -/
theorem Issues.issueLane {s : State} {g : Vale} {w k : Nat} {c : Cmd} {b : Blk} (h : Issues s g w k c b) (i : RFmt) {bad : Bool}
    (fine : bad = false) (n : Nat) (f : Lane → LaneRes) :
    LaneStep s (s.issueLane g.val i bad n f) g k c b (s.executing g.val b i.pred i.pneg) i.d.toNat n fun j => f (s.lane g.val j) := by
  have step := h.laneStep i.d.toNat n (s.executing g.val b i.pred i.pneg) (fun j => f (s.lane g.val j)) (State.executing_nodup ..)
  simpa [State.issueLane, State.issue, h.block, fine, resvErr] using step

/-- Such an instruction has that effect where its meaning is of the shape that every such meaning has. -/
theorem Issues.execLane {s : State} {g : Vale} {w k : Nat} {c : Cmd} {b : Blk} (h : Issues s g w k c b) (i : RFmt) {bad : Bool}
    (fine : bad = false) (n : Nat) (f : Lane → LaneRes) {x : Instr}
    (means : exec x s = act s fun s => if Machine.issueOk g.val w s then s.issueLane g.val i bad n f else s) :
    ∃ t, exec x s = .next t ∧
      LaneStep s t g k c b (s.executing g.val b i.pred i.pneg) i.d.toNat n fun j => f (s.lane g.val j) :=
  ⟨_, means.trans (h.act_eq _), h.issueLane i fine n f⟩

end Sys2Proof.Machine
end

section
/-! PROOFS. ElementArithmetic: the integer arithmetic of the element engine (R198), and its comparisons and sign operations on FP32
(R196): what each computes in one lane, and that its issue writes it to every executing lane. -/

namespace Sys2Proof.Machine

/-! ### One lane: integers (R198) -/

/-- The exact integer, brought into the range of INT32. -/
theorem satInt32_w (q : Int) : (satInt32 q).w.toInt = min (max q (-2147483648)) 2147483647 := by
  unfold satInt32
  split
  · rw [show ((0x7FFFFFFF#32 : Word).toInt) = 2147483647 by decide]; omega
  · split
    · rw [show ((0x80000000#32 : Word).toInt) = -2147483648 by decide]; omega
    · rw [LaneRes.plain, BitVec.toInt_ofInt, Int.bmod_eq_of_le (by omega) (by omega)]; omega

/-- A result in the range of INT32 raises nothing. -/
theorem satInt32_inside (q : Int) (lo : -2147483648 ≤ q) (hi : q ≤ 2147483647) :
    (satInt32 q).flags = 0#4 ∧ (satInt32 q).sat = 0 := by
  rw [satInt32, if_neg (by omega), if_neg (by omega)]
  exact ⟨rfl, rfl⟩

/-- A result out of the range of INT32 is one saturation event. -/
theorem satInt32_outside (q : Int) (h : q < -2147483648 ∨ 2147483647 < q) :
    (satInt32 q).flags = Flags.overflow ||| Flags.inexact ∧ (satInt32 q).sat = 1 := by
  unfold satInt32
  split
  · exact ⟨rfl, rfl⟩
  · split
    · exact ⟨rfl, rfl⟩
    · omega

theorem satInt32_exact (q : Int) :
    (satInt32 q).w.toInt = min (max q (-2147483648)) 2147483647 ∧
      (-2147483648 ≤ q → q ≤ 2147483647 → (satInt32 q).flags = 0#4 ∧ (satInt32 q).sat = 0) ∧
      ((q < -2147483648 ∨ 2147483647 < q) → (satInt32 q).flags = Flags.overflow ||| Flags.inexact ∧ (satInt32 q).sat = 1) :=
  ⟨satInt32_w q, satInt32_inside q, satInt32_outside q⟩

theorem opImin_picks (m : BitVec 6) (a b : Word) :
    (opImin (m == 1) a b).flags = 0#4 ∧ (opImin (m == 1) a b).sat = 0 ∧
      (m = 0 → (opImin (m == 1) a b).w.toInt = min a.toInt b.toInt) ∧
      (m = 1 → ((opImin (m == 1) a b).w.toNat : Int) = min (a.toNat : Int) b.toNat) := by
  refine ⟨rfl, rfl, ?_, ?_⟩
  · rintro rfl
    simp only [opImin, LaneRes.plain, show ((0 : BitVec 6) == 1) = false by decide, Bool.false_eq_true, if_false]
    split <;> omega
  · rintro rfl
    simp only [opImin, LaneRes.plain, beq_self_eq_true, if_true]
    split <;> omega

theorem opImax_picks (m : BitVec 6) (a b : Word) :
    (opImax (m == 1) a b).flags = 0#4 ∧ (opImax (m == 1) a b).sat = 0 ∧
      (m = 0 → (opImax (m == 1) a b).w.toInt = max a.toInt b.toInt) ∧
      (m = 1 → ((opImax (m == 1) a b).w.toNat : Int) = max (a.toNat : Int) b.toNat) := by
  refine ⟨rfl, rfl, ?_, ?_⟩
  · rintro rfl
    simp only [opImax, LaneRes.plain, show ((0 : BitVec 6) == 1) = false by decide, Bool.false_eq_true, if_false]
    split <;> omega
  · rintro rfl
    simp only [opImax, LaneRes.plain, beq_self_eq_true, if_true]
    split <;> omega

/-- Settles O36: every instruction writes its executing lanes as `Issues.execLane` says, and what it computes in a lane is the exact
integer brought into range, or one of the two operands. -/
theorem integerArithmetic : Obligations.IntegerArithmetic := by
  intro s g i k c b hc js x y exactly picks
  refine ⟨fun h hm => ?iadd, fun h hm => ?isub, fun h hm => ?imul, fun h hm => ?imin, fun h hm => ?imax, fun h hb hm => ?iabs⟩
  case iadd =>
    obtain ⟨t, next, step⟩ := h.execLane (x := .iadd g i) i (by simp [hc, hm]) 1 _ rfl
    exact ⟨t, _, next, step, fun j => satInt32_exact _⟩
  case isub =>
    obtain ⟨t, next, step⟩ := h.execLane (x := .isub g i) i (by simp [hc, hm]) 1 _ rfl
    exact ⟨t, _, next, step, fun j => satInt32_exact _⟩
  case imul =>
    obtain ⟨t, next, step⟩ := h.execLane (x := .imul g i) i (by simp [hc, hm]) 1 _ rfl
    exact ⟨t, _, next, step, fun j => satInt32_exact _⟩
  case imin =>
    obtain ⟨t, next, step⟩ := h.execLane (x := .imin g i) i (by simp [hc, hm]) 1 _ rfl
    exact ⟨t, _, next, step, fun j => opImin_picks i.mod (x j) (y j)⟩
  case imax =>
    obtain ⟨t, next, step⟩ := h.execLane (x := .imax g i) i (by simp [hc, hm]) 1 _ rfl
    exact ⟨t, _, next, step, fun j => opImax_picks i.mod (x j) (y j)⟩
  case iabs =>
    obtain ⟨t, next, step⟩ := h.execLane (x := .iabs g i) i (by simp [hb, hc, hm]) 1 _ rfl
    exact ⟨t, _, next, step, fun j => satInt32_exact _⟩

/-! ### One lane: the order of FP32 values (R196) -/

theorem scaledInt_zero (neg : Bool) (e e0 : Int) : scaledInt neg 0 e e0 = 0 := by simp [scaledInt]

theorem Val.lt_irrefl (a : Val) : Val.lt a a = false := by
  cases a with
  | nan => rfl
  | inf n => simp [Val.lt]
  | fin n m e => simp [Val.lt]

theorem Val.lt_asymm {a b : Val} (h : Val.lt a b = true) : Val.lt b a = false := by
  cases a with
  | nan => cases h
  | inf n => cases b <;> simp_all [Val.lt]
  | fin n m e =>
    cases b with
    | nan => cases h
    | inf n' => simp_all [Val.lt]
    | fin n' m' e' =>
      simp only [Val.lt, decide_eq_true_eq, decide_eq_false_iff_not] at h ⊢
      rw [Int.min_comm e' e]
      omega

/-- Zeros of either sign are equal. -/
theorem Val.lt_of_isZero {a b : Val} (ha : a.isZero = true) (hb : b.isZero = true) : Val.lt a b = false := by
  cases a <;> cases b <;> simp_all [Val.isZero, Val.lt, scaledInt_zero]

theorem Val.below_of_lt {a b : Val} (h : Val.lt a b = true) : Val.below a b = true := by simp [Val.below, h]

/-- What is below a value does not follow it. -/
theorem Val.not_lt_of_below {a b : Val} (h : Val.below a b = true) : Val.lt b a = false := by
  simp only [Val.below, Bool.or_eq_true, Bool.and_eq_true] at h
  rcases h with lt | ⟨⟨ha, hb⟩, -⟩
  · exact Val.lt_asymm lt
  · exact Val.lt_of_isZero hb ha

theorem Val.not_lt_of_not_below {a b : Val} (h : Val.below a b = false) : Val.lt a b = false :=
  Bool.eq_false_iff.2 fun lt => Bool.eq_false_iff.1 h (Val.below_of_lt lt)

theorem isNan_eq_true {w : Word} : isNan w = true ↔ fval w = .nan := by simp [isNan]

theorem isNan_eq_false {w : Word} : isNan w = false ↔ fval w ≠ .nan := by simp [isNan]

theorem opFmin_nan {a b : Word} (h : fval a = .nan ∨ fval b = .nan) : (opFmin a b).w = 0x7FC00000#32 := by
  have nan : (isNan a || isNan b) = true := by simpa [isNan_eq_true] using h
  rw [opFmin, if_pos nan]; rfl

theorem opFmax_nan {a b : Word} (h : fval a = .nan ∨ fval b = .nan) : (opFmax a b).w = 0x7FC00000#32 := by
  have nan : (isNan a || isNan b) = true := by simpa [isNan_eq_true] using h
  rw [opFmax, if_pos nan]; rfl

/-- FMIN answers an operand that neither operand precedes. -/
theorem opFmin_least {a b : Word} (ha : fval a ≠ .nan) (hb : fval b ≠ .nan) :
    ((opFmin a b).w = a ∨ (opFmin a b).w = b) ∧ Val.lt (fval a) (fval (opFmin a b).w) = false ∧
      Val.lt (fval b) (fval (opFmin a b).w) = false := by
  rw [opFmin, isNan_eq_false.2 ha, isNan_eq_false.2 hb]
  cases below : fBelow b a with
  | true => exact ⟨.inr rfl, Val.not_lt_of_below below, Val.lt_irrefl _⟩
  | false => exact ⟨.inl rfl, Val.lt_irrefl _, Val.not_lt_of_not_below below⟩

/-- FMAX answers an operand that precedes neither operand. -/
theorem opFmax_greatest {a b : Word} (ha : fval a ≠ .nan) (hb : fval b ≠ .nan) :
    ((opFmax a b).w = a ∨ (opFmax a b).w = b) ∧ Val.lt (fval (opFmax a b).w) (fval a) = false ∧
      Val.lt (fval (opFmax a b).w) (fval b) = false := by
  rw [opFmax, isNan_eq_false.2 ha, isNan_eq_false.2 hb]
  cases below : fBelow a b with
  | true => exact ⟨.inr rfl, Val.not_lt_of_below below, Val.lt_irrefl _⟩
  | false => exact ⟨.inl rfl, Val.lt_irrefl _, Val.not_lt_of_not_below below⟩

/-- Of the two zeros, FMIN answers -0. -/
theorem opFmin_zeros {a b : Word} (h : a = 0x80000000#32 ∧ b = 0#32 ∨ a = 0#32 ∧ b = 0x80000000#32) :
    (opFmin a b).w = 0x80000000#32 := by
  rcases h with ⟨rfl, rfl⟩ | ⟨rfl, rfl⟩ <;> decide

/-- Of the two zeros, FMAX answers +0. -/
theorem opFmax_zeros {a b : Word} (h : a = 0x80000000#32 ∧ b = 0#32 ∨ a = 0#32 ∧ b = 0x80000000#32) :
    (opFmax a b).w = 0#32 := by
  rcases h with ⟨rfl, rfl⟩ | ⟨rfl, rfl⟩ <;> decide

/-! ### One lane: the sign (R196) -/

theorem opFabs_nan {a : Word} (h : fval a = .nan) : (opFabs a).w = 0x7FC00000#32 := by
  rw [opFabs, if_pos (isNan_eq_true.2 h)]; rfl

theorem opFneg_nan {a : Word} (h : fval a = .nan) : (opFneg a).w = 0x7FC00000#32 := by
  rw [opFneg, if_pos (isNan_eq_true.2 h)]; rfl

/-- FABS clears bit 31. -/
theorem opFabs_bit {a : Word} (h : fval a ≠ .nan) (m : Nat) (hm : m < 32) : (opFabs a).w.getLsbD m = (a.getLsbD m && m != 31) := by
  have mask : ∀ m, m < 32 → (0x7FFFFFFF#32 : Word).getLsbD m = (m != 31) := by decide
  simp only [opFabs, isNan_eq_false.2 h, LaneRes.plain, withSign, Bool.false_eq_true, if_false, BitVec.getLsbD_and, mask m hm]

/-- FNEG inverts bit 31. -/
theorem opFneg_bit {a : Word} (h : fval a ≠ .nan) (m : Nat) (hm : m < 32) : (opFneg a).w.getLsbD m = (a.getLsbD m != (m == 31)) := by
  have mask : ∀ m, m < 32 → (0x80000000#32 : Word).getLsbD m = (m == 31) := by decide
  simp only [opFneg, isNan_eq_false.2 h, LaneRes.plain, Bool.false_eq_true, if_false, BitVec.getLsbD_xor, mask m hm]

/-- Settles O59: every instruction writes its executing lanes as `Issues.execLane` says; none of the four results raises a flag, and each
follows from the order of values or from the bits of the operand. -/
theorem minMaxAbsNeg : Obligations.MinMaxAbsNeg := by
  intro s g i k c b hc hm js x y quiet nan
  refine ⟨fun h => ?fmin, fun h => ?fmax, fun hb h => ?fabs, fun hb h => ?fneg⟩
  case fmin =>
    obtain ⟨t, next, step⟩ := h.execLane (x := .fmin g i) i (by simp [hc, hm]) 1 _ rfl
    exact ⟨t, _, next, step, fun j => ⟨rfl, rfl⟩, fun j => ⟨opFmin_nan, opFmin_least, opFmin_zeros⟩⟩
  case fmax =>
    obtain ⟨t, next, step⟩ := h.execLane (x := .fmax g i) i (by simp [hc, hm]) 1 _ rfl
    exact ⟨t, _, next, step, fun j => ⟨rfl, rfl⟩, fun j => ⟨opFmax_nan, opFmax_greatest, opFmax_zeros⟩⟩
  case fabs =>
    obtain ⟨t, next, step⟩ := h.execLane (x := .fabs g i) i (by simp [hb, hc, hm]) 1 _ rfl
    exact ⟨t, _, next, step, fun j => ⟨rfl, rfl⟩, fun j => ⟨opFabs_nan, opFabs_bit⟩⟩
  case fneg =>
    obtain ⟨t, next, step⟩ := h.execLane (x := .fneg g i) i (by simp [hb, hc, hm]) 1 _ rfl
    exact ⟨t, _, next, step, fun j => ⟨rfl, rfl⟩, fun j => ⟨opFneg_nan, opFneg_bit⟩⟩

end Sys2Proof.Machine
end

section
/-! PROOFS. FreePage: the partition page while its partition is FREE (R283). Every operation of the page begins with the test that its
partition is not FREE, and the other registers are not writable then, so a write of the page leaves every register as it reads. -/

namespace Sys2Proof.Machine

/-! ### Where the registers of a partition page lie (R578) -/

theorem pageAt_partBase (n : PartId) {o : Nat} (ho : o < 0x100000) : pageAt (partBase n.val + o) = some (.part n) := by
  have hn := n.isLt
  have number : Fin.ofNat 16 ((partBase n.val + o - 0x10000000) / 0x100000) = n := by
    apply Fin.ext; simp only [partBase, Fin.ofNat]; omega
  have above : 0x10000000 ≤ partBase n.val + o ∧ partBase n.val + o < 0x11000000 := by unfold partBase; omega
  unfold pageAt
  rw [if_neg (by omega), if_neg (by omega), if_neg (by omega), if_neg (by omega), if_neg (by omega), if_neg (by omega),
    if_neg (by omega), if_neg (by omega), if_pos above, number]

theorem locate_partBase (n : PartId) {o : Nat} (ho : o < 0x100000) : locate (partBase n.val + o) = some (.part n, o) := by
  simp [locate, pageAt_partBase n ho, pageBase]

theorem flatAddr_vf (n : PartId) {o : Nat} (ho : o < 0x100000) : flatAddr (.vf n) o = some (partBase n.val + o) := if_pos ho

/-- The header of a partition page holds BLK_ID, BLK_VER, BLK_CTL and BLK_STAT only (R587). -/
theorem rowsAt_part_header (n : PartId) {o : Nat} (ho : o < 0x40) (h0 : o ≠ 0) (h4 : o ≠ 4) (h8 : o ≠ 8) (hC : o ≠ 0x0C) :
    rowsAt (.part n) o = [] := by
  have noIrq : (pageRows (.part n)).filter (·.covers 0x10) = [] := by simp only [pageRows]; decide
  by_cases irq : o = 0x10 ∨ o = 0x14 ∨ o = 0x18
  · rcases irq with rfl | rfl | rfl <;> simp [rowsAt, noIrq]
  · simp only [not_or] at irq
    have header : (headerRows (.part n)).filter (·.covers o) = [] := by
      simp [headerRows, pageHasFence, pageHasFlags, pageSoftReset, row1, RegRow.covers, h0, h4, h8, hC]
    simp [rowsAt, irq, ho, header]

/-! ### Reads -/

/-- The header of a partition page reads the same whether its partition is FREE or not. -/
theorem viewReg_part_header {s : State} {n : PartId} (steady : s.resetting (.part n) = false) {o : Nat} (ho : o < 0x40) :
    viewReg s (partBase n.val + o) =
      if o = 0x0C then viewBlkStat s (.part n)
      else if o = 0 ∨ o = 4 then regDefault (partBase n.val + o)
      else if o = 8 then viewBlkCtl s (.part n) &&& readMask (rowsAt (.part n) o)
      else 0#32 := by
  have noLive : viewLive s (.part n) o = none := by
    simp only [viewLive, viewPart]
    repeat rw [if_neg (by omega)]
  unfold viewReg
  rw [locate_partBase n (show o < 0x100000 by omega)]
  dsimp only
  rw [if_neg (show ¬ s.resetting (.part n) = true by simp [steady])]
  refine ite_congr rfl (fun _ => rfl) fun hC => ite_congr rfl (fun _ => rfl) fun h04 => ite_congr rfl (fun _ => rfl) fun h8 => ?_
  have noRows : rowsAt (.part n) o = [] := rowsAt_part_header n ho (fun e => h04 (.inl e)) (fun e => h04 (.inr e)) h8 hC
  simp [noLive, noRows, readMask]

/-- Beyond its header the page of a FREE partition reads zero. -/
theorem viewReg_part_free {s : State} {n : PartId} (free : (s.part n.val).mode = .free) (steady : s.resetting (.part n) = false)
    {o : Nat} (lo : 0x40 ≤ o) (hi : o < 0x100000) : viewReg s (partBase n.val + o) = 0#32 := by
  have closed : pageFree s (.part n) = true := by simp [pageFree, free]
  unfold viewReg
  rw [locate_partBase n hi]
  dsimp only
  rw [if_neg (by omega), if_neg (by omega), if_neg (by simp [steady]), if_neg (by omega), if_pos closed]

/-- A host read returns the shadow of the register, or else the register (R10). -/
theorem State.hostRead_fst (s : State) (fn : Fn) {a : Nat} {pg : Page} {o : Nat} (here : locate a = some (pg, o)) :
    (s.hostRead fn a).1 = (s.shadow fn a).getD (viewReg s a) := by
  simp [State.hostRead, here]

@[simp] theorem State.hostRead_out (s : State) (fn : Fn) (a : Nat) : (s.hostRead fn a).2.out = s.out := by
  have regs : May (fun f => [.regs, .shadows].contains f) .regs := ⟨rfl⟩
  have shadows : May (fun f => [.regs, .shadows].contains f) .shadows := ⟨rfl⟩
  exact (State.hostRead_leads (F := fun f => [.regs, .shadows].contains f) fn a (.refl _ s)).within .out rfl

/-- A read of the page of a FREE partition drives out a zero. -/
theorem State.readOut_part_free {s : State} {n : PartId} (free : (s.part n.val).mode = .free) (steady : s.resetting (.part n) = false)
    {o : Nat} (lo : 0x40 ≤ o) (hi : o < 0x100000) (noShadow : s.shadow (.vf n) (partBase n.val + o) = none) :
    (s.readOut (.vf n) o).out = s.out ++ [.read (.vf n) o 0#64] := by
  simp [State.readOut, flatAddr_vf n hi, State.emit, State.hostRead_fst s (.vf n) (locate_partBase n hi), noShadow,
    viewReg_part_free free steady lo hi]

/-! ### Host accesses that are served -/

theorem actBar_serves {s : State} {fn : Fn} (serves : Serves s fn = true) (f : State → State) : actBar fn s f = .next (f s) := by
  have live : s.live = true := by
    simp only [Serves, State.ready, Bool.and_eq_true] at serves
    exact serves.1.1
  unfold actBar act
  rw [if_pos live]
  exact congrArg _ (if_pos serves)

theorem actBar_discarded {s : State} {fn : Fn} (serves : Serves s fn = true) {f : State → State} (h : f s = s) :
    actBar fn s f = .next s := by rw [actBar_serves serves, h]

/-- A VF has no MP page (R533). -/
theorem actAt_vf_serves {s : State} {n : PartId} (serves : Serves s (.vf n) = true) (ofs : Nat) (f : State → State) :
    actAt (inMpPage (.vf n) ofs) (.vf n) s f = .next (f s) := actBar_serves serves f

/-! ### States that read alike -/

/-- Every register and every field of the state beside the register file is the same in t; the register file may list t's registers
in another way. -/
structure State.Alike (s t : State) : Prop where
  regs : s.RegsBut [] t
  rest : s.Only [.regs] t

namespace State.Alike

variable {s t u : State}

theorem refl (s : State) : s.Alike s := ⟨fun _ _ => rfl, (State.Leads.refl _ s).within⟩

theorem of_eq (h : t = s) : s.Alike t := h ▸ refl s

theorem trans (h : s.Alike t) (k : t.Alike u) : s.Alike u :=
  ⟨fun a ha => (k.regs a ha).trans (h.regs a ha), fun f hf => f.same_trans (h.rest f hf) (k.rest f hf)⟩

theorem reg (h : s.Alike t) (a : Nat) : t.reg a = s.reg a := h.regs a List.not_mem_nil

theorem part (h : s.Alike t) (n : Nat) : t.part n = s.part n := by
  have parts : t.parts = s.parts := h.rest .parts rfl
  simp [State.part, parts]

/-- To write a register with what it holds. -/
theorem setReg_self (s : State) (a : Nat) : s.Alike (s.setReg a (s.reg a)) := by
  refine ⟨fun b _ => ?_, ?_⟩
  · rw [State.setReg_reg]; split
    · next e => rw [e]
    · rfl
  · have regs : May (fun f => [.regs].contains f) .regs := ⟨rfl⟩
    exact (State.setReg_leads a _ (.refl _ s)).within

end State.Alike

/-! ### Writes of the page -/

section
variable {s : State} {n : PartId}

theorem State.pageOn_free (free : (s.part n.val).mode = .free) : s.pageOn n.val = false := by simp [State.pageOn, free]

/-- The plain store of a host write takes no field beyond the header. -/
theorem State.storeReg_free (free : (s.part n.val).mode = .free) {o : Nat} (lo : 0x40 ≤ o) (hi : o < 0x100000) (v : Word) :
    s.Alike (s.storeReg (partBase n.val + o) v) := by
  have closed : ∀ r, writable s (.part n) o r = false := by simp [writable, partWritable, free, show ¬ o < 0x40 by omega]
  have noFields : (rowsAt (.part n) o).filter (fun r => true && writable s (.part n) o r) = [] :=
    List.filter_eq_nil_iff.2 fun r _ => by rw [closed r]; decide
  have noIrq : irqWritePage (.part n) o = none := if_neg (by omega)
  have stored : s.storeReg (partBase n.val + o) v = s.setReg (partBase n.val + o) (s.reg (partBase n.val + o)) := by
    unfold State.storeReg State.storeFields
    rw [locate_partBase n hi]
    dsimp only
    rw [noIrq, noFields]
    rfl
  rw [stored]
  exact .setReg_self s _

theorem onBit_of_eq {f : State → State} (h : f s = s) (v : Word) (i : Nat) : onBit v i f s = s := by simp [onBit, h]

/-! #### The operations of the page's registers begin with that test -/

section
variable (off : s.pageOn n.val = false)
include off

theorem sqDoorbellDo_off (j : Job) (v : Word) : sqDoorbellDo n j v s = s := by simp [sqDoorbellDo, off]
theorem cqHeadDo_off (v : Word) : cqHeadDo n v s = s := by simp [cqHeadDo, off]
theorem State.ringBell_off (size tail v : Nat) : s.ringBell n.val size tail v = s := by simp [State.ringBell, off]
theorem writeJobCtl_off (j : Job) (v : Word) : writeJobCtl n j v s = s := by
  have cancel : onBit v 1 (jobCancelDo n j) s = s := onBit_of_eq (by simp [jobCancelDo, off]) v 1
  rw [writeJobCtl, cancel]
  exact onBit_of_eq (by simp [jobResumeDo, off]) v 0
theorem writeToken_off (o : Nat) (v : Word) : writeToken n o v s = s := by simp [writeToken, off]
theorem writeCq_off (r : CqReg) (v : Word) : writeCq n r v s = s := by simp [writeCq, cqConfigOk, off]
theorem writeFaultResume_off (v : Word) : writeFaultResume n v s = s := by simp [writeFaultResume, off]
theorem vqResumeDo_off : vqResumeDo n s = s := by simp [vqResumeDo, off]
theorem uqResumeDo_off : uqResumeDo n s = s := by simp [uqResumeDo, off]
theorem writeTlbLo_off (v : Word) : writeTlbLo n v s = s := by simp [writeTlbLo, off]
theorem tlbInvDo_off (v : Word) : tlbInvDo n v s = s := by simp [tlbInvDo, off]
theorem resWrite_off (op i g : Nat) (f : Nat → State → Option Nat × State) : resWrite n op i g f s = s := by simp [resWrite, off]
theorem writeResCmd_off (v : Word) : writeResCmd n v s = s := by
  unfold writeResCmd
  split <;> simp [resWrite_off off]
theorem writeDgCtl_off (v : Word) : writeDgCtl n v s = s := by simp [writeDgCtl, digestGoOk, off]

end

/-! #### Any register of the page -/

/-- RC_CTL.EN does not rise, so that nothing divides the vales. -/
theorem writeRcCtl_free (free : (s.part n.val).mode = .free) (v : Word) :
    writeRcCtl n v s = s.storeReg (partBase n.val + 0x5080) v := by
  have same : (s.storeReg (partBase n.val + 0x5080) v).regBit (partBase n.val + 0x5080) 0 = s.regBit (partBase n.val + 0x5080) 0 := by
    have kept := State.storeReg_free free (show 0x40 ≤ 0x5080 by decide) (by decide) v
    simp only [State.regBit, State.regF, kept.reg]
  simp [writeRcCtl, same]

/-- A write of the page of a FREE partition is discarded by the operation of its register, or it is a plain store. -/
theorem writePart_free (free : (s.part n.val).mode = .free) (o : Nat) (v : Word) :
    writePart n o v s = s ∨ writePart n o v s = s.storeReg (partBase n.val + o) v := by
  have off := State.pageOn_free free
  unfold writePart
  split
  · unfold writeJob
    dsimp only
    split
    · exact .inl (sqDoorbellDo_off off ..)
    · split
      · exact .inl (writeJobCtl_off off ..)
      · exact .inr rfl
  · split
    · exact .inl (writeToken_off off ..)
    · split
      · exact .inl (writeCq_off off ..)
      · exact .inl (writeCq_off off ..)
      · exact .inl (writeCq_off off ..)
      · exact .inl (cqHeadDo_off off ..)
      · exact .inl (writeFaultResume_off off ..)
      · exact .inl (State.ringBell_off off ..)
      · exact .inl (onBit_of_eq (vqResumeDo_off off) ..)
      · exact .inl (State.ringBell_off off ..)
      · exact .inl (onBit_of_eq (uqResumeDo_off off) ..)
      · exact .inl (State.ringBell_off off ..)
      · exact .inr (writeRcCtl_free free v)
      · exact .inl (writeTlbLo_off off ..)
      · exact .inl (tlbInvDo_off off ..)
      · exact .inl (writeResCmd_off off ..)
      · exact .inl (onBit_of_eq (writeDgCtl_off off v) ..)
      · exact .inr rfl

/-- A host write of 32 bits below the MSI-X table. -/
theorem writeWord_free (free : (s.part n.val).mode = .free) {o : Nat} (lo : 0x40 ≤ o) (hi : o < 0xF0000) (v : Word) :
    s.Alike (writeWord (.vf n) o v s) := by
  have reaches : writeWord (.vf n) o v s = writePart n o v s := by
    have below : o < 0x100000 := by omega
    simp [writeWord, msixBase, flatAddr_vf n below, locate_partBase n below, writeReg, show ¬ 0xF0000 ≤ o by omega,
      show o ≠ 8 by omega, show o ≠ 0x18 by omega, show ¬ o < 0x40 by omega]
  rw [reaches]
  rcases writePart_free free o v with same | store
  · exact .of_eq same
  · rw [store]; exact State.storeReg_free free lo (by omega) v

/-- A host write of any width and alignment (R9). -/
theorem writeBar_free (free : (s.part n.val).mode = .free) {o : Nat} (lo : 0x40 ≤ o) (hi : o < 0x20000) (width : Nat) (v : BitVec 64) :
    s.Alike (writeBar (.vf n) o width v s) := by
  unfold writeBar
  split
  · exact writeWord_free free lo (by omega) _
  · split
    · have low := writeWord_free free lo (by omega) (v.setWidth 32)
      exact low.trans (writeWord_free ((congrArg Part.mode (low.part n.val)).trans free) (by omega) (by omega) _)
    · exact .refl s

end

/-- Settles O60: reads by the equations of `viewReg` on the page, writes by `writePart_free`, and the doorbells by the test with which their
operations begin. -/
theorem freePartitionsPageIsClosed : Obligations.FreePartitionsPageIsClosed := by
  intro s n free steady
  refine ⟨fun o lo hi => ?reads, fun o ho m => ?header, fun o serves lo hi noShadow => ?commandReads,
    fun o width v serves lo hi => ?writes, fun j v c serves hc => ?doorbells⟩
  case reads => exact viewReg_part_free free steady lo (by omega)
  case header =>
    rw [viewReg_part_header steady ho, viewReg_part_header (s := s.modPart n.val _) steady ho]
    rfl
  case commandReads =>
    have zero := State.readOut_part_free free steady lo (show o < 0x100000 by omega) noShadow
    exact ⟨fun rc => ⟨_, actAt_vf_serves serves o _, by rw [if_pos rc]; exact zero⟩,
      fun shadow => ⟨_, actAt_vf_serves serves o _, by rw [if_pos shadow]; exact zero⟩⟩
  case writes =>
    have discarded := writeBar_free free lo hi width v
    exact ⟨_, actAt_vf_serves serves o _, discarded.regs, discarded.rest⟩
  case doorbells =>
    have off := State.pageOn_free free
    simp only [List.mem_cons, List.not_mem_nil, or_false] at hc
    rcases hc with rfl | rfl | rfl | rfl | rfl
    · exact actBar_discarded serves (sqDoorbellDo_off off j v)
    · exact actBar_discarded (f := fun s => s.ringBell n.val 0x3008 0x300C v.toNat) serves (State.ringBell_off off ..)
    · exact actBar_discarded (f := fun s => s.ringBell n.val 0x4008 0x400C v.toNat) serves (State.ringBell_off off ..)
    · exact actBar_discarded (f := fun s => s.ringBell n.val 0x5008 0x500C v.toNat) serves (State.ringBell_off off ..)
    · exact actBar_discarded serves (cqHeadDo_off off v)

end Sys2Proof.Machine
end

section
/-! PROOFS. RegisterMap: where the pages of the register map lie (R576 to R578). In each region one equation of `pageAt` says which page lies
at an address written as the region's base, a page's number in the region and an offset in the page; the base of every page is of that form. -/

namespace Sys2Proof.Machine

theorem fin_ofNat_of_eq_val {n : Nat} [NeZero n] {i : Fin n} {k : Nat} (h : k = i.val) : Fin.ofNat n k = i := by simp [h]

/-! ### The regions of the map (R576, R577) -/

theorem pageAt_passRegion (n : Pass) {q o a : Nat} (hq : q < 64) (ho : o < 0x1000)
    (place : a = 0x100000 + 0x40000 * n.val + (0x1000 * q + o)) : pageAt a = passPageAt n.val q := by
  have hn := n.isLt
  unfold pageAt
  rw [if_neg (by omega), if_neg (by omega), if_neg (by omega), if_pos (by omega)]
  congr 1 <;> omega

theorem pageAt_plainRegion (p : Plain) {x a : Nat} (hx : x < 0x100000) (place : a = 0x1000000 + 0x100000 * p.val + x) :
    pageAt a = plainPageAt p.val x := by
  have hp := p.isLt
  unfold pageAt
  rw [if_neg (by omega), if_neg (by omega), if_neg (by omega), if_neg (by omega), if_pos (by omega)]
  congr 1 <;> omega

/-- The first sixteen pages of a plain region are the plain's own; its vales' regions follow. -/
theorem pageAt_plainPages (p : Plain) {q o a : Nat} (hq : q < 16) (ho : o < 0x1000)
    (place : a = 0x1000000 + 0x100000 * p.val + (0x1000 * q + o)) :
    pageAt a = if q = 0 then some (.plain p) else if q = 3 then some (.echo p) else none := by
  have page : (0x1000 * q + o) / 0x1000 = q := by omega
  rw [pageAt_plainRegion p (by omega) place, plainPageAt, if_pos (by omega), page, fin_ofNat_of_eq_val rfl]

theorem pageAt_valeRegion (g : Vale) {q o a : Nat} (hq : q < 16) (ho : o < 0x1000) (place : a = valeBase g.val + (0x1000 * q + o)) :
    pageAt a = valePageAt g.val q := by
  have hg := g.isLt
  have inPlain : a = 0x1000000 + 0x100000 * (g.val / 8) + (0x10000 * (g.val % 8 + 1) + (0x1000 * q + o)) := by
    rw [place, valeBase]; omega
  refine (pageAt_plainRegion ⟨g.val / 8, by omega⟩ (by omega) inPlain).trans ?_
  dsimp only
  rw [plainPageAt, if_neg (by omega), if_pos (by omega)]
  congr 1 <;> omega

theorem pageAt_floorRegion (x : Stack) {q o a : Nat} (hq : q < 16) (ho : o < 0x1000)
    (place : a = 0x3000000 + 0x10000 * x.val + (0x1000 * q + o)) :
    pageAt a = if q = 0 then some (.floor x) else if q = 1 then some (.fuu x) else none := by
  have hx := x.isLt
  have page : a % 0x10000 / 0x1000 = q := by omega
  unfold pageAt
  rw [if_neg (by omega), if_neg (by omega), if_neg (by omega), if_neg (by omega), if_neg (by omega), if_neg (by omega),
    if_pos (by omega), page, fin_ofNat_of_eq_val (i := x) (by omega)]

theorem pageAt_partcfg (n : PartId) {o : Nat} (ho : o < 0x1000) : pageAt (0x1000 + 0x1000 * n.val + o) = some (.partcfg n) := by
  have hn := n.isLt
  unfold pageAt
  rw [if_neg (by omega), if_pos (by omega), fin_ofNat_of_eq_val (i := n) (by omega)]

theorem pageAt_mem {o : Nat} (ho : o < 0x1000) : pageAt (0x11000 + o) = some .mem := by
  unfold pageAt
  rw [if_neg (by omega), if_neg (by omega), if_pos (by omega)]

theorem pageAt_link (k : Link) {o : Nat} (ho : o < 0x1000) : pageAt (0x2000000 + 0x1000 * k.val + o) = some (.link k) := by
  have hk := k.isLt
  unfold pageAt
  rw [if_neg (by omega), if_neg (by omega), if_neg (by omega), if_neg (by omega), if_neg (by omega), if_pos (by omega),
    fin_ofNat_of_eq_val (i := k) (by omega)]

theorem pageAt_mp {o : Nat} (ho : o < 0x1000) : pageAt (0x3F00000 + o) = some .mp := by
  unfold pageAt
  rw [if_neg (by omega), if_neg (by omega), if_neg (by omega), if_neg (by omega), if_neg (by omega), if_neg (by omega),
    if_neg (by omega), if_pos (by omega)]

/-! ### Pages -/

theorem valePageAt_array (g : Vale) (a : ArrayId) : valePageAt g.val (4 + a.val) = some (.array g a) := by
  have number : Fin.ofNat 128 g.val = g := fin_ofNat_of_eq_val rfl
  have page : valePageAt g.val (4 + a.val) = some (.array (Fin.ofNat 128 g.val) a) := by
    match a with
    | 0 | 1 | 2 | 3 => rfl
  rw [page, number]

/-- The 4 KiB from the base of a page on are that page's: by its region, and its number among the region's pages. -/
theorem pageAt_pageBase (pg : Page) {o : Nat} (ho : o < 0x1000) : pageAt (pageBase pg + o) = some pg := by
  cases pg with
  | device => simp [pageBase, pageAt, ho]
  | partcfg n => exact pageAt_partcfg n ho
  | mem => exact pageAt_mem ho
  | pass n => simpa [passPageAt] using pageAt_passRegion n (q := 0) (by omega) ho (by simp only [pageBase]; omega)
  | swb n => simpa [passPageAt] using pageAt_passRegion n (q := 2) (by omega) ho (by simp only [pageBase]; omega)
  | health => simpa [passPageAt] using pageAt_passRegion 0 (q := 3) (by omega) ho (by simp only [pageBase]; omega)
  | plain p => simpa using pageAt_plainPages p (q := 0) (by omega) ho (by simp only [pageBase]; omega)
  | echo p => simpa using pageAt_plainPages p (q := 3) (by omega) ho (by simp only [pageBase]; omega)
  | seq g => simpa [valePageAt] using pageAt_valeRegion g (q := 0) (by omega) ho (by simp only [pageBase]; omega)
  | elem g => simpa [valePageAt] using pageAt_valeRegion g (q := 2) (by omega) ho (by simp only [pageBase]; omega)
  | stream g => simpa [valePageAt] using pageAt_valeRegion g (q := 3) (by omega) ho (by simp only [pageBase]; omega)
  | array g a =>
    exact (pageAt_valeRegion g (q := 4 + a.val) (by omega) ho (by simp only [pageBase]; omega)).trans (valePageAt_array g a)
  | collect g => simpa [valePageAt] using pageAt_valeRegion g (q := 8) (by omega) ho (by simp only [pageBase]; omega)
  | link k => exact pageAt_link k ho
  | floor x => simpa using pageAt_floorRegion x (q := 0) (by omega) ho (by simp only [pageBase]; omega)
  | fuu x => simpa using pageAt_floorRegion x (q := 1) (by omega) ho (by simp only [pageBase]; omega)
  | mp => exact pageAt_mp ho
  | part n => exact pageAt_partBase n (by omega)

/-- An address is located once it is written as the base of a page and an offset in it. -/
theorem locate_of_eq_pageBase {pg : Page} {a o : Nat} (ho : o < 0x1000) (place : a = pageBase pg + o) : locate a = some (pg, o) := by
  simp [place, locate, pageAt_pageBase pg ho]

theorem valeBase_of_plain {g p v : Nat} (hg : g = 8 * p + v) (hv : v < 8) :
    valeBase g = 0x1000000 + 0x100000 * p + 0x10000 * (v + 1) := by
  unfold valeBase; omega

/-! ### The registers of a page -/

theorem RegRow.bounds_of_covers {r : RegRow} {o : Nat} (here : r.covers o = true) :
    r.ofs ≤ o ∧ o ≤ r.ofs + r.stride * (r.count - 1) := by
  unfold RegRow.covers at here
  split at here
  · simp only [beq_iff_eq] at here; omega
  · simp only [Bool.and_eq_true, decide_eq_true_eq, beq_iff_eq] at here
    obtain ⟨⟨above, aligned⟩, index⟩ := here
    have run : r.stride * ((o - r.ofs) / r.stride) = o - r.ofs := Nat.mul_div_cancel' (Nat.dvd_of_mod_eq_zero aligned)
    have last : r.stride * ((o - r.ofs) / r.stride) ≤ r.stride * (r.count - 1) := Nat.mul_le_mul_left _ (by omega)
    omega

/-- A row of IRQ_STAT, or of registers between the common header and the end of the page (R579). -/
def RegRow.lies (r : RegRow) : Bool :=
  (r.ofs == 0x10 && r.count == 1) || (decide (0x40 ≤ r.ofs) && decide (r.ofs + r.stride * (r.count - 1) < 0x1000))

theorem RegRow.within_of_lies {r : RegRow} (h : r.lies = true) {o : Nat} (here : r.covers o = true) (notIrq : o ≠ 0x10) :
    0x40 ≤ o ∧ o < 0x1000 := by
  obtain ⟨above, below⟩ := RegRow.bounds_of_covers here
  simp only [RegRow.lies, Bool.or_eq_true, Bool.and_eq_true, beq_iff_eq, decide_eq_true_eq] at h
  rcases h with ⟨irq, one⟩ | ⟨header, inPage⟩
  · rw [one] at below; omega
  · omega

/-- The tables of the pages of 4 KiB, row by row; the partition page alone is larger (R578). -/
theorem pageRows_lie (pg : Page) (notPart : ∀ n, pg ≠ .part n) : (pageRows pg).all RegRow.lies = true := by
  cases pg with
  | part n => exact absurd rfl (notPart n)
  | _ => simp only [pageRows]; decide

/-- Settles O7: every address named is the base of its page and the offset, which `locate_of_eq_pageBase` locates, and the tables are
checked row by row by `pageRows_lie`. -/
theorem pagesLieWhereTheMapSays : Obligations.PagesLieWhereTheMapSays := by
  refine ⟨fun pg o ho => locate_of_eq_pageBase ho rfl, fun o ho => ⟨fun n => ?passDie, ?health, fun p => ?plain, ?vale, fun x => ?floorDie⟩,
    fun pg o notPart notIrq covered => ?registers⟩
  case passDie => exact ⟨locate_of_eq_pageBase ho rfl, locate_of_eq_pageBase ho (by simp only [pageBase]; omega)⟩
  case health => exact locate_of_eq_pageBase ho rfl
  case plain => exact ⟨locate_of_eq_pageBase ho rfl, locate_of_eq_pageBase ho (by simp only [pageBase]; omega)⟩
  case vale =>
    intro g p v hg hv region
    have base : region = valeBase g.val := (valeBase_of_plain hg hv).symm
    refine ⟨?_, ?_, ?_, fun a => ?_, ?_⟩ <;> exact locate_of_eq_pageBase ho (by simp only [pageBase, base])
  case floorDie => exact ⟨locate_of_eq_pageBase ho rfl, locate_of_eq_pageBase ho (by simp only [pageBase]; omega)⟩
  case registers =>
    obtain ⟨r, mem, here⟩ := List.any_eq_true.1 covered
    exact RegRow.within_of_lies (List.all_eq_true.1 (pageRows_lie pg notPart) r mem) here notIrq

end Sys2Proof.Machine
end
